-- ==== Sys2Proof/Word.lean ====
section
/-!
DEFINITION. The word and byte of the device (00 R13: 32-bit words, little-endian bytes).
-/
namespace Sys2Proof

/-- A 32-bit word: a register, a signal value, an operand of the cores. -/
abbrev Word := BitVec 32

/-- One byte of memory. -/
abbrev Byte := BitVec 8

end Sys2Proof
end

