-- ==== Sys2Proof/Machine/Names.lean ====
section
/-!
DEFINITION. The names that commands and state share: the blocks of 02 R55, the roles of 00 R2, the masters of 02 R58.
-/
namespace Sys2Proof

/-- The register blocks (02 R55). -/
inductive Block where
  | sys | pwr | clk | time | disp | loop | rcp | rio | sar | rfa | acq | pwm | mot | can | safe | twin
  | host | recs | lens | kpr | evl | upd | cpu | nvm
  deriving DecidableEq, Repr

/-- The index of a block, in the order of 02 R55. -/
def Block.index : Block → Nat
  | .sys => 0 | .pwr => 1 | .clk => 2 | .time => 3 | .disp => 4 | .loop => 5 | .rcp => 6 | .rio => 7
  | .sar => 8 | .rfa => 9 | .acq => 10 | .pwm => 11 | .mot => 12 | .can => 13 | .safe => 14 | .twin => 15
  | .host => 16 | .recs => 17 | .lens => 18 | .kpr => 19 | .evl => 20 | .upd => 21 | .cpu => 22 | .nvm => 23

/-- The roles of 00 R2. -/
inductive Role where
  | operator | installer | maker
  deriving DecidableEq, Repr

/-- The code of a role (20 R548). -/
def Role.code : Role → Nat
  | .operator => 0 | .installer => 1 | .maker => 2

/-- The role of a code. -/
def Role.ofCode : Nat → Role
  | 0 => .operator | 1 => .installer | _ => .maker

/-- The masters of 02 R58: the sixteen control cores, the Keeper for itself and for a login, the safety island, a host
session, the admitted write of a host session with the role that the session had when it made it (02 R61), the twin link, the
DMA and the recorder. -/
inductive Master where
  | core (n : Fin 16) | keeper | keeperFor (r : Role) | island | host (sess : Fin 64) | hostItem (sess : Fin 64) (r : Role)
  | twin | dma | recorder
  deriving DecidableEq, Repr

/-- An edge at a ball: the level after it, and the quarters of a nanosecond by which it follows the CK_TB edge that device time
stands at (03 R107). -/
structure BallEdge where
  level   : Bool
  quarter : Fin 16
  deriving DecidableEq, Repr

/-- What a Sync message holds before a one-step port changes it (03 R99): correctionField, originTimestamp, and the UDP checksum
over IPv4 or the 2 pad bytes over IPv6. -/
structure SyncText where
  corr : BitVec 64
  org  : BitVec 80
  sum  : BitVec 16
  deriving DecidableEq, Repr

/-- The settings of the PTP service that the installer may change (03 R96, R102): KP and KI in units of 10⁻⁴, the rejection limit
in ns, the domain that device time follows. -/
structure PtpSettings where
  kp    : BitVec 16
  ki    : BitVec 16
  limit : BitVec 16
  dom   : BitVec 8
  deriving DecidableEq, Repr

/-- A Sync message as the PTP service takes it: its domain, its interval in units of 2⁻¹⁶ ns, and the settings that the
installer has changed since the message before. -/
structure SyncMsg where
  dom  : BitVec 8
  t    : BitVec 64
  set_ : Option PtpSettings
  deriving DecidableEq, Repr

/-- What one stream of a capture set delivers (07 R226), oldest first: for a raw or an envelope stream the converter codes, each
with the level of ARC_n at its instant, the first of them of slice 0; for a tone stream its records of sixteen words. -/
structure StreamFeed where
  codes : List (BitVec 12 × Bool) := []
  tones : List (List (BitVec 32)) := []
  deriving DecidableEq, Repr

/-- What the stream that a set's comparator reads delivers (07 R233): its last sample was taken `age` (2⁻¹⁶ ns) ago. -/
structure CmpFeed where
  feed : StreamFeed
  age  : BitVec 32
  deriving DecidableEq, Repr

end Sys2Proof
end

