-- ==== Sys2Proof/Machine/RegTypes.lean ====
section
/-!
DEFINITION. What a register descriptor says: guard class (02 R59), reset domain (02 R65), access code of a
field (02 R63), and the descriptor of a register or of an indexed family of registers.
-/
namespace Sys2Proof.Machine

/-- Guard classes, 02 R59. -/
inductive Guard where
  | g0 | g1 | g2 | g3
  deriving DecidableEq, Repr

/-- Reset domains, 02 R65. CORE is the domain of the core-private registers, which `CoreState` holds. -/
inductive Dom where
  | por | feed | block | retained
  deriving DecidableEq, Repr

/-- Access codes, 02 R63. `w1c` is a flag cleared by its own bit; `w1cTo t` a clear control whose bit i
clears the flag at bit t + i of the same register; `w1cCtl` a clear control whose effect its block states. -/
inductive Access where
  | ro | rw | wo | w1c | w1cTo (t : Nat) | w1cCtl | w1s | rs | lk | wonce
  deriving DecidableEq, Repr

/-- One field of a register: bits `hi` to `lo` and the access code. -/
structure FieldDesc where
  hi  : Nat
  lo  : Nat
  acc : Access
  deriving DecidableEq, Repr

/-- A register, or an indexed family: `dims` lists (count, stride) of each index, outermost first. -/
structure Reg where
  blk    : Block
  base   : Nat
  dims   : List (Nat × Nat)
  rd     : Guard
  wr     : Guard
  rdom   : Dom
  reset  : Word
  fields : List FieldDesc
  deriving DecidableEq, Repr

/-- A named field: its register and its bits. -/
structure Fld where
  reg : Reg
  hi  : Nat
  lo  : Nat
  deriving DecidableEq, Repr

end Sys2Proof.Machine
end

