-- ==== Sys2Proof/Machine/StMgmt.lean ====
section
/-!
DEFINITION. Plain data of the management plane, the feeds and the resets that no register holds (18, 19, 21, 22).
-/
namespace Sys2Proof.Machine

/-- An event record, 21 R578: times in units of 2⁻¹⁶ ns, `d1` bytes 4 to 15 of the data. -/
structure EvRec where
  seq     : Nat
  sev     : Nat
  keel    : Bool
  summary : Bool
  kind    : Nat
  blk     : Nat
  inst    : Nat
  mst     : Nat
  mode    : Nat
  tick    : Nat
  first   : Nat
  last    : Nat
  rep     : Nat
  d0      : Nat
  d1      : Nat
  deriving DecidableEq, Repr

/-- A key of the Fumarole, 21 R581 to R584: its credits in units of one credit ÷ (10⁹ × 2¹⁶) at an instant, the
suppressed count with the times of the first and last and the data of the last, the open window's instant, the last
occurrence, and the last record with its slot. -/
structure FumKey where
  sev    : Nat
  kind   : Nat
  blk    : Nat
  inst   : Nat
  mst    : Nat
  cred   : Nat
  at_    : Nat
  supp   : Nat := 0
  sfirst : Nat := 0
  slast  : Nat := 0
  sd1    : Nat := 0
  win    : Option Nat := none
  seen   : Nat := 0
  last   : Option (Nat × EvRec) := none
  deriving DecidableEq, Repr

/-- The event log beside its registers: the Fumarole's keys; occurrences that found its table full, with the instant of the
first; created records that wait for MRAM, with their slots; repeats held back, with their slots, and the instant of the last
write-back; and for each slot that counts as used (Keel slot i is 65,536 + i) the SEQ and severity of its record (R585). -/
structure Evl where
  keys  : List FumKey := []
  oflow : Option (Nat × Nat) := none
  queue : List (Nat × EvRec) := []
  held  : List (Nat × EvRec) := []
  wbAt  : Nat := 0
  idx   : List (Nat × (Nat × Nat)) := []
  deriving DecidableEq, Repr

/-- A mode request on its way to the control plane (18 R501): target code (16 is REBOOT), role, identifier, and the path that
is answered: 0 to 63 a host session, 64 to 67 a management session, 68 the monitor, with the request's SEQ. -/
structure ModeReq where
  target : Nat
  role   : Role
  id     : Nat
  path   : Nat
  seq    : Nat
  deriving DecidableEq, Repr

/-- A packet that waits at a port: its TYPE, what it holds, its bytes on the line, the instant it came. -/
structure MgPkt where
  typ   : Nat
  data  : List Nat
  bytes : Nat
  at_   : Nat
  deriving DecidableEq, Repr

/-- The transmitter of the management port or a host port, 21 R594, 20 R565: NOTICE packets and responses that wait, the instant
from which the line is free, and that from which the management port's shaping lets the next response start. EVENT packets are
formed as they leave. -/
structure MgPort where
  notices : List MgPkt := []
  rsps    : List MgPkt := []
  free    : Nat := 0
  rspAt   : Nat := 0
  deriving DecidableEq, Repr

/-- The Keeper beside its registers, 21: class S readings, class M requests, class Q items (path, SEQ, instant; the paths
of `ModeReq`, and 72 + port for an OPEN); the last kick; nonces with their instants; failed proofs and lockouts by path and endpoint; sensors
above WARN, above CRIT and failed; the monitor's login (role, last line), its challenge (role, bytes as a number, instant) and
a login role that waits; the number of the next mode request; the sum and the seconds of the average temperature; and the
history of the ageing indicators (instant, the fractions in units of 2⁻¹⁶). -/
structure Kpr where
  mg     : MgPort := {}
  qS     : Nat := 0
  qM     : List ModeReq := []
  qQ     : List (Nat × Nat × Nat) := []
  kickAt : Nat := 0
  nonces : List (Nat × Nat) := []
  fails  : List ((Nat × Nat) × Nat) := []
  locks  : List ((Nat × Nat) × Nat) := []
  warn   : Nat := 0
  crit   : Nat := 0
  bad    : Nat := 0
  login  : Option (Role × Nat) := none
  chal   : Option (Role × Nat × Nat) := none
  reqId  : Nat := 0
  tsum   : Int := 0
  tsecs  : Nat := 0
  hist   : List (Nat × List Nat) := []
  lo365  : Bool := false
  lo90   : Bool := false
  eol    : List Nat := []
  deriving DecidableEq, Repr

/-- Firmware update beside its registers, 22: the command in progress (operation, and whether it passed its checks), the end of
the last accepted chunk, the header of the image in reception, the digest of the last FINISH; the trial's deadline (device
time), CONFIRM since the Seed, a REBOOT-only Safe cause since the Seed, whether the Seed migrated the settings; and the NVM
command in progress; and whether the monitor waits for the answer of the command in progress. -/
structure Upd where
  op      : Option Nat := none
  next    : Nat := 0
  hdr     : List Byte := []
  stage   : List Byte := []
  dig     : List Word := []
  src     : List Byte := []
  due     : Option Nat := none
  confirm : Bool := false
  grave   : Bool := false
  migr    : Bool := false
  kfail   : Bool := false
  nvmOp   : Option Nat := none
  mon     : Bool := false
  deriving DecidableEq, Repr

/-- The list of a retention commit, 19 R532: journal records with their addresses, the number of closed retention sets, the
mode record with its address, and the SEQ of the event records. -/
structure CommitList where
  jr   : List (Nat × List Byte)
  sets : Nat
  mode : Nat × List Byte
  recs : List Nat
  deriving DecidableEq, Repr

/-- The feeds and domains beside their registers, 19: feeds declared low and over voltage (bits A, B); the last measured
voltages in mV; the dip in progress (instant, lowest voltage, whether Brace was entered); a dip's PWR_LASTDIP that waits to be
recorded; the retention commit's list while it runs; whether a commit was cut short; energy left over in units of 10⁻⁷ mJ;
powers of the last ten measurements in units of 10 µW; and a FEED reset that waits for the feed's return. -/
structure PwrSt where
  low    : Nat := 0
  ov     : Nat := 0
  volt   : Nat × Nat := (0, 0)
  dip    : Option (Nat × Nat × Bool) := none
  late   : Option Nat := none
  commit : Option CommitList := none
  cut    : Bool := false
  energy : Nat := 0
  powers : List Nat := []
  fed    : Bool := false
  deriving DecidableEq, Repr

/-- Seeds and resets, 18: the step that runs (10: none), whether the Seed is cold, and the earlier steps that a warm Seed runs;
whether it halts before step 5 until nRESET is released; the level of nRESET, the instant from which its 2 s count, whether it
is ignored after RESET_STUCK and since when it is seen high; a restart that waits for the next tick (0 REBOOT, 1 ACTIVATE,
2 fallback); resets that the Keeper has yet to record (bits of SYS_RSTCAUSE); what ended the Seed early (1 CLOCK, 2 the
settings); whether no slot and no settings copy are valid; the booted slot and the settings copy in use; whether a POR or FEED
reset began the Seed; and whether a cold Seed runs again from step 5, which then keeps the memories (R518). -/
structure SeedSt where
  step    : Nat := 1
  cold    : Bool := true
  run2    : Bool := true
  run3    : Bool := true
  halted  : Bool := false
  pinLow  : Bool := false
  pinAt   : Option Nat := none
  ignored : Bool := false
  highAt  : Option Nat := none
  reboot  : Option Nat := none
  record  : Nat := 1
  failed  : Nat := 0
  noSlot  : Bool := false
  noSet   : Bool := false
  slot    : Nat := 0
  copy    : Nat := 0
  power   : Bool := true
  again   : Bool := false
  deriving DecidableEq, Repr

end Sys2Proof.Machine
end

