-- ==== Sys2Proof/Machine/StInfra.lean ====
section
/-!
DEFINITION. Plain data of the device infrastructure that no register of the spec holds: bus responses, event
records, the time base, the trigger inputs and Beacons, the mailboxes, the admission boundary.
-/
namespace Sys2Proof.Machine

/-- Bus reasons of 14 R394 (codes 1 to 10). -/
inductive BusReason where
  | unmapped | guard | width | locked | owner | noresp | readonly | atomic | value | state
  /-- STATE because the device mode forbids the write (02 R635 reports it as MODE). -/
  | mode
  deriving DecidableEq, Repr

/-- The code of a bus reason, R394. -/
def BusReason.code : BusReason → Nat
  | .unmapped => 1 | .guard => 2 | .width => 3 | .locked => 4 | .owner => 5 | .noresp => 6
  | .readonly => 7 | .atomic => 8 | .value => 9 | .state => 10 | .mode => 10

/-- The answer to a bus access: done, with the value read, or an error response with its reason. -/
inductive Resp where
  | ok (v : Nat)
  | err (r : BusReason)
  deriving DecidableEq, Repr

/-- The twelve operating modes, 18 R498. -/
inductive Mode where
  | dark | seed | keeper | provision | stop | run | hold | follow | resync | safe | trial | brace
  deriving DecidableEq, Repr

/-- R498: the code of SYS_MODE.CUR. -/
def Mode.code : Mode → Nat
  | .dark => 0 | .seed => 1 | .keeper => 2 | .provision => 3 | .stop => 4 | .run => 5 | .hold => 6
  | .follow => 7 | .resync => 8 | .safe => 9 | .trial => 10 | .brace => 11

/-- R498: the mode of a code; codes 12 to 15 are not used. -/
def Mode.ofCode : Nat → Mode
  | 1 => .seed | 2 => .keeper | 3 => .provision | 4 => .stop | 5 => .run | 6 => .hold
  | 7 => .follow | 8 => .resync | 9 => .safe | 10 => .trial | 11 => .brace | _ => .dark

/-- An event token or record, 21 R578, R579: its key, its data (`d0` bytes 0 to 3, `d1` bytes 4 to 15), and the
mode, the base tick and the device time (in units of 2⁻¹⁶ ns) at which it arose. -/
structure Event where
  sev   : Nat
  kind  : Nat
  blk   : Nat
  inst  : Nat
  mst   : Nat
  d0    : Nat
  d1    : Nat
  mode  : Nat
  tick  : Nat
  first : Nat
  deriving DecidableEq, Repr

/-- A token in a queue of the event fabric (01 R25): an event on its way to the Keeper, or an arm token of the
recipe engine on its way to the acquisition engine (07 R231): the set, and the identifier of the action. -/
inductive Token where
  | event (e : Event)
  | arm (set id : Nat)
  deriving DecidableEq, Repr

/-- A queue of the event fabric, 01 R25, 02 R81: sender, receiver, depth, and the tokens it holds. -/
structure FabQueue where
  tx     : Nat
  rx     : Nat
  depth  : Nat
  tokens : List Token
  /-- Events that the sender holds for want of a credit (01 R26, log 202), oldest first. -/
  held   : List Event := []
  deriving DecidableEq, Repr

/-- An increment write or a step that waits for its edge (03 R89, R90). -/
inductive TbOp where
  | incr (v : Nat) | alt (v : Nat) | cnt (v : Nat) | stop | step (dt : Nat)
  deriving DecidableEq, Repr

/-- The time base, 03 R87 to R92. `dt` is device time in units of 2⁻²⁸ ns, SEC, NS, FRAC and the extension
together; `incr` and `alt` the increments in force; `held` a TIME_INCR value held while the alternate increment
runs; `pend` the writes that wait, oldest first, each with the device time that is 40 ns after it. -/
structure TimeBase where
  started : Bool := false
  dt      : Nat := 0
  incr    : Nat := 0x40000000
  alt     : Nat := 0x40000000
  held    : Option Nat := none
  pend    : List (Nat × TbOp) := []
  deriving DecidableEq, Repr

/-- A Beacon's active set and progress, 03 R103 to R105: T0, period and width in units of 2⁻¹⁶ ns, the number of
the next edge, the end of a pulse in progress, the last leading edge, and a set that waits for that pulse with the
instant of its ARM. -/
structure Beacon where
  t0    : Nat := 0
  per   : Nat := 0
  wid   : Nat := 0
  k     : Nat := 0
  pulse : Option Nat := none
  last  : Nat := 0
  next  : Option (Nat × Nat × Nat × Nat) := none
  deriving DecidableEq, Repr

/-- A trigger input, 03 R107, R108: level at the ball, the edge that its filter is timing (its level, its instant, and
whether the device drove the line low), the accepted level, the last accepted edge, the counts kept for items and for the
mailbox, the end of the device's last acquisition pulse on a TBUS line, the level that the other drivers give the line, and
the own drive's changes that the input has still to see (instant, whether it drives low). -/
structure TrigIn where
  ball    : Bool := false
  filt    : Option (Bool × Nat × Bool) := none
  level   : Bool := false
  lastAt  : Nat := 0
  lastUp  : Bool := false
  seen    : Bool := false
  count   : Nat := 0
  lost    : Nat := 0
  drive   : Nat := 0
  ext     : Bool := false
  due     : List (Nat × Bool) := []
  deriving DecidableEq, Repr

/-- A stamp in a PTP queue, 03 R97. -/
structure PtpStamp where
  stamp   : Nat
  seq     : Nat
  dom     : Nat
  typ     : Nat
  oneStep : Bool
  deriving DecidableEq, Repr

/-- A stamping port, 03 R97. -/
structure PtpPort where
  ing : List PtpStamp := []
  eg  : List PtpStamp := []
  deriving DecidableEq, Repr

/-- The Keeper's PTP servo, 03 R102. Gains are in units of 10⁻⁴, the rejection limit in ns, offsets in units of
2⁻¹⁶ ns; `mpd` holds the last 16 accepted mean path delays and `syncs` the last 16 pairs (local, master);
`dom` is the domain that device time follows (R96). -/
structure PtpServo where
  kp     : Nat := 2500
  ki     : Nat := 200
  limit  : Nat := 50
  integ  : Int := 0
  mpd    : List Int := []
  syncs  : List (Nat × Nat) := []
  locked : Bool := false
  dom    : Nat := 0
  deriving DecidableEq, Repr

/-- A clock input as the CLK block judges it, 03 R83, R84: windows within 2 % in a row, and the device times that
the time-base PLL times its changes of reference by. -/
structure ClkIn where
  good : Nat := 0
  deriving DecidableEq, Repr

/-- Where the time-base PLL stands, 03 R84. -/
structure TbPll where
  holdFrom : Option Nat := none
  trefFrom : Option Nat := none
  deriving DecidableEq, Repr

/-- The mode controller, 18: the fields of the mode status record that no register holds, the transition that an
accepted request waits for, the Safe causes that wait, and whether no executing mode has been entered since the last
reset (04 R149). -/
structure ModeCtl where
  safeCause : Nat := 0
  under     : Nat := 1
  ctick     : Nat := 0
  reqId     : Nat := 0
  reqCode   : Nat := 0
  resumed   : Bool := false
  mcount    : Nat := 0
  pendMode  : Option ModeReq := none
  pendStop  : Bool := false
  safeReq   : List Nat := []
  fresh     : Bool := true
  deriving DecidableEq, Repr

/-- A block's mailbox, 02 R74, R75: its owner, the request in progress, the words captured and when it expires.
`refused` lists the masters whose view of the status holds ERR 3. -/
structure Mailbox where
  owner   : Option Nat := none
  req     : Option (Nat × Nat) := none
  reqAt   : Nat := 0
  words   : List Word := []
  err     : Nat := 0
  valid   : Bool := false
  expire  : Nat := 0
  refused : List Nat := []
  deriving DecidableEq, Repr

end Sys2Proof.Machine
end

