-- ==== Sys2Proof/Machine/Items.lean ====
section
/-!
DEFINITION. Admitted items (01 R35): what each source sends through the admission boundary.
-/
namespace Sys2Proof.Machine

/-- What an admitted item carries, by source. -/
inductive ItemKind where
  /-- A host-session write to control-plane registers (02 R61): session, request, address, the code of the session's role,
  words. -/
  | hostWrite (sess req addr role : Nat) (words : List Word)
  /-- A signal write of a session (20 R550): session, request, SID, value, quality word. -/
  | sigWrite (sess req sid val status : Nat)
  /-- A trigger edge (03 R108): input, rising, level, own drive, edges lost before it. -/
  | trig (n : Nat) (rising level own : Bool) (lost : Nat)
  /-- A CAN message (12 R333): controller, buffer, identifier word, flags word, payload words, frame stamp. -/
  | can (ctl buf id flags : Nat) (data : List Byte)
  /-- A SAR conversion (08 R251): converter, input slot, raw code, flags, sample instant in 2⁻¹⁶ ns. -/
  | sar (conv slot : Nat) (raw : Int) (flags sample : Nat)
  /-- A SAR conversion in the form in which it is applied (17 R469): SID, value, status word without AGE, sample instant. -/
  | sarVal (sid val stat sample : Nat)
  /-- A tone item (07 R219): channel, and the signals that it writes (SID, value, status word). -/
  | tone (ch : Nat) (ws : List (Nat × Nat × Nat))
  /-- An arc item (07 R224): channel, condition (0 DROP, 1 RISE), e ÷ r in units of 1/256. -/
  | arc (ch cond ratio : Nat)
  /-- A station's input frame (09 R276): station, cycle sequence number, SSTAT, acknowledgement words, input image. -/
  | ifr (stn cseq sstat : Nat) (acks : List Nat) (img : List Byte)
  /-- A mode request built by the Keeper (18 R501): target code (16 is REBOOT), role, identifier, and path + 128 × SEQ. -/
  | modeReq (target role req path : Nat)
  /-- A soft reset of a control-plane block (18 R517). -/
  | softReset (blk path : Nat)
  /-- A session role change (01 R31). -/
  | roleChange (sess role : Nat)
  /-- The island's status item (16 R462): its four tokens. -/
  | island (toks : List Nat)
  deriving DecidableEq, Repr

/-- An admitted item, 01 R35, R36: source number, arrival stamp in units of 2⁻¹⁶ ns, the device time (same units)
at which it reached its queue, its number among its source's items, and whether it waited at a step of device time, after
which the first base tick admits it (03 R91). -/
structure Item where
  src   : Nat
  stamp : Nat
  arr   : Nat
  num   : Nat
  kind  : ItemKind
  held  : Bool := false
  deriving DecidableEq, Repr

/-- The admission boundary, 01 R36 to R38: items waiting, the carry store, the number of the last base tick
executed (none before device time starts or just after a step), the number of items made, and
the roles of sessions as role-change items have told them (R31). -/
structure Adm where
  queue    : List Item := []
  carry    : List Item := []
  lastTick : Option Nat := none
  num      : Nat := 0
  roles    : List (Nat × Nat) := []
  deriving DecidableEq, Repr

end Sys2Proof.Machine
end

