-- ==== Sys2Proof/Machine/StHost.lean ====
section
/-!
DEFINITION. Plain data of the host transport and the recorder that no register holds (20).
-/
namespace Sys2Proof.Machine

/-- The body of STROPEN, 20 R556. -/
structure StrOpen where
  d      : Nat
  ph     : Nat
  opt    : Nat
  port   : Nat
  buf    : Nat
  dest   : Nat
  dport  : Nat
  ranges : List (Nat × Nat)
  deriving DecidableEq, Repr

/-- What a request asks, 20 R550. -/
inductive ReqOp where
  | close | ping
  | read (addr n : Nat)
  | write (addr : Nat) (ws : List Word)
  | mbxread (blk item index : Nat)
  | sigread (sid n : Nat)
  | sigwrite (sid val stat : Nat)
  | mode (target : Nat)
  | ringread (ring most : Nat)
  | stropen (o : StrOpen)
  | strclose (n : Nat)
  | evsub (sev : Nat)
  | unknown (op : Nat)
  deriving DecidableEq, Repr

/-- An outstanding request, 20 R551, R552: held by ORDER, or waiting for the Keeper or the control plane. -/
structure Req where
  seq   : Nat
  op    : ReqOp
  order : Bool
  at_   : Nat
  held  : Bool
  adm   : Bool
  deriving DecidableEq, Repr

/-- A completed request and its response, 20 R551; `again` says that only its code is known, from the former leader (R555). -/
structure DoneReq where
  seq   : Nat
  op    : ReqOp
  code  : Nat
  data  : List Nat
  at_   : Nat
  again : Bool := false
  deriving DecidableEq, Repr

/-- A session beside HOST_S_s_STAT, 20 R548 to R554: cookie, port, endpoint, the last packet's instant, requests, the least
severity it is subscribed to (8: none), its record queue with the records lost and the next event packet's SEQ, and its
position in each ring (R553), counted in entries ever written. -/
structure Session where
  isOpen : Bool := false
  role   : Role := .operator
  cookie : Nat := 0
  port   : Nat := 0
  peer   : Nat := 0
  lastRx : Nat := 0
  reqs   : List Req := []
  done   : List DoneReq := []
  evsub  : Nat := 8
  evq    : List EvRec := []
  evLost : Nat := 0
  evSeq  : Nat := 0
  rings  : List Nat := [0, 0, 0, 0]
  deriving DecidableEq, Repr

/-- What stands in a stream's order of rows: a row with its values and status words, or a run of dropped rows (20 R558,
R561). -/
inductive RowRun where
  | row (tick : Nat) (vals stats : List Nat)
  | gap (tick count reason : Nat)
  deriving DecidableEq, Repr

/-- A packet of a reliable stream that is not acknowledged, 20 R560. -/
structure SentPkt where
  seq  : Nat
  rows : Nat
  gap  : Bool
  body : List Nat
  at_  : Nat
  deriving DecidableEq, Repr

/-- A recording stream beside its registers, 20 R556 to R564: endpoint, destination as given, buffer, SIDs, the tick of its
opening, the last tick of which a row was taken, its columns as they stood at the end of Phase 3 of a tick, rows and gaps in
order, packets not acknowledged, whether its destination resolved, and is late. -/
structure Stream where
  peer   : Nat := 0
  dest   : Nat := 0
  buf    : Nat := 0
  sids   : List Nat := []
  from_  : Nat := 0
  lastTk : Option Nat := none
  snap   : Option (Nat × List Nat × List Nat) := none
  fifo   : List RowRun := []
  sent   : List SentPkt := []
  found  : Bool := true
  openAt : Nat := 0
  late   : Bool := false
  deriving DecidableEq, Repr

/-- A host port: packets received that wait (session, SEQ, bytes), its transmitter, and the recording bytes sent in a base
tick (20 R565, R566). -/
structure HostPort where
  rxq  : List (Nat × Nat × Nat) := []
  tx   : MgPort := {}
  sent : Nat × Nat := (0, 0)
  deriving DecidableEq, Repr

/-- What a leader mirrors to its follower in CTRL messages, 20 R555. -/
inductive Mirror where
  | sess (n : Nat) (x : Session)
  | gone (n : Nat)
  | req (n : Nat) (r : Req)
  | ended (n : Nat) (d : DoneReq)
  | stream (n : Nat) (cfg dec seq prod deliv drop : Nat) (x : Stream)
  /-- In the CLOSE of its publication tick: the output image of a cyclic task whose cycle ran at the cut (17 R494). -/
  | image (t : Nat) (parts : List (Nat × List Byte))
  deriving DecidableEq, Repr

/-- The host transport and recorder beside their registers: ports, streams, the entries ever written to each ring (R553),
and a follower's mirror of the leader's sessions and streams (register words, and the rest). -/
structure HostSt where
  ports   : List HostPort := [{}, {}]
  streams : List Stream := List.replicate 64 {}
  tot     : List Nat := [0, 0, 0, 0]
  mir     : List (Nat × Session) := []
  mirStr  : List (Nat × (List Nat × Stream)) := []
  deriving DecidableEq, Repr

end Sys2Proof.Machine
end

