-- ==== Sys2Proof/Machine/StCan.lean ====
section
/-!
DEFINITION. Plain data of the CAN controllers that no register holds (12).
-/
namespace Sys2Proof.Machine

/-- A pending transmit request, 12 R335, R336: its buffer, the instant and the order of its registration, and how it ends
unless the transmission in progress succeeds; `ended` says that its outcome waits for its tick (17 R475). -/
structure CanTx where
  buf    : Nat
  at_    : Nat
  seq    : Nat
  ending : Option Nat := none
  ended  : Bool := false
  deriving DecidableEq, Repr

/-- A controller: pending requests, the order number of the last attempt's end, the next order number, the instant from
which receive silence counts, and per buffer the instant of the tick that last applied a frame and whether its timeout has acted. -/
structure CanCtl where
  pend  : List CanTx := []
  last  : Nat := 0
  seq   : Nat := 1
  since : Nat := 0
  rx    : List (Nat × Nat) := []
  quiet : List Nat := []
  deriving DecidableEq, Repr

/-- How a frame on the bus ends for the receiver. -/
inductive CanEnd where
  | good | error | exception
  deriving DecidableEq, Repr

/-- How an attempt to transmit ends. -/
inductive CanTxEnd where
  | sent | lostArbitration | error
  deriving DecidableEq, Repr

end Sys2Proof.Machine
end

