-- ==== Sys2Proof/Machine/StCpu.lean ====
section
/-!
DEFINITION. Plain data of the cores (14), of the dispatcher (15) and of the cyclic program's runtime (13) that no register
holds.
-/
namespace Sys2Proof.Machine

/-- What a core is doing (14 R408). A dispatcher member between tasks is idle. -/
inductive CoreRun where
  | reset | running | idle | waiti | twait (target : Nat) | doublefault
  deriving DecidableEq, Repr

/-- A core, 14: general registers, PC, control registers (R406), pending interrupts, the clocks counted as last read and the
high word held for the next read (R69), the local copy of device time as last read (01 R28), the running task with its tokens, what it does, whether it is halted or executes
one instruction and halts, and the imprecise BUSST that waits (address, reason). -/
structure Core where
  g      : List Word := List.replicate 32 0
  pc     : Nat := 0
  psr    : Word := 1
  epsr   : Word := 0
  epc    : Word := 0
  ecause : Word := 0
  eaddr  : Word := 0
  vbar   : Word := 0
  satf   : Word := 0
  fpcr   : Word := 0
  tcmp   : Word := 0
  imask  : Word := 0
  scr0   : Word := 0
  scr1   : Word := 0
  bkpt   : Word := 0
  timer  : Bool := false
  hint   : Bool := false
  cyc    : Nat := 0
  cycHi  : Option Nat := none
  tnow   : Nat := 0
  task   : Option Nat := none
  toks   : List Nat := []
  run    : CoreRun := .reset
  halted : Bool := false
  once   : Bool := false
  imp    : Option (Nat × Nat) := none
  deriving DecidableEq, Repr

/-- A descriptor that is not FREE, 15 R409, R410: state code, the static part read at ARM, the token slots of this and of
the next activation, readiness instant, deadline, and the core and the start of its slot or run. -/
structure TaskDesc where
  st    : Nat := 1
  entry : Nat := 0
  args  : List Nat := []
  cores : Nat := 0
  prio  : Nat := 0
  ntok  : Nat := 0
  mode  : Nat := 0
  dom   : Option Nat := none
  dly   : Option (Nat × Nat) := none
  nxt   : Option (Nat × Nat) := none
  ring  : Bool := false
  user  : Bool := false
  toks  : List (Option Nat) := List.replicate 4 none
  next  : List (Option Nat) := List.replicate 4 none
  rdy   : Nat := 0
  dead  : Nat := 0
  core  : Nat := 0
  start : Nat := 0
  deriving DecidableEq, Repr

/-- A token on its way into the matching store, 15 R414, R415: from a core's TPOST into register `rd`, or the successor post
of a descriptor. -/
structure Post where
  src  : Option (Nat × Nat)
  from_ : Nat
  desc : Nat
  slot : Nat
  val  : Nat
  deriving DecidableEq, Repr

/-- A core as the dispatcher sees it, 15 R411, R419 to R425. -/
structure DispCore where
  member  : Bool := false
  leaving : Bool := false
  s0      : Option Nat := none
  s1      : Option Nat := none
  busy    : Nat := 0
  starts  : Nat := 0
  val     : Word := 0
  res     : Word := 0
  deriving DecidableEq, Repr

/-- The dispatcher: the descriptors that are not FREE, tokens on their way, the cores, histogram bins (index 16p + k) and
longest waits. -/
structure Disp where
  descs : List (Nat × TaskDesc) := []
  posts : List Post := []
  cores : List DispCore := List.replicate 16 {}
  hist  : List (Nat × Nat) := []
  maxw  : List Nat := List.replicate 8 0
  deriving DecidableEq, Repr

/-- A task of the cyclic program, 13 R342 to R351: descriptor, start tick and number of the last cycle, the header flags of
the next cycle, whether a cycle runs, its release instant, whether it is held back or faulted, the publications that wait
(due tick, image area of the map), the trigger kept, and the tick of its last start. -/
structure RtTask where
  desc    : Option Nat := none
  stick   : Nat := 0
  cycno   : Nat := 0
  flags   : Nat := 0
  busy    : Bool := false
  rel     : Nat := 0
  held    : Bool := false
  fault   : Bool := false
  stopped : Bool := false
  pubs    : List (Nat × Nat) := []
  trig    : Option Nat := none
  last    : Option Nat := none
  deriving DecidableEq, Repr

/-- A retention set, 13 R359: task, cycle number, its lines (line number, bytes), and whether a part of it
has been logged (R360). -/
structure RetSet where
  task  : Nat
  cycno : Nat
  lines : List (Nat × List Byte)
  part  : Bool := false
  deriving DecidableEq, Repr

/-- The runtime, 13: its tasks; the command in progress (operation, ALIGN or for a LOAD source × 2³² + length, when it completes); the exchange in progress
(`freeze` the tick W, `move` the end of migration, `store` that durability waits, `moved` the retained lines that migration
wrote, R364); the error task's hold (its tick S); the causes that a program without an error task has recorded (R348); dirty
retained lines, sets that wait for the redo log, sets logged, and the runtime header (slot, ICRC, last durable cycles). -/
structure Rt where
  tasks  : List RtTask := List.replicate 13 {}
  cmd    : Option (Nat × Nat × Nat) := none
  freeze : Option Nat := none
  move   : Option Nat := none
  store  : Option Nat := none
  moved  : List (Nat × List Byte) := []
  hold   : Option Nat := none
  told   : Nat := 0
  dirty  : List Nat := []
  sets   : List RetSet := []
  redo   : List RetSet := []
  slot   : Nat := 0
  icrc   : Nat := 0
  jseq   : List Nat := List.replicate 13 0
  runs   : Bool := false
  deriving DecidableEq, Repr

end Sys2Proof.Machine
end

