-- ==== Sys2Proof/Machine/StField.lean ====
section
/-!
DEFINITION. Plain data of the RF front end and the acquisition engine that no register holds (07).
-/
namespace Sys2Proof.Machine

/-- An RF channel. `est` holds the 32 slice estimates (offset, gain, skew, bandwidth of slice 0, then slice 1 …) in
units of 2⁻¹⁶ of their register units, `hist` the estimates after the last qualified blocks, newest first (R214);
`last` the last tone values (magnitude, phase), `sat` their saturation; `chg` the tones whose FREQ or BW changed, with
the base tick; `toneTick` the tick of the last tone item, `pair` the tick and quality of the last result, for the pair;
`arc` the arc line, `arcHold` the instant at which its condition last held, `arcRef` the arc detector's reference in units of
2⁻¹⁶ LSB (none before the first block), `dropN` and `riseN` the consecutive blocks on which its conditions held (R222). `ends`
says that the channel has been disabled and its last tone item is due (R210); `ff` holds the feed-forward terms of the
estimates (R213). -/
structure RfChan where
  ends     : Bool := false
  est      : List Int := List.replicate 32 0
  ff       : List Int := List.replicate 32 0
  hist     : List (List Int) := []
  lastBlk  : Option Nat := none
  lastQ    : Nat := 0
  sample   : Bool := false
  last     : List (Nat × Nat) := List.replicate 8 (0, 0)
  sat      : List (Bool × Bool) := List.replicate 8 (false, false)
  qual     : List Nat := List.replicate 8 3
  chg      : List (Nat × Nat) := []
  toneTick : Nat := 0
  arc      : Bool := false
  arcHold  : Nat := 0
  arcRef   : Option Nat := none
  dropN    : Nat := 0
  riseN    : Nat := 0
  deriving DecidableEq, Repr

/-- The state of a descriptor, R240. -/
inductive DescState where
  | free | armed | filling | complete
  deriving DecidableEq, Repr

/-- A segment's descriptor, R237, R238: its state, the instant of its first sample while it is armed, and the header: the
trigger instant (2⁻¹⁶ ns), the trigger frame in units, PREPART, TIDX, TRUNC, FORCED, SEQ; `frames` counts the frames written
since the arm, and `tabs` is the trigger frame among them. -/
structure Desc where
  st      : DescState := .free
  armedAt : Nat := 0
  trig    : Nat := 0
  tfrm    : Nat := 0
  tabs    : Nat := 0
  frames  : Nat := 0
  prepart : Bool := false
  tidx    : Nat := 0
  trunc   : Bool := false
  forced  : Bool := false
  seq     : Nat := 0
  deriving DecidableEq, Repr

/-- A loaded capture set: its descriptors, the complete ones in order of completion, the segment that is armed next, the
captures since the arm, the segments completed since LOAD, whether a DISARM waits for the filling segment, its exact
rate in B/s, and whether the next segment waits to be armed; for the comparator (R233) whether a sample on the side that it
leaves has come since the arm, and its samples since then, newest first, as far as W reaches; `undo` holds what a DISARM
freed, with its instant, for a trigger of the same CK_AQ clock (R231). -/
structure AcqSet where
  descs  : List Desc := []
  order  : List Nat := []
  next   : Nat := 0
  ncap   : Nat := 0
  total  : Nat := 0
  ending : Bool := false
  rate   : Nat := 0
  rearm  : Bool := false
  away   : Bool := false
  hist   : List Int := []
  undo   : Option (Nat × Nat × Desc) := none
  deriving DecidableEq, Repr

/-- A converter's scan, 08 R246 to R256: the start edge, the positions of the scan (with whether each is a pair), the
number converted, the codes read, and the end of the appended diagnostic conversions; `trigTick` is the tick of the last
base-tick trigger, and `next` the start edge of a scan that begins as this one ends. -/
structure SarConv where
  start    : Nat := 0
  jobs     : List (Nat × Bool) := []
  done     : Nat := 0
  codes    : List (Nat × Int) := []
  busy     : Bool := false
  diag     : Option Nat := none
  end_     : Nat := 0
  trigTick : Option Nat := none
  next     : Option Nat := none
  deriving DecidableEq, Repr

/-- An accepted diagnosis request (R254): converter, position, checks, whether its scan has started, and whether the position was
a pair's when it started (R250). -/
structure DiagReq where
  conv    : Nat
  pos     : Nat
  chk     : Nat
  started : Bool
  pair    : Bool := false
  deriving DecidableEq, Repr

/-- An output DAC (R259, R260): the code that waits with the instant of its load and whether it is SAFECODE, and the
instant of the last load. -/
structure Dac where
  pend : Option (Nat × Nat × Bool) := none
  last : Option Nat := none
  deriving DecidableEq, Repr

/-- The SAR block beside its registers. `phase` is the phase of CK_SAR against device time, which the spec leaves open. -/
structure Sar where
  phase : Option Nat := none
  conv  : List SarConv := List.replicate 32 {}
  tdac  : List (Option DiagReq) := List.replicate 4 none
  dac   : List Dac := List.replicate 16 {}
  deriving DecidableEq, Repr

/-- The registers of a pair that act directly at a PS (R292): minimum off-time, dead times, trip selection, blanking and latch
count. -/
structure PairRegs where
  minoff : Word := 64
  dthl   : Word := 0x10064014
  dtlh   : Word := 0x10064014
  trip   : Word := 0
  tripn  : Word := 0x10000
  deriving DecidableEq, Repr

/-- A PWM pair, 10 R287 to R307. Instants are in 2⁻¹⁶ ns. `first` is the first PS of a pair that a commit has started;
`ps` the start of the period; the shadows list (instant of the write, value), newest first, and `mPer`, `mOn` the
instants since which their written marks stand; `commits` the instants of commits that wait; `acts` the recipe actions that a
transfer reports, with the instants of their commits; `duty` the on-time that a drive gives for the next reload (11 R321);
`held` the registers as they stood at the last PS; `half` the reloads with a half-written pair; `h`, `l` the active states; `hOn` the instant at which H turned on; `dead` the output
that waits for its dead time (true for H) with the turn-off instant; `onEnded`, `tripped` and `fired` belong to the
period; `restart` is a held restart; `rank` the force in effect (0 none, 1 mode, 2 latch-off, 3 fast cut, 4 gate); `cut` a
fast cut that holds, `clr` its accepted clear. -/
structure Pair where
  run     : Bool := false
  first   : Option Nat := none
  ps      : Nat := 0
  shPer   : List (Nat × Nat) := []
  shOn    : List (Nat × Nat) := []
  shCmp   : List (List (Nat × Nat)) := [[], [], [], []]
  mPer    : Option Nat := none
  mOn     : Option Nat := none
  commits : List Nat := []
  acts    : List (Nat × Nat) := []
  duty    : Option Nat := none
  held    : PairRegs := {}
  half    : Nat := 0
  h       : Bool := false
  l       : Bool := false
  hOn     : Option Nat := none
  dead    : Option (Bool × Nat) := none
  onEnded : Bool := false
  tripped : Bool := false
  fired   : List Nat := []
  restart : Option Nat := none
  rank    : Nat := 0
  cut     : Bool := false
  clr     : Bool := false
  deriving DecidableEq, Repr

/-- The PWM block beside its registers: the pairs, the levels at the trip balls, the fast cut sources that are asserted,
and the gate lines of the pairs (bit k high lets pair k run, 01 R33). -/
structure Pwm where
  pairs : List Pair := List.replicate 64 {}
  trip  : Nat := 0
  src   : Nat := 0
  gate  : Nat := 0
  deriving DecidableEq, Repr

end Sys2Proof.Machine
end

