-- ==== Sys2Proof/Machine/StIsl.lean ====
section
/-!
DEFINITION. Plain data of the safety island that its mirror does not hold (16).
-/
namespace Sys2Proof.Machine

/-- A safe input, R443 to R447: filtered levels of both channels, the last raw levels and how many samples they have stood,
demand and whether both channels have demanded since it began, discrepancy count, latched fault causes (bits 0 discrepancy,
1 TEST, 2 CROSS), the channels whose last TEST failed, the channel and pulse pairs whose last CROSS check failed, and for how
many ticks the cause has been gone. -/
structure SafeIn where
  fa   : Bool := false
  fb   : Bool := false
  ra   : Bool := false
  rb   : Bool := false
  na   : Nat := 0
  nb   : Nat := 0
  dmd  : Bool := true
  both : Bool := true
  disc : Nat := 0
  flt  : Nat := 0
  tbad : Nat := 0
  xbad : Nat := 0
  gone : Nat := 0
  deriving DecidableEq, Repr

/-- A safe output, R451: whether both switches are commanded closed, since which tick, its latched fault, its last switch
test and the tick at which that ends, the kept switching count. -/
structure SafeOut where
  on   : Bool := false
  at_  : Nat := 0
  flt  : Bool := false
  test : Nat := 0
  tend : Nat := 0
  cnt  : Nat := 0
  deriving DecidableEq, Repr

/-- A monitored axis, R452: the position of its source and the commanded position of the last tick, the source's alignment,
ticks of disagreement, the reference of SDI, the latched fault, the request in force (tick, speed), and whether its gate has
gone low for the present stop. -/
structure SafeAxis where
  src  : Int := 0
  cmd  : Int := 0
  ofs  : Int := 0
  unref : Bool := true
  dis  : Nat := 0
  ref  : Option (Int × Int) := none
  flt  : Bool := false
  bad  : Bool := false
  req  : Option (Nat × Int) := none
  low  : Bool := false
  deriving DecidableEq, Repr

/-- A safe connection, R454 to R458: state code, fault cause, sequence numbers sent and last accepted, the network and bytes
of the last accepted copy, whether its other copy has come, the tick of the last acceptance, consecutive unpaired and
out-of-sequence copies, received data and that of the next tick, the tick of the last telegram sent. -/
structure SafeConn where
  st    : Nat := 0
  cause : Nat := 0
  txseq : Nat := 0
  rxseq : Option Nat := none
  net   : Bool := false
  copy  : List Byte := []
  pair  : Bool := true
  good  : Bool := false
  acc   : Nat := 0
  lone  : Nat := 0
  seqn  : Nat := 0
  data  : Nat := 0
  next  : Nat := 0
  sent  : Option Nat := none
  rxcnt : Nat := 0
  seqerr : Nat := 0
  deriving DecidableEq, Repr

/-- The island: whether D1 is powered, its state (R435), cause, tick count, whether its cores are held in reset; strap word
of START, last word, pairs read equal last, ticks that the word has stood; configuration error and CRC in effect; inputs,
outputs, axes, connections; latched and active functions; the states for the next tick (outputs, groups, pairs, axes) and
the group gates now high; the press of the ACK input (first tick), acknowledges taken; safe-stop requests; the tick window
(start, whether a step fell into it) and its deviation; and what the Keeper last read of the mirror. -/
structure Island where
  on     : Bool := false
  st     : Nat := 0
  cause  : Nat := 0
  tick   : Nat := 0
  held   : Bool := false
  strap0 : Nat := 0
  strap  : Nat := 0
  eq     : Nat := 0
  stood  : Nat := 0
  cfgerr : Nat := 0
  crc    : Nat := 0
  ins    : List SafeIn := List.replicate 32 {}
  outs   : List SafeOut := List.replicate 16 {}
  axes   : List SafeAxis := List.replicate 64 {}
  conns  : List SafeConn := List.replicate 8 {}
  latch  : Nat := 0
  active : Nat := 0
  nout   : Nat := 0
  ngrp   : Nat := 0
  npwm   : Nat := 0
  nax    : Nat := 0
  grp    : Nat := 0
  press  : Option Nat := none
  stuck  : Bool := false
  acks   : Nat := 0
  ss1    : Nat := 0
  supply : Bool := false
  winAt  : Option Nat := none
  step   : Bool := false
  dev    : Option Int := none
  rb     : Nat := 0
  seen   : List Nat := []
  deriving DecidableEq, Repr

/-- What the control plane knows of the island (R462, R507): the tick and the instant of the last item applied, whether it
is since the present kind of mode was entered, the entry's instant, the requests it has passed on, its STATE, and whether a
silence is in force. -/
structure IslView where
  tick   : Option Nat := none
  at_    : Nat := 0
  since  : Nat := 0
  ss1    : Nat := 0
  st     : Nat := 0
  silent : Bool := false
  deriving DecidableEq, Repr

end Sys2Proof.Machine
end

