-- ==== Sys2Proof/Machine/StLoop.lean ====
section
/-!
DEFINITION. Plain data of the loop engine and the Lens that no register holds (05, 06).
-/
namespace Sys2Proof.Machine

/-- The values an execution latches (05 R159): inputs, their status words with WTICK, and the live context words;
the setpoint stage's ramp count, ramp-start and soft-start flags (06 R188). -/
structure LoopCtx where
  w    : List Int := []
  iv   : List Nat := []
  ist  : List Nat := []
  os   : List Int := []
  k    : List Int := []
  st   : List Int := []
  lut0 : List Int := []
  lut1 : List Int := []
  dly  : List Int := []
  sp   : Int := 0
  spt  : Int := 0
  man  : Int := 0
  r    : Nat := 0
  rst  : Bool := false
  ss   : Bool := false
  deriving DecidableEq, Repr

/-- An execution of a period (05 R160): its loop, class, period start S, release tick S + O, end of period S + P, cost
in slots, and what was latched. -/
structure Exec where
  loop  : Nat
  cls   : Nat
  start : Nat
  rel   : Nat
  due   : Nat
  cost  : Nat
  en    : Bool
  auto  : Bool
  init  : Bool
  aedge : Bool
  ctx   : LoopCtx
  deriving DecidableEq, Repr

/-- A lane (05 R160): the absolute slot (tick × 2,900 + slot) at which it is free, the executions that wait, and
those started and not complete, with the absolute slot of their last. -/
structure Lane where
  free  : Nat := 0
  queue : List Exec := []
  runs  : List (Exec × Nat) := []
  deriving DecidableEq, Repr

/-- A completed execution of an enabled loop that waits for its release (05 R161): staged outputs, latched status
words of enabled inputs, flags, trace values, and the stage's state for the Lens (06 R199). -/
structure Staged where
  loop  : Nat
  start : Nat
  rel   : Nat
  due   : Nat
  last  : Nat
  outs  : List Nat
  ist   : List Nat
  flags : Nat
  trace : List (Nat × Int)
  word1 : Nat
  deriving DecidableEq, Repr

/-- What the engine keeps of a loop between executions: ramp count, ramp-start and soft-start flags; whether since the last
latch a setpoint write or a ramp set the count and RST, and a ramp set SS (06 R190, R191); EN of the last latch, lowered
while an initialising execution is due; AUTO of the last execution; the RAMP action in flight; and the live words
written since the latch. -/
structure LoopDyn where
  r      : Nat := 0
  rst    : Bool := false
  ss     : Bool := false
  newR   : Bool := false
  newSS  : Bool := false
  en     : Bool := false
  auto   : Bool := false
  ramp   : Option Nat := none
  dirty  : List Nat := []
  deriving DecidableEq, Repr

/-- The loop engine beside its registers: lanes, staged outputs, loops, live writes of cores that wait (address, mask,
value), the tick to which each class has latched, the tick from which the lanes run. -/
structure LoopEng where
  lanes  : List Lane := List.replicate 4 {}
  staged : List Staged := []
  dyn    : List (Nat × LoopDyn) := []
  live   : List (Nat × Nat × Nat) := []
  latched : List Nat := List.replicate 8 0
  deriving DecidableEq, Repr

/-- A Lens channel beside its registers (06 R199 to R204): executions traced since the ARM, the records written that
the buffer still holds (execution number and period start, oldest first), the number written since the ARM, the instant
of its trigger, whether the node condition has been seen false, and the number of the trigger execution. -/
structure LensCh where
  count  : Nat := 0
  recs   : List (Nat × Nat) := []
  wrote  : Nat := 0
  trigAt : Option Nat := none
  armed0 : Bool := false
  trec   : Option Nat := none
  deriving DecidableEq, Repr

end Sys2Proof.Machine
end

