-- ==== Sys2Proof/Machine/StMotion.lean ====
section
/-!
DEFINITION. Plain data of the motion block that no register holds (11). Exact values are rational: positions in counts,
velocities in counts per base tick.
-/
namespace Sys2Proof.Machine

/-- A move (11 R315): kind (0 ABS, 1 REL, 2 VEL, 3 STOP), parameter, profile, tag, the recipe action that it stands for,
the tick of acceptance, its target in units of 2⁻³² counts once it is known, and whether it has been reported. -/
structure Move where
  kind   : Nat
  p0     : Int
  prof   : Nat
  tag    : Nat
  act    : Option Nat
  atick  : Nat
  target : Option Int
  told   : Bool
  deriving DecidableEq, Repr

/-- A plan (R314): the sample from which it starts, its constant-jerk segments (ticks, jerk in counts per tick³), the
ticks elapsed, and the tick at which it begins to decelerate. -/
structure Plan where
  p    : Rat := 0
  v    : Rat := 0
  a    : Rat := 0
  segs : List (Nat × Rat) := []
  t    : Nat := 0
  dec  : Nat := 0
  deriving DecidableEq, Repr

/-- One winding of an integrated drive (R321, R322): current and duty of the last period, back-EMF estimate, and the sum
of the estimates of the present base tick. -/
structure Winding where
  i   : Rat := 0
  d   : Rat := 0
  e   : Rat := 0
  sum : Rat := 0
  deriving DecidableEq, Repr

/-- An axis: position of the last sample in units of 2⁻³² counts and of the one before, its velocity and acceleration, its
plan, the current move and those that wait, the moves that a deceleration reports at standstill with their codes, reports
due at a tick, SERVO moves that wait for their feedback, faults detected with the tick, the instant since which it stands
still, the last target, the step count and direction of a STEPDIR axis, the gate line, and an integrated drive's windings with `off`, whether a
fault has taken them off (R319). -/
structure Axis where
  pos    : Int := 0
  prev   : Int := 0
  v      : Rat := 0
  a      : Rat := 0
  plan   : Plan := {}
  cur    : Option Move := none
  queue  : List Move := []
  stop   : Option (List (Move × Nat)) := none
  due    : List (Nat × Move × Nat) := []
  servo  : List (Nat × Move) := []
  faults : List (Nat × Nat) := []
  since  : Nat := 0
  goal   : Option Int := none
  steps  : Int := 0
  neg    : Bool := false
  dirAt  : Nat := 0
  gate   : Bool := false
  stallN : Nat := 0
  modes  : Option (List Nat) := none
  off    : Bool := false
  wa     : Winding := {}
  wb     : Winding := {}
  nper   : Nat := 0
  deriving DecidableEq, Repr

end Sys2Proof.Machine
end

