-- ==== Sys2Proof/Machine/StRcp.lean ====
section
/-!
DEFINITION. Plain data of the recipe engine that no register holds (04).
-/
namespace Sys2Proof.Machine

/-- A running endpoint detector, 04 R132 to R135: latched, samples held (newest first), evaluations since the last
sample, armed, count, sum. -/
structure Detector where
  latched : Bool := false
  samples : List Int := []
  evals   : Nat := 0
  armed   : Bool := false
  count   : Nat := 0
  sum     : Int := 0
  deriving DecidableEq, Repr

/-- An action in flight, 04 R136 to R145, or handed to a port before its commit tick (R138). -/
structure ActSlot where
  id        : Nat
  thread    : Nat
  act       : Nat
  step      : Nat
  seq       : Nat
  cls       : Nat
  sub       : Nat
  tgt       : Nat
  ctick     : Nat
  failAbort : Bool
  res       : Bool
  committed : Bool
  early     : Option Nat
  deriving DecidableEq, Repr

/-- How a decided transition enters its step, 04 R130, R149: newly, by a resume that continues it with its time in step,
detectors and known outcomes, or by a resume that repeats it. -/
inductive Entry where
  | normal
  | resume (tis : Nat) (dets : List Detector) (outs : List (Nat × Nat))
  | again
  deriving DecidableEq, Repr

/-- A decided transition: the target step (none ends the thread), its commit tick, how it enters, whether it is an abort
branch, and the records fetched. -/
structure Decision where
  target : Option Nat
  at_    : Nat
  entry  : Entry
  abort  : Bool
  recs   : List Nat
  deriving DecidableEq, Repr

/-- A recipe thread beside its registers: the commit tick of its step and what the debug hold and a resume add to its time
in step, the records of the step, detectors, decided transition, abort causes pending, outcomes of the step instance's
actions, accepted commands that wait (R118, oldest first), and the CRC of its range. -/
structure Thread where
  commit : Nat := 0
  ofs    : Int := 0
  recs   : List Nat := []
  dets   : List Detector := []
  dec    : Option Decision := none
  causes : List Nat := []
  failed : Nat := 0
  outs   : List (Nat × Nat) := []
  cmds   : List (Nat × Nat) := []
  rcrc   : Nat := 0
  deriving DecidableEq, Repr

/-- A resume in progress, 04 R149: the threads not yet decided, the tick and the instant of the request. -/
structure ResumeReq where
  threads : List Nat
  tick    : Nat
  from_   : Nat
  deriving DecidableEq, Repr

/-- The recipe engine beside its registers. `known` says that device time has been set since the last POR or FEED reset,
`wrote` lists the threads journalled since then (R149). -/
structure Rcp where
  threads : List Thread := List.replicate 64 {}
  slots   : List ActSlot := []
  nextId  : Nat := 1
  valid   : List Nat := []
  load    : Bool := false
  resume  : Option ResumeReq := none
  jset    : Option (List (Nat × List Byte)) := none
  lastJ   : Nat := 0
  known   : Bool := false
  wrote   : List Nat := []
  deriving DecidableEq, Repr

end Sys2Proof.Machine
end

