-- ==== Sys2Proof/Machine/StRemote.lean ====
section
/-!
DEFINITION. Plain data of the remote station master that no register holds (09).
-/
namespace Sys2Proof.Machine

/-- A staged write of a station (09 R268, R274): WID, activation stamp in 2⁻¹⁶ ns, offset, width, value, mask, the REMOTE
action that it stands for, and whether that action has been reported. -/
structure StagedWrite where
  wid      : Nat
  stamp    : Nat
  ofs      : Nat
  width    : Nat
  value    : Nat
  mask     : Nat
  id       : Nat
  reported : Bool
  deriving DecidableEq, Repr

/-- An open cycle of a port (09 R272, R277): its sequence number, its start tick, the stations sent to, those whose
IFR belongs to it, and those that confirmed delivery. -/
structure RioCycle where
  cseq  : Nat
  tick  : Nat
  sent  : List Nat
  ret   : List Nat
  deliv : List Nat
  deriving DecidableEq, Repr

/-- A remote port: its next cycle sequence number and WID, the tick of its last cycle, open cycles, whether a START or a STOP
waits (R275), the stamp of the last DISC and the instant of the last DREP (R269), the stations that a HELLO has asked a CONFIG
for, and the output images as they stood before Phase 1 of a tick at which a cycle starts (R273), with that tick. -/
structure RioPort where
  cseq   : Nat := 1
  wid    : Nat := 0
  last   : Option Nat := none
  open_  : List RioCycle := []
  start  : Bool := false
  stop   : Bool := false
  snapAt : Option Nat := none
  snap   : List (Nat × List Byte) := []
  discAt : Int := 0
  drepAt : Nat := 0
  hello  : List Nat := []
  deriving DecidableEq, Repr

/-- A station: the token of its last CONFIG (none given), the start tick of the cycle of its last genuine inputs and their
image (R278), consecutive belonging IFRs while it rejoins, whether it rejoins from LOST, and its staged writes in WID order. -/
structure RioStn where
  token  : Option Nat := none
  latch  : Nat := 0
  img    : List Byte := []
  good   : Nat := 0
  wasLost : Bool := false
  writes : List StagedWrite := []
  deriving DecidableEq, Repr

/-- The RIO block beside its registers. -/
structure Rio where
  ports  : List RioPort := List.replicate 4 {}
  stns   : List RioStn := List.replicate 256 {}
  deriving DecidableEq, Repr

end Sys2Proof.Machine
end

