-- ==== Sys2Proof/Machine/StPart.lean ====
section
/-!
DEFINITION. What the STATE messages of a resync carry (17 R493).
-/
namespace Sys2Proof.Machine

/-- A part of the in-step state (17 R493): bytes of Caldera, a register word, or what a control-plane block holds beside its
registers. -/
inductive StatePart where
  | mem (a : Nat) (bs : List Byte)
  | reg (a : Nat) (w : Word)
  | rcp (x : Rcp)
  | loop (x : LoopEng)
  | sar (x : Sar)
  | pwm (x : Pwm)
  | rio (x : Rio)
  | axes (x : List Axis)
  | can (x : List CanCtl)
  | disp (x : Disp)
  | rt (x : Rt)
  | isl (x : IslView)
  | roles (x : List (Nat × Nat))
  deriving DecidableEq, Repr

end Sys2Proof.Machine
end

