-- ==== Sys2Proof/Machine/StTwin.lean ====
section
/-!
DEFINITION. Plain data of the twin link that no register holds (17).
-/
namespace Sys2Proof.Machine

/-- A local outcome (17 R475): the report of a PWM, acquisition or vetoed action, a transmit request of a CAN buffer that
ends, a controller that becomes error passive or bus-off, an axis fault, the end of a task's cycle. -/
inductive Outcome where
  | report (id code : Nat)
  | canTx (ctl buf code : Nat)
  | canErr (ctl : Nat) (off : Bool)
  | axisFault (axis fault : Nat)
  | taskEnd (task : Nat)
  deriving DecidableEq, Repr

/-- What the partner's HELLO said (17 R490, R492, 22 R609): whether it executes, PREF, its device number, its image's
version and the oldest with which it may run (major × 256 + minor), and its settings that are not card-local (address, value
of each that differs from reset). -/
structure Hello where
  exec     : Bool
  pref     : Bool
  dev      : Nat
  ver      : Nat
  cver     : Nat
  settings : List (Nat × Nat)
  deriving DecidableEq, Repr

/-- The twin link beside its registers. Outcomes registered since the last tick (R475); the mode that the leader's last
CLOSE carried (R471); the follower's staged items, the tick whose Phases 1 and 2 are done and whose CLOSE it waits for, and
the ticks closed with a provisional batch (R470, R472); items that wait to be compared, own and the leader's, with their ticks
(R474); the last tick whose heartbeat came, and the last judged (R484); a loss declared that waits for the next tick (R485),
and the instant of the last takeover; the digests of the last digest tick, the partner's, and whether the last comparison
matched (R476); the partner's HELLO; a resync's start and its cut tick (R493, R495); a handover's tick a (R491); the number of
the last forward sequence number (R469); the sources and seconds whose difference is recorded. In a resync: memory and
registers as a leader last sent them, the bytes of its last message and of all (R493), and the cyclic tasks whose cycle ran at
the cut (R494). -/
structure Twin where
  outs     : List Outcome := []
  ldrMode  : Nat := 4
  staged   : List Item := []
  openTick : Option Nat := none
  prov     : List Nat := []
  own      : List (Nat × Item) := []
  ldr      : List (Nat × Item) := []
  hbCame   : Option Nat := none
  hbSeen   : Option Nat := none
  takeover : Bool := false
  tookAt   : Option Nat := none
  digest   : Option (Nat × List Word) := none
  peerDig  : Option (Nat × List Word) := none
  matched  : Bool := false
  peer     : Option Hello := none
  rsFrom   : Option Nat := none
  cut      : Option Nat := none
  swap     : Option Nat := none
  fwd      : Nat := 0
  noted    : List (Nat × Nat) := []
  sentMem  : List Host.Cell := []
  sentRegs : List (Nat × Word) := []
  round    : Nat := 0
  total    : Nat := 0
  cutRun   : List Nat := []
  deriving DecidableEq, Repr

end Sys2Proof.Machine
end

