-- ==== Sys2Proof/Syntax.lean ====
section
/-!
DEFINITION. The commands: one constructor per row of the table of commands, with the row's operands. A command is a write or a read
of a register, an operation of a bus or protocol, an instruction of a core, an event at a pin, or an event that the block's own
engines bring about at their time.
-/
namespace Sys2Proof
open Sys2Proof.Machine

/-- A command. The docstring of each constructor names the row and the rule of the spec that it follows. -/
inductive Instr where
  /-- BASE_TICK (R39). -/
  | baseTick
  /-- CONSERVATION_CHECK (R46). -/
  | conservationCheck
  /-- UNCORRECTABLE_MEMORY_ERROR (R48). -/
  | uncorrectableMemoryError (mem : Fin 7) (a : Word) (b : Block) (reader : Option (Fin 18))
  /-- TOKEN_TAKEN (R25). -/
  | tokenTaken (q : Fin 25)
  /-- REGISTER_WRITE (R70). -/
  | registerWrite (m : Master) (a : Word) (w : Word)
  /-- BIT_ALIAS_WRITE (R78). -/
  | bitAliasWrite (m : Master) (a : Word) (v : Bool)
  /-- LOCK_SET (R71). -/
  | lockSet (m : Master) (b : Block)
  /-- SNAP_GO (R73). -/
  | snapGo (m : Master) (b : Block)
  /-- SNAP_COMPLETE (R73). -/
  | snapComplete (b : Block)
  /-- MBX_REQUEST (R74). -/
  | mbxRequest (m : Master) (b : Block) (item : BitVec 8) (index : BitVec 16)
  /-- MBX_CAPTURE_DONE (R74). -/
  | mbxCaptureDone (b : Block)
  /-- MBX_LAST_WORD_READ (R74). -/
  | mbxLastWordRead (m : Master) (b : Block)
  /-- MBX_EXPIRY (R75). -/
  | mbxExpiry (b : Block)
  /-- WINDOW_DESCRIPTOR_WRITE (R80). -/
  | windowDescriptorWrite (m : Master) (n : Fin 64) (size : Bool) (w : Word)
  /-- CLOCK_WINDOW (R83). -/
  | clockWindow (c0 c1 c2 c3 : BitVec 16) (d0 d1 d2 d3 : Word)
  /-- TB_REF_SWITCH (R84). -/
  | tbRefSwitch
  /-- TB_REF_RETURN (R84). -/
  | tbRefReturn
  /-- PLL_UNLOCK (R85). -/
  | pllUnlock (p : Fin 6)
  /-- TIME_INCR_WRITE (R89). -/
  | timeIncrWrite (m : Master) (w : Word)
  /-- TIME_INCR_ALT_WRITE (R89). -/
  | timeIncrAltWrite (m : Master) (w : Word)
  /-- TIME_ALTCNT_WRITE (R89). -/
  | timeAltcntWrite (m : Master) (w : Word)
  /-- ALTSTOP (R89). -/
  | altstop (m : Master)
  /-- INCREMENT_TAKES_EFFECT (R89). -/
  | incrementTakesEffect
  /-- ALTERNATE_INCREMENT_END (R89). -/
  | alternateIncrementEnd
  /-- STEP (R90). -/
  | step (m : Master)
  /-- TIME_STEP_EDGE (R91). -/
  | timeStepEdge
  /-- PTP_INGRESS_STAMP (R97). -/
  | ptpIngressStamp (p : Fin 6) (seq : BitVec 16) (dom : BitVec 8) (typ : BitVec 4) (x : Fin 3)
  /-- PTP_EGRESS_STAMP (R97). -/
  | ptpEgressStamp (p : Fin 6) (seq : BitVec 16) (dom : BitVec 8) (typ : BitVec 4) (x : Fin 3) (oneStep : Bool) (msg : SyncText)
  /-- PTP_SYNC_RECEIVED (R102). -/
  | ptpSyncReceived (o mpd : Int) (loc mas : Nat) (sync : SyncMsg)
  /-- BEACON_ARM (R104). -/
  | beaconArm (m : Master) (n : Fin 16)
  /-- BEACON_DISARM (R104). -/
  | beaconDisarm (m : Master) (n : Fin 16)
  /-- BEACON_EDGE (R103). -/
  | beaconEdge (n : Fin 16)
  /-- BEACON_TRAILING_EDGE (R103). -/
  | beaconTrailingEdge (n : Fin 16)
  /-- TRIG_EDGE (R107). -/
  | trigEdge (n : Fin 12) (edge : BallEdge)
  /-- TRIG_ACCEPT (R107). -/
  | trigAccept (n : Fin 12)
  /-- RCP_START (R118). -/
  | rcpStart (m : Master) (n : Fin 64) (step : BitVec 13)
  /-- RCP_ABORT (R118). -/
  | rcpAbort (m : Master) (n : Fin 64)
  /-- RCP_CLEAR (R118). -/
  | rcpClear (m : Master) (n : Fin 64)
  /-- STEP_TIMEOUT (R129). -/
  | stepTimeout (n : Fin 64)
  /-- STEP_COMMIT (R136). -/
  | stepCommit
  /-- RCP_LOAD_GO (R126). -/
  | rcpLoadGo (m : Master) (count : BitVec 17)
  /-- RCP_LOAD_DONE (R126). -/
  | rcpLoadDone
  /-- JOURNAL_WRITE (R147). -/
  | journalWrite
  /-- RCP_RESUME_GO (R149). -/
  | rcpResumeGo (m : Master)
  /-- RESUME_DECISION (R149). -/
  | resumeDecision
  /-- RESUME_TWAIT_EXPIRY (R149). -/
  | resumeTwaitExpiry
  /-- LOOP_BIND (R178). -/
  | loopBind (m : Master) (n : Fin 1024)
  /-- LOOP_UNBIND (R178). -/
  | loopUnbind (m : Master) (n : Fin 1024)
  /-- LOOP_CHECK (R178). -/
  | loopCheck (m : Master) (n : Fin 1024)
  /-- LOOP_CHECK_DONE (R179). -/
  | loopCheckDone
  /-- LANE_FRAME_START (R180). -/
  | laneFrameStart
  /-- LOOP_PERIOD_START (R159). -/
  | loopPeriodStart (c : Fin 8)
  /-- LOOP_EXECUTION (R160). -/
  | loopExecution
  /-- LOOP_RELEASE (R161). -/
  | loopRelease
  /-- LOOP_DEADLINE_FAULT (R163). -/
  | loopDeadlineFault
  /-- LENS_ARM (R201). -/
  | lensArm (m : Master) (c : Fin 64)
  /-- LENS_DISARM (R204). -/
  | lensDisarm (m : Master) (c : Fin 64)
  /-- LENS_FORCE (R202). -/
  | lensForce (m : Master) (c : Fin 64)
  /-- CAL_BLOCK (R212). -/
  | calBlock (n : Fin 4) (codes : List (BitVec 12)) (age : BitVec 32) (errA errB : List Int) (resid : BitVec 8)
  /-- CAL_FEEDFORWARD (R213). -/
  | calFeedforward
  /-- CAL_RESTART (R213). -/
  | calRestart (m : Master) (n : Fin 4)
  /-- CAL_SAMPLE (R217). -/
  | calSample (m : Master) (n : Fin 4)
  /-- CAL_SAMPLE_DONE (R217). -/
  | calSampleDone (n : Fin 4)
  /-- RF_CHANNEL_DISABLE (R210). -/
  | rfChannelDisable (n : Fin 4)
  /-- TONE_ITEM (R219). -/
  | toneItem (n : Fin 4) (codes : List (BitVec 12)) (phase : List (BitVec 32))
  /-- ARC_ASSERT (R223). -/
  | arcAssert (n : Fin 4) (ref : Option (BitVec 28)) (codes : List (BitVec 12)) (age : BitVec 32)
  /-- ARC_DEASSERT (R223). -/
  | arcDeassert (n : Fin 4)
  /-- ACQ_LOAD (R228). -/
  | acqLoad (m : Master) (k : Fin 64)
  /-- ACQ_UNLOAD (R231). -/
  | acqUnload (m : Master) (k : Fin 64)
  /-- ACQ_ARM (R231). -/
  | acqArm (m : Master) (k : Fin 64)
  /-- ACQ_ARM_TOKEN (R231). -/
  | acqArmToken
  /-- ACQ_DISARM (R231). -/
  | acqDisarm (m : Master) (k : Fin 64)
  /-- ACQ_FORCE (R233). -/
  | acqForce (m : Master) (k : Fin 64)
  /-- ACQ_TRIGGER (R233). -/
  | acqTrigger (k : Fin 64) (feed : CmpFeed)
  /-- SEGMENT_COMPLETE (R237). -/
  | segmentComplete (k : Fin 64) (feeds : List StreamFeed)
  /-- SEGMENT_REARM (R232). -/
  | segmentRearm (k : Fin 64)
  /-- ACQ_RELEASE (R240). -/
  | acqRelease (m : Master) (k : Fin 64) (count : BitVec 15)
  /-- ACQ_QUEUE_OVERFLOW (R230). -/
  | acqQueueOverflow (k : Fin 64)
  /-- SCAN_TRIGGER (R248). -/
  | scanTrigger (c : Fin 32)
  /-- SWTRIG (R248). -/
  | swtrig (m : Master) (c : Fin 32)
  /-- CONVERSION_COMPLETE (R251). -/
  | conversionComplete (c : Fin 32) (raw : Int)
  /-- DIAG_REQUEST (R254). -/
  | diagRequest (m : Master) (t : Fin 4) (conv : Fin 8) (pos : Fin 4) (chk : BitVec 3)
  /-- DIAG_COMPLETE (R256). -/
  | diagComplete (t : Fin 4) (d1 m1 d2 m2 i1 i2 np nm : BitVec 16)
  /-- DAC_CODE_WRITE (R259). -/
  | dacCodeWrite (m : Master) (d : Fin 16) (code : BitVec 16)
  /-- DAC_LOAD (R260). -/
  | dacLoad (d : Fin 16)
  /-- RIO_DISC (R269). -/
  | rioDisc (m : Master) (p : Fin 4)
  /-- DREP (R269). -/
  | drep (p : Fin 4) (fcs : Bool) (frame : List Byte)
  /-- DISCOVERY_END (R269). -/
  | discoveryEnd (p : Fin 4)
  /-- CACK (R270). -/
  | cack (p : Fin 4) (fcs : Bool) (frame : List Byte)
  /-- HELLO (R271). -/
  | hello (p : Fin 4) (fcs : Bool) (frame : List Byte)
  /-- RIO_START (R275). -/
  | rioStart (m : Master) (p : Fin 4)
  /-- RIO_STOP (R275). -/
  | rioStop (m : Master) (p : Fin 4)
  /-- RIO_CYCLE_START (R272). -/
  | rioCycleStart (p : Fin 4)
  /-- IFR (R276). -/
  | ifr (p : Fin 4) (fcs : Bool) (frame : List Byte)
  /-- CYCLE_CLOSE (R277). -/
  | cycleClose (p : Fin 4)
  /-- PWM_COMMIT (R293). -/
  | pwmCommit (m : Master) (groups : BitVec 16)
  /-- SHADOW_WRITE (R292). -/
  | shadowWrite (m : Master) (k : Fin 64) (which : Fin 6) (w : Word)
  /-- PWM_RELOAD (R292). -/
  | pwmReload (k : Fin 64)
  /-- PWM_RESTART (R289). -/
  | pwmRestart (k : Fin 64)
  /-- TRIP_ASSERT (R299). -/
  | tripAssert (i : Fin 16) (level : Bool)
  /-- LATCHOFF_CLEAR (R300). -/
  | latchoffClear (m : Master) (k : Fin 64)
  /-- SWS_CROSSING (R290). -/
  | swsCrossing (k : Fin 64) (rising : Bool)
  /-- DEAD_TIME_END (R290). -/
  | deadTimeEnd (k : Fin 64)
  /-- COMPARE_FIRE (R301). -/
  | compareFire (k : Fin 64) (j : Fin 4)
  /-- STATIC_LEVEL_WRITE (R302). -/
  | staticLevelWrite (m : Master) (g : Fin 4) (w : Word)
  /-- FAST_CUT (R304). -/
  | fastCut (n : Fin 64) (on : Bool)
  /-- FAST_CUT_CLEAR (R305). -/
  | fastCutClear (m : Master) (k : Fin 64)
  /-- MOVE_PUSH (R316). -/
  | movePush (m : Master) (k : Fin 64) (kind : Fin 4) (prof : Fin 16) (tag : BitVec 16)
  /-- AXIS_STOP (R318). -/
  | axisStop (m : Master) (k : Fin 64)
  /-- FCLR (R319). -/
  | fclr (m : Master) (k : Fin 64)
  /-- SETPOS (R327). -/
  | setpos (m : Master) (k : Fin 64)
  /-- STEP_ISSUE (R312). -/
  | stepIssue (k : Fin 64)
  /-- DRIVE_PERIOD (R321). -/
  | drivePeriod (j : Fin 12) (ia ib : Int)
  /-- HOLD_CURRENT (R321). -/
  | holdCurrent (j : Fin 12)
  /-- STALL_DETECT (R323). -/
  | stallDetect (j : Fin 12)
  /-- AXIS_FAULT (R319). -/
  | axisFault (k : Fin 64)
  /-- CAN_FRAME_RX (R332). -/
  | canFrameRx (c : Fin 8) (res : CanEnd) (ide rtr fdf brs esi : Bool) (id : BitVec 29) (dlc : BitVec 4) (data : List Byte)
  /-- TXREQ (R335). -/
  | txreq (m : Master) (c : Fin 8) (b : Fin 64)
  /-- CAN_ABORT (R336). -/
  | canAbort (m : Master) (c : Fin 8) (b : Fin 64)
  /-- CAN_TX_COMPLETE (R336). -/
  | canTxComplete (c : Fin 8) (b : Fin 64) (res : CanTxEnd)
  /-- CAN_TX_TIMEOUT (R336). -/
  | canTxTimeout (c : Fin 8) (b : Fin 64)
  /-- ERROR_PASSIVE (R338). -/
  | errorPassive (c : Fin 8) (tx : Bool)
  /-- BUS_OFF (R338). -/
  | busOff (c : Fin 8)
  /-- RECOVER (R338). -/
  | recover (m : Master) (c : Fin 8)
  /-- CAN_RECOVERY_DONE (R338). -/
  | canRecoveryDone (c : Fin 8)
  /-- CAN_RX_TIMEOUT (R339). -/
  | canRxTimeout (c : Fin 8) (b : Fin 64)
  /-- CYCLIC_TASK_START (R343). -/
  | cyclicTaskStart (t : Fin 4)
  /-- ERRMAX_EXPIRY (R348). -/
  | errmaxExpiry
  /-- EVT_GO (R347). -/
  | evtGo (m : Master) (t : Fin 13)
  /-- TASK_PUBLISH (R344). -/
  | taskPublish (t : Fin 13)
  /-- TASK_OVERRUN (R345). -/
  | taskOverrun (t : Fin 4)
  /-- PROGRAM_LOAD (R356). -/
  | programLoad (m : Master)
  /-- PROGRAM_LOAD_DONE (R356). -/
  | programLoadDone
  /-- EXCHANGE (R362). -/
  | exchange (m : Master) (align : Fin 4)
  /-- EXCHANGE_FREEZE (R362). -/
  | exchangeFreeze
  /-- EXCHANGE_MIGRATE (R363). -/
  | exchangeMigrate
  /-- MIGRATION_DONE (R362). -/
  | migrationDone
  /-- EXCHANGE_DURABLE (R364). -/
  | exchangeDurable
  /-- COLD (R357). -/
  | cold (m : Master)
  /-- DISCARD (R356). -/
  | discard (m : Master)
  /-- RETENTION_SET_LOGGED (R359). -/
  | retentionSetLogged
  /-- REDO_APPLY (R359). -/
  | redoApply
  /-- ADD (R378). -/
  | add (c : Fin 18) (rd ra rb : Fin 32)
  /-- SUB (R378). -/
  | sub (c : Fin 18) (rd ra rb : Fin 32)
  /-- AND (R378). -/
  | and (c : Fin 18) (rd ra rb : Fin 32)
  /-- OR (R378). -/
  | or (c : Fin 18) (rd ra rb : Fin 32)
  /-- XOR (R378). -/
  | xor (c : Fin 18) (rd ra rb : Fin 32)
  /-- ANDN (R378). -/
  | andn (c : Fin 18) (rd ra rb : Fin 32)
  /-- SLL (R378). -/
  | sll (c : Fin 18) (rd ra rb : Fin 32)
  /-- SRL (R378). -/
  | srl (c : Fin 18) (rd ra rb : Fin 32)
  /-- SRA (R378). -/
  | sra (c : Fin 18) (rd ra rb : Fin 32)
  /-- SLT (R378). -/
  | slt (c : Fin 18) (rd ra rb : Fin 32)
  /-- SLTU (R378). -/
  | sltu (c : Fin 18) (rd ra rb : Fin 32)
  /-- MIN (R378). -/
  | min (c : Fin 18) (rd ra rb : Fin 32)
  /-- MAX (R378). -/
  | max (c : Fin 18) (rd ra rb : Fin 32)
  /-- CLZ (R378). -/
  | clz (c : Fin 18) (rd ra : Fin 32)
  /-- SEXTB (R378). -/
  | sextb (c : Fin 18) (rd ra : Fin 32)
  /-- SEXTH (R378). -/
  | sexth (c : Fin 18) (rd ra : Fin 32)
  /-- MUL (R378). -/
  | mul (c : Fin 18) (rd ra rb : Fin 32)
  /-- MULH (R378). -/
  | mulh (c : Fin 18) (rd ra rb : Fin 32)
  /-- MULHU (R378). -/
  | mulhu (c : Fin 18) (rd ra rb : Fin 32)
  /-- DIV (R378). -/
  | div (c : Fin 18) (rd ra rb : Fin 32)
  /-- DIVU (R378). -/
  | divu (c : Fin 18) (rd ra rb : Fin 32)
  /-- REM (R378). -/
  | rem (c : Fin 18) (rd ra rb : Fin 32)
  /-- REMU (R378). -/
  | remu (c : Fin 18) (rd ra rb : Fin 32)
  /-- SLLI (R378). -/
  | slli (c : Fin 18) (rd ra : Fin 32) (n : Fin 32)
  /-- SRLI (R378). -/
  | srli (c : Fin 18) (rd ra : Fin 32) (n : Fin 32)
  /-- SRAI (R378). -/
  | srai (c : Fin 18) (rd ra : Fin 32) (n : Fin 32)
  /-- ADDI (R379). -/
  | addi (c : Fin 18) (rd ra : Fin 32) (imm : BitVec 16)
  /-- ANDI (R379). -/
  | andi (c : Fin 18) (rd ra : Fin 32) (imm : BitVec 16)
  /-- ORI (R379). -/
  | ori (c : Fin 18) (rd ra : Fin 32) (imm : BitVec 16)
  /-- XORI (R379). -/
  | xori (c : Fin 18) (rd ra : Fin 32) (imm : BitVec 16)
  /-- SLTI (R379). -/
  | slti (c : Fin 18) (rd ra : Fin 32) (imm : BitVec 16)
  /-- SLTIU (R379). -/
  | sltiu (c : Fin 18) (rd ra : Fin 32) (imm : BitVec 16)
  /-- LUI (R379). -/
  | lui (c : Fin 18) (rd : Fin 32) (imm : BitVec 16)
  /-- LW (R380). -/
  | lw (c : Fin 18) (rd ra : Fin 32) (imm : BitVec 16)
  /-- LH (R380). -/
  | lh (c : Fin 18) (rd ra : Fin 32) (imm : BitVec 16)
  /-- LHU (R380). -/
  | lhu (c : Fin 18) (rd ra : Fin 32) (imm : BitVec 16)
  /-- LB (R380). -/
  | lb (c : Fin 18) (rd ra : Fin 32) (imm : BitVec 16)
  /-- LBU (R380). -/
  | lbu (c : Fin 18) (rd ra : Fin 32) (imm : BitVec 16)
  /-- SW (R380). -/
  | sw (c : Fin 18) (rb ra : Fin 32) (imm : BitVec 16)
  /-- SH (R380). -/
  | sh (c : Fin 18) (rb ra : Fin 32) (imm : BitVec 16)
  /-- SB (R380). -/
  | sb (c : Fin 18) (rb ra : Fin 32) (imm : BitVec 16)
  /-- LD (R381). -/
  | ld (c : Fin 18) (rd ra : Fin 32) (imm : BitVec 16)
  /-- SD (R381). -/
  | sd (c : Fin 18) (rb ra : Fin 32) (imm : BitVec 16)
  /-- BEQ (R382). -/
  | beq (c : Fin 18) (ra rb : Fin 32) (imm : BitVec 16)
  /-- BNE (R382). -/
  | bne (c : Fin 18) (ra rb : Fin 32) (imm : BitVec 16)
  /-- BLT (R382). -/
  | blt (c : Fin 18) (ra rb : Fin 32) (imm : BitVec 16)
  /-- BGE (R382). -/
  | bge (c : Fin 18) (ra rb : Fin 32) (imm : BitVec 16)
  /-- BLTU (R382). -/
  | bltu (c : Fin 18) (ra rb : Fin 32) (imm : BitVec 16)
  /-- BGEU (R382). -/
  | bgeu (c : Fin 18) (ra rb : Fin 32) (imm : BitVec 16)
  /-- JAL (R382). -/
  | jal (c : Fin 18) (rd : Fin 32) (imm : BitVec 21)
  /-- JALR (R382). -/
  | jalr (c : Fin 18) (rd ra : Fin 32) (imm : BitVec 16)
  /-- QADD (R383). -/
  | qadd (c : Fin 18) (rd ra rb : Fin 32)
  /-- QSUB (R383). -/
  | qsub (c : Fin 18) (rd ra rb : Fin 32)
  /-- QNEG (R383). -/
  | qneg (c : Fin 18) (rd ra : Fin 32)
  /-- QABS (R383). -/
  | qabs (c : Fin 18) (rd ra : Fin 32)
  /-- QMUL (R383). -/
  | qmul (c : Fin 18) (rd ra rb : Fin 32)
  /-- QMAC (R383). -/
  | qmac (c : Fin 18) (rd ra rb : Fin 32)
  /-- QMULX (R383). -/
  | qmulx (c : Fin 18) (rd ra rb : Fin 32)
  /-- QMACX (R383). -/
  | qmacx (c : Fin 18) (rd ra rb : Fin 32)
  /-- QSHL (R383). -/
  | qshl (c : Fin 18) (rd ra rb : Fin 32)
  /-- QSHR (R383). -/
  | qshr (c : Fin 18) (rd ra rb : Fin 32)
  /-- QLIM (R383). -/
  | qlim (c : Fin 18) (rd ra rb : Fin 32)
  /-- QXQ (R383). -/
  | qxq (c : Fin 18) (rd ra : Fin 32)
  /-- QQX (R383). -/
  | qqx (c : Fin 18) (rd ra : Fin 32)
  /-- FADD (R385). -/
  | fadd (c : Fin 18) (rd ra rb : Fin 32)
  /-- FSUB (R385). -/
  | fsub (c : Fin 18) (rd ra rb : Fin 32)
  /-- FMUL (R385). -/
  | fmul (c : Fin 18) (rd ra rb : Fin 32)
  /-- FDIV (R385). -/
  | fdiv (c : Fin 18) (rd ra rb : Fin 32)
  /-- FSQRT (R385). -/
  | fsqrt (c : Fin 18) (rd ra : Fin 32)
  /-- FMADD (R385). -/
  | fmadd (c : Fin 18) (rd ra rb : Fin 32)
  /-- FMIN (R386). -/
  | fmin (c : Fin 18) (rd ra rb : Fin 32)
  /-- FMAX (R386). -/
  | fmax (c : Fin 18) (rd ra rb : Fin 32)
  /-- FNEG (R385). -/
  | fneg (c : Fin 18) (rd ra : Fin 32)
  /-- FABS (R385). -/
  | fabs (c : Fin 18) (rd ra : Fin 32)
  /-- FCMPEQ (R386). -/
  | fcmpeq (c : Fin 18) (rd ra rb : Fin 32)
  /-- FCMPLT (R386). -/
  | fcmplt (c : Fin 18) (rd ra rb : Fin 32)
  /-- FCMPLE (R386). -/
  | fcmple (c : Fin 18) (rd ra rb : Fin 32)
  /-- FCVTWS (R386). -/
  | fcvtws (c : Fin 18) (rd ra : Fin 32)
  /-- FCVTSW (R386). -/
  | fcvtsw (c : Fin 18) (rd ra : Fin 32)
  /-- FCVTQS (R386). -/
  | fcvtqs (c : Fin 18) (rd ra : Fin 32)
  /-- FCVTSQ (R386). -/
  | fcvtsq (c : Fin 18) (rd ra : Fin 32)
  /-- SWAP (R387). -/
  | swap (c : Fin 18) (rd ra rb : Fin 32)
  /-- AADD (R387). -/
  | aadd (c : Fin 18) (rd ra rb : Fin 32)
  /-- FENCE (R403). -/
  | fence (c : Fin 18)
  /-- FENCE_ACQ (R403). -/
  | fenceAcq (c : Fin 18)
  /-- FENCE_REL (R403). -/
  | fenceRel (c : Fin 18)
  /-- FENCE_I (R405). -/
  | fenceI (c : Fin 18)
  /-- MFCR (R388). -/
  | mfcr (c : Fin 18) (rd n : Fin 32)
  /-- MTCR (R388). -/
  | mtcr (c : Fin 18) (ra n : Fin 32)
  /-- SVREQ (R389). -/
  | svreq (c : Fin 18) (code : BitVec 10)
  /-- DBGREQ (R389). -/
  | dbgreq (c : Fin 18) (code : BitVec 10)
  /-- XRET (R389). -/
  | xret (c : Fin 18)
  /-- WAITI (R389). -/
  | waiti (c : Fin 18)
  /-- WAITI_WAKE (R389). -/
  | waitiWake (c : Fin 18)
  /-- TPOST (R390). -/
  | tpost (c : Fin 18) (rd ra rb : Fin 32) (slot : Fin 4)
  /-- TTAKE (R391). -/
  | ttake (c : Fin 18) (rd : Fin 32) (slot : Fin 4)
  /-- TDONE (R392). -/
  | tdone (c : Fin 18) (ra : Fin 32)
  /-- TWAIT (R393). -/
  | twait (c : Fin 18) (ra : Fin 32)
  /-- TWAIT_EXPIRY (R393). -/
  | twaitExpiry (c : Fin 18)
  /-- IMPRECISE_BUSST (R397). -/
  | impreciseBusst (c : Fin 18)
  /-- INTERRUPT (R399). -/
  | interrupt (c : Fin 18)
  /-- TIMER_COMPARE (R399). -/
  | timerCompare (c : Fin 18)
  /-- HALT (R408). -/
  | halt (m : Master) (c : Fin 16)
  /-- RESUME (R408). -/
  | resume (m : Master) (c : Fin 16)
  /-- CORE_STEP (R408). -/
  | coreStep (m : Master) (c : Fin 16)
  /-- CORE_RESET (R408). -/
  | coreReset (m : Master) (c : Fin 16)
  /-- ALLOC (R411). -/
  | alloc (c : Fin 16)
  /-- DISP_FREE (R411). -/
  | dispFree (c : Fin 16) (d : Fin 4096)
  /-- DISP_ARM (R412). -/
  | dispArm (c : Fin 16) (d : Fin 4096)
  /-- CANCEL (R411). -/
  | cancel (c : Fin 16) (d : Fin 4096)
  /-- POST (R411). -/
  | post (c : Fin 16) (d : Fin 4096) (slot : Fin 4)
  /-- PRIO (R411). -/
  | prio (c : Fin 16) (d : Fin 4096)
  /-- TOKEN_MATCH (R414). -/
  | tokenMatch
  /-- DELAY_RELEASE (R416). -/
  | delayRelease
  /-- TASK_DISPATCH (R420). -/
  | taskDispatch (c : Fin 16)
  /-- JOIN (R421). -/
  | join (m : Master) (c : Fin 16)
  /-- LEAVE (R421). -/
  | leave (m : Master) (c : Fin 16)
  /-- HWMCLR (R425). -/
  | hwmclr (m : Master)
  /-- ISLAND_TICK (R433). -/
  | islandTick (sealA sealB rbh rbl : BitVec 16)
  /-- ISLAND_SILENCE (R462). -/
  | islandSilence
  /-- SAFE_INPUT_SAMPLE (R443). -/
  | safeInputSample (a b : BitVec 32)
  /-- TEST_PULSE (R446). -/
  | testPulse (j : Fin 16) (preA preB chkA chkB postA postB : BitVec 32)
  /-- LOCKSTEP_MISMATCH (R430). -/
  | lockstepMismatch
  /-- TICK_WINDOW (R434). -/
  | tickWindow (ticks : BitVec 16)
  /-- ISLAND_POWER_UP (R436). -/
  | islandPowerUp
  /-- ISLAND_START_DONE (R436). -/
  | islandStartDone (pass : Bool)
  /-- CONFIG_WRITE_DONE (R436). -/
  | configWriteDone
  /-- SWITCH_TEST (R451). -/
  | switchTest (o : Fin 16) (hsClosed hsOpen lsClosed lsOpen : Bool)
  /-- TELEGRAM_SEND (R455). -/
  | telegramSend (c : Fin 8)
  /-- TELEGRAM (R456). -/
  | telegram (net : Bool) (bs : List Byte)
  /-- CONNECTION_TIMEOUT (R457). -/
  | connectionTimeout (c : Fin 8)
  /-- CLOSE (R470). -/
  | closeMsg (n k seq : Nat) (crc : Word) (outs : List Outcome) (mode : Fin 12) (epoch : BitVec 16) (swap : Bool) (mirrors : List Mirror)
  /-- ITEM (R470). -/
  | item (src : Fin 378) (stamp seq : Nat) (k : ItemKind)
  /-- FWD (R483). -/
  | fwd (src : Fin 378) (stamp : Nat) (k : Option ItemKind) (outs : List Outcome)
  /-- HBEAT (R468). -/
  | hbeat (n : Nat) (inStep : Bool)
  /-- DIGEST (R476). -/
  | digest (n : Nat) (d : List Word)
  /-- DIGEST_FORM (R476). -/
  | digestForm
  /-- HEARTBEAT_MISS (R484). -/
  | heartbeatMiss
  /-- TAKEOVER (R485). -/
  | takeover
  /-- LEADER_STALL (R478). -/
  | leaderStall
  /-- OWNSNS_FALL (R478). -/
  | ownsnsFall (levels : BitVec 4)
  /-- LANE_DOWN (R467). -/
  | laneDown (lane : Fin 2)
  /-- TWIN_HELLO (R490). -/
  | twinHello (pair : BitVec 12) (h : Hello) (dly0 dly1 : BitVec 10)
  /-- TWIN_SWAP (R491). -/
  | twinSwap (m : Master)
  /-- SWAP_HANDOVER (R491). -/
  | swapHandover
  /-- TWIN_RESYNC (R493). -/
  | twinResync (m : Master)
  /-- ABORTRS (R495). -/
  | abortrs (m : Master)
  /-- STATE (R493). -/
  | state (phase : Fin 5) (mib : BitVec 16) (rounds : BitVec 8) (cut : Nat) (parts : List StatePart)
  /-- RESYNC_CUT (R494). -/
  | resyncCut
  /-- RESYNC_TIMEOUT (R495). -/
  | resyncTimeout
  /-- ANCHOR_TAKEBACK (R496). -/
  | anchorTakeback (g : Fin 4)
  /-- MODE_REQUEST (R501). -/
  | modeRequest (target : Fin 17) (role : Role) (id : BitVec 32)
  /-- MODE_TRANSITION (R499). -/
  | modeTransition
  /-- REBOOT (R514). -/
  | reboot (role : Role)
  /-- SAFE_TRIGGER (R506). -/
  | safeTrigger (cause : Fin 8)
  /-- BRACE_ENTRY (R508). -/
  | braceEntry
  /-- BRACE_EXIT (R531). -/
  | braceExit
  /-- D0_POWER_GOOD (R510). -/
  | d0PowerGood (low : Bool)
  /-- SEED_END (R511). -/
  | seedEnd
  /-- NRESET_ACCEPT (R515). -/
  | nresetAccept
  /-- NRESET_RELEASE (R513). -/
  | nresetRelease
  /-- NRESET_STUCK (R516). -/
  | nresetStuck
  /-- BLOCK_SOFT_RESET (R517). -/
  | blockSoftReset (b : Block) (role : Role)
  /-- FEED_MEASURE (R529). -/
  | feedMeasure (va ca vb cb : BitVec 16) (rails : List (BitVec 12 × BitVec 16)) (banks : List (BitVec 12))
  /-- FEED_LOW (R529). -/
  | feedLow (f : Fin 2)
  /-- FEED_PRESENT (R529). -/
  | feedPresent (f : Fin 2)
  /-- FEED_OVERVOLTAGE (R529). -/
  | feedOvervoltage (f : Fin 2)
  /-- SUPPLY_WARNING (R530). -/
  | supplyWarning
  /-- RETENTION_COMMIT_DONE (R532). -/
  | retentionCommitDone
  /-- WARNING_DEASSERT (R530). -/
  | warningDeassert (mv : BitVec 12)
  /-- FEED_RESET (R530). -/
  | feedReset (mv : BitVec 12)
  /-- DARK (R530). -/
  | dark
  /-- DOMAIN_FAULT (R541). -/
  | domainFault (d : Fin 12) (cause : BitVec 3)
  /-- DOMAIN_SWITCH (R540). -/
  | domainSwitch (m : Master) (en : BitVec 12)
  /-- VIO_LOW (R542). -/
  | vioLow (k : Fin 8)
  /-- PEAKCLR (R543). -/
  | peakclr (m : Master)
  /-- HOST_PACKET_RX (R546). -/
  | hostPacketRx (p : Fin 2) (good : Bool) (sess : BitVec 8) (cookie seq : Word) (len : BitVec 14) (op : Option (ReqOp × Bool))
  /-- OPEN (R548). -/
  | openReq (port : Fin 3) (peer seq : Word) (role : Role) (proof : List Byte)
  /-- HOST_CLOSE (R549). -/
  | hostClose (n : Fin 64) (seq : Word) (order : Bool)
  /-- PING (R550). -/
  | ping (n : Fin 64) (seq : Word) (order : Bool)
  /-- READ (R550). -/
  | read (n : Fin 64) (seq : Word) (order : Bool) (a : Word) (k : BitVec 16)
  /-- WRITE (R550). -/
  | write (n : Fin 64) (seq : Word) (order : Bool) (a : Word) (ws : List Word)
  /-- MBXREAD (R550). -/
  | mbxread (n : Fin 64) (seq : Word) (order : Bool) (blk item : BitVec 8) (index : BitVec 16)
  /-- SIGREAD (R550). -/
  | sigread (n : Fin 64) (seq : Word) (order : Bool) (sid : Word) (k : BitVec 16)
  /-- SIGWRITE (R550). -/
  | sigwrite (n : Fin 64) (seq : Word) (order : Bool) (sid v : Word) (st : BitVec 16)
  /-- HOST_MODE (R550). -/
  | hostMode (n : Fin 64) (seq : Word) (order : Bool) (target : BitVec 8)
  /-- RINGREAD (R553). -/
  | ringread (n : Fin 64) (seq : Word) (order : Bool) (ring most : BitVec 8)
  /-- STROPEN (R557). -/
  | stropen (n : Fin 64) (seq : Word) (order : Bool) (o : StrOpen) (found : Bool)
  /-- STRCLOSE (R563). -/
  | strclose (n : Fin 64) (seq : Word) (order : Bool) (k : BitVec 8)
  /-- EVSUB (R554). -/
  | evsub (n : Fin 64) (seq : Word) (order : Bool) (sev : BitVec 8)
  /-- SESSION_IDLE_TIMEOUT (R549). -/
  | sessionIdleTimeout (n : Fin 68)
  /-- REQUEST_TIMEOUT (R552). -/
  | requestTimeout (n : Fin 68) (seq : Word)
  /-- DEST_RESOLVE_TIMEOUT (R545). -/
  | destResolveTimeout (k : Fin 64)
  /-- STREAM_ROW (R558). -/
  | streamRow (k : Fin 64)
  /-- STREAM_PACKET_SEND (R559). -/
  | streamPacketSend (k : Fin 64) (nrow : BitVec 12)
  /-- STREAM_ACK (R560). -/
  | streamAck (k : Fin 64) (cum : Word) (naks : List Word)
  /-- STREAM_RETRANSMIT (R560). -/
  | streamRetransmit (k : Fin 64)
  /-- STREAM_FORCE_CLOSE (R563). -/
  | streamForceClose (m : Master) (k : Fin 64)
  /-- EVENT_OCCURRENCE (R581). -/
  | eventOccurrence
  /-- FUMAROLE_WINDOW_CLOSE (R583). -/
  | fumaroleWindowClose
  /-- FUMAROLE_KEY_EXPIRY (R584). -/
  | fumaroleKeyExpiry
  /-- EVENT_RECORD_WRITE (R580). -/
  | eventRecordWrite
  /-- REPEAT_WRITEBACK (R580). -/
  | repeatWriteback
  /-- SAFE_MIRROR_READ (R463). -/
  | safeMirrorRead
  /-- TEMP_SAMPLE (R573). -/
  | tempSample (t : List (BitVec 16))
  /-- TAVG_UPDATE (R575). -/
  | tavgUpdate
  /-- AGEING_UPDATE (R576). -/
  | ageingUpdate (ro em : List (BitVec 16)) (mw : List Nat)
  /-- QUERY_TIMEOUT (R571). -/
  | queryTimeout
  /-- KICK (R572). -/
  | kick (m : Master)
  /-- KEEPER_WATCHDOG (R572). -/
  | keeperWatchdog
  /-- CRED_SET (R590). -/
  | credSet (m : Master) (role : Fin 4)
  /-- LOCKOUT_EXPIRY (R592). -/
  | lockoutExpiry
  /-- MGMT_PACKET_RX (R593). -/
  | mgmtPacketRx (n : Fin 4) (cookie seq : Word) (order : Bool) (op : ReqOp)
  /-- MONITOR_LINE (R613). -/
  | monitorLine (cs : List Byte)
  /-- MON_LOGIN (R615). -/
  | monLogin (r : Role)
  /-- AUTH (R615). -/
  | auth (resp : List Byte)
  /-- LOGOUT (R615). -/
  | logout
  /-- MON_MODE (R615). -/
  | monMode (target : Option (Fin 17))
  /-- PEEK (R615). -/
  | peek (a : Word) (words : Nat)
  /-- POKE (R615). -/
  | poke (a v : Word)
  /-- LOG (R615). -/
  | log (n sev : Nat) (keel : Bool)
  /-- SENSE (R615). -/
  | sense
  /-- TIME (R615). -/
  | time
  /-- TWIN (R615). -/
  | twin
  /-- UPDATE_STATUS (R615). -/
  | updateStatus
  /-- UPDATE_DATA (R615). -/
  | updateData (ofs : Nat) (bs : List Byte)
  /-- BAUD (R615). -/
  | baud (rate : Nat)
  /-- HELP (R615). -/
  | help (c : Option (Fin 13))
  /-- MONITOR_IDLE_TIMEOUT (R614). -/
  | monitorIdleTimeout
  /-- BEGIN (R598). -/
  | begin (m : Master)
  /-- CHUNK (R599). -/
  | chunk (m : Master)
  /-- FINISH (R600). -/
  | finish (m : Master)
  /-- ACTIVATE (R603). -/
  | activate (m : Master)
  /-- CONFIRM (R604). -/
  | confirm (m : Master)
  /-- UPD_CANCEL (R600). -/
  | updCancel (m : Master)
  /-- TRIAL_HEALTH_CHECK (R604). -/
  | trialHealthCheck
  /-- TRIAL_FALLBACK (R605). -/
  | trialFallback
  /-- SAVE (R608). -/
  | save (m : Master)
  /-- ERASE_LOG (R610). -/
  | eraseLog (m : Master)
  /-- ERASE_RET (R610). -/
  | eraseRet (m : Master)
  /-- ERASE_DEV (R610). -/
  | eraseDev (m : Master)
  /-- ERASE_AGE (R610). -/
  | eraseAge (m : Master)
  /-- NVM_CMD_DONE (R612). -/
  | nvmCmdDone
  /-- PWM_ON_END (R288). -/
  | pwmOnEnd (k : Fin 64)
  /-- BLANKING_WINDOW_CLOSE (R299). -/
  | blankingWindowClose (k : Fin 64)
  /-- FEED_OVERVOLTAGE_END (R529). -/
  | feedOvervoltageEnd (f : Fin 2)
  /-- HOST_LINK_CHANGE (R544). -/
  | hostLinkChange (p : Fin 2) (up fast : Bool) (fec : Fin 3)
  /-- ILLEGAL_INSTRUCTION (R371). -/
  | illegalInstruction (c : Fin 18) (w : Word)
  /-- SEED_STEP_DONE (R510). -/
  | seedStepDone (ok : Bool) (flt : BitVec 12) (cause : BitVec 3)
  /-- NRESET_REARM (R516). -/
  | nresetRearm
  /-- UPD_CMD_DONE (R599). -/
  | updCmdDone (ok : Bool)
  deriving DecidableEq, Repr

end Sys2Proof
end

