-- ==== Sys2Proof/Machine/Flags.lean ====
section
/-!
DEFINITION. Result computations that several units share: saturation, rounding, comparison of binary32 values and
binary32 arithmetic (14 R383 to R386, 04 R122, 05 R172).
-/
namespace Sys2Proof.Machine

/-- The signed 32-bit limits. -/
def satMax : Int := 2 ^ 31 - 1
/-- The signed 32-bit limits. -/
def satMin : Int := -(2 ^ 31)

/-- An exact value clamped to signed 32 bits, and whether it was clamped. -/
def sat32 (v : Int) : Int × Bool :=
  if satMax < v then (satMax, true) else if v < satMin then (satMin, true) else (v, false)

/-- An exact value clamped to `w` signed bits. -/
def satW (w : Nat) (v : Int) : Int := max (-(2 ^ (w - 1))) (min (2 ^ (w - 1) - 1) v)

/-- Division by 2ⁿ rounded to nearest, halves away from zero upward (floor of x + 1/2). -/
def rshRound (v : Int) (n : Nat) : Int := if n = 0 then v else (v + 2 ^ (n - 1)) / 2 ^ n

/-- Division by 2ⁿ rounded to nearest, halves to even. -/
def rshEven (v : Int) (n : Nat) : Int :=
  if n = 0 then v
  else
    let q := v / 2 ^ n
    let r := v % 2 ^ n
    if r * 2 < 2 ^ n then q else if r * 2 = 2 ^ n then (if q % 2 = 0 then q else q + 1) else q + 1

/-! ### binary32 -/

/-- Whether a binary32 word is a NaN. -/
def fIsNan (v : Nat) : Bool := bits v 30 23 = 255 && bits v 22 0 ≠ 0
/-- Whether a binary32 word is an infinity. -/
def fIsInf (v : Nat) : Bool := bits v 30 23 = 255 && bits v 22 0 = 0
/-- Whether a binary32 word is a zero. -/
def fIsZero (v : Nat) : Bool := bits v 30 0 = 0
/-- The sign bit of a binary32 word. -/
def fSign (v : Nat) : Bool := bit v 31

/-- An order-preserving key of a binary32 word that is not a NaN; both zeros map to 0. -/
def fKey (v : Nat) : Int := if fSign v then -(bits v 30 0 : Int) else (bits v 30 0 : Int)

/-- The comparison codes of 04 R121 on exact values: EQ NE LT LE GT GE. -/
def cmpInt (op : Nat) (a b : Int) : Bool :=
  match op with
  | 0 => a = b
  | 1 => a ≠ b
  | 2 => a < b
  | 3 => a ≤ b
  | 4 => b < a
  | _ => b ≤ a

/-- The same on binary32 words (04 R122): with a NaN only NE is true, and −0 equals +0. -/
def cmpF32 (op a b : Nat) : Bool :=
  if fIsNan a || fIsNan b then op = 1 else cmpInt op (fKey a) (fKey b)

/-- A comparison in a format of 04 R121: 0 signed, 1 unsigned, 2 binary32. -/
def cmpFmt (fmt op a b : Nat) : Bool :=
  match fmt with
  | 0 => cmpInt op (sx 32 a) (sx 32 b)
  | 1 => cmpInt op a b
  | _ => cmpF32 op a b

/-- The signed significand and exponent of a finite binary32 word: its value is `m × 2^(e − 149)`. -/
def fUnpack (v : Nat) : Int × Nat :=
  let e := bits v 30 23
  let m : Nat := if e = 0 then bits v 22 0 else bits v 22 0 + 2 ^ 23
  (if fSign v then -(m : Int) else m, if e = 0 then 0 else e - 1)

/-- The number of bits of a number. -/
def bitLen (n : Nat) : Nat := if n = 0 then 0 else Nat.log2 n + 1

/-- Division of a natural number by 2ⁿ, rounded to nearest with halves to even; `sticky` says that a non-zero
part lies below. -/
def rneShift (m n : Nat) (sticky : Bool) : Nat :=
  if n = 0 then m
  else
    let q := m / 2 ^ n
    let r := m % 2 ^ n
    let h := 2 ^ (n - 1)
    if h < r || (r = h && (sticky || q % 2 = 1)) then q + 1 else q

/-- The binary32 word nearest to `m × 2^e`, halves to even, with gradual underflow and overflow to infinity; `sticky`
says that a non-zero part lies below `m`. -/
def fRound (neg : Bool) (m : Nat) (e : Int) (sticky : Bool) : Nat :=
  let sg := b2n neg * 2 ^ 31
  if m = 0 then sg
  else
    let l := bitLen m
    let ex : Int := l - 1 + e
    if ex < -126 then
      let sh : Int := -149 - e
      sg + (if sh ≤ 0 then m * 2 ^ (-sh).toNat else rneShift m sh.toNat sticky)
    else
      let q := if l ≤ 24 then m * 2 ^ (24 - l) else rneShift m (l - 24) sticky
      let ex := if q = 2 ^ 24 then ex + 1 else ex
      let q := if q = 2 ^ 24 then 2 ^ 23 else q
      if 127 < ex then sg + 0x7F800000 else sg + (ex + 127).toNat * 2 ^ 23 + (q - 2 ^ 23)

/-- The square root of a natural number, rounded down, from its 2 × `n` low bits. -/
def isqrt : Nat → Nat → Nat
  | 0, _ => 0
  | n + 1, v =>
    let r := 2 * isqrt n (v / 4)
    if (r + 1) * (r + 1) ≤ v then r + 1 else r

/-- A binary32 word times 2³⁰, rounded to nearest even and clamped; a NaN gives 0. The flag says that it was clamped
or a NaN (05 R174 IN FMT 3). -/
def f32ToQ30 (v : Nat) : Int × Bool :=
  if fIsNan v then (0, true)
  else if fIsInf v then (if fSign v then satMin else satMax, true)
  else
    let u := fUnpack v
    sat32 (if 119 ≤ u.2 then u.1 * 2 ^ (u.2 - 119) else rshEven u.1 (119 - u.2))

/-- A Q1.30 value as a binary32 word (05 R174 OUT FMT 3). -/
def q30ToF32 (v : Int) : Nat := fRound (v < 0) v.natAbs (-30) false

end Sys2Proof.Machine
end

