-- ==== Sys2Proof/Machine/LoopOps.lean ====
section
/-!
DEFINITION. The loop instruction set: operands and the exact result of each operation (05 R155 to R176), and the
setpoint stage (06 R186, R188).
-/
namespace Sys2Proof.Machine

/-- An execution in progress: the context, AUTO as the program reads it, the flags that arose (ADD 1, MUL 2, INT 4,
LIM 8), trace values, and the argument of DLY. -/
structure LoopRun where
  c     : LoopCtx
  auto  : Bool
  init  : Bool
  flags : Nat := 0
  trace : List (Nat × Int) := []
  dlyIn : Option Int := none
  deriving DecidableEq, Repr

/-- R157. -/
def sat64 (v : Int) : Int := satW 64 v
/-- R157: Q1.30 to Q1.62. -/
def wide (x : Int) : Int := x * 2 ^ 32
/-- R157: Q1.62 to Q1.30. -/
def narrow (s : Int) : Int := (sat32 (rshRound s 32)).1
/-- R157. -/
def clampI (x lo hi : Int) : Int := min (max x lo) hi

/-- Set a flag when a condition holds. -/
def LoopRun.flag (x : LoopRun) (f : Nat) (b : Bool) : LoopRun := if b then { x with flags := x.flags ||| f } else x

/-- The value of an operand (R172); codes that R172 does not give read 0. -/
def LoopRun.rd (x : LoopRun) (code : Nat) : Int :=
  if code < 0x20 then nth x.c.w code 0
  else if code < 0x30 then sx 32 (nth x.c.iv (code - 0x20) 0)
  else if code < 0x34 then nth x.c.os (code - 0x30) 0
  else if 0x40 ≤ code && code < 0x50 then nth x.c.k (code - 0x40) 0
  else match code with
    | 0x50 => x.c.sp
    | 0x51 => x.c.spt
    | 0x52 => x.c.man
    | 0x53 => if x.auto then 2 ^ 30 else 0
    | 0x54 => 2 ^ 30
    | 0x55 => -(2 ^ 30)
    | _ => 0

/-- Write an operand (R172): working registers and staged outputs; ZERO discards. -/
def LoopRun.wr (x : LoopRun) (code : Nat) (v : Int) : LoopRun :=
  if code < 0x20 then { x with c := { x.c with w := x.c.w.set code v } }
  else if 0x30 ≤ code && code < 0x34 then { x with c := { x.c with os := x.c.os.set (code - 0x30) v } }
  else x

/-- State slot q. -/
def LoopRun.s (x : LoopRun) (q : Nat) : Int := nth x.c.st q 0

/-- Write state slot q. -/
def LoopRun.ws (x : LoopRun) (q : Nat) (v : Int) : LoopRun := { x with c := { x.c with st := x.c.st.set q v } }

/-- The low 32 bits of a state slot, signed (R175). -/
def lo32 (v : Int) : Int := sx 32 (ofInt 32 v)

/-- The constant K[m]. -/
def LoopRun.kk (x : LoopRun) (m : Nat) : Int := nth x.c.k m 0

/-- Clamp an exact result to 32 bits, write DST, and set a flag when it was clamped. -/
def LoopRun.put (x : LoopRun) (dst : Nat) (v : Int) (f : Nat) : LoopRun :=
  let r := sat32 v
  (x.wr dst r.1).flag f r.2

/-- Clamp an exact result to 64 bits into a state slot, with INT when it was clamped. -/
def LoopRun.put64 (x : LoopRun) (q : Nat) (v : Int) : LoopRun := (x.ws q (sat64 v)).flag 4 (sat64 v ≠ v)

/-- The fields of an operation word (R171). -/
def opOpc (w : Nat) : Nat := bits w 63 56
/-- R171. -/
def opDst (w : Nat) : Nat := bits w 55 48
/-- R171. -/
def opSa (w : Nat) : Nat := bits w 47 40
/-- R171. -/
def opSb (w : Nat) : Nat := bits w 39 32
/-- R171. -/
def opParam (w : Nat) : Nat := bits w 31 16
/-- R171. -/
def opSc (w : Nat) : Nat := bits w 15 8

/-- IN (R174). -/
def opIn (x : LoopRun) (w : Nat) : LoopRun :=
  let v := nth x.c.iv (opSa w - 0x20) 0
  let sh := bits (opParam w) 12 8
  match bits (opParam w) 1 0 with
  | 0 => x.wr (opDst w) (sx 32 v)
  | 1 => x.put (opDst w) (sx 32 v * 2 ^ sh) 1
  | 2 => x.put (opDst w) ((v : Int) * 2 ^ sh) 1
  | _ => let f := f32ToQ30 v; (x.wr (opDst w) f.1).flag 1 f.2

/-- OUT (R174): a staged output holds the converted word. -/
def opOut (x : LoopRun) (w : Nat) : LoopRun :=
  let a := x.rd (opSa w)
  let sh := bits (opParam w) 12 8
  match bits (opParam w) 1 0 with
  | 0 => x.wr (opDst w) a
  | 1 => x.wr (opDst w) (rshRound a sh)
  | 2 => let r := rshRound a sh; (x.wr (opDst w) (clampI r 0 65535)).flag 8 (clampI r 0 65535 ≠ r)
  | _ => x.wr (opDst w) (sx 32 (q30ToF32 a))

/-- The middle of three values. -/
def median3 (a b c : Int) : Int := max (min a b) (min (max a b) c)

/-- LUT (R174). -/
def lutAt (t : List Int) (a : Int) : Int :=
  let v := clampI a (-(2 ^ 30)) (2 ^ 30 - 1) + 2 ^ 30
  let i := (v / 2 ^ 27).toNat
  let f := v % 2 ^ 27
  nth t i 0 + rshRound ((nth t (i + 1) 0 - nth t i 0) * f) 27

/-- PID (R176; R186 in the initialising execution). -/
def opPid (x : LoopRun) (w : Nat) : LoopRun :=
  let p := opParam w
  let k := bits p 3 0
  let g := bits p 7 4
  let df := bits p 15 12
  let q := opSc w
  let sa := x.rd (opSa w)
  let sb := x.rd (opSb w)
  let er := sat32 (sa - sb)
  let e := er.1
  let x := x.flag 1 er.2
  let pr := x.kk k * e * 2 ^ (2 + g)
  let pv := sat64 pr
  let x := x.flag 2 (pv ≠ pr)
  let dx := if x.init then 0 else if bit p 8 then lo32 (x.s (q + 1)) - sb else e - lo32 (x.s (q + 1))
  let x := x.ws (q + 1) (if bit p 8 then sb else e)
  let dr0 := x.kk (k + 2) * dx * 2 ^ (2 + g)
  let dr := if x.init then 0 else sat64 dr0
  let x := x.flag 2 (!x.init && sat64 dr0 ≠ dr0)
  let d := if x.init then 0 else if df = 0 then dr else x.s (q + 2) + rshRound (dr - x.s (q + 2)) df
  let x := x.ws (q + 2) d
  let lo := wide (x.kk (k + 3))
  let hi := wide (x.kk (k + 4))
  if x.auto then
    let i0 := x.s q + x.kk (k + 1) * e * 2 ^ (2 + g)
    let i := sat64 i0
    let x := x.flag 4 (i ≠ i0)
    let v := pv + d + i
    let i := if (hi < v && x.s q < i) || (v < lo && i < x.s q) then x.s q else i
    let c := clampI i lo hi
    let x := (x.ws q c).flag 4 (c ≠ i)
    let y0 := pv + d + c
    let y := clampI y0 lo hi
    let x := (x.flag 8 (y ≠ y0)).wr (opDst w) (narrow y)
    if bit p 9 then { x with c := { x.c with man := narrow y } } else x
  else
    let y0 := wide x.c.man
    let y := clampI y0 lo hi
    let x := x.flag 8 (y ≠ y0)
    let i := y - pv - d
    let c := clampI i lo hi
    (((x.ws q c).flag 4 (c ≠ i))).wr (opDst w) (narrow y)

/-- One operation (R173 to R176). -/
def loopOp (x : LoopRun) (w : Nat) : LoopRun :=
  let dst := opDst w
  let a := x.rd (opSa w)
  let b := x.rd (opSb w)
  let sc := opSc w
  let p := opParam w
  match opOpc w with
  | 0x01 => x.wr dst a
  | 0x02 => opIn x w
  | 0x03 => opOut x w
  | 0x04 => x.put dst (a + b) 1
  | 0x05 => x.put dst (a - b) 1
  | 0x06 => x.put dst (-a) 1
  | 0x07 => x.put dst (a.natAbs : Int) 1
  | 0x08 => x.put dst (rshRound (a * b) (30 - bits p 3 0)) 2
  | 0x09 => x.put dst (rshRound (a * sx 16 p) 14) 2
  | 0x0A =>
    let m := rshRound (a * b) (30 - bits p 3 0)
    let out := m < satMin || satMax < m
    let r := sat32 (x.rd dst + m)
    ((x.wr dst r.1).flag 2 out).flag 1 (r.2 && !out)
  | 0x0B => if bit p 5 then x.wr dst (rshRound a (bits p 4 0)) else x.put dst (a * 2 ^ bits p 4 0) 1
  | 0x0C => let v := clampI a b (x.rd sc); (x.wr dst v).flag 8 (bit p 0 && v ≠ a)
  | 0x0D =>
    let v := max b 0
    x.wr dst (if (a.natAbs : Int) ≤ v then 0 else if v < a then a - v else a + v)
  | 0x0E =>
    let c := x.rd sc
    x.wr dst (match bits p 1 0 with
      | 0 => if 0 < c then a else b
      | 1 => min a b
      | 2 => max a b
      | _ => median3 a b c)
  | 0x0F => x.wr dst (if cmpInt (bits p 2 0) a b then 2 ^ 30 else 0)
  | 0x10 => if 0 < x.rd sc then x.wr dst a else x
  | 0x11 =>
    let m := min (b.natAbs : Int) satMax
    x.wr dst (x.rd dst + clampI (a - x.rd dst) (-m) m)
  | 0x12 =>
    let s0 := if x.init then wide a else x.s sc
    let y := s0 + rshRound ((wide a - s0) * p) 16
    let x := (x.ws sc s0).put64 sc y
    x.wr dst (narrow (x.s sc))
  | 0x13 =>
    let y0 := (x.kk (bits p 3 0) * a + x.kk (bits p 7 4) * lo32 (x.s sc)) * 4
      - rshRound (x.kk (bits p 11 8) * x.s (sc + 1)) 30
    let x := ((x.ws sc a).put64 (sc + 1) y0)
    x.wr dst (narrow (x.s (sc + 1)))
  | 0x14 =>
    let k := bits p 3 0
    let y0 := x.s sc + x.kk k * a * 4
    let y := sat64 y0
    let x := x.flag 4 (y ≠ y0)
    let x := x.put64 sc (x.s (sc + 1) + x.kk (k + 1) * a * 4 - rshRound (x.kk (k + 3) * y) 30)
    let x := x.put64 (sc + 1) (x.kk (k + 2) * a * 4 - rshRound (x.kk (k + 4) * y) 30)
    x.wr dst (narrow y)
  | 0x15 =>
    let d := if x.init then 0 else a - lo32 (x.s sc)
    (x.ws sc a).put dst (d * 2 ^ bits p 4 0) 1
  | 0x16 =>
    let x := x.put64 sc (x.s sc + a * b * 4)
    x.wr dst (narrow (x.s sc))
  | 0x17 => opPid x w
  | 0x18 => { x.wr dst (nth x.c.dly (bits p 3 0) 0) with dlyIn := some a }
  | 0x19 => x.put dst (lutAt (if bit p 0 then x.c.lut1 else x.c.lut0) a) 0
  | 0x1A =>
    let n := ((max a 0) * 2 ^ 30).toNat
    let r := isqrt 32 n
    x.wr dst (if r < n - r * r then r + 1 else r)
  | 0x1B => { x with trace := x.trace ++ [(bits p 3 0, a)] }
  | _ => x

/-- The cost of an operation in slots (R173). -/
def opCost (w : Nat) : Nat :=
  match opOpc w with
  | 0x13 | 0x14 | 0x19 | 0x1A => 2
  | 0x17 => 3
  | _ => 1

/-- div of R188: nearest, an exact half towards +∞. -/
def divNear (x : Int) (k : Nat) : Int := (2 * x + k) / (2 * k)

/-- What the setpoint stage leaves: the context, RSTEP, and whether the last ramp step was taken. -/
structure StageRes where
  c     : LoopCtx
  rstep : Int
  done  : Bool
  deriving DecidableEq, Repr

/-- The setpoint stage (06 R188): `pv` is the measured value when it is usable, `k15` the soft-start step. -/
def setpointStage (c : LoopCtx) (init auto aedge : Bool) (pv : Option Int) (k15 : Int) : StageRes :=
  let autoe := !init && auto
  if init || !autoe || aedge || c.rst then
    let c := match pv with
      | some v => { c with sp := v }
      | none => c
    let ss := c.ss || (((init && auto) || aedge) && decide (0 < k15) && c.r = 0)
    { c := { c with ss := ss, rst := false }, rstep := 0, done := false }
  else if 0 < c.r then
    let st := divNear (c.spt - c.sp) c.r
    { c := { c with sp := c.sp + st, r := c.r - 1 }, rstep := (sat32 st).1, done := c.r = 1 }
  else if c.ss && 0 < k15 then
    let st := clampI (c.spt - c.sp) (-k15) k15
    { c := { c with sp := c.sp + st, ss := c.sp + st ≠ c.spt }, rstep := st, done := false }
  else { c := { c with ss := false, sp := c.spt }, rstep := (sat32 (c.spt - c.sp)).1, done := false }

/-- Run a program over a context (R171). -/
def loopProgram (x : LoopRun) (ws : List Nat) : LoopRun := ws.foldl loopOp x

end Sys2Proof.Machine
end

