-- ==== Sys2Proof/Config.lean ====
section
/-!
DEFINITION. What the spec leaves to the device or does not state: free values (opaque) and the constants that a
log entry names.
-/
namespace Sys2Proof

/-- A value that the spec leaves open; nothing constrains it. Applied to the counter `State.free`. -/
opaque Config.freeValue : Nat → Nat

/-- The unique die identity (02 R79): four words that the maker assigns. -/
opaque Config.dieIdentity : Nat → Word

/-- The severity of the records of a session's opening and closing and of a login (00 R4), which the spec does not state. -/
opaque Config.sessionSeverity : Nat

/-- The severity of the records of a Keeper watchdog reset (21 R572), which the spec does not state. -/
opaque Config.watchdogSeverity : Nat

/-- Whether a 96-byte ECDSA P-384 signature over a message is good under the Joshaven maker key (21 R591), whose value the
spec does not give. -/
opaque Config.makerSigned : List Byte → List Byte → Bool

/-- Whether a signature over an image header is good under the Joshaven image key (22 R597), whose value the spec does not
give. -/
opaque Config.imageSigned : List Byte → List Byte → Bool

/-- The fractional delay and the first-order bandwidth equaliser of the correction chain (07 R211): of samples with the skew and
the bandwidth estimate of each, sample i of the result, in units of 2⁻²⁴ LSB. The spec gives no coefficients of them. -/
opaque Config.sliceFilter : List (Int × Int × Int) → Nat → Int

/-- The low-pass filter of a tone (07 R218) for a BW code: of the mixed samples (real and imaginary part) the value at the
j-th whole microsecond of the span, with gain 1 at the tone's frequency. The spec gives its noise bandwidth and its
delay alone. -/
opaque Config.toneLowPass : Nat → List (Int × Int) → Nat → Int × Int

/-- Whether the PHY of a remote port reports link up at an instant (09 R286), while the port's link is enabled: the line's own
state, which no command brings. Log 219. -/
opaque Config.rioLink : Nat → Nat → Bool

/-- The severity of the record of an error cause of a program without an error task (13 R348), which the spec does not state. -/
opaque Config.rtCauseSeverity : Nat

/-- What a byte of memory that nothing has written reads as. DESIGN CHOICE: log 3. -/
def Config.emptyByte : Byte := 0

/-- The depth of each queue of the event fabric. DESIGN CHOICE: log 4. -/
def Config.queueDepth : Nat := 64

end Sys2Proof
end

