-- ==== Sys2Proof/Machine/RegsEngines.lean ====
section
/-!
DEFINITION. Register descriptors of the blocks DISP, LOOP, RCP, RT, CPU,
each from the summary table and the field table of its chapter of spec/ (base address, index ranges,
guards, reset domain, fields with access code; `reset` joins the fields' reset values), and one name
per field. Reserved bits are those no field covers (02 R66).
-/
namespace Sys2Proof.Machine

/-- R151. -/
def RCP_CTL : Reg := {
  blk := .rcp, base := 0x40060000, dims := [], rd := .g0, wr := .g1, rdom := .block,
  reset := 0x0, fields := [⟨0, 0, .rw⟩] }
def RCP_CTL_DBGHOLD : Fld := ⟨RCP_CTL, 0, 0⟩
/-- R151. -/
def RCP_STAT : Reg := {
  blk := .rcp, base := 0x40060004, dims := [], rd := .g0, wr := .g1, rdom := .block,
  reset := 0x0, fields := [⟨19, 19, (.w1cTo 17)⟩, ⟨18, 18, (.w1cTo 16)⟩, ⟨17, 17, .rs⟩, ⟨16, 16, .rs⟩, ⟨15, 15, .ro⟩, ⟨12, 0, .ro⟩] }
def RCP_STAT_JSKIP_CLR : Fld := ⟨RCP_STAT, 19, 19⟩
def RCP_STAT_RINGOVR_CLR : Fld := ⟨RCP_STAT, 18, 18⟩
def RCP_STAT_JSKIPF : Fld := ⟨RCP_STAT, 17, 17⟩
def RCP_STAT_RINGOVRF : Fld := ⟨RCP_STAT, 16, 16⟩
def RCP_STAT_CFGERR : Fld := ⟨RCP_STAT, 15, 15⟩
def RCP_STAT_INFLIGHT : Fld := ⟨RCP_STAT, 12, 0⟩
/-- R151. -/
def RCP_POOL : Reg := {
  blk := .rcp, base := 0x40060008, dims := [], rd := .g0, wr := .g2, rdom := .feed,
  reset := 0x0, fields := [⟨9, 0, .lk⟩] }
def RCP_POOL_BASE : Fld := ⟨RCP_POOL, 9, 0⟩
/-- R151. -/
def RCP_RING : Reg := {
  blk := .rcp, base := 0x4006000C, dims := [], rd := .g0, wr := .g2, rdom := .feed,
  reset := 0x0, fields := [⟨9, 0, .lk⟩] }
def RCP_RING_BASE : Fld := ⟨RCP_RING, 9, 0⟩
/-- R151. -/
def RCP_RING_WR : Reg := {
  blk := .rcp, base := 0x40060010, dims := [], rd := .g0, wr := .g0, rdom := .block,
  reset := 0x0, fields := [⟨15, 0, .ro⟩] }
def RCP_RING_WR_WR : Fld := ⟨RCP_RING_WR, 15, 0⟩
/-- R151. -/
def RCP_RING_RD : Reg := {
  blk := .rcp, base := 0x40060014, dims := [], rd := .g0, wr := .g1, rdom := .block,
  reset := 0x0, fields := [⟨15, 0, .rw⟩] }
def RCP_RING_RD_RD : Fld := ⟨RCP_RING_RD, 15, 0⟩
/-- R151. -/
def RCP_LOAD_SRC : Reg := {
  blk := .rcp, base := 0x40060020, dims := [], rd := .g0, wr := .g0, rdom := .block,
  reset := 0x0, fields := [⟨31, 0, .rw⟩] }
def RCP_LOAD_SRC_ADDR : Fld := ⟨RCP_LOAD_SRC, 31, 0⟩
/-- R151. -/
def RCP_LOAD_DST : Reg := {
  blk := .rcp, base := 0x40060024, dims := [], rd := .g0, wr := .g0, rdom := .block,
  reset := 0x0, fields := [⟨15, 0, .rw⟩] }
def RCP_LOAD_DST_FIRST : Fld := ⟨RCP_LOAD_DST, 15, 0⟩
/-- R151. -/
def RCP_LOAD_CNT : Reg := {
  blk := .rcp, base := 0x40060028, dims := [], rd := .g0, wr := .g0, rdom := .block,
  reset := 0x0, fields := [⟨31, 31, .w1s⟩, ⟨16, 0, .rw⟩] }
def RCP_LOAD_CNT_GO : Fld := ⟨RCP_LOAD_CNT, 31, 31⟩
def RCP_LOAD_CNT_COUNT : Fld := ⟨RCP_LOAD_CNT, 16, 0⟩
/-- R151. -/
def RCP_LOAD_STAT : Reg := {
  blk := .rcp, base := 0x4006002C, dims := [], rd := .g0, wr := .g0, rdom := .block,
  reset := 0x0, fields := [⟨31, 16, .ro⟩, ⟨7, 4, .ro⟩, ⟨1, 1, .ro⟩, ⟨0, 0, .ro⟩] }
def RCP_LOAD_STAT_BADENT : Fld := ⟨RCP_LOAD_STAT, 31, 16⟩
def RCP_LOAD_STAT_ERR : Fld := ⟨RCP_LOAD_STAT, 7, 4⟩
def RCP_LOAD_STAT_DONE : Fld := ⟨RCP_LOAD_STAT, 1, 1⟩
def RCP_LOAD_STAT_BUSY : Fld := ⟨RCP_LOAD_STAT, 0, 0⟩
/-- R151. -/
def RCP_RESUME : Reg := {
  blk := .rcp, base := 0x40060030, dims := [], rd := .g0, wr := .g1, rdom := .feed,
  reset := 0xA00, fields := [⟨15, 8, .rw⟩, ⟨2, 2, .ro⟩, ⟨1, 1, .rw⟩, ⟨0, 0, .w1s⟩] }
def RCP_RESUME_TWAIT : Fld := ⟨RCP_RESUME, 15, 8⟩
def RCP_RESUME_BUSY : Fld := ⟨RCP_RESUME, 2, 2⟩
def RCP_RESUME_AUTO : Fld := ⟨RCP_RESUME, 1, 1⟩
def RCP_RESUME_GO : Fld := ⟨RCP_RESUME, 0, 0⟩
/-- R151. -/
def RCP_ISSUED : Reg := {
  blk := .rcp, base := 0x40060040, dims := [], rd := .g0, wr := .g0, rdom := .block,
  reset := 0x0, fields := [⟨31, 0, .ro⟩] }
def RCP_ISSUED_COUNT : Fld := ⟨RCP_ISSUED, 31, 0⟩
/-- R151. -/
def RCP_DONE : Reg := {
  blk := .rcp, base := 0x40060044, dims := [], rd := .g0, wr := .g0, rdom := .block,
  reset := 0x0, fields := [⟨31, 0, .ro⟩] }
def RCP_DONE_COUNT : Fld := ⟨RCP_DONE, 31, 0⟩
/-- R151. -/
def RCP_FAILED : Reg := {
  blk := .rcp, base := 0x40060048, dims := [], rd := .g0, wr := .g0, rdom := .block,
  reset := 0x0, fields := [⟨31, 0, .ro⟩] }
def RCP_FAILED_COUNT : Fld := ⟨RCP_FAILED, 31, 0⟩
/-- R151. -/
def RCP_RINGOVR : Reg := {
  blk := .rcp, base := 0x4006004C, dims := [], rd := .g0, wr := .g0, rdom := .block,
  reset := 0x0, fields := [⟨31, 0, .ro⟩] }
def RCP_RINGOVR_COUNT : Fld := ⟨RCP_RINGOVR, 31, 0⟩
/-- R151. -/
def RCP_JSKIP : Reg := {
  blk := .rcp, base := 0x40060050, dims := [], rd := .g0, wr := .g0, rdom := .block,
  reset := 0x0, fields := [⟨31, 0, .ro⟩] }
def RCP_JSKIP_COUNT : Fld := ⟨RCP_JSKIP, 31, 0⟩
/-- R151. -/
def RCP_THR_CFG : Reg := {
  blk := .rcp, base := 0x40061000, dims := [(64, 32)], rd := .g0, wr := .g2, rdom := .feed,
  reset := 0x0, fields := [⟨29, 16, .lk⟩, ⟨15, 0, .lk⟩] }
def RCP_THR_CFG_SIZE : Fld := ⟨RCP_THR_CFG, 29, 16⟩
def RCP_THR_CFG_FIRST : Fld := ⟨RCP_THR_CFG, 15, 0⟩
/-- R151. -/
def RCP_THR_OPT : Reg := {
  blk := .rcp, base := 0x40061004, dims := [(64, 32)], rd := .g0, wr := .g2, rdom := .feed,
  reset := 0x2, fields := [⟨10, 0, .lk⟩] }
def RCP_THR_OPT_LEAD : Fld := ⟨RCP_THR_OPT, 10, 0⟩
/-- R151. -/
def RCP_THR_CMD : Reg := {
  blk := .rcp, base := 0x40061008, dims := [(64, 32)], rd := .g0, wr := .g0, rdom := .block,
  reset := 0x0, fields := [⟨28, 16, .wo⟩, ⟨1, 0, .wo⟩] }
def RCP_THR_CMD_STEP : Fld := ⟨RCP_THR_CMD, 28, 16⟩
def RCP_THR_CMD_CMD : Fld := ⟨RCP_THR_CMD, 1, 0⟩
/-- R151. -/
def RCP_THR_STEP : Reg := {
  blk := .rcp, base := 0x4006100C, dims := [(64, 32)], rd := .g0, wr := .g0, rdom := .block,
  reset := 0xFFFF0000, fields := [⟨31, 16, .ro⟩, ⟨12, 0, .ro⟩] }
def RCP_THR_STEP_STEP : Fld := ⟨RCP_THR_STEP, 31, 16⟩
def RCP_THR_STEP_NEXT : Fld := ⟨RCP_THR_STEP, 12, 0⟩
/-- R151. -/
def RCP_THR_TIS : Reg := {
  blk := .rcp, base := 0x40061010, dims := [(64, 32)], rd := .g0, wr := .g0, rdom := .block,
  reset := 0x0, fields := [⟨31, 0, .ro⟩] }
def RCP_THR_TIS_TIS : Fld := ⟨RCP_THR_TIS, 31, 0⟩
/-- R151. -/
def RCP_THR_SEQ : Reg := {
  blk := .rcp, base := 0x40061014, dims := [(64, 32)], rd := .g0, wr := .g0, rdom := .block,
  reset := 0x0, fields := [⟨31, 0, .ro⟩] }
def RCP_THR_SEQ_SEQ : Fld := ⟨RCP_THR_SEQ, 31, 0⟩
/-- R151. -/
def RCP_THR_STATE : Reg := {
  blk := .rcp, base := 0x40061018, dims := [(64, 32)], rd := .g0, wr := .g0, rdom := .block,
  reset := 0x0, fields := [⟨18, 16, .ro⟩, ⟨13, 8, .ro⟩, ⟨7, 4, .ro⟩, ⟨3, 3, .ro⟩, ⟨2, 0, .ro⟩] }
def RCP_THR_STATE_RES : Fld := ⟨RCP_THR_STATE, 18, 16⟩
def RCP_THR_STATE_FAILACT : Fld := ⟨RCP_THR_STATE, 13, 8⟩
def RCP_THR_STATE_CAUSE : Fld := ⟨RCP_THR_STATE, 7, 4⟩
def RCP_THR_STATE_INABORT : Fld := ⟨RCP_THR_STATE, 3, 3⟩
def RCP_THR_STATE_STATE : Fld := ⟨RCP_THR_STATE, 2, 0⟩
/-- R151. -/
def RCP_THR_INFL : Reg := {
  blk := .rcp, base := 0x4006101C, dims := [(64, 32)], rd := .g0, wr := .g0, rdom := .block,
  reset := 0x0, fields := [⟨12, 0, .ro⟩] }
def RCP_THR_INFL_COUNT : Fld := ⟨RCP_THR_INFL, 12, 0⟩
/-- R151. -/
def RCP_THR_LCTR : Reg := {
  blk := .rcp, base := 0x40062000, dims := [(64, 16), (4, 4)], rd := .g0, wr := .g0, rdom := .block,
  reset := 0x0, fields := [⟨27, 16, .ro⟩, ⟨11, 0, .ro⟩] }
def RCP_THR_LCTR_CTRH : Fld := ⟨RCP_THR_LCTR, 27, 16⟩
def RCP_THR_LCTR_CTRL : Fld := ⟨RCP_THR_LCTR, 11, 0⟩
/-- R182. -/
def LOOP_CTL : Reg := {
  blk := .loop, base := 0x40050000, dims := [], rd := .g0, wr := .g1, rdom := .block,
  reset := 0x0, fields := [⟨0, 0, .rw⟩] }
def LOOP_CTL_DBGHOLD : Fld := ⟨LOOP_CTL, 0, 0⟩
/-- R182. -/
def LOOP_STAT : Reg := {
  blk := .loop, base := 0x40050004, dims := [], rd := .g0, wr := .g1, rdom := .block,
  reset := 0x0, fields := [⟨16, 16, (.w1cTo 8)⟩, ⟨8, 8, .rs⟩, ⟨1, 1, .ro⟩, ⟨0, 0, .ro⟩] }
def LOOP_STAT_LATEF_CLR : Fld := ⟨LOOP_STAT, 16, 16⟩
def LOOP_STAT_LATEF : Fld := ⟨LOOP_STAT, 8, 8⟩
def LOOP_STAT_WAITFRAME : Fld := ⟨LOOP_STAT, 1, 1⟩
def LOOP_STAT_RUNNING : Fld := ⟨LOOP_STAT, 0, 0⟩
/-- R182. -/
def LOOP_FRAME : Reg := {
  blk := .loop, base := 0x40050008, dims := [], rd := .g0, wr := .g2, rdom := .feed,
  reset := 0x4E20, fields := [⟨15, 0, .rw⟩] }
def LOOP_FRAME_F : Fld := ⟨LOOP_FRAME, 15, 0⟩
/-- R182. -/
def LOOP_CMD : Reg := {
  blk := .loop, base := 0x40050010, dims := [], rd := .g0, wr := .g2, rdom := .block,
  reset := 0x0, fields := [⟨31, 31, .w1s⟩, ⟨17, 16, .rw⟩, ⟨9, 0, .rw⟩] }
def LOOP_CMD_GO : Fld := ⟨LOOP_CMD, 31, 31⟩
def LOOP_CMD_OP : Fld := ⟨LOOP_CMD, 17, 16⟩
def LOOP_CMD_LOOP : Fld := ⟨LOOP_CMD, 9, 0⟩
/-- R182. -/
def LOOP_CHK : Reg := {
  blk := .loop, base := 0x40050014, dims := [], rd := .g0, wr := .g0, rdom := .block,
  reset := 0x0, fields := [⟨31, 31, .ro⟩, ⟨30, 30, .ro⟩, ⟨29, 26, .ro⟩, ⟨25, 24, .ro⟩, ⟨23, 21, .ro⟩, ⟨20, 11, .ro⟩, ⟨10, 0, .ro⟩] }
def LOOP_CHK_BUSY : Fld := ⟨LOOP_CHK, 31, 31⟩
def LOOP_CHK_DONE : Fld := ⟨LOOP_CHK, 30, 30⟩
def LOOP_CHK_ERR : Fld := ⟨LOOP_CHK, 29, 26⟩
def LOOP_CHK_LANE : Fld := ⟨LOOP_CHK, 25, 24⟩
def LOOP_CHK_CLASS : Fld := ⟨LOOP_CHK, 23, 21⟩
def LOOP_CHK_LOOP : Fld := ⟨LOOP_CHK, 20, 11⟩
def LOOP_CHK_LATEPRED : Fld := ⟨LOOP_CHK, 10, 0⟩
/-- R182. -/
def LOOP_CHK_LOAD : Reg := {
  blk := .loop, base := 0x40050018, dims := [], rd := .g0, wr := .g0, rdom := .block,
  reset := 0x0, fields := [⟨31, 16, .ro⟩, ⟨12, 0, .ro⟩] }
def LOOP_CHK_LOAD_UTIL : Fld := ⟨LOOP_CHK_LOAD, 31, 16⟩
def LOOP_CHK_LOAD_MAXLATCH : Fld := ⟨LOOP_CHK_LOAD, 12, 0⟩
/-- R182. -/
def LOOP_LATETOT : Reg := {
  blk := .loop, base := 0x40050020, dims := [], rd := .g0, wr := .g0, rdom := .block,
  reset := 0x0, fields := [⟨31, 0, .ro⟩] }
def LOOP_LATETOT_COUNT : Fld := ⟨LOOP_LATETOT, 31, 0⟩
/-- R182. -/
def LOOP_EXECTOT : Reg := {
  blk := .loop, base := 0x40050024, dims := [], rd := .g0, wr := .g0, rdom := .block,
  reset := 0x0, fields := [⟨31, 0, .ro⟩] }
def LOOP_EXECTOT_COUNT : Fld := ⟨LOOP_EXECTOT, 31, 0⟩
/-- R182. -/
def LOOP_LATETOT_H : Reg := {
  blk := .loop, base := 0x40050030, dims := [], rd := .g0, wr := .g0, rdom := .block,
  reset := 0x0, fields := [⟨31, 0, .ro⟩] }
/-- R182. -/
def LOOP_EXECTOT_H : Reg := {
  blk := .loop, base := 0x40050034, dims := [], rd := .g0, wr := .g0, rdom := .block,
  reset := 0x0, fields := [⟨31, 0, .ro⟩] }
/-- R182. -/
def LOOP_CLS_PER : Reg := {
  blk := .loop, base := 0x40050100, dims := [(8, 16)], rd := .g0, wr := .g2, rdom := .feed,
  reset := 0x0, fields := [⟨14, 0, .rw⟩] }
def LOOP_CLS_PER_PER : Fld := ⟨LOOP_CLS_PER, 14, 0⟩
/-- R182. -/
def LOOP_CLS_OFS : Reg := {
  blk := .loop, base := 0x40050104, dims := [(8, 16)], rd := .g0, wr := .g2, rdom := .feed,
  reset := 0x0, fields := [⟨14, 0, .rw⟩] }
def LOOP_CLS_OFS_OFS : Fld := ⟨LOOP_CLS_OFS, 14, 0⟩
/-- R182. -/
def LOOP_CLS_PH : Reg := {
  blk := .loop, base := 0x40050108, dims := [(8, 16)], rd := .g0, wr := .g2, rdom := .feed,
  reset := 0x0, fields := [⟨14, 0, .rw⟩] }
def LOOP_CLS_PH_PH : Fld := ⟨LOOP_CLS_PH, 14, 0⟩
/-- R182. -/
def LOOP_CLS_WCF : Reg := {
  blk := .loop, base := 0x4005010C, dims := [(8, 16)], rd := .g0, wr := .g0, rdom := .block,
  reset := 0x0, fields := [⟨31, 31, .ro⟩, ⟨14, 0, .ro⟩] }
def LOOP_CLS_WCF_PREDLATE : Fld := ⟨LOOP_CLS_WCF, 31, 31⟩
def LOOP_CLS_WCF_WCF : Fld := ⟨LOOP_CLS_WCF, 14, 0⟩
/-- R182. -/
def LOOP_EN : Reg := {
  blk := .loop, base := 0x40050200, dims := [(32, 4)], rd := .g0, wr := .g1, rdom := .block,
  reset := 0x0, fields := [⟨31, 0, .rw⟩] }
def LOOP_EN_EN : Fld := ⟨LOOP_EN, 31, 0⟩
/-- R182. -/
def LOOP_AUTO : Reg := {
  blk := .loop, base := 0x40050280, dims := [(32, 4)], rd := .g0, wr := .g1, rdom := .block,
  reset := 0x0, fields := [⟨31, 0, .rw⟩] }
def LOOP_AUTO_AUTO : Fld := ⟨LOOP_AUTO, 31, 0⟩
/-- R182. -/
def LOOP_BOUND : Reg := {
  blk := .loop, base := 0x40050300, dims := [(32, 4)], rd := .g0, wr := .g0, rdom := .feed,
  reset := 0x0, fields := [⟨31, 0, .ro⟩] }
def LOOP_BOUND_BOUND : Fld := ⟨LOOP_BOUND, 31, 0⟩
/-- R182. -/
def LOOP_LATE : Reg := {
  blk := .loop, base := 0x40050380, dims := [(32, 4)], rd := .g0, wr := .g1, rdom := .block,
  reset := 0x0, fields := [⟨31, 0, .w1c⟩] }
def LOOP_LATE_LATE : Fld := ⟨LOOP_LATE, 31, 0⟩
/-- R182. -/
def LOOP_SATS : Reg := {
  blk := .loop, base := 0x40050400, dims := [(32, 4)], rd := .g0, wr := .g0, rdom := .feed,
  reset := 0x0, fields := [⟨31, 0, .ro⟩] }
def LOOP_SATS_SATS : Fld := ⟨LOOP_SATS, 31, 0⟩
/-- R183. -/
def LOOP_W : Reg := {
  blk := .loop, base := 0x44000000, dims := [(1024, 1024), (32, 4)], rd := .g0, wr := .g1, rdom := .feed,
  reset := 0x0, fields := [⟨31, 0, .rw⟩] }
def LOOP_W_VALUE : Fld := ⟨LOOP_W, 31, 0⟩
/-- R183. -/
def LOOP_IV : Reg := {
  blk := .loop, base := 0x44000080, dims := [(1024, 1024), (16, 4)], rd := .g0, wr := .g0, rdom := .feed,
  reset := 0x0, fields := [⟨31, 0, .ro⟩] }
def LOOP_IV_VALUE : Fld := ⟨LOOP_IV, 31, 0⟩
/-- R183. -/
def LOOP_IS : Reg := {
  blk := .loop, base := 0x440000C0, dims := [(1024, 1024), (16, 4)], rd := .g0, wr := .g0, rdom := .feed,
  reset := 0x0, fields := [⟨31, 16, .ro⟩, ⟨15, 0, .ro⟩] }
def LOOP_IS_WTICK : Fld := ⟨LOOP_IS, 31, 16⟩
def LOOP_IS_STATUS : Fld := ⟨LOOP_IS, 15, 0⟩
/-- R183. -/
def LOOP_OS : Reg := {
  blk := .loop, base := 0x44000100, dims := [(1024, 1024), (4, 4)], rd := .g0, wr := .g0, rdom := .feed,
  reset := 0x0, fields := [⟨31, 0, .ro⟩] }
def LOOP_OS_VALUE : Fld := ⟨LOOP_OS, 31, 0⟩
/-- R183. -/
def LOOP_OR : Reg := {
  blk := .loop, base := 0x44000110, dims := [(1024, 1024), (4, 4)], rd := .g0, wr := .g0, rdom := .feed,
  reset := 0x0, fields := [⟨31, 0, .ro⟩] }
def LOOP_OR_VALUE : Fld := ⟨LOOP_OR, 31, 0⟩
/-- R183. -/
def LOOP_SP : Reg := {
  blk := .loop, base := 0x44000120, dims := [(1024, 1024)], rd := .g0, wr := .g0, rdom := .feed,
  reset := 0x0, fields := [⟨31, 0, .ro⟩] }
def LOOP_SP_VALUE : Fld := ⟨LOOP_SP, 31, 0⟩
/-- R183. -/
def LOOP_SPT : Reg := {
  blk := .loop, base := 0x44000124, dims := [(1024, 1024)], rd := .g0, wr := .g1, rdom := .feed,
  reset := 0x0, fields := [⟨31, 0, .rw⟩] }
def LOOP_SPT_VALUE : Fld := ⟨LOOP_SPT, 31, 0⟩
/-- R183. -/
def LOOP_MAN : Reg := {
  blk := .loop, base := 0x44000128, dims := [(1024, 1024)], rd := .g0, wr := .g1, rdom := .feed,
  reset := 0x0, fields := [⟨31, 0, .rw⟩] }
def LOOP_MAN_VALUE : Fld := ⟨LOOP_MAN, 31, 0⟩
/-- R183. -/
def LOOP_RSTEP : Reg := {
  blk := .loop, base := 0x4400012C, dims := [(1024, 1024)], rd := .g0, wr := .g0, rdom := .feed,
  reset := 0x0, fields := [⟨31, 0, .ro⟩] }
def LOOP_RSTEP_VALUE : Fld := ⟨LOOP_RSTEP, 31, 0⟩
/-- R183. -/
def LOOP_K : Reg := {
  blk := .loop, base := 0x44000140, dims := [(1024, 1024), (16, 4)], rd := .g0, wr := .g1, rdom := .feed,
  reset := 0x0, fields := [⟨31, 0, .rw⟩] }
def LOOP_K_VALUE : Fld := ⟨LOOP_K, 31, 0⟩
/-- R183. -/
def LOOP_S : Reg := {
  blk := .loop, base := 0x44000180, dims := [(1024, 1024), (64, 4)], rd := .g0, wr := .g1, rdom := .feed,
  reset := 0x0, fields := [⟨31, 0, .rw⟩] }
def LOOP_S_STATE : Fld := ⟨LOOP_S, 31, 0⟩
/-- R183. -/
def LOOP_LUT0 : Reg := {
  blk := .loop, base := 0x44000280, dims := [(1024, 1024), (17, 4)], rd := .g0, wr := .g1, rdom := .feed,
  reset := 0x0, fields := [⟨31, 0, .rw⟩] }
def LOOP_LUT0_VALUE : Fld := ⟨LOOP_LUT0, 31, 0⟩
/-- R183. -/
def LOOP_LUT1 : Reg := {
  blk := .loop, base := 0x440002C4, dims := [(1024, 1024), (17, 4)], rd := .g0, wr := .g1, rdom := .feed,
  reset := 0x0, fields := [⟨31, 0, .rw⟩] }
def LOOP_LUT1_VALUE : Fld := ⟨LOOP_LUT1, 31, 0⟩
/-- R183. -/
def LOOP_DLY : Reg := {
  blk := .loop, base := 0x44000310, dims := [(1024, 1024), (16, 4)], rd := .g0, wr := .g0, rdom := .feed,
  reset := 0x0, fields := [⟨31, 0, .ro⟩] }
def LOOP_DLY_VALUE : Fld := ⟨LOOP_DLY, 31, 0⟩
/-- R183. -/
def LOOP_INB : Reg := {
  blk := .loop, base := 0x44000350, dims := [(1024, 1024), (16, 4)], rd := .g0, wr := .g2, rdom := .feed,
  reset := 0x0, fields := [⟨31, 31, .rw⟩, ⟨17, 0, .rw⟩] }
def LOOP_INB_EN : Fld := ⟨LOOP_INB, 31, 31⟩
def LOOP_INB_SID : Fld := ⟨LOOP_INB, 17, 0⟩
/-- R183. -/
def LOOP_OUTB : Reg := {
  blk := .loop, base := 0x44000390, dims := [(1024, 1024), (4, 4)], rd := .g0, wr := .g2, rdom := .feed,
  reset := 0x0, fields := [⟨31, 28, .rw⟩, ⟨17, 0, .rw⟩] }
def LOOP_OUTB_KIND : Fld := ⟨LOOP_OUTB, 31, 28⟩
def LOOP_OUTB_TARGET : Fld := ⟨LOOP_OUTB, 17, 0⟩
/-- R183. -/
def LOOP_CFG : Reg := {
  blk := .loop, base := 0x440003A0, dims := [(1024, 1024)], rd := .g0, wr := .g2, rdom := .feed,
  reset := 0x0, fields := [⟨31, 31, .ro⟩, ⟨19, 16, .rw⟩, ⟨13, 12, .rw⟩, ⟨10, 8, .rw⟩, ⟨6, 0, .rw⟩] }
def LOOP_CFG_BOUND : Fld := ⟨LOOP_CFG, 31, 31⟩
def LOOP_CFG_PVSLOT : Fld := ⟨LOOP_CFG, 19, 16⟩
def LOOP_CFG_LANE : Fld := ⟨LOOP_CFG, 13, 12⟩
def LOOP_CFG_CLASS : Fld := ⟨LOOP_CFG, 10, 8⟩
def LOOP_CFG_NOPS : Fld := ⟨LOOP_CFG, 6, 0⟩
/-- R183. -/
def LOOP_SATF : Reg := {
  blk := .loop, base := 0x440003A4, dims := [(1024, 1024)], rd := .g0, wr := .g1, rdom := .feed,
  reset := 0x0, fields := [⟨20, 16, (.w1cTo 0)⟩, ⟨12, 8, .ro⟩, ⟨4, 4, .rs⟩, ⟨3, 3, .rs⟩, ⟨2, 2, .rs⟩, ⟨1, 1, .rs⟩, ⟨0, 0, .rs⟩] }
def LOOP_SATF_CLR : Fld := ⟨LOOP_SATF, 20, 16⟩
def LOOP_SATF_LAST : Fld := ⟨LOOP_SATF, 12, 8⟩
def LOOP_SATF_LATE : Fld := ⟨LOOP_SATF, 4, 4⟩
def LOOP_SATF_LIM : Fld := ⟨LOOP_SATF, 3, 3⟩
def LOOP_SATF_INT : Fld := ⟨LOOP_SATF, 2, 2⟩
def LOOP_SATF_MUL : Fld := ⟨LOOP_SATF, 1, 1⟩
def LOOP_SATF_ADD : Fld := ⟨LOOP_SATF, 0, 0⟩
/-- R183. -/
def LOOP_LATECNT : Reg := {
  blk := .loop, base := 0x440003A8, dims := [(1024, 1024)], rd := .g0, wr := .g0, rdom := .feed,
  reset := 0x0, fields := [⟨31, 0, .ro⟩] }
def LOOP_LATECNT_COUNT : Fld := ⟨LOOP_LATECNT, 31, 0⟩
/-- R183. -/
def LOOP_EXECCNT : Reg := {
  blk := .loop, base := 0x440003AC, dims := [(1024, 1024)], rd := .g0, wr := .g0, rdom := .feed,
  reset := 0x0, fields := [⟨31, 0, .ro⟩] }
def LOOP_EXECCNT_COUNT : Fld := ⟨LOOP_EXECCNT, 31, 0⟩
/-- R183. -/
def LOOP_WCF : Reg := {
  blk := .loop, base := 0x440003B0, dims := [(1024, 1024)], rd := .g0, wr := .g0, rdom := .feed,
  reset := 0x0, fields := [⟨27, 16, .ro⟩, ⟨15, 15, .ro⟩, ⟨14, 0, .ro⟩] }
def LOOP_WCF_SLOT : Fld := ⟨LOOP_WCF, 27, 16⟩
def LOOP_WCF_PREDLATE : Fld := ⟨LOOP_WCF, 15, 15⟩
def LOOP_WCF_WCF : Fld := ⟨LOOP_WCF, 14, 0⟩
/-- R365. -/
def RT_CTL : Reg := {
  blk := .cpu, base := 0x40168000, dims := [], rd := .g0, wr := .g1, rdom := .block,
  reset := 0x0, fields := [⟨0, 0, .rw⟩] }
def RT_CTL_DBGHOLD : Fld := ⟨RT_CTL, 0, 0⟩
/-- R365. -/
def RT_STAT : Reg := {
  blk := .cpu, base := 0x40168004, dims := [], rd := .g0, wr := .g1, rdom := .feed,
  reset := 0x40, fields := [⟨18, 16, (.w1cTo 8)⟩, ⟨10, 10, .rs⟩, ⟨9, 9, .rs⟩, ⟨8, 8, .rs⟩, ⟨6, 6, .ro⟩, ⟨5, 5, .ro⟩, ⟨4, 4, .ro⟩, ⟨1, 0, .ro⟩] }
def RT_STAT_CLR : Fld := ⟨RT_STAT, 18, 16⟩
def RT_STAT_JCOALF : Fld := ⟨RT_STAT, 10, 10⟩
def RT_STAT_LATEF : Fld := ⟨RT_STAT, 9, 9⟩
def RT_STAT_OVRF : Fld := ⟨RT_STAT, 8, 8⟩
def RT_STAT_DURABLE : Fld := ⟨RT_STAT, 6, 6⟩
def RT_STAT_READY : Fld := ⟨RT_STAT, 5, 5⟩
def RT_STAT_ACTIVE : Fld := ⟨RT_STAT, 4, 4⟩
def RT_STAT_STATE : Fld := ⟨RT_STAT, 1, 0⟩
/-- R365. -/
def RT_AREA : Reg := {
  blk := .cpu, base := 0x40168008, dims := [], rd := .g0, wr := .g2, rdom := .feed,
  reset := 0x0, fields := [⟨9, 0, .lk⟩] }
def RT_AREA_BASE : Fld := ⟨RT_AREA, 9, 0⟩
/-- R365. -/
def RT_RETAIN : Reg := {
  blk := .cpu, base := 0x4016800C, dims := [], rd := .g0, wr := .g2, rdom := .feed,
  reset := 0x0, fields := [⟨25, 16, .lk⟩, ⟨7, 0, .lk⟩] }
def RT_RETAIN_BASE : Fld := ⟨RT_RETAIN, 25, 16⟩
def RT_RETAIN_SIZE : Fld := ⟨RT_RETAIN, 7, 0⟩
/-- R365. -/
def RT_LOAD_SRC : Reg := {
  blk := .cpu, base := 0x40168010, dims := [], rd := .g0, wr := .g2, rdom := .block,
  reset := 0x0, fields := [⟨31, 0, .rw⟩] }
def RT_LOAD_SRC_ADDR : Fld := ⟨RT_LOAD_SRC, 31, 0⟩
/-- R365. -/
def RT_LOAD_LEN : Reg := {
  blk := .cpu, base := 0x40168014, dims := [], rd := .g0, wr := .g2, rdom := .block,
  reset := 0x0, fields := [⟨22, 0, .rw⟩] }
def RT_LOAD_LEN_LEN : Fld := ⟨RT_LOAD_LEN, 22, 0⟩
/-- R365. -/
def RT_CMD : Reg := {
  blk := .cpu, base := 0x40168018, dims := [], rd := .g0, wr := .g2, rdom := .block,
  reset := 0x0, fields := [⟨31, 31, .w1s⟩, ⟨17, 16, .rw⟩, ⟨2, 0, .rw⟩] }
def RT_CMD_GO : Fld := ⟨RT_CMD, 31, 31⟩
def RT_CMD_ALIGN : Fld := ⟨RT_CMD, 17, 16⟩
def RT_CMD_OP : Fld := ⟨RT_CMD, 2, 0⟩
/-- R365. -/
def RT_CMDSTAT : Reg := {
  blk := .cpu, base := 0x4016801C, dims := [], rd := .g0, wr := .g0, rdom := .block,
  reset := 0x0, fields := [⟨31, 31, .ro⟩, ⟨30, 30, .ro⟩, ⟨29, 26, .ro⟩, ⟨15, 0, .ro⟩] }
def RT_CMDSTAT_BUSY : Fld := ⟨RT_CMDSTAT, 31, 31⟩
def RT_CMDSTAT_DONE : Fld := ⟨RT_CMDSTAT, 30, 30⟩
def RT_CMDSTAT_ERR : Fld := ⟨RT_CMDSTAT, 29, 26⟩
def RT_CMDSTAT_BADREC : Fld := ⟨RT_CMDSTAT, 15, 0⟩
/-- R365. -/
def RT_ERRCAUSE : Reg := {
  blk := .cpu, base := 0x40168020, dims := [], rd := .g0, wr := .g0, rdom := .block,
  reset := 0x0, fields := [⟨7, 0, .ro⟩] }
def RT_ERRCAUSE_PEND : Fld := ⟨RT_ERRCAUSE, 7, 0⟩
/-- R365. -/
def RT_PROGVER : Reg := {
  blk := .cpu, base := 0x40168024, dims := [], rd := .g0, wr := .g0, rdom := .feed,
  reset := 0x0, fields := [⟨31, 0, .ro⟩] }
def RT_PROGVER_PROGVER : Fld := ⟨RT_PROGVER, 31, 0⟩
/-- R365. -/
def RT_OVRTOT : Reg := {
  blk := .cpu, base := 0x40168030, dims := [], rd := .g0, wr := .g0, rdom := .block,
  reset := 0x0, fields := [⟨31, 0, .ro⟩] }
def RT_OVRTOT_COUNT : Fld := ⟨RT_OVRTOT, 31, 0⟩
/-- R365. -/
def RT_LATETOT : Reg := {
  blk := .cpu, base := 0x40168034, dims := [], rd := .g0, wr := .g0, rdom := .block,
  reset := 0x0, fields := [⟨31, 0, .ro⟩] }
def RT_LATETOT_COUNT : Fld := ⟨RT_LATETOT, 31, 0⟩
/-- R365. -/
def RT_SKIPTOT : Reg := {
  blk := .cpu, base := 0x40168038, dims := [], rd := .g0, wr := .g0, rdom := .block,
  reset := 0x0, fields := [⟨31, 0, .ro⟩] }
def RT_SKIPTOT_COUNT : Fld := ⟨RT_SKIPTOT, 31, 0⟩
/-- R365. -/
def RT_EVLOST : Reg := {
  blk := .cpu, base := 0x4016803C, dims := [], rd := .g0, wr := .g0, rdom := .block,
  reset := 0x0, fields := [⟨31, 0, .ro⟩] }
def RT_EVLOST_COUNT : Fld := ⟨RT_EVLOST, 31, 0⟩
/-- R365. -/
def RT_JSETS : Reg := {
  blk := .cpu, base := 0x40168040, dims := [], rd := .g0, wr := .g0, rdom := .block,
  reset := 0x0, fields := [⟨31, 0, .ro⟩] }
def RT_JSETS_COUNT : Fld := ⟨RT_JSETS, 31, 0⟩
/-- R365. -/
def RT_JCOAL : Reg := {
  blk := .cpu, base := 0x40168044, dims := [], rd := .g0, wr := .g0, rdom := .block,
  reset := 0x0, fields := [⟨31, 0, .ro⟩] }
def RT_JCOAL_COUNT : Fld := ⟨RT_JCOAL, 31, 0⟩
/-- R365. -/
def RT_T_STAT : Reg := {
  blk := .cpu, base := 0x40168100, dims := [(13, 32)], rd := .g0, wr := .g1, rdom := .block,
  reset := 0x0, fields := [⟨18, 16, (.w1cTo 9)⟩, ⟨12, 12, .ro⟩, ⟨11, 11, .rs⟩, ⟨10, 10, .rs⟩, ⟨9, 9, .rs⟩, ⟨3, 0, .ro⟩] }
def RT_T_STAT_CLR : Fld := ⟨RT_T_STAT, 18, 16⟩
def RT_T_STAT_TORN : Fld := ⟨RT_T_STAT, 12, 12⟩
def RT_T_STAT_FAULT : Fld := ⟨RT_T_STAT, 11, 11⟩
def RT_T_STAT_LATE : Fld := ⟨RT_T_STAT, 10, 10⟩
def RT_T_STAT_OVR : Fld := ⟨RT_T_STAT, 9, 9⟩
def RT_T_STAT_STATE : Fld := ⟨RT_T_STAT, 3, 0⟩
/-- R365. -/
def RT_T_CYC : Reg := {
  blk := .cpu, base := 0x40168104, dims := [(13, 32)], rd := .g0, wr := .g0, rdom := .block,
  reset := 0x0, fields := [⟨31, 0, .ro⟩] }
def RT_T_CYC_VALUE : Fld := ⟨RT_T_CYC, 31, 0⟩
/-- R365. -/
def RT_T_RUN : Reg := {
  blk := .cpu, base := 0x40168108, dims := [(13, 32)], rd := .g0, wr := .g0, rdom := .block,
  reset := 0x0, fields := [⟨31, 0, .ro⟩] }
def RT_T_RUN_VALUE : Fld := ⟨RT_T_RUN, 31, 0⟩
/-- R365. -/
def RT_T_JSEQ : Reg := {
  blk := .cpu, base := 0x4016810C, dims := [(13, 32)], rd := .g0, wr := .g0, rdom := .feed,
  reset := 0x0, fields := [⟨31, 0, .ro⟩] }
def RT_T_JSEQ_VALUE : Fld := ⟨RT_T_JSEQ, 31, 0⟩
/-- R365. -/
def RT_T_EVT : Reg := {
  blk := .cpu, base := 0x40168110, dims := [(13, 32)], rd := .g0, wr := .g1, rdom := .block,
  reset := 0x0, fields := [⟨0, 0, .w1s⟩] }
def RT_T_EVT_GO : Fld := ⟨RT_T_EVT, 0, 0⟩
/-- R407. -/
def CPU_C_CTL : Reg := {
  blk := .cpu, base := 0x40160000, dims := [(16, 32)], rd := .g0, wr := .g2, rdom := .block,
  reset := 0x0, fields := [⟨3, 3, .w1s⟩, ⟨2, 2, .w1s⟩, ⟨1, 1, .w1s⟩, ⟨0, 0, .w1s⟩] }
def CPU_C_CTL_RESET : Fld := ⟨CPU_C_CTL, 3, 3⟩
def CPU_C_CTL_STEP : Fld := ⟨CPU_C_CTL, 2, 2⟩
def CPU_C_CTL_RESUME : Fld := ⟨CPU_C_CTL, 1, 1⟩
def CPU_C_CTL_HALT : Fld := ⟨CPU_C_CTL, 0, 0⟩
/-- R407. -/
def CPU_C_STAT : Reg := {
  blk := .cpu, base := 0x40160004, dims := [(16, 32)], rd := .g0, wr := .g2, rdom := .block,
  reset := 0x0, fields := [⟨16, 16, (.w1cTo 8)⟩, ⟨8, 8, .rs⟩, ⟨7, 4, .ro⟩, ⟨2, 0, .ro⟩] }
def CPU_C_STAT_DFLT_CLR : Fld := ⟨CPU_C_STAT, 16, 16⟩
def CPU_C_STAT_DFLT : Fld := ⟨CPU_C_STAT, 8, 8⟩
def CPU_C_STAT_LASTCAUSE : Fld := ⟨CPU_C_STAT, 7, 4⟩
def CPU_C_STAT_STATE : Fld := ⟨CPU_C_STAT, 2, 0⟩
/-- R407. -/
def CPU_C_PC : Reg := {
  blk := .cpu, base := 0x40160008, dims := [(16, 32)], rd := .g0, wr := .g0, rdom := .block,
  reset := 0x0, fields := [⟨31, 0, .ro⟩] }
def CPU_C_PC_VALUE : Fld := ⟨CPU_C_PC, 31, 0⟩
/-- R407. -/
def CPU_C_G : Reg := {
  blk := .cpu, base := 0x40161000, dims := [(16, 128), (32, 4)], rd := .g0, wr := .g2, rdom := .block,
  reset := 0x0, fields := [⟨31, 0, .rw⟩] }
def CPU_C_G_VALUE : Fld := ⟨CPU_C_G, 31, 0⟩
/-- R428. -/
def DISP_CTL : Reg := {
  blk := .disp, base := 0x40040000, dims := [], rd := .g0, wr := .g1, rdom := .block,
  reset := 0x0, fields := [⟨8, 8, .w1cCtl⟩, ⟨0, 0, .rw⟩] }
def DISP_CTL_HWMCLR : Fld := ⟨DISP_CTL, 8, 8⟩
def DISP_CTL_DBGHOLD : Fld := ⟨DISP_CTL, 0, 0⟩
/-- R428. -/
def DISP_STAT : Reg := {
  blk := .disp, base := 0x40040004, dims := [], rd := .g0, wr := .g1, rdom := .block,
  reset := 0x0, fields := [⟨18, 16, (.w1cTo 0)⟩, ⟨3, 3, .ro⟩, ⟨2, 2, .rs⟩, ⟨1, 1, .rs⟩, ⟨0, 0, .rs⟩] }
def DISP_STAT_CLR : Fld := ⟨DISP_STAT, 18, 16⟩
def DISP_STAT_CFGERR : Fld := ⟨DISP_STAT, 3, 3⟩
def DISP_STAT_RINGOVRF : Fld := ⟨DISP_STAT, 2, 2⟩
def DISP_STAT_NXTERRF : Fld := ⟨DISP_STAT, 1, 1⟩
def DISP_STAT_BUSYF : Fld := ⟨DISP_STAT, 0, 0⟩
/-- R428. -/
def DISP_DTAB : Reg := {
  blk := .disp, base := 0x40040008, dims := [], rd := .g0, wr := .g2, rdom := .feed,
  reset := 0x0, fields := [⟨9, 0, .lk⟩] }
def DISP_DTAB_BASE : Fld := ⟨DISP_DTAB, 9, 0⟩
/-- R428. -/
def DISP_CRING : Reg := {
  blk := .disp, base := 0x4004000C, dims := [], rd := .g0, wr := .g2, rdom := .feed,
  reset := 0x0, fields := [⟨9, 0, .lk⟩] }
def DISP_CRING_BASE : Fld := ⟨DISP_CRING, 9, 0⟩
/-- R428. -/
def DISP_CRING_WR : Reg := {
  blk := .disp, base := 0x40040010, dims := [], rd := .g0, wr := .g0, rdom := .block,
  reset := 0x0, fields := [⟨11, 0, .ro⟩] }
def DISP_CRING_WR_INDEX : Fld := ⟨DISP_CRING_WR, 11, 0⟩
/-- R428. -/
def DISP_CRING_RD : Reg := {
  blk := .disp, base := 0x40040014, dims := [], rd := .g0, wr := .g1, rdom := .block,
  reset := 0x0, fields := [⟨11, 0, .rw⟩] }
def DISP_CRING_RD_INDEX : Fld := ⟨DISP_CRING_RD, 11, 0⟩
/-- R428. -/
def DISP_CMD : Reg := {
  blk := .disp, base := 0x40040020, dims := [], rd := .g0, wr := .g1, rdom := .block,
  reset := 0x0, fields := [⟨30, 28, .wo⟩, ⟨17, 16, .wo⟩, ⟨11, 0, .wo⟩] }
def DISP_CMD_OP : Fld := ⟨DISP_CMD, 30, 28⟩
def DISP_CMD_SLOT : Fld := ⟨DISP_CMD, 17, 16⟩
def DISP_CMD_DESC : Fld := ⟨DISP_CMD, 11, 0⟩
/-- R428. -/
def DISP_CMDVAL : Reg := {
  blk := .disp, base := 0x40040024, dims := [], rd := .g0, wr := .g1, rdom := .block,
  reset := 0x0, fields := [⟨31, 0, .rw⟩] }
def DISP_CMDVAL_VALUE : Fld := ⟨DISP_CMDVAL, 31, 0⟩
/-- R428. -/
def DISP_CMDRES : Reg := {
  blk := .disp, base := 0x40040028, dims := [], rd := .g0, wr := .g0, rdom := .block,
  reset := 0x0, fields := [⟨31, 31, .ro⟩, ⟨30, 30, .ro⟩, ⟨23, 16, .ro⟩, ⟨11, 0, .ro⟩] }
def DISP_CMDRES_BUSY : Fld := ⟨DISP_CMDRES, 31, 31⟩
def DISP_CMDRES_DONE : Fld := ⟨DISP_CMDRES, 30, 30⟩
def DISP_CMDRES_CODE : Fld := ⟨DISP_CMDRES, 23, 16⟩
def DISP_CMDRES_DESC : Fld := ⟨DISP_CMDRES, 11, 0⟩
/-- R428. -/
def DISP_NST_0 : Reg := {
  blk := .disp, base := 0x40040030, dims := [], rd := .g0, wr := .g0, rdom := .block,
  reset := 0x1000, fields := [⟨28, 16, .ro⟩, ⟨12, 0, .ro⟩] }
def DISP_NST_0_NIDLE : Fld := ⟨DISP_NST_0, 28, 16⟩
def DISP_NST_0_NFREE : Fld := ⟨DISP_NST_0, 12, 0⟩
/-- R428. -/
def DISP_NST_1 : Reg := {
  blk := .disp, base := 0x40040034, dims := [], rd := .g0, wr := .g0, rdom := .block,
  reset := 0x0, fields := [⟨28, 16, .ro⟩, ⟨12, 0, .ro⟩] }
def DISP_NST_1_NDELAY : Fld := ⟨DISP_NST_1, 28, 16⟩
def DISP_NST_1_NWAIT : Fld := ⟨DISP_NST_1, 12, 0⟩
/-- R428. -/
def DISP_NST_2 : Reg := {
  blk := .disp, base := 0x40040038, dims := [], rd := .g0, wr := .g0, rdom := .block,
  reset := 0x0, fields := [⟨28, 16, .ro⟩, ⟨12, 0, .ro⟩] }
def DISP_NST_2_NSLOT : Fld := ⟨DISP_NST_2, 28, 16⟩
def DISP_NST_2_NREADY : Fld := ⟨DISP_NST_2, 12, 0⟩
/-- R428. -/
def DISP_NST_3 : Reg := {
  blk := .disp, base := 0x4004003C, dims := [], rd := .g0, wr := .g0, rdom := .block,
  reset := 0x0, fields := [⟨12, 0, .ro⟩] }
def DISP_NST_3_NRUN : Fld := ⟨DISP_NST_3, 12, 0⟩
/-- R428. -/
def DISP_RDY : Reg := {
  blk := .disp, base := 0x40040040, dims := [(8, 4)], rd := .g0, wr := .g0, rdom := .block,
  reset := 0x0, fields := [⟨28, 16, .ro⟩, ⟨12, 0, .ro⟩] }
def DISP_RDY_HWM : Fld := ⟨DISP_RDY, 28, 16⟩
def DISP_RDY_COUNT : Fld := ⟨DISP_RDY, 12, 0⟩
/-- R428. -/
def DISP_DL : Reg := {
  blk := .disp, base := 0x40040060, dims := [(4, 4)], rd := .g0, wr := .g0, rdom := .block,
  reset := 0x0, fields := [⟨28, 16, .ro⟩, ⟨12, 0, .ro⟩] }
def DISP_DL_HWM : Fld := ⟨DISP_DL, 28, 16⟩
def DISP_DL_COUNT : Fld := ⟨DISP_DL, 12, 0⟩
/-- R428. -/
def DISP_STARTS : Reg := {
  blk := .disp, base := 0x40040070, dims := [], rd := .g0, wr := .g0, rdom := .block,
  reset := 0x0, fields := [⟨31, 0, .ro⟩] }
def DISP_STARTS_COUNT : Fld := ⟨DISP_STARTS, 31, 0⟩
/-- R428. -/
def DISP_BUSYTOT : Reg := {
  blk := .disp, base := 0x40040074, dims := [], rd := .g0, wr := .g0, rdom := .block,
  reset := 0x0, fields := [⟨31, 0, .ro⟩] }
def DISP_BUSYTOT_COUNT : Fld := ⟨DISP_BUSYTOT, 31, 0⟩
/-- R428. -/
def DISP_NXTERR : Reg := {
  blk := .disp, base := 0x40040078, dims := [], rd := .g0, wr := .g0, rdom := .block,
  reset := 0x0, fields := [⟨31, 0, .ro⟩] }
def DISP_NXTERR_COUNT : Fld := ⟨DISP_NXTERR, 31, 0⟩
/-- R428. -/
def DISP_RINGOVR : Reg := {
  blk := .disp, base := 0x4004007C, dims := [], rd := .g0, wr := .g0, rdom := .block,
  reset := 0x0, fields := [⟨31, 0, .ro⟩] }
def DISP_RINGOVR_COUNT : Fld := ⟨DISP_RINGOVR, 31, 0⟩
/-- R428. -/
def DISP_DOM : Reg := {
  blk := .disp, base := 0x40040100, dims := [(256, 4)], rd := .g0, wr := .g2, rdom := .feed,
  reset := 0x0, fields := [⟨31, 31, .lk⟩, ⟨28, 16, .ro⟩, ⟨0, 0, .ro⟩] }
def DISP_DOM_SERIAL : Fld := ⟨DISP_DOM, 31, 31⟩
def DISP_DOM_NREADY : Fld := ⟨DISP_DOM, 28, 16⟩
def DISP_DOM_ACTIVE : Fld := ⟨DISP_DOM, 0, 0⟩
/-- R428. -/
def DISP_CORE_CFG : Reg := {
  blk := .disp, base := 0x40040800, dims := [(16, 32)], rd := .g0, wr := .g2, rdom := .feed,
  reset := 0x0, fields := [⟨0, 0, .rw⟩] }
def DISP_CORE_CFG_HINT : Fld := ⟨DISP_CORE_CFG, 0, 0⟩
/-- R428. -/
def DISP_CORE_CTL : Reg := {
  blk := .disp, base := 0x40040804, dims := [(16, 32)], rd := .g0, wr := .g1, rdom := .block,
  reset := 0x0, fields := [⟨8, 8, .ro⟩, ⟨1, 1, .w1s⟩, ⟨0, 0, .w1s⟩] }
def DISP_CORE_CTL_MEMBER : Fld := ⟨DISP_CORE_CTL, 8, 8⟩
def DISP_CORE_CTL_LEAVE : Fld := ⟨DISP_CORE_CTL, 1, 1⟩
def DISP_CORE_CTL_JOIN : Fld := ⟨DISP_CORE_CTL, 0, 0⟩
/-- R428. -/
def DISP_CORE_LVPC : Reg := {
  blk := .disp, base := 0x40040808, dims := [(16, 32)], rd := .g0, wr := .g1, rdom := .block,
  reset := 0x0, fields := [⟨31, 2, .rw⟩] }
def DISP_CORE_LVPC_ADDR : Fld := ⟨DISP_CORE_LVPC, 31, 2⟩
/-- R428. -/
def DISP_CORE_SLOT : Reg := {
  blk := .disp, base := 0x4004080C, dims := [(16, 32)], rd := .g0, wr := .g0, rdom := .block,
  reset := 0x0, fields := [⟨31, 31, .ro⟩, ⟨27, 16, .ro⟩, ⟨15, 15, .ro⟩, ⟨11, 0, .ro⟩] }
def DISP_CORE_SLOT_V1 : Fld := ⟨DISP_CORE_SLOT, 31, 31⟩
def DISP_CORE_SLOT_D1 : Fld := ⟨DISP_CORE_SLOT, 27, 16⟩
def DISP_CORE_SLOT_V0 : Fld := ⟨DISP_CORE_SLOT, 15, 15⟩
def DISP_CORE_SLOT_D0 : Fld := ⟨DISP_CORE_SLOT, 11, 0⟩
/-- R428. -/
def DISP_CORE_RUN : Reg := {
  blk := .disp, base := 0x40040810, dims := [(16, 32)], rd := .g0, wr := .g0, rdom := .block,
  reset := 0x0, fields := [⟨31, 31, .ro⟩, ⟨18, 16, .ro⟩, ⟨11, 0, .ro⟩] }
def DISP_CORE_RUN_VALID : Fld := ⟨DISP_CORE_RUN, 31, 31⟩
def DISP_CORE_RUN_PRIO : Fld := ⟨DISP_CORE_RUN, 18, 16⟩
def DISP_CORE_RUN_DESC : Fld := ⟨DISP_CORE_RUN, 11, 0⟩
/-- R428. -/
def DISP_HIST_H : Reg := {
  blk := .disp, base := 0x40042000, dims := [(8, 64), (16, 4)], rd := .g0, wr := .g0, rdom := .block,
  reset := 0x0, fields := [⟨31, 0, .ro⟩] }
/-- R428. -/
def DISP_MAXW_H : Reg := {
  blk := .disp, base := 0x40042200, dims := [(8, 4)], rd := .g0, wr := .g0, rdom := .block,
  reset := 0x0, fields := [⟨31, 0, .ro⟩] }
/-- R428. -/
def DISP_BUSY_LO_H : Reg := {
  blk := .disp, base := 0x40042400, dims := [(16, 16)], rd := .g0, wr := .g0, rdom := .block,
  reset := 0x0, fields := [⟨31, 0, .ro⟩] }
/-- R428. -/
def DISP_BUSY_HI_H : Reg := {
  blk := .disp, base := 0x40042404, dims := [(16, 16)], rd := .g0, wr := .g0, rdom := .block,
  reset := 0x0, fields := [⟨31, 0, .ro⟩] }
/-- R428. -/
def DISP_D : Reg := {
  blk := .disp, base := 0x40044000, dims := [(4096, 4)], rd := .g0, wr := .g0, rdom := .block,
  reset := 0x0, fields := [⟨31, 29, .ro⟩, ⟨27, 24, .ro⟩, ⟨22, 20, .ro⟩, ⟨19, 16, .ro⟩] }
def DISP_D_STATE : Fld := ⟨DISP_D, 31, 29⟩
def DISP_D_FILLED : Fld := ⟨DISP_D, 27, 24⟩
def DISP_D_PRIO : Fld := ⟨DISP_D, 22, 20⟩
def DISP_D_CORE : Fld := ⟨DISP_D, 19, 16⟩
/-- R184. -/
def LOOP_OP : Reg := {
  blk := .loop, base := 0x44100000, dims := [(1024, 512), (128, 4)], rd := .g0, wr := .g2, rdom := .feed,
  reset := 0x0, fields := [⟨31, 0, .rw⟩] }
def LOOP_OP_WORD : Fld := ⟨LOOP_OP, 31, 0⟩
/-- R151. -/
def RCP_ISSUED_H : Reg := {
  blk := .rcp, base := 0x40060060, dims := [], rd := .g0, wr := .g0, rdom := .block,
  reset := 0x0, fields := [⟨31, 0, .ro⟩] }
/-- R151. -/
def RCP_DONE_H : Reg := {
  blk := .rcp, base := 0x40060064, dims := [], rd := .g0, wr := .g0, rdom := .block,
  reset := 0x0, fields := [⟨31, 0, .ro⟩] }
/-- R151. -/
def RCP_FAILED_H : Reg := {
  blk := .rcp, base := 0x40060068, dims := [], rd := .g0, wr := .g0, rdom := .block,
  reset := 0x0, fields := [⟨31, 0, .ro⟩] }
/-- R151. -/
def RCP_RINGOVR_H : Reg := {
  blk := .rcp, base := 0x4006006C, dims := [], rd := .g0, wr := .g0, rdom := .block,
  reset := 0x0, fields := [⟨31, 0, .ro⟩] }
/-- R151. -/
def RCP_JSKIP_H : Reg := {
  blk := .rcp, base := 0x40060070, dims := [], rd := .g0, wr := .g0, rdom := .block,
  reset := 0x0, fields := [⟨31, 0, .ro⟩] }
/-- R365. -/
def RT_OVRTOT_H : Reg := {
  blk := .cpu, base := 0x40168050, dims := [], rd := .g0, wr := .g0, rdom := .block,
  reset := 0x0, fields := [⟨31, 0, .ro⟩] }
/-- R365. -/
def RT_LATETOT_H : Reg := {
  blk := .cpu, base := 0x40168054, dims := [], rd := .g0, wr := .g0, rdom := .block,
  reset := 0x0, fields := [⟨31, 0, .ro⟩] }
/-- R365. -/
def RT_SKIPTOT_H : Reg := {
  blk := .cpu, base := 0x40168058, dims := [], rd := .g0, wr := .g0, rdom := .block,
  reset := 0x0, fields := [⟨31, 0, .ro⟩] }
/-- R365. -/
def RT_EVLOST_H : Reg := {
  blk := .cpu, base := 0x4016805C, dims := [], rd := .g0, wr := .g0, rdom := .block,
  reset := 0x0, fields := [⟨31, 0, .ro⟩] }
/-- R365. -/
def RT_JSETS_H : Reg := {
  blk := .cpu, base := 0x40168060, dims := [], rd := .g0, wr := .g0, rdom := .block,
  reset := 0x0, fields := [⟨31, 0, .ro⟩] }
/-- R365. -/
def RT_JCOAL_H : Reg := {
  blk := .cpu, base := 0x40168064, dims := [], rd := .g0, wr := .g0, rdom := .block,
  reset := 0x0, fields := [⟨31, 0, .ro⟩] }
/-- R428. -/
def DISP_NST_0_H : Reg := {
  blk := .disp, base := 0x40042600, dims := [], rd := .g0, wr := .g0, rdom := .block,
  reset := 0x1000, fields := [⟨28, 16, .ro⟩, ⟨12, 0, .ro⟩] }
/-- R428. -/
def DISP_NST_1_H : Reg := {
  blk := .disp, base := 0x40042604, dims := [], rd := .g0, wr := .g0, rdom := .block,
  reset := 0x0, fields := [⟨28, 16, .ro⟩, ⟨12, 0, .ro⟩] }
/-- R428. -/
def DISP_NST_2_H : Reg := {
  blk := .disp, base := 0x40042608, dims := [], rd := .g0, wr := .g0, rdom := .block,
  reset := 0x0, fields := [⟨28, 16, .ro⟩, ⟨12, 0, .ro⟩] }
/-- R428. -/
def DISP_NST_3_H : Reg := {
  blk := .disp, base := 0x4004260C, dims := [], rd := .g0, wr := .g0, rdom := .block,
  reset := 0x0, fields := [⟨12, 0, .ro⟩] }
/-- R428. -/
def DISP_STARTS_C_H : Reg := {
  blk := .disp, base := 0x40042408, dims := [(16, 16)], rd := .g0, wr := .g0, rdom := .block,
  reset := 0x0, fields := [⟨31, 0, .ro⟩] }
/-- R428. -/
def DISP_STARTS_H : Reg := {
  blk := .disp, base := 0x40042610, dims := [], rd := .g0, wr := .g0, rdom := .block,
  reset := 0x0, fields := [⟨31, 0, .ro⟩] }
/-- R428. -/
def DISP_BUSYTOT_H : Reg := {
  blk := .disp, base := 0x40042614, dims := [], rd := .g0, wr := .g0, rdom := .block,
  reset := 0x0, fields := [⟨31, 0, .ro⟩] }
/-- R428. -/
def DISP_NXTERR_H : Reg := {
  blk := .disp, base := 0x40042618, dims := [], rd := .g0, wr := .g0, rdom := .block,
  reset := 0x0, fields := [⟨31, 0, .ro⟩] }
/-- R428. -/
def DISP_RINGOVR_H : Reg := {
  blk := .disp, base := 0x4004261C, dims := [], rd := .g0, wr := .g0, rdom := .block,
  reset := 0x0, fields := [⟨31, 0, .ro⟩] }
def rcpRegs0 : List Reg :=
  [RCP_CTL, RCP_STAT, RCP_POOL, RCP_RING, RCP_RING_WR, RCP_RING_RD, RCP_LOAD_SRC, RCP_LOAD_DST, RCP_LOAD_CNT, RCP_LOAD_STAT, RCP_RESUME, RCP_ISSUED, RCP_DONE, RCP_FAILED, RCP_RINGOVR, RCP_JSKIP, RCP_THR_CFG, RCP_THR_OPT, RCP_THR_CMD, RCP_THR_STEP, RCP_THR_TIS, RCP_THR_SEQ, RCP_THR_STATE, RCP_THR_INFL]
def rcpRegs1 : List Reg :=
  [RCP_THR_LCTR, RCP_ISSUED_H, RCP_DONE_H, RCP_FAILED_H, RCP_RINGOVR_H, RCP_JSKIP_H]
/-- The registers of the block RCP. -/
def rcpRegs : List Reg := rcpRegs0 ++ rcpRegs1
/-- Each counter of the block with its holding register (R73). -/
def rcpSnap : List (Reg × Reg) :=
  [(RCP_ISSUED, RCP_ISSUED_H), (RCP_DONE, RCP_DONE_H), (RCP_FAILED, RCP_FAILED_H), (RCP_RINGOVR, RCP_RINGOVR_H), (RCP_JSKIP, RCP_JSKIP_H)]
def loopRegs0 : List Reg :=
  [LOOP_CTL, LOOP_STAT, LOOP_FRAME, LOOP_CMD, LOOP_CHK, LOOP_CHK_LOAD, LOOP_LATETOT, LOOP_EXECTOT, LOOP_LATETOT_H, LOOP_EXECTOT_H, LOOP_CLS_PER, LOOP_CLS_OFS, LOOP_CLS_PH, LOOP_CLS_WCF, LOOP_EN, LOOP_AUTO, LOOP_BOUND, LOOP_LATE, LOOP_SATS, LOOP_W, LOOP_IV, LOOP_IS, LOOP_OS, LOOP_OR]
def loopRegs1 : List Reg :=
  [LOOP_SP, LOOP_SPT, LOOP_MAN, LOOP_RSTEP, LOOP_K, LOOP_S, LOOP_LUT0, LOOP_LUT1, LOOP_DLY, LOOP_INB, LOOP_OUTB, LOOP_CFG, LOOP_SATF, LOOP_LATECNT, LOOP_EXECCNT, LOOP_WCF, LOOP_OP]
/-- The registers of the block LOOP. -/
def loopRegs : List Reg := loopRegs0 ++ loopRegs1
/-- Each counter of the block with its holding register (R73). -/
def loopSnap : List (Reg × Reg) :=
  [(LOOP_LATETOT, LOOP_LATETOT_H), (LOOP_EXECTOT, LOOP_EXECTOT_H)]
def rtRegs0 : List Reg :=
  [RT_CTL, RT_STAT, RT_AREA, RT_RETAIN, RT_LOAD_SRC, RT_LOAD_LEN, RT_CMD, RT_CMDSTAT, RT_ERRCAUSE, RT_PROGVER, RT_OVRTOT, RT_LATETOT, RT_SKIPTOT, RT_EVLOST, RT_JSETS, RT_JCOAL, RT_T_STAT, RT_T_CYC, RT_T_RUN, RT_T_JSEQ, RT_T_EVT, RT_OVRTOT_H, RT_LATETOT_H, RT_SKIPTOT_H]
def rtRegs1 : List Reg :=
  [RT_EVLOST_H, RT_JSETS_H, RT_JCOAL_H]
/-- The registers of the block RT. -/
def rtRegs : List Reg := rtRegs0 ++ rtRegs1
/-- Each counter of the block with its holding register (R73). -/
def rtSnap : List (Reg × Reg) :=
  [(RT_OVRTOT, RT_OVRTOT_H), (RT_LATETOT, RT_LATETOT_H), (RT_SKIPTOT, RT_SKIPTOT_H), (RT_EVLOST, RT_EVLOST_H), (RT_JSETS, RT_JSETS_H), (RT_JCOAL, RT_JCOAL_H)]
def cpuRegs : List Reg :=
  [CPU_C_CTL, CPU_C_STAT, CPU_C_PC, CPU_C_G]
def dispRegs0 : List Reg :=
  [DISP_CTL, DISP_STAT, DISP_DTAB, DISP_CRING, DISP_CRING_WR, DISP_CRING_RD, DISP_CMD, DISP_CMDVAL, DISP_CMDRES, DISP_NST_0, DISP_NST_1, DISP_NST_2, DISP_NST_3, DISP_RDY, DISP_DL, DISP_STARTS, DISP_BUSYTOT, DISP_NXTERR, DISP_RINGOVR, DISP_DOM, DISP_CORE_CFG, DISP_CORE_CTL, DISP_CORE_LVPC, DISP_CORE_SLOT]
def dispRegs1 : List Reg :=
  [DISP_CORE_RUN, DISP_HIST_H, DISP_MAXW_H, DISP_BUSY_LO_H, DISP_BUSY_HI_H, DISP_D, DISP_NST_0_H, DISP_NST_1_H, DISP_NST_2_H, DISP_NST_3_H, DISP_STARTS_C_H, DISP_STARTS_H, DISP_BUSYTOT_H, DISP_NXTERR_H, DISP_RINGOVR_H]
/-- The registers of the block DISP. -/
def dispRegs : List Reg := dispRegs0 ++ dispRegs1
/-- Each counter of the block with its holding register (R73). -/
def dispSnap : List (Reg × Reg) :=
  [(DISP_NST_0, DISP_NST_0_H), (DISP_NST_1, DISP_NST_1_H), (DISP_NST_2, DISP_NST_2_H), (DISP_NST_3, DISP_NST_3_H), (DISP_STARTS, DISP_STARTS_H), (DISP_BUSYTOT, DISP_BUSYTOT_H), (DISP_NXTERR, DISP_NXTERR_H), (DISP_RINGOVR, DISP_RINGOVR_H)]

end Sys2Proof.Machine
end

