-- ==== Sys2Proof/Machine/RegsField.lean ====
section
/-!
DEFINITION. Register descriptors of the blocks RIO, SAR, RFA, ACQ, LENS, PWM, MOT, CAN,
each from the summary table and the field table of its chapter of spec/ (base address, index ranges,
guards, reset domain, fields with access code; `reset` joins the fields' reset values), and one name
per field. Reserved bits are those no field covers (02 R66).
-/
namespace Sys2Proof.Machine

/-- R207. -/
def LENS_RECTOT : Reg := {
  blk := .lens, base := 0x40120010, dims := [], rd := .g0, wr := .g0, rdom := .block,
  reset := 0x0, fields := [⟨31, 0, .ro⟩] }
def LENS_RECTOT_COUNT : Fld := ⟨LENS_RECTOT, 31, 0⟩
/-- R207. -/
def LENS_DROPTOT : Reg := {
  blk := .lens, base := 0x40120014, dims := [], rd := .g0, wr := .g0, rdom := .block,
  reset := 0x0, fields := [⟨31, 0, .ro⟩] }
def LENS_DROPTOT_COUNT : Fld := ⟨LENS_DROPTOT, 31, 0⟩
/-- R207. -/
def LENS_RECTOT_H : Reg := {
  blk := .lens, base := 0x40120020, dims := [], rd := .g0, wr := .g0, rdom := .block,
  reset := 0x0, fields := [⟨31, 0, .ro⟩] }
/-- R207. -/
def LENS_DROPTOT_H : Reg := {
  blk := .lens, base := 0x40120024, dims := [], rd := .g0, wr := .g0, rdom := .block,
  reset := 0x0, fields := [⟨31, 0, .ro⟩] }
/-- R207. -/
def LENS_CH_SRC : Reg := {
  blk := .lens, base := 0x40121000, dims := [(64, 64)], rd := .g0, wr := .g2, rdom := .feed,
  reset := 0x0, fields := [⟨31, 16, .rw⟩, ⟨9, 0, .rw⟩] }
def LENS_CH_SRC_MASK : Fld := ⟨LENS_CH_SRC, 31, 16⟩
def LENS_CH_SRC_LOOP : Fld := ⟨LENS_CH_SRC, 9, 0⟩
/-- R207. -/
def LENS_CH_BUF : Reg := {
  blk := .lens, base := 0x40121004, dims := [(64, 64)], rd := .g0, wr := .g2, rdom := .feed,
  reset := 0x0, fields := [⟨27, 16, .rw⟩, ⟨10, 0, .rw⟩] }
def LENS_CH_BUF_SIZE : Fld := ⟨LENS_CH_BUF, 27, 16⟩
def LENS_CH_BUF_BASE : Fld := ⟨LENS_CH_BUF, 10, 0⟩
/-- R207. -/
def LENS_CH_TRG : Reg := {
  blk := .lens, base := 0x40121008, dims := [(64, 64)], rd := .g0, wr := .g2, rdom := .feed,
  reset := 0x0, fields := [⟨28, 28, .rw⟩, ⟨27, 24, .rw⟩, ⟨19, 16, .rw⟩, ⟨15, 11, .rw⟩, ⟨10, 8, .rw⟩, ⟨7, 4, .rw⟩, ⟨3, 0, .rw⟩] }
def LENS_CH_TRG_FALL : Fld := ⟨LENS_CH_TRG, 28, 28⟩
def LENS_CH_TRG_GROUP : Fld := ⟨LENS_CH_TRG, 27, 24⟩
def LENS_CH_TRG_SEL : Fld := ⟨LENS_CH_TRG, 19, 16⟩
def LENS_CH_TRG_FLAGS : Fld := ⟨LENS_CH_TRG, 15, 11⟩
def LENS_CH_TRG_CMP : Fld := ⟨LENS_CH_TRG, 10, 8⟩
def LENS_CH_TRG_NODE : Fld := ⟨LENS_CH_TRG, 7, 4⟩
def LENS_CH_TRG_SRC : Fld := ⟨LENS_CH_TRG, 3, 0⟩
/-- R207. -/
def LENS_CH_THR : Reg := {
  blk := .lens, base := 0x4012100C, dims := [(64, 64)], rd := .g0, wr := .g2, rdom := .feed,
  reset := 0x0, fields := [⟨31, 0, .rw⟩] }
def LENS_CH_THR_THR : Fld := ⟨LENS_CH_THR, 31, 0⟩
/-- R207. -/
def LENS_CH_PRE : Reg := {
  blk := .lens, base := 0x40121010, dims := [(64, 64)], rd := .g0, wr := .g2, rdom := .feed,
  reset := 0x0, fields := [⟨19, 0, .rw⟩] }
def LENS_CH_PRE_COUNT : Fld := ⟨LENS_CH_PRE, 19, 0⟩
/-- R207. -/
def LENS_CH_POST : Reg := {
  blk := .lens, base := 0x40121014, dims := [(64, 64)], rd := .g0, wr := .g2, rdom := .feed,
  reset := 0x0, fields := [⟨19, 0, .rw⟩] }
def LENS_CH_POST_COUNT : Fld := ⟨LENS_CH_POST, 19, 0⟩
/-- R207. -/
def LENS_CH_CTL : Reg := {
  blk := .lens, base := 0x40121018, dims := [(64, 64)], rd := .g0, wr := .g0, rdom := .block,
  reset := 0x0, fields := [⟨3, 3, .w1cCtl⟩, ⟨2, 2, .w1s⟩, ⟨1, 1, .w1s⟩, ⟨0, 0, .w1s⟩] }
def LENS_CH_CTL_DROPF_CLR : Fld := ⟨LENS_CH_CTL, 3, 3⟩
def LENS_CH_CTL_FORCE : Fld := ⟨LENS_CH_CTL, 2, 2⟩
def LENS_CH_CTL_DISARM : Fld := ⟨LENS_CH_CTL, 1, 1⟩
def LENS_CH_CTL_ARM : Fld := ⟨LENS_CH_CTL, 0, 0⟩
/-- R207. -/
def LENS_CH_STAT : Reg := {
  blk := .lens, base := 0x4012101C, dims := [(64, 64)], rd := .g0, wr := .g0, rdom := .feed,
  reset := 0x0, fields := [⟨16, 16, .rs⟩, ⟨11, 10, .ro⟩, ⟨8, 8, .ro⟩, ⟨7, 4, .ro⟩, ⟨1, 0, .ro⟩] }
def LENS_CH_STAT_DROPF : Fld := ⟨LENS_CH_STAT, 16, 16⟩
def LENS_CH_STAT_TRIGBY : Fld := ⟨LENS_CH_STAT, 11, 10⟩
def LENS_CH_STAT_LOST : Fld := ⟨LENS_CH_STAT, 8, 8⟩
def LENS_CH_STAT_ERR : Fld := ⟨LENS_CH_STAT, 7, 4⟩
def LENS_CH_STAT_STATE : Fld := ⟨LENS_CH_STAT, 1, 0⟩
/-- R207. -/
def LENS_CH_FIRST : Reg := {
  blk := .lens, base := 0x40121020, dims := [(64, 64)], rd := .g0, wr := .g0, rdom := .feed,
  reset := 0x0, fields := [⟨22, 0, .ro⟩] }
def LENS_CH_FIRST_OFS : Fld := ⟨LENS_CH_FIRST, 22, 0⟩
/-- R207. -/
def LENS_CH_NREC : Reg := {
  blk := .lens, base := 0x40121024, dims := [(64, 64)], rd := .g0, wr := .g0, rdom := .feed,
  reset := 0x0, fields := [⟨19, 0, .ro⟩] }
def LENS_CH_NREC_COUNT : Fld := ⟨LENS_CH_NREC, 19, 0⟩
/-- R207. -/
def LENS_CH_TRGIDX : Reg := {
  blk := .lens, base := 0x40121028, dims := [(64, 64)], rd := .g0, wr := .g0, rdom := .feed,
  reset := 0x0, fields := [⟨19, 0, .ro⟩] }
def LENS_CH_TRGIDX_COUNT : Fld := ⟨LENS_CH_TRGIDX, 19, 0⟩
/-- R207. -/
def LENS_CH_TTICK_LO : Reg := {
  blk := .lens, base := 0x40121030, dims := [(64, 64)], rd := .g0, wr := .g0, rdom := .feed,
  reset := 0x0, fields := [⟨31, 0, .ro⟩] }
def LENS_CH_TTICK_LO_TICK : Fld := ⟨LENS_CH_TTICK_LO, 31, 0⟩
/-- R207. -/
def LENS_CH_TTICK_HI : Reg := {
  blk := .lens, base := 0x40121034, dims := [(64, 64)], rd := .g0, wr := .g0, rdom := .feed,
  reset := 0x0, fields := [⟨31, 0, .ro⟩] }
def LENS_CH_TTICK_HI_TICK : Fld := ⟨LENS_CH_TTICK_HI, 31, 0⟩
/-- R207. -/
def LENS_CH_REC : Reg := {
  blk := .lens, base := 0x40121038, dims := [(64, 64)], rd := .g0, wr := .g0, rdom := .block,
  reset := 0x0, fields := [⟨31, 0, .ro⟩] }
def LENS_CH_REC_COUNT : Fld := ⟨LENS_CH_REC, 31, 0⟩
/-- R207. -/
def LENS_CH_DROP : Reg := {
  blk := .lens, base := 0x4012103C, dims := [(64, 64)], rd := .g0, wr := .g0, rdom := .block,
  reset := 0x0, fields := [⟨31, 0, .ro⟩] }
def LENS_CH_DROP_COUNT : Fld := ⟨LENS_CH_DROP, 31, 0⟩
/-- R243. -/
def RFA_STAT : Reg := {
  blk := .rfa, base := 0x40090000, dims := [], rd := .g0, wr := .g1, rdom := .feed,
  reset := 0x0, fields := [⟨17, 16, (.w1cTo 8)⟩, ⟨9, 9, .rs⟩, ⟨8, 8, .rs⟩, ⟨7, 4, .ro⟩, ⟨3, 0, .ro⟩] }
def RFA_STAT_CLR : Fld := ⟨RFA_STAT, 17, 16⟩
def RFA_STAT_OVRF : Fld := ⟨RFA_STAT, 9, 9⟩
def RFA_STAT_SMPLOSS : Fld := ⟨RFA_STAT, 8, 8⟩
def RFA_STAT_CONV : Fld := ⟨RFA_STAT, 7, 4⟩
def RFA_STAT_RUN : Fld := ⟨RFA_STAT, 3, 0⟩
/-- R243. -/
def RFA_ARCLOST : Reg := {
  blk := .rfa, base := 0x40090010, dims := [], rd := .g0, wr := .g0, rdom := .block,
  reset := 0x0, fields := [⟨31, 0, .ro⟩] }
def RFA_ARCLOST_COUNT : Fld := ⟨RFA_ARCLOST, 31, 0⟩
/-- R243. -/
def RFA_ARCLOST_H : Reg := {
  blk := .rfa, base := 0x40090014, dims := [], rd := .g0, wr := .g0, rdom := .block,
  reset := 0x0, fields := [⟨31, 0, .ro⟩] }
/-- R243. -/
def RFA_CH_CFG : Reg := {
  blk := .rfa, base := 0x40090100, dims := [(4, 64)], rd := .g0, wr := .g2, rdom := .feed,
  reset := 0x130, fields := [⟨8, 8, .rw⟩, ⟨6, 4, .rw⟩, ⟨3, 2, .rw⟩, ⟨0, 0, .lk⟩] }
def RFA_CH_CFG_ARCLOSS : Fld := ⟨RFA_CH_CFG, 8, 8⟩
def RFA_CH_CFG_MU : Fld := ⟨RFA_CH_CFG, 6, 4⟩
def RFA_CH_CFG_CALMODE : Fld := ⟨RFA_CH_CFG, 3, 2⟩
def RFA_CH_CFG_EN : Fld := ⟨RFA_CH_CFG, 0, 0⟩
/-- R243. -/
def RFA_CH_SCALE : Reg := {
  blk := .rfa, base := 0x40090104, dims := [(4, 64)], rd := .g0, wr := .g2, rdom := .feed,
  reset := 0x3F800000, fields := [⟨31, 0, .rw⟩] }
def RFA_CH_SCALE_VALUE : Fld := ⟨RFA_CH_SCALE, 31, 0⟩
/-- R243. -/
def RFA_CH_CALCTL : Reg := {
  blk := .rfa, base := 0x40090108, dims := [(4, 64)], rd := .g0, wr := .g1, rdom := .block,
  reset := 0x0, fields := [⟨1, 1, .w1s⟩, ⟨0, 0, .w1s⟩] }
def RFA_CH_CALCTL_RESTART : Fld := ⟨RFA_CH_CALCTL, 1, 1⟩
def RFA_CH_CALCTL_SAMPLE : Fld := ⟨RFA_CH_CALCTL, 0, 0⟩
/-- R243. -/
def RFA_CH_CALSTAT : Reg := {
  blk := .rfa, base := 0x4009010C, dims := [(4, 64)], rd := .g0, wr := .g0, rdom := .feed,
  reset := 0x0, fields := [⟨31, 24, .ro⟩, ⟨23, 22, .ro⟩, ⟨21, 21, .ro⟩, ⟨20, 20, .ro⟩, ⟨19, 19, .ro⟩, ⟨15, 0, .ro⟩] }
def RFA_CH_CALSTAT_RESID : Fld := ⟨RFA_CH_CALSTAT, 31, 24⟩
def RFA_CH_CALSTAT_FROZEN : Fld := ⟨RFA_CH_CALSTAT, 23, 22⟩
def RFA_CH_CALSTAT_CONV : Fld := ⟨RFA_CH_CALSTAT, 21, 21⟩
def RFA_CH_CALSTAT_SAMPLED : Fld := ⟨RFA_CH_CALSTAT, 20, 20⟩
def RFA_CH_CALSTAT_LIMF : Fld := ⟨RFA_CH_CALSTAT, 19, 19⟩
def RFA_CH_CALSTAT_QBLK : Fld := ⟨RFA_CH_CALSTAT, 15, 0⟩
/-- R243. -/
def RFA_CH_ARC : Reg := {
  blk := .rfa, base := 0x40090110, dims := [(4, 64)], rd := .g0, wr := .g2, rdom := .feed,
  reset := 0x8408088, fields := [⟨29, 24, .rw⟩, ⟨23, 16, .rw⟩, ⟨15, 8, .rw⟩, ⟨7, 6, .rw⟩, ⟨5, 2, .rw⟩, ⟨1, 1, .rw⟩, ⟨0, 0, .rw⟩] }
def RFA_CH_ARC_MINREF : Fld := ⟨RFA_CH_ARC, 29, 24⟩
def RFA_CH_ARC_RISETHR : Fld := ⟨RFA_CH_ARC, 23, 16⟩
def RFA_CH_ARC_DROPTHR : Fld := ⟨RFA_CH_ARC, 15, 8⟩
def RFA_CH_ARC_TAU : Fld := ⟨RFA_CH_ARC, 7, 6⟩
def RFA_CH_ARC_DWELL : Fld := ⟨RFA_CH_ARC, 5, 2⟩
def RFA_CH_ARC_RISEEN : Fld := ⟨RFA_CH_ARC, 1, 1⟩
def RFA_CH_ARC_DROPEN : Fld := ⟨RFA_CH_ARC, 0, 0⟩
/-- R243. -/
def RFA_CH_ARCOUT : Reg := {
  blk := .rfa, base := 0x40090114, dims := [(4, 64)], rd := .g0, wr := .g2, rdom := .feed,
  reset := 0x2800000, fields := [⟨31, 31, .lk⟩, ⟨29, 22, .rw⟩, ⟨17, 0, .lk⟩] }
def RFA_CH_ARCOUT_SIDEN : Fld := ⟨RFA_CH_ARCOUT, 31, 31⟩
def RFA_CH_ARCOUT_HOLD : Fld := ⟨RFA_CH_ARCOUT, 29, 22⟩
def RFA_CH_ARCOUT_SID : Fld := ⟨RFA_CH_ARCOUT, 17, 0⟩
/-- R243. -/
def RFA_CH_ARCCNT : Reg := {
  blk := .rfa, base := 0x40090118, dims := [(4, 64)], rd := .g0, wr := .g0, rdom := .feed,
  reset := 0x0, fields := [⟨31, 0, .ro⟩] }
def RFA_CH_ARCCNT_COUNT : Fld := ⟨RFA_CH_ARCCNT, 31, 0⟩
/-- R243. -/
def RFA_CH_ARCCNT_H : Reg := {
  blk := .rfa, base := 0x4009011C, dims := [(4, 64)], rd := .g0, wr := .g0, rdom := .feed,
  reset := 0x0, fields := [⟨31, 0, .ro⟩] }
/-- R243. -/
def RFA_CH_TONESID : Reg := {
  blk := .rfa, base := 0x40090120, dims := [(4, 64)], rd := .g0, wr := .g2, rdom := .feed,
  reset := 0x0, fields := [⟨17, 0, .lk⟩] }
def RFA_CH_TONESID_BASE : Fld := ⟨RFA_CH_TONESID, 17, 0⟩
/-- R243. -/
def RFA_CH_EST_A : Reg := {
  blk := .rfa, base := 0x40090200, dims := [(4, 64), (8, 8)], rd := .g0, wr := .g0, rdom := .feed,
  reset := 0x0, fields := [⟨31, 16, .ro⟩, ⟨15, 0, .ro⟩] }
def RFA_CH_EST_A_OFFSET : Fld := ⟨RFA_CH_EST_A, 31, 16⟩
def RFA_CH_EST_A_GAIN : Fld := ⟨RFA_CH_EST_A, 15, 0⟩
/-- R243. -/
def RFA_CH_EST_B : Reg := {
  blk := .rfa, base := 0x40090204, dims := [(4, 64), (8, 8)], rd := .g0, wr := .g0, rdom := .feed,
  reset := 0x0, fields := [⟨31, 16, .ro⟩, ⟨15, 0, .ro⟩] }
def RFA_CH_EST_B_SKEW : Fld := ⟨RFA_CH_EST_B, 31, 16⟩
def RFA_CH_EST_B_BW : Fld := ⟨RFA_CH_EST_B, 15, 0⟩
/-- R243. -/
def RFA_TONE_FREQ : Reg := {
  blk := .rfa, base := 0x40090400, dims := [(4, 64), (8, 8)], rd := .g0, wr := .g2, rdom := .feed,
  reset := 0x0, fields := [⟨31, 0, .rw⟩] }
def RFA_TONE_FREQ_FREQ : Fld := ⟨RFA_TONE_FREQ, 31, 0⟩
/-- R243. -/
def RFA_TONE_CFG : Reg := {
  blk := .rfa, base := 0x40090404, dims := [(4, 64), (8, 8)], rd := .g0, wr := .g2, rdom := .feed,
  reset := 0x2, fields := [⟨31, 16, .rw⟩, ⟨2, 1, .rw⟩, ⟨0, 0, .lk⟩] }
def RFA_TONE_CFG_PHOFS : Fld := ⟨RFA_TONE_CFG, 31, 16⟩
def RFA_TONE_CFG_BW : Fld := ⟨RFA_TONE_CFG, 2, 1⟩
def RFA_TONE_CFG_EN : Fld := ⟨RFA_TONE_CFG, 0, 0⟩
/-- R243. -/
def RFA_PAIR_CFG : Reg := {
  blk := .rfa, base := 0x40090600, dims := [(2, 16)], rd := .g0, wr := .g2, rdom := .feed,
  reset := 0x0, fields := [⟨31, 31, .lk⟩, ⟨30, 23, .lk⟩, ⟨17, 0, .lk⟩] }
def RFA_PAIR_CFG_EN : Fld := ⟨RFA_PAIR_CFG, 31, 31⟩
def RFA_PAIR_CFG_TMASK : Fld := ⟨RFA_PAIR_CFG, 30, 23⟩
def RFA_PAIR_CFG_BASE : Fld := ⟨RFA_PAIR_CFG, 17, 0⟩
/-- R243. -/
def RFA_PAIR_ZFS : Reg := {
  blk := .rfa, base := 0x40090604, dims := [(2, 16)], rd := .g0, wr := .g2, rdom := .feed,
  reset := 0x3F800000, fields := [⟨31, 0, .rw⟩] }
def RFA_PAIR_ZFS_VALUE : Fld := ⟨RFA_PAIR_ZFS, 31, 0⟩
/-- R243. -/
def RFA_PAIR_PFS : Reg := {
  blk := .rfa, base := 0x40090608, dims := [(2, 16)], rd := .g0, wr := .g2, rdom := .feed,
  reset := 0x3F800000, fields := [⟨31, 0, .rw⟩] }
def RFA_PAIR_PFS_VALUE : Fld := ⟨RFA_PAIR_PFS, 31, 0⟩
/-- R244. -/
def ACQ_STAT : Reg := {
  blk := .acq, base := 0x400A0000, dims := [], rd := .g0, wr := .g2, rdom := .feed,
  reset := 0x0, fields := [⟨17, 16, (.w1cTo 0)⟩, ⟨1, 1, .rs⟩, ⟨0, 0, .rs⟩] }
def ACQ_STAT_CLR : Fld := ⟨ACQ_STAT, 17, 16⟩
def ACQ_STAT_SMPLOSS : Fld := ⟨ACQ_STAT, 1, 1⟩
def ACQ_STAT_OVF : Fld := ⟨ACQ_STAT, 0, 0⟩
/-- R244. -/
def ACQ_BUDGET : Reg := {
  blk := .acq, base := 0x400A0004, dims := [], rd := .g0, wr := .g0, rdom := .block,
  reset := 0xBB800000, fields := [⟨31, 16, .ro⟩, ⟨15, 0, .ro⟩] }
def ACQ_BUDGET_LIMIT : Fld := ⟨ACQ_BUDGET, 31, 16⟩
def ACQ_BUDGET_USED : Fld := ⟨ACQ_BUDGET, 15, 0⟩
/-- R244. -/
def ACQ_TOUT : Reg := {
  blk := .acq, base := 0x400A0008, dims := [], rd := .g0, wr := .g0, rdom := .block,
  reset := 0x0, fields := [⟨8, 8, .rw⟩, ⟨5, 0, .rw⟩] }
def ACQ_TOUT_EN : Fld := ⟨ACQ_TOUT, 8, 8⟩
def ACQ_TOUT_SET : Fld := ⟨ACQ_TOUT, 5, 0⟩
/-- R244. -/
def ACQ_NFREE : Reg := {
  blk := .acq, base := 0x400A0010, dims := [], rd := .g0, wr := .g0, rdom := .block,
  reset := 0x0, fields := [⟨14, 0, .ro⟩] }
def ACQ_NFREE_COUNT : Fld := ⟨ACQ_NFREE, 14, 0⟩
/-- R244. -/
def ACQ_NARMED : Reg := {
  blk := .acq, base := 0x400A0014, dims := [], rd := .g0, wr := .g0, rdom := .block,
  reset := 0x0, fields := [⟨14, 0, .ro⟩] }
def ACQ_NARMED_COUNT : Fld := ⟨ACQ_NARMED, 14, 0⟩
/-- R244. -/
def ACQ_NFILL : Reg := {
  blk := .acq, base := 0x400A0018, dims := [], rd := .g0, wr := .g0, rdom := .block,
  reset := 0x0, fields := [⟨14, 0, .ro⟩] }
def ACQ_NFILL_COUNT : Fld := ⟨ACQ_NFILL, 14, 0⟩
/-- R244. -/
def ACQ_NCOMPL : Reg := {
  blk := .acq, base := 0x400A001C, dims := [], rd := .g0, wr := .g0, rdom := .block,
  reset := 0x0, fields := [⟨14, 0, .ro⟩] }
def ACQ_NCOMPL_COUNT : Fld := ⟨ACQ_NCOMPL, 14, 0⟩
/-- R244. -/
def ACQ_NCONF : Reg := {
  blk := .acq, base := 0x400A0020, dims := [], rd := .g0, wr := .g0, rdom := .block,
  reset := 0x0, fields := [⟨14, 0, .ro⟩] }
def ACQ_NCONF_COUNT : Fld := ⟨ACQ_NCONF, 14, 0⟩
/-- R244. -/
def ACQ_OVWR : Reg := {
  blk := .acq, base := 0x400A0024, dims := [], rd := .g0, wr := .g0, rdom := .block,
  reset := 0x0, fields := [⟨31, 0, .ro⟩] }
def ACQ_OVWR_COUNT : Fld := ⟨ACQ_OVWR, 31, 0⟩
/-- R244. -/
def ACQ_SET_BASE : Reg := {
  blk := .acq, base := 0x400A1000, dims := [(64, 64)], rd := .g0, wr := .g2, rdom := .block,
  reset := 0x0, fields := [⟨29, 16, .rw⟩, ⟨12, 0, .rw⟩] }
def ACQ_SET_BASE_DESC : Fld := ⟨ACQ_SET_BASE, 29, 16⟩
def ACQ_SET_BASE_BASE : Fld := ⟨ACQ_SET_BASE, 12, 0⟩
/-- R244. -/
def ACQ_SET_SEG : Reg := {
  blk := .acq, base := 0x400A1004, dims := [(64, 64)], rd := .g0, wr := .g2, rdom := .block,
  reset := 0x0, fields := [⟨29, 16, .rw⟩, ⟨13, 0, .rw⟩] }
def ACQ_SET_SEG_NSEG : Fld := ⟨ACQ_SET_SEG, 29, 16⟩
def ACQ_SET_SEG_SZ : Fld := ⟨ACQ_SET_SEG, 13, 0⟩
/-- R244. -/
def ACQ_SET_STRM : Reg := {
  blk := .acq, base := 0x400A1008, dims := [(64, 64)], rd := .g0, wr := .g2, rdom := .block,
  reset := 0x0, fields := [⟨20, 20, .rw⟩, ⟨19, 16, .rw⟩, ⟨15, 0, .rw⟩] }
def ACQ_SET_STRM_AVG : Fld := ⟨ACQ_SET_STRM, 20, 20⟩
def ACQ_SET_STRM_DEC : Fld := ⟨ACQ_SET_STRM, 19, 16⟩
def ACQ_SET_STRM_S3_S0 : Fld := ⟨ACQ_SET_STRM, 15, 0⟩
/-- R244. -/
def ACQ_SET_PRE : Reg := {
  blk := .acq, base := 0x400A100C, dims := [(64, 64)], rd := .g0, wr := .g2, rdom := .block,
  reset := 0x0, fields := [⟨31, 16, .rw⟩, ⟨13, 0, .rw⟩] }
def ACQ_SET_PRE_NCAP : Fld := ⟨ACQ_SET_PRE, 31, 16⟩
def ACQ_SET_PRE_PRE : Fld := ⟨ACQ_SET_PRE, 13, 0⟩
/-- R244. -/
def ACQ_SET_TRG : Reg := {
  blk := .acq, base := 0x400A1010, dims := [(64, 64)], rd := .g0, wr := .g2, rdom := .block,
  reset := 0x0, fields := [⟨26, 26, .rw⟩, ⟨25, 18, .rw⟩, ⟨17, 12, .rw⟩, ⟨11, 11, .rw⟩, ⟨10, 8, .rw⟩, ⟨7, 4, .rw⟩, ⟨3, 0, .rw⟩] }
def ACQ_SET_TRG_OVWR : Fld := ⟨ACQ_SET_TRG, 26, 26⟩
def ACQ_SET_TRG_W : Fld := ⟨ACQ_SET_TRG, 25, 18⟩
def ACQ_SET_TRG_SEL : Fld := ⟨ACQ_SET_TRG, 17, 12⟩
def ACQ_SET_TRG_FALL : Fld := ⟨ACQ_SET_TRG, 11, 11⟩
def ACQ_SET_TRG_TONE : Fld := ⟨ACQ_SET_TRG, 10, 8⟩
def ACQ_SET_TRG_CSTR : Fld := ⟨ACQ_SET_TRG, 7, 4⟩
def ACQ_SET_TRG_SRC : Fld := ⟨ACQ_SET_TRG, 3, 0⟩
/-- R244. -/
def ACQ_SET_THR : Reg := {
  blk := .acq, base := 0x400A1014, dims := [(64, 64)], rd := .g0, wr := .g2, rdom := .block,
  reset := 0x0, fields := [⟨31, 16, .rw⟩, ⟨15, 0, .rw⟩] }
def ACQ_SET_THR_HI : Fld := ⟨ACQ_SET_THR, 31, 16⟩
def ACQ_SET_THR_LO : Fld := ⟨ACQ_SET_THR, 15, 0⟩
/-- R244. -/
def ACQ_SET_CTL : Reg := {
  blk := .acq, base := 0x400A1018, dims := [(64, 64)], rd := .g0, wr := .g0, rdom := .block,
  reset := 0x0, fields := [⟨4, 4, .w1s⟩, ⟨3, 3, .w1s⟩, ⟨2, 2, .w1s⟩, ⟨1, 1, .w1s⟩, ⟨0, 0, .w1s⟩] }
def ACQ_SET_CTL_FORCE : Fld := ⟨ACQ_SET_CTL, 4, 4⟩
def ACQ_SET_CTL_DISARM : Fld := ⟨ACQ_SET_CTL, 3, 3⟩
def ACQ_SET_CTL_ARM : Fld := ⟨ACQ_SET_CTL, 2, 2⟩
def ACQ_SET_CTL_UNLOAD : Fld := ⟨ACQ_SET_CTL, 1, 1⟩
def ACQ_SET_CTL_LOAD : Fld := ⟨ACQ_SET_CTL, 0, 0⟩
/-- R244. -/
def ACQ_SET_STAT : Reg := {
  blk := .acq, base := 0x400A101C, dims := [(64, 64)], rd := .g0, wr := .g0, rdom := .block,
  reset := 0x0, fields := [⟨8, 8, .ro⟩, ⟨7, 4, .ro⟩, ⟨1, 0, .ro⟩] }
def ACQ_SET_STAT_FILLING : Fld := ⟨ACQ_SET_STAT, 8, 8⟩
def ACQ_SET_STAT_ERR : Fld := ⟨ACQ_SET_STAT, 7, 4⟩
def ACQ_SET_STAT_STATE : Fld := ⟨ACQ_SET_STAT, 1, 0⟩
/-- R244. -/
def ACQ_SET_RATE : Reg := {
  blk := .acq, base := 0x400A1020, dims := [(64, 64)], rd := .g0, wr := .g0, rdom := .block,
  reset := 0x0, fields := [⟨15, 0, .ro⟩] }
def ACQ_SET_RATE_RATE : Fld := ⟨ACQ_SET_RATE, 15, 0⟩
/-- R244. -/
def ACQ_SET_OLDEST : Reg := {
  blk := .acq, base := 0x400A1024, dims := [(64, 64)], rd := .g0, wr := .g0, rdom := .block,
  reset := 0x0, fields := [⟨29, 16, .ro⟩, ⟨14, 0, .ro⟩] }
def ACQ_SET_OLDEST_NCOMPL : Fld := ⟨ACQ_SET_OLDEST, 29, 16⟩
def ACQ_SET_OLDEST_DESC : Fld := ⟨ACQ_SET_OLDEST, 14, 0⟩
/-- R244. -/
def ACQ_SET_REL : Reg := {
  blk := .acq, base := 0x400A1028, dims := [(64, 64)], rd := .g0, wr := .g0, rdom := .block,
  reset := 0x0, fields := [⟨14, 0, .wo⟩] }
def ACQ_SET_REL_COUNT : Fld := ⟨ACQ_SET_REL, 14, 0⟩
/-- R244. -/
def ACQ_SET_MISS : Reg := {
  blk := .acq, base := 0x400A102C, dims := [(64, 64)], rd := .g0, wr := .g0, rdom := .block,
  reset := 0x0, fields := [⟨31, 0, .ro⟩] }
def ACQ_SET_MISS_COUNT : Fld := ⟨ACQ_SET_MISS, 31, 0⟩
/-- R244. -/
def ACQ_SET_SEGS : Reg := {
  blk := .acq, base := 0x400A1030, dims := [(64, 64)], rd := .g0, wr := .g0, rdom := .block,
  reset := 0x0, fields := [⟨31, 0, .ro⟩] }
def ACQ_SET_SEGS_COUNT : Fld := ⟨ACQ_SET_SEGS, 31, 0⟩
/-- R262. -/
def SAR_STAT : Reg := {
  blk := .sar, base := 0x40080000, dims := [], rd := .g0, wr := .g1, rdom := .feed,
  reset := 0x0, fields := [⟨18, 16, (.w1cTo 0)⟩, ⟨2, 2, .rs⟩, ⟨1, 1, .rs⟩, ⟨0, 0, .rs⟩] }
def SAR_STAT_CLR : Fld := ⟨SAR_STAT, 18, 16⟩
def SAR_STAT_DIAGF : Fld := ⟨SAR_STAT, 2, 2⟩
def SAR_STAT_LOSTF : Fld := ⟨SAR_STAT, 1, 1⟩
def SAR_STAT_MISSF : Fld := ⟨SAR_STAT, 0, 0⟩
/-- R262. -/
def SAR_CONVTOT : Reg := {
  blk := .sar, base := 0x40080010, dims := [], rd := .g0, wr := .g0, rdom := .block,
  reset := 0x0, fields := [⟨31, 0, .ro⟩] }
def SAR_CONVTOT_COUNT : Fld := ⟨SAR_CONVTOT, 31, 0⟩
/-- R262. -/
def SAR_MISS : Reg := {
  blk := .sar, base := 0x40080014, dims := [], rd := .g0, wr := .g0, rdom := .block,
  reset := 0x0, fields := [⟨31, 0, .ro⟩] }
def SAR_MISS_COUNT : Fld := ⟨SAR_MISS, 31, 0⟩
/-- R262. -/
def SAR_LOST : Reg := {
  blk := .sar, base := 0x40080018, dims := [], rd := .g0, wr := .g0, rdom := .block,
  reset := 0x0, fields := [⟨31, 0, .ro⟩] }
def SAR_LOST_COUNT : Fld := ⟨SAR_LOST, 31, 0⟩
/-- R262. -/
def SAR_CONVTOT_H : Reg := {
  blk := .sar, base := 0x40080020, dims := [], rd := .g0, wr := .g0, rdom := .block,
  reset := 0x0, fields := [⟨31, 0, .ro⟩] }
/-- R262. -/
def SAR_MISS_H : Reg := {
  blk := .sar, base := 0x40080024, dims := [], rd := .g0, wr := .g0, rdom := .block,
  reset := 0x0, fields := [⟨31, 0, .ro⟩] }
/-- R262. -/
def SAR_LOST_H : Reg := {
  blk := .sar, base := 0x40080028, dims := [], rd := .g0, wr := .g0, rdom := .block,
  reset := 0x0, fields := [⟨31, 0, .ro⟩] }
/-- R262. -/
def SAR_CONV_CFG : Reg := {
  blk := .sar, base := 0x40080100, dims := [(32, 32)], rd := .g0, wr := .g2, rdom := .feed,
  reset := 0x0, fields := [⟨5, 5, .lk⟩, ⟨4, 4, .lk⟩, ⟨3, 0, .rw⟩] }
def SAR_CONV_CFG_DIFF23 : Fld := ⟨SAR_CONV_CFG, 5, 5⟩
def SAR_CONV_CFG_DIFF01 : Fld := ⟨SAR_CONV_CFG, 4, 4⟩
def SAR_CONV_CFG_MASK : Fld := ⟨SAR_CONV_CFG, 3, 0⟩
/-- R262. -/
def SAR_CONV_TRG : Reg := {
  blk := .sar, base := 0x40080104, dims := [(32, 32)], rd := .g0, wr := .g1, rdom := .feed,
  reset := 0x0, fields := [⟨28, 16, .rw⟩, ⟨13, 12, .rw⟩, ⟨9, 4, .rw⟩, ⟨3, 0, .rw⟩] }
def SAR_CONV_TRG_DELAY : Fld := ⟨SAR_CONV_TRG, 28, 16⟩
def SAR_CONV_TRG_CMP : Fld := ⟨SAR_CONV_TRG, 13, 12⟩
def SAR_CONV_TRG_SEL : Fld := ⟨SAR_CONV_TRG, 9, 4⟩
def SAR_CONV_TRG_SRC : Fld := ⟨SAR_CONV_TRG, 3, 0⟩
/-- R262. -/
def SAR_CONV_DIV : Reg := {
  blk := .sar, base := 0x40080108, dims := [(32, 32)], rd := .g0, wr := .g1, rdom := .feed,
  reset := 0x1, fields := [⟨30, 16, .rw⟩, ⟨14, 0, .rw⟩] }
def SAR_CONV_DIV_PH : Fld := ⟨SAR_CONV_DIV, 30, 16⟩
def SAR_CONV_DIV_DIV : Fld := ⟨SAR_CONV_DIV, 14, 0⟩
/-- R262. -/
def SAR_CONV_CTL : Reg := {
  blk := .sar, base := 0x4008010C, dims := [(32, 32)], rd := .g0, wr := .g1, rdom := .block,
  reset := 0x0, fields := [⟨0, 0, .w1s⟩] }
def SAR_CONV_CTL_SWTRIG : Fld := ⟨SAR_CONV_CTL, 0, 0⟩
/-- R262. -/
def SAR_CONV_STAT : Reg := {
  blk := .sar, base := 0x40080110, dims := [(32, 32)], rd := .g0, wr := .g0, rdom := .block,
  reset := 0x0, fields := [⟨31, 16, .ro⟩, ⟨4, 4, .ro⟩, ⟨3, 1, .ro⟩, ⟨0, 0, .ro⟩] }
def SAR_CONV_STAT_MISS : Fld := ⟨SAR_CONV_STAT, 31, 16⟩
def SAR_CONV_STAT_DIAG : Fld := ⟨SAR_CONV_STAT, 4, 4⟩
def SAR_CONV_STAT_POS : Fld := ⟨SAR_CONV_STAT, 3, 1⟩
def SAR_CONV_STAT_BUSY : Fld := ⟨SAR_CONV_STAT, 0, 0⟩
/-- R262. -/
def SAR_IN_MAP : Reg := {
  blk := .sar, base := 0x40080800, dims := [(128, 8)], rd := .g0, wr := .g2, rdom := .feed,
  reset := 0x0, fields := [⟨31, 31, .lk⟩, ⟨20, 20, .lk⟩, ⟨17, 0, .lk⟩] }
def SAR_IN_MAP_EN : Fld := ⟨SAR_IN_MAP, 31, 31⟩
def SAR_IN_MAP_FMT : Fld := ⟨SAR_IN_MAP, 20, 20⟩
def SAR_IN_MAP_SID : Fld := ⟨SAR_IN_MAP, 17, 0⟩
/-- R262. -/
def SAR_IN_CAL : Reg := {
  blk := .sar, base := 0x40080804, dims := [(128, 8)], rd := .g0, wr := .g2, rdom := .feed,
  reset := 0x80000000, fields := [⟨31, 16, .rw⟩, ⟨15, 0, .rw⟩] }
def SAR_IN_CAL_GAIN : Fld := ⟨SAR_IN_CAL, 31, 16⟩
def SAR_IN_CAL_OFS : Fld := ⟨SAR_IN_CAL, 15, 0⟩
/-- R262. -/
def SAR_TDAC_LVL : Reg := {
  blk := .sar, base := 0x40080C00, dims := [(4, 16)], rd := .g0, wr := .g1, rdom := .feed,
  reset := 0xE000200, fields := [⟨27, 16, .rw⟩, ⟨11, 0, .rw⟩] }
def SAR_TDAC_LVL_HI : Fld := ⟨SAR_TDAC_LVL, 27, 16⟩
def SAR_TDAC_LVL_LO : Fld := ⟨SAR_TDAC_LVL, 11, 0⟩
/-- R262. -/
def SAR_TDAC_REQ : Reg := {
  blk := .sar, base := 0x40080C04, dims := [(4, 16)], rd := .g0, wr := .g1, rdom := .block,
  reset := 0x0, fields := [⟨31, 31, .w1s⟩, ⟨30, 30, .ro⟩, ⟨10, 8, .rw⟩, ⟨5, 4, .rw⟩, ⟨2, 0, .rw⟩] }
def SAR_TDAC_REQ_GO : Fld := ⟨SAR_TDAC_REQ, 31, 31⟩
def SAR_TDAC_REQ_PEND : Fld := ⟨SAR_TDAC_REQ, 30, 30⟩
def SAR_TDAC_REQ_CHK : Fld := ⟨SAR_TDAC_REQ, 10, 8⟩
def SAR_TDAC_REQ_POS : Fld := ⟨SAR_TDAC_REQ, 5, 4⟩
def SAR_TDAC_REQ_CONV : Fld := ⟨SAR_TDAC_REQ, 2, 0⟩
/-- R262. -/
def SAR_TDAC_LIM : Reg := {
  blk := .sar, base := 0x40080C08, dims := [(4, 16)], rd := .g0, wr := .g2, rdom := .feed,
  reset := 0x80082032, fields := [⟨31, 20, .rw⟩, ⟨19, 14, .rw⟩, ⟨13, 8, .rw⟩, ⟨7, 0, .rw⟩] }
def SAR_TDAC_LIM_OPENLIM : Fld := ⟨SAR_TDAC_LIM, 31, 20⟩
def SAR_TDAC_LIM_MUXLIM : Fld := ⟨SAR_TDAC_LIM, 19, 14⟩
def SAR_TDAC_LIM_OFSLIM : Fld := ⟨SAR_TDAC_LIM, 13, 8⟩
def SAR_TDAC_LIM_GAINLIM : Fld := ⟨SAR_TDAC_LIM, 7, 0⟩
/-- R262. -/
def SAR_TDAC_RES : Reg := {
  blk := .sar, base := 0x40080C0C, dims := [(4, 16)], rd := .g0, wr := .g0, rdom := .block,
  reset := 0x0, fields := [⟨31, 20, .ro⟩, ⟨19, 12, .ro⟩, ⟨11, 9, .ro⟩, ⟨3, 3, .ro⟩, ⟨2, 2, .ro⟩, ⟨1, 1, .ro⟩, ⟨0, 0, .ro⟩] }
def SAR_TDAC_RES_GERR : Fld := ⟨SAR_TDAC_RES, 31, 20⟩
def SAR_TDAC_RES_OERR : Fld := ⟨SAR_TDAC_RES, 19, 12⟩
def SAR_TDAC_RES_ERR : Fld := ⟨SAR_TDAC_RES, 11, 9⟩
def SAR_TDAC_RES_OPENF : Fld := ⟨SAR_TDAC_RES, 3, 3⟩
def SAR_TDAC_RES_MUXF : Fld := ⟨SAR_TDAC_RES, 2, 2⟩
def SAR_TDAC_RES_GAINF : Fld := ⟨SAR_TDAC_RES, 1, 1⟩
def SAR_TDAC_RES_DONE : Fld := ⟨SAR_TDAC_RES, 0, 0⟩
/-- R262. -/
def SAR_FAULT : Reg := {
  blk := .sar, base := 0x40080C80, dims := [(4, 4)], rd := .g0, wr := .g1, rdom := .feed,
  reset := 0x0, fields := [⟨31, 0, .w1c⟩] }
def SAR_FAULT_FAULT : Fld := ⟨SAR_FAULT, 31, 0⟩
/-- R262. -/
def SAR_DAC_CFG : Reg := {
  blk := .sar, base := 0x40080D00, dims := [(16, 16)], rd := .g0, wr := .g2, rdom := .feed,
  reset := 0x0, fields := [⟨17, 17, .lk⟩, ⟨16, 16, .rw⟩, ⟨15, 0, .lk⟩] }
def SAR_DAC_CFG_SAFEACT : Fld := ⟨SAR_DAC_CFG, 17, 17⟩
def SAR_DAC_CFG_EN : Fld := ⟨SAR_DAC_CFG, 16, 16⟩
def SAR_DAC_CFG_SAFECODE : Fld := ⟨SAR_DAC_CFG, 15, 0⟩
/-- R262. -/
def SAR_DAC_CODE : Reg := {
  blk := .sar, base := 0x40080D04, dims := [(16, 16)], rd := .g0, wr := .g1, rdom := .feed,
  reset := 0x0, fields := [⟨15, 0, .rw⟩] }
def SAR_DAC_CODE_CODE : Fld := ⟨SAR_DAC_CODE, 15, 0⟩
/-- R262. -/
def SAR_DAC_STAT : Reg := {
  blk := .sar, base := 0x40080D08, dims := [(16, 16)], rd := .g0, wr := .g0, rdom := .block,
  reset := 0x0, fields := [⟨31, 16, .ro⟩, ⟨0, 0, .ro⟩] }
def SAR_DAC_STAT_COAL : Fld := ⟨SAR_DAC_STAT, 31, 16⟩
def SAR_DAC_STAT_SAFE : Fld := ⟨SAR_DAC_STAT, 0, 0⟩
/-- R286. -/
def RIO_ETYPE : Reg := {
  blk := .rio, base := 0x40070000, dims := [], rd := .g0, wr := .g2, rdom := .feed,
  reset := 0x88B5, fields := [⟨15, 0, .lk⟩] }
def RIO_ETYPE_ETYPE : Fld := ⟨RIO_ETYPE, 15, 0⟩
/-- R286. -/
def RIO_IMG : Reg := {
  blk := .rio, base := 0x40070004, dims := [], rd := .g0, wr := .g2, rdom := .feed,
  reset := 0x0, fields := [⟨9, 0, .lk⟩] }
def RIO_IMG_BASE : Fld := ⟨RIO_IMG, 9, 0⟩
/-- R286. -/
def RIO_DRING : Reg := {
  blk := .rio, base := 0x40070008, dims := [], rd := .g0, wr := .g2, rdom := .feed,
  reset := 0x0, fields := [⟨9, 0, .lk⟩] }
def RIO_DRING_BASE : Fld := ⟨RIO_DRING, 9, 0⟩
/-- R286. -/
def RIO_STAT : Reg := {
  blk := .rio, base := 0x4007000C, dims := [], rd := .g0, wr := .g1, rdom := .block,
  reset := 0x0, fields := [⟨18, 16, (.w1cTo 0)⟩, ⟨3, 3, .ro⟩, ⟨2, 2, .rs⟩, ⟨1, 1, .rs⟩, ⟨0, 0, .rs⟩] }
def RIO_STAT_CLR : Fld := ⟨RIO_STAT, 18, 16⟩
def RIO_STAT_CFGERR : Fld := ⟨RIO_STAT, 3, 3⟩
def RIO_STAT_DROVRF : Fld := ⟨RIO_STAT, 2, 2⟩
def RIO_STAT_LATEF : Fld := ⟨RIO_STAT, 1, 1⟩
def RIO_STAT_LOSTF : Fld := ⟨RIO_STAT, 0, 0⟩
/-- R286. -/
def RIO_DRING_WR : Reg := {
  blk := .rio, base := 0x40070010, dims := [], rd := .g0, wr := .g0, rdom := .block,
  reset := 0x0, fields := [⟨10, 0, .ro⟩] }
def RIO_DRING_WR_INDEX : Fld := ⟨RIO_DRING_WR, 10, 0⟩
/-- R286. -/
def RIO_DRING_RD : Reg := {
  blk := .rio, base := 0x40070014, dims := [], rd := .g0, wr := .g1, rdom := .block,
  reset := 0x0, fields := [⟨10, 0, .rw⟩] }
def RIO_DRING_RD_INDEX : Fld := ⟨RIO_DRING_RD, 10, 0⟩
/-- R286. -/
def RIO_DROVR : Reg := {
  blk := .rio, base := 0x40070020, dims := [], rd := .g0, wr := .g0, rdom := .block,
  reset := 0x0, fields := [⟨31, 0, .ro⟩] }
def RIO_DROVR_COUNT : Fld := ⟨RIO_DROVR, 31, 0⟩
/-- R286. -/
def RIO_NEWLOST : Reg := {
  blk := .rio, base := 0x40070040, dims := [(8, 4)], rd := .g0, wr := .g1, rdom := .block,
  reset := 0x0, fields := [⟨31, 0, .w1c⟩] }
def RIO_NEWLOST_LOST : Fld := ⟨RIO_NEWLOST, 31, 0⟩
/-- R286. -/
def RIO_P_CTL : Reg := {
  blk := .rio, base := 0x40070100, dims := [(4, 64)], rd := .g0, wr := .g2, rdom := .block,
  reset := 0x0, fields := [⟨3, 3, .w1s⟩, ⟨2, 2, .w1s⟩, ⟨1, 1, .w1s⟩, ⟨0, 0, .rw⟩] }
def RIO_P_CTL_STOP : Fld := ⟨RIO_P_CTL, 3, 3⟩
def RIO_P_CTL_START : Fld := ⟨RIO_P_CTL, 2, 2⟩
def RIO_P_CTL_DISC : Fld := ⟨RIO_P_CTL, 1, 1⟩
def RIO_P_CTL_EN : Fld := ⟨RIO_P_CTL, 0, 0⟩
/-- R286. -/
def RIO_P_CYC : Reg := {
  blk := .rio, base := 0x40070104, dims := [(4, 64)], rd := .g0, wr := .g2, rdom := .feed,
  reset := 0xA, fields := [⟨30, 16, .rw⟩, ⟨14, 0, .rw⟩] }
def RIO_P_CYC_PH : Fld := ⟨RIO_P_CYC, 30, 16⟩
def RIO_P_CYC_CYC : Fld := ⟨RIO_P_CYC, 14, 0⟩
/-- R286. -/
def RIO_P_BND : Reg := {
  blk := .rio, base := 0x40070108, dims := [(4, 64)], rd := .g0, wr := .g2, rdom := .feed,
  reset := 0x280014, fields := [⟨31, 16, .rw⟩, ⟨15, 0, .rw⟩] }
def RIO_P_BND_RBND : Fld := ⟨RIO_P_BND, 31, 16⟩
def RIO_P_BND_DBND : Fld := ⟨RIO_P_BND, 15, 0⟩
/-- R286. -/
def RIO_P_STAT : Reg := {
  blk := .rio, base := 0x4007010C, dims := [(4, 64)], rd := .g0, wr := .g0, rdom := .block,
  reset := 0x0, fields := [⟨23, 20, .ro⟩, ⟨14, 8, .ro⟩, ⟨2, 2, .ro⟩, ⟨1, 0, .ro⟩] }
def RIO_P_STAT_ERR : Fld := ⟨RIO_P_STAT, 23, 20⟩
def RIO_P_STAT_NFOUND : Fld := ⟨RIO_P_STAT, 14, 8⟩
def RIO_P_STAT_LINK : Fld := ⟨RIO_P_STAT, 2, 2⟩
def RIO_P_STAT_STATE : Fld := ⟨RIO_P_STAT, 1, 0⟩
/-- R286. -/
def RIO_P_PRED : Reg := {
  blk := .rio, base := 0x40070110, dims := [(4, 64)], rd := .g0, wr := .g0, rdom := .block,
  reset := 0x0, fields := [⟨31, 16, .ro⟩, ⟨15, 0, .ro⟩] }
def RIO_P_PRED_RBND : Fld := ⟨RIO_P_PRED, 31, 16⟩
def RIO_P_PRED_DBND : Fld := ⟨RIO_P_PRED, 15, 0⟩
/-- R286. -/
def RIO_P_CSEQ : Reg := {
  blk := .rio, base := 0x40070114, dims := [(4, 64)], rd := .g0, wr := .g0, rdom := .block,
  reset := 0x0, fields := [⟨31, 0, .ro⟩] }
def RIO_P_CSEQ_COUNT : Fld := ⟨RIO_P_CSEQ, 31, 0⟩
/-- R286. -/
def RIO_P_SENT : Reg := {
  blk := .rio, base := 0x40070118, dims := [(4, 64)], rd := .g0, wr := .g0, rdom := .block,
  reset := 0x0, fields := [⟨31, 0, .ro⟩] }
def RIO_P_SENT_COUNT : Fld := ⟨RIO_P_SENT, 31, 0⟩
/-- R286. -/
def RIO_P_RET : Reg := {
  blk := .rio, base := 0x4007011C, dims := [(4, 64)], rd := .g0, wr := .g0, rdom := .block,
  reset := 0x0, fields := [⟨31, 0, .ro⟩] }
def RIO_P_RET_COUNT : Fld := ⟨RIO_P_RET, 31, 0⟩
/-- R286. -/
def RIO_P_LOST : Reg := {
  blk := .rio, base := 0x40070120, dims := [(4, 64)], rd := .g0, wr := .g0, rdom := .block,
  reset := 0x0, fields := [⟨31, 0, .ro⟩] }
def RIO_P_LOST_COUNT : Fld := ⟨RIO_P_LOST, 31, 0⟩
/-- R286. -/
def RIO_P_LATE : Reg := {
  blk := .rio, base := 0x40070124, dims := [(4, 64)], rd := .g0, wr := .g0, rdom := .block,
  reset := 0x0, fields := [⟨31, 0, .ro⟩] }
def RIO_P_LATE_COUNT : Fld := ⟨RIO_P_LATE, 31, 0⟩
/-- R286. -/
def RIO_P_FCSERR : Reg := {
  blk := .rio, base := 0x40070128, dims := [(4, 64)], rd := .g0, wr := .g0, rdom := .block,
  reset := 0x0, fields := [⟨31, 0, .ro⟩] }
def RIO_P_FCSERR_COUNT : Fld := ⟨RIO_P_FCSERR, 31, 0⟩
/-- R286. -/
def RIO_ST_CFG : Reg := {
  blk := .rio, base := 0x40071000, dims := [(256, 64)], rd := .g0, wr := .g2, rdom := .feed,
  reset := 0x40301, fields := [⟨31, 31, .lk⟩, ⟨24, 24, .rw⟩, ⟨23, 16, .rw⟩, ⟨15, 8, .rw⟩, ⟨2, 0, .rw⟩] }
def RIO_ST_CFG_EN : Fld := ⟨RIO_ST_CFG, 31, 31⟩
def RIO_ST_CFG_SUBPOL : Fld := ⟨RIO_ST_CFG, 24, 24⟩
def RIO_ST_CFG_RECOV : Fld := ⟨RIO_ST_CFG, 23, 16⟩
def RIO_ST_CFG_WD : Fld := ⟨RIO_ST_CFG, 15, 8⟩
def RIO_ST_CFG_LOSTN : Fld := ⟨RIO_ST_CFG, 2, 0⟩
/-- R286. -/
def RIO_ST_EXP : Reg := {
  blk := .rio, base := 0x40071004, dims := [(256, 64)], rd := .g0, wr := .g2, rdom := .feed,
  reset := 0x0, fields := [⟨31, 16, .lk⟩, ⟨15, 0, .lk⟩] }
def RIO_ST_EXP_PRODUCT : Fld := ⟨RIO_ST_EXP, 31, 16⟩
def RIO_ST_EXP_VENDOR : Fld := ⟨RIO_ST_EXP, 15, 0⟩
/-- R286. -/
def RIO_ST_LEN : Reg := {
  blk := .rio, base := 0x40071008, dims := [(256, 64)], rd := .g0, wr := .g2, rdom := .feed,
  reset := 0x0, fields := [⟨26, 16, .lk⟩, ⟨10, 0, .lk⟩] }
def RIO_ST_LEN_OLEN : Fld := ⟨RIO_ST_LEN, 26, 16⟩
def RIO_ST_LEN_ILEN : Fld := ⟨RIO_ST_LEN, 10, 0⟩
/-- R286. -/
def RIO_ST_ISID : Reg := {
  blk := .rio, base := 0x4007100C, dims := [(256, 64)], rd := .g0, wr := .g2, rdom := .feed,
  reset := 0x0, fields := [⟨31, 31, .lk⟩, ⟨17, 0, .lk⟩] }
def RIO_ST_ISID_EN : Fld := ⟨RIO_ST_ISID, 31, 31⟩
def RIO_ST_ISID_SID : Fld := ⟨RIO_ST_ISID, 17, 0⟩
/-- R286. -/
def RIO_ST_STAT : Reg := {
  blk := .rio, base := 0x40071010, dims := [(256, 64)], rd := .g0, wr := .g0, rdom := .block,
  reset := 0x0, fields := [⟨31, 24, .ro⟩, ⟨20, 16, .ro⟩, ⟨3, 0, .ro⟩] }
def RIO_ST_STAT_MISSRUN : Fld := ⟨RIO_ST_STAT, 31, 24⟩
def RIO_ST_STAT_SSTAT : Fld := ⟨RIO_ST_STAT, 20, 16⟩
def RIO_ST_STAT_STATE : Fld := ⟨RIO_ST_STAT, 3, 0⟩
/-- R286. -/
def RIO_ST_ID : Reg := {
  blk := .rio, base := 0x40071014, dims := [(256, 64)], rd := .g0, wr := .g0, rdom := .block,
  reset := 0x0, fields := [⟨31, 16, .ro⟩, ⟨15, 0, .ro⟩] }
def RIO_ST_ID_PRODUCT : Fld := ⟨RIO_ST_ID, 31, 16⟩
def RIO_ST_ID_VENDOR : Fld := ⟨RIO_ST_ID, 15, 0⟩
/-- R286. -/
def RIO_ST_SER : Reg := {
  blk := .rio, base := 0x40071018, dims := [(256, 64)], rd := .g0, wr := .g0, rdom := .block,
  reset := 0x0, fields := [⟨31, 0, .ro⟩] }
def RIO_ST_SER_VALUE : Fld := ⟨RIO_ST_SER, 31, 0⟩
/-- R286. -/
def RIO_ST_DLEN : Reg := {
  blk := .rio, base := 0x4007101C, dims := [(256, 64)], rd := .g0, wr := .g0, rdom := .block,
  reset := 0x0, fields := [⟨26, 16, .ro⟩, ⟨10, 0, .ro⟩] }
def RIO_ST_DLEN_OLEN : Fld := ⟨RIO_ST_DLEN, 26, 16⟩
def RIO_ST_DLEN_ILEN : Fld := ⟨RIO_ST_DLEN, 10, 0⟩
/-- R286. -/
def RIO_ST_DLY : Reg := {
  blk := .rio, base := 0x40071020, dims := [(256, 64)], rd := .g0, wr := .g0, rdom := .block,
  reset := 0x0, fields := [⟨31, 0, .ro⟩] }
def RIO_ST_DLY_VALUE : Fld := ⟨RIO_ST_DLY, 31, 0⟩
/-- R286. -/
def RIO_ST_MISS : Reg := {
  blk := .rio, base := 0x40071024, dims := [(256, 64)], rd := .g0, wr := .g0, rdom := .block,
  reset := 0x0, fields := [⟨31, 0, .ro⟩] }
def RIO_ST_MISS_VALUE : Fld := ⟨RIO_ST_MISS, 31, 0⟩
/-- R308. -/
def PWM_STAT : Reg := {
  blk := .pwm, base := 0x400B0000, dims := [], rd := .g0, wr := .g1, rdom := .block,
  reset := 0x0, fields := [⟨18, 16, (.w1cTo 0)⟩, ⟨2, 2, .rs⟩, ⟨1, 1, .rs⟩, ⟨0, 0, .rs⟩] }
def PWM_STAT_CLR : Fld := ⟨PWM_STAT, 18, 16⟩
def PWM_STAT_SHF : Fld := ⟨PWM_STAT, 2, 2⟩
def PWM_STAT_CUTF : Fld := ⟨PWM_STAT, 1, 1⟩
def PWM_STAT_LOF : Fld := ⟨PWM_STAT, 0, 0⟩
/-- R308. -/
def PWM_COMMIT : Reg := {
  blk := .pwm, base := 0x400B0004, dims := [], rd := .g0, wr := .g1, rdom := .block,
  reset := 0x0, fields := [⟨15, 0, .w1s⟩] }
def PWM_COMMIT_G : Fld := ⟨PWM_COMMIT, 15, 0⟩
/-- R308. -/
def PWM_TRIPPOL : Reg := {
  blk := .pwm, base := 0x400B0008, dims := [], rd := .g0, wr := .g2, rdom := .feed,
  reset := 0x0, fields := [⟨15, 0, .rw⟩] }
def PWM_TRIPPOL_INV : Fld := ⟨PWM_TRIPPOL, 15, 0⟩
/-- R308. -/
def PWM_FC_SW : Reg := {
  blk := .pwm, base := 0x400B000C, dims := [], rd := .g0, wr := .g1, rdom := .block,
  reset := 0x0, fields := [⟨3, 0, .rw⟩] }
def PWM_FC_SW_SW : Fld := ⟨PWM_FC_SW, 3, 0⟩
/-- R308. -/
def PWM_LVL : Reg := {
  blk := .pwm, base := 0x400B0010, dims := [(4, 4)], rd := .g0, wr := .g1, rdom := .feed,
  reset := 0x0, fields := [⟨31, 0, .rw⟩] }
def PWM_LVL_LVL : Fld := ⟨PWM_LVL, 31, 0⟩
/-- R308. -/
def PWM_TRIPTOT : Reg := {
  blk := .pwm, base := 0x400B0020, dims := [], rd := .g0, wr := .g0, rdom := .block,
  reset := 0x0, fields := [⟨31, 0, .ro⟩] }
def PWM_TRIPTOT_COUNT : Fld := ⟨PWM_TRIPTOT, 31, 0⟩
/-- R308. -/
def PWM_FCTOT : Reg := {
  blk := .pwm, base := 0x400B0024, dims := [], rd := .g0, wr := .g0, rdom := .block,
  reset := 0x0, fields := [⟨31, 0, .ro⟩] }
def PWM_FCTOT_COUNT : Fld := ⟨PWM_FCTOT, 31, 0⟩
/-- R308. -/
def PWM_TRIPTOT_H : Reg := {
  blk := .pwm, base := 0x400B0030, dims := [], rd := .g0, wr := .g0, rdom := .block,
  reset := 0x0, fields := [⟨31, 0, .ro⟩] }
/-- R308. -/
def PWM_FCTOT_H : Reg := {
  blk := .pwm, base := 0x400B0034, dims := [], rd := .g0, wr := .g0, rdom := .block,
  reset := 0x0, fields := [⟨31, 0, .ro⟩] }
/-- R308. -/
def PWM_PR_CFG : Reg := {
  blk := .pwm, base := 0x400B1000, dims := [(64, 128)], rd := .g0, wr := .g2, rdom := .feed,
  reset := 0x10080000, fields := [⟨31, 31, .rw⟩, ⟨29, 28, .lk⟩, ⟨27, 27, .lk⟩, ⟨26, 26, .lk⟩, ⟨25, 25, .rw⟩, ⟨23, 16, .rw⟩, ⟨15, 10, .rw⟩, ⟨7, 4, .lk⟩, ⟨2, 0, .lk⟩] }
def PWM_PR_CFG_EN : Fld := ⟨PWM_PR_CFG, 31, 31⟩
def PWM_PR_CFG_MACT : Fld := ⟨PWM_PR_CFG, 29, 28⟩
def PWM_PR_CFG_POLL : Fld := ⟨PWM_PR_CFG, 27, 27⟩
def PWM_PR_CFG_POLH : Fld := ⟨PWM_PR_CFG, 26, 26⟩
def PWM_PR_CFG_AUTO : Fld := ⟨PWM_PR_CFG, 25, 25⟩
def PWM_PR_CFG_HALFN : Fld := ⟨PWM_PR_CFG, 23, 16⟩
def PWM_PR_CFG_RSTSRC : Fld := ⟨PWM_PR_CFG, 15, 10⟩
def PWM_PR_CFG_GROUP : Fld := ⟨PWM_PR_CFG, 7, 4⟩
def PWM_PR_CFG_MODE : Fld := ⟨PWM_PR_CFG, 2, 0⟩
/-- R308. -/
def PWM_PR_PER : Reg := {
  blk := .pwm, base := 0x400B1004, dims := [(64, 128)], rd := .g0, wr := .g1, rdom := .feed,
  reset := 0x400, fields := [⟨27, 0, .rw⟩] }
def PWM_PR_PER_VALUE : Fld := ⟨PWM_PR_PER, 27, 0⟩
/-- R308. -/
def PWM_PR_ON : Reg := {
  blk := .pwm, base := 0x400B1008, dims := [(64, 128)], rd := .g0, wr := .g1, rdom := .feed,
  reset := 0x0, fields := [⟨27, 0, .rw⟩] }
def PWM_PR_ON_VALUE : Fld := ⟨PWM_PR_ON, 27, 0⟩
/-- R308. -/
def PWM_PR_PH : Reg := {
  blk := .pwm, base := 0x400B100C, dims := [(64, 128)], rd := .g0, wr := .g2, rdom := .feed,
  reset := 0x0, fields := [⟨27, 0, .lk⟩] }
def PWM_PR_PH_VALUE : Fld := ⟨PWM_PR_PH, 27, 0⟩
/-- R308. -/
def PWM_PR_MINOFF : Reg := {
  blk := .pwm, base := 0x400B1010, dims := [(64, 128)], rd := .g0, wr := .g2, rdom := .feed,
  reset := 0x40, fields := [⟨15, 0, .rw⟩] }
def PWM_PR_MINOFF_MINOFF : Fld := ⟨PWM_PR_MINOFF, 15, 0⟩
/-- R308. -/
def PWM_PR_CMP : Reg := {
  blk := .pwm, base := 0x400B1014, dims := [(64, 128), (4, 4)], rd := .g0, wr := .g1, rdom := .feed,
  reset := 0x0, fields := [⟨31, 31, .rw⟩, ⟨30, 30, .rw⟩, ⟨27, 0, .rw⟩] }
def PWM_PR_CMP_EN : Fld := ⟨PWM_PR_CMP, 31, 31⟩
def PWM_PR_CMP_REF : Fld := ⟨PWM_PR_CMP, 30, 30⟩
def PWM_PR_CMP_VALUE : Fld := ⟨PWM_PR_CMP, 27, 0⟩
/-- R308. -/
def PWM_PR_DTHL : Reg := {
  blk := .pwm, base := 0x400B1024, dims := [(64, 128)], rd := .g0, wr := .g2, rdom := .feed,
  reset := 0x10064014, fields := [⟨31, 31, .rw⟩, ⟨29, 24, .rw⟩, ⟨23, 12, .rw⟩, ⟨11, 0, .rw⟩] }
def PWM_PR_DTHL_ADT : Fld := ⟨PWM_PR_DTHL, 31, 31⟩
def PWM_PR_DTHL_MARGIN : Fld := ⟨PWM_PR_DTHL, 29, 24⟩
def PWM_PR_DTHL_DTMAX : Fld := ⟨PWM_PR_DTHL, 23, 12⟩
def PWM_PR_DTHL_DTMIN : Fld := ⟨PWM_PR_DTHL, 11, 0⟩
/-- R308. -/
def PWM_PR_DTLH : Reg := {
  blk := .pwm, base := 0x400B1028, dims := [(64, 128)], rd := .g0, wr := .g2, rdom := .feed,
  reset := 0x10064014, fields := [⟨31, 31, .rw⟩, ⟨29, 24, .rw⟩, ⟨23, 12, .rw⟩, ⟨11, 0, .rw⟩] }
def PWM_PR_DTLH_ADT : Fld := ⟨PWM_PR_DTLH, 31, 31⟩
def PWM_PR_DTLH_MARGIN : Fld := ⟨PWM_PR_DTLH, 29, 24⟩
def PWM_PR_DTLH_DTMAX : Fld := ⟨PWM_PR_DTLH, 23, 12⟩
def PWM_PR_DTLH_DTMIN : Fld := ⟨PWM_PR_DTLH, 11, 0⟩
/-- R308. -/
def PWM_PR_TRIP : Reg := {
  blk := .pwm, base := 0x400B102C, dims := [(64, 128)], rd := .g0, wr := .g2, rdom := .feed,
  reset := 0x0, fields := [⟨15, 0, .rw⟩] }
def PWM_PR_TRIP_MASK : Fld := ⟨PWM_PR_TRIP, 15, 0⟩
/-- R308. -/
def PWM_PR_TRIPN : Reg := {
  blk := .pwm, base := 0x400B1030, dims := [(64, 128)], rd := .g0, wr := .g2, rdom := .feed,
  reset := 0x10000, fields := [⟨23, 16, .rw⟩, ⟨11, 0, .rw⟩] }
def PWM_PR_TRIPN_N : Fld := ⟨PWM_PR_TRIPN, 23, 16⟩
def PWM_PR_TRIPN_BLANK : Fld := ⟨PWM_PR_TRIPN, 11, 0⟩
/-- R308. -/
def PWM_PR_STAT : Reg := {
  blk := .pwm, base := 0x400B1034, dims := [(64, 128)], rd := .g0, wr := .g1, rdom := .block,
  reset := 0x0, fields := [⟨31, 24, .ro⟩, ⟨20, 16, (.w1cTo 0)⟩, ⟨6, 6, .ro⟩, ⟨5, 5, .ro⟩, ⟨4, 4, .rs⟩, ⟨3, 3, .rs⟩, ⟨2, 2, .rs⟩, ⟨1, 1, .rs⟩, ⟨0, 0, .rs⟩] }
def PWM_PR_STAT_TRIPRUN : Fld := ⟨PWM_PR_STAT, 31, 24⟩
def PWM_PR_STAT_CLR : Fld := ⟨PWM_PR_STAT, 20, 16⟩
def PWM_PR_STAT_CUTNOW : Fld := ⟨PWM_PR_STAT, 6, 6⟩
def PWM_PR_STAT_RUN : Fld := ⟨PWM_PR_STAT, 5, 5⟩
def PWM_PR_STAT_REJ : Fld := ⟨PWM_PR_STAT, 4, 4⟩
def PWM_PR_STAT_LATECOMMIT : Fld := ⟨PWM_PR_STAT, 3, 3⟩
def PWM_PR_STAT_HALF : Fld := ⟨PWM_PR_STAT, 2, 2⟩
def PWM_PR_STAT_CLAMP : Fld := ⟨PWM_PR_STAT, 1, 1⟩
def PWM_PR_STAT_LATCHOFF : Fld := ⟨PWM_PR_STAT, 0, 0⟩
/-- R308. -/
def PWM_PR_CNT : Reg := {
  blk := .pwm, base := 0x400B1038, dims := [(64, 128)], rd := .g0, wr := .g0, rdom := .block,
  reset := 0x0, fields := [⟨31, 16, .ro⟩, ⟨15, 0, .ro⟩] }
def PWM_PR_CNT_TRIPS : Fld := ⟨PWM_PR_CNT, 31, 16⟩
def PWM_PR_CNT_ADTMISS : Fld := ⟨PWM_PR_CNT, 15, 0⟩
/-- R308. -/
def PWM_PR_FCLO : Reg := {
  blk := .pwm, base := 0x400B103C, dims := [(64, 128)], rd := .g0, wr := .g2, rdom := .feed,
  reset := 0x0, fields := [⟨31, 0, .lk⟩] }
def PWM_PR_FCLO_SRC : Fld := ⟨PWM_PR_FCLO, 31, 0⟩
/-- R308. -/
def PWM_PR_FCHI : Reg := {
  blk := .pwm, base := 0x400B1040, dims := [(64, 128)], rd := .g0, wr := .g2, rdom := .feed,
  reset := 0x0, fields := [⟨31, 0, .lk⟩] }
def PWM_PR_FCHI_SRC : Fld := ⟨PWM_PR_FCHI, 31, 0⟩
/-- R308. -/
def PWM_PR_FCCTL : Reg := {
  blk := .pwm, base := 0x400B1044, dims := [(64, 128)], rd := .g0, wr := .g1, rdom := .feed,
  reset := 0x0, fields := [⟨17, 17, (.w1cTo 16)⟩, ⟨16, 16, .rs⟩, ⟨8, 8, .w1cCtl⟩, ⟨2, 1, .lk⟩, ⟨0, 0, .lk⟩] }
def PWM_PR_FCCTL_CUTF_CLR : Fld := ⟨PWM_PR_FCCTL, 17, 17⟩
def PWM_PR_FCCTL_CUTF : Fld := ⟨PWM_PR_FCCTL, 16, 16⟩
def PWM_PR_FCCTL_CLR : Fld := ⟨PWM_PR_FCCTL, 8, 8⟩
def PWM_PR_FCCTL_ACT : Fld := ⟨PWM_PR_FCCTL, 2, 1⟩
def PWM_PR_FCCTL_LATCH : Fld := ⟨PWM_PR_FCCTL, 0, 0⟩
/-- R328. -/
def MOT_CTL : Reg := {
  blk := .mot, base := 0x400C0000, dims := [], rd := .g0, wr := .g1, rdom := .block,
  reset := 0x0, fields := [⟨0, 0, .rw⟩] }
def MOT_CTL_DBGHOLD : Fld := ⟨MOT_CTL, 0, 0⟩
/-- R328. -/
def MOT_STAT : Reg := {
  blk := .mot, base := 0x400C0004, dims := [], rd := .g0, wr := .g1, rdom := .block,
  reset := 0x0, fields := [⟨18, 16, (.w1cTo 0)⟩, ⟨2, 2, .rs⟩, ⟨1, 1, .rs⟩, ⟨0, 0, .rs⟩] }
def MOT_STAT_CLR : Fld := ⟨MOT_STAT, 18, 16⟩
def MOT_STAT_RINGOVRF : Fld := ⟨MOT_STAT, 2, 2⟩
def MOT_STAT_STALLF : Fld := ⟨MOT_STAT, 1, 1⟩
def MOT_STAT_FAULTF : Fld := ⟨MOT_STAT, 0, 0⟩
/-- R328. -/
def MOT_RING : Reg := {
  blk := .mot, base := 0x400C0008, dims := [], rd := .g0, wr := .g2, rdom := .feed,
  reset := 0x0, fields := [⟨9, 0, .lk⟩] }
def MOT_RING_BASE : Fld := ⟨MOT_RING, 9, 0⟩
/-- R328. -/
def MOT_RING_WR : Reg := {
  blk := .mot, base := 0x400C000C, dims := [], rd := .g0, wr := .g0, rdom := .block,
  reset := 0x0, fields := [⟨11, 0, .ro⟩] }
def MOT_RING_WR_INDEX : Fld := ⟨MOT_RING_WR, 11, 0⟩
/-- R328. -/
def MOT_RING_RD : Reg := {
  blk := .mot, base := 0x400C0010, dims := [], rd := .g0, wr := .g1, rdom := .block,
  reset := 0x0, fields := [⟨11, 0, .rw⟩] }
def MOT_RING_RD_INDEX : Fld := ⟨MOT_RING_RD, 11, 0⟩
/-- R328. -/
def MOT_MOVETOT : Reg := {
  blk := .mot, base := 0x400C0020, dims := [], rd := .g0, wr := .g0, rdom := .block,
  reset := 0x0, fields := [⟨31, 0, .ro⟩] }
def MOT_MOVETOT_COUNT : Fld := ⟨MOT_MOVETOT, 31, 0⟩
/-- R328. -/
def MOT_FAULTTOT : Reg := {
  blk := .mot, base := 0x400C0024, dims := [], rd := .g0, wr := .g0, rdom := .block,
  reset := 0x0, fields := [⟨31, 0, .ro⟩] }
def MOT_FAULTTOT_COUNT : Fld := ⟨MOT_FAULTTOT, 31, 0⟩
/-- R328. -/
def MOT_RINGOVR : Reg := {
  blk := .mot, base := 0x400C0028, dims := [], rd := .g0, wr := .g0, rdom := .block,
  reset := 0x0, fields := [⟨31, 0, .ro⟩] }
def MOT_RINGOVR_COUNT : Fld := ⟨MOT_RINGOVR, 31, 0⟩
/-- R328. -/
def MOT_PF_VMAX : Reg := {
  blk := .mot, base := 0x400C0100, dims := [(16, 32)], rd := .g0, wr := .g2, rdom := .feed,
  reset := 0x1, fields := [⟨31, 0, .rw⟩] }
def MOT_PF_VMAX_LIMIT : Fld := ⟨MOT_PF_VMAX, 31, 0⟩
/-- R328. -/
def MOT_PF_AMAX : Reg := {
  blk := .mot, base := 0x400C0104, dims := [(16, 32)], rd := .g0, wr := .g2, rdom := .feed,
  reset := 0x1, fields := [⟨31, 0, .rw⟩] }
def MOT_PF_AMAX_LIMIT : Fld := ⟨MOT_PF_AMAX, 31, 0⟩
/-- R328. -/
def MOT_PF_DMAX : Reg := {
  blk := .mot, base := 0x400C0108, dims := [(16, 32)], rd := .g0, wr := .g2, rdom := .feed,
  reset := 0x1, fields := [⟨31, 0, .rw⟩] }
def MOT_PF_DMAX_LIMIT : Fld := ⟨MOT_PF_DMAX, 31, 0⟩
/-- R328. -/
def MOT_PF_JMAX : Reg := {
  blk := .mot, base := 0x400C010C, dims := [(16, 32)], rd := .g0, wr := .g2, rdom := .feed,
  reset := 0x1, fields := [⟨31, 0, .rw⟩] }
def MOT_PF_JMAX_LIMIT : Fld := ⟨MOT_PF_JMAX, 31, 0⟩
/-- R328. -/
def MOT_PF_CFG : Reg := {
  blk := .mot, base := 0x400C0110, dims := [(16, 32)], rd := .g0, wr := .g2, rdom := .feed,
  reset := 0x0, fields := [⟨0, 0, .rw⟩] }
def MOT_PF_CFG_BLEND : Fld := ⟨MOT_PF_CFG, 0, 0⟩
/-- R328. -/
def MOT_AX_CFG : Reg := {
  blk := .mot, base := 0x400C1000, dims := [(64, 64)], rd := .g0, wr := .g2, rdom := .feed,
  reset := 0x0, fields := [⟨31, 31, .rw⟩, ⟨8, 8, .rw⟩, ⟨7, 7, .rw⟩, ⟨6, 6, .lk⟩, ⟨5, 5, .lk⟩, ⟨4, 4, .lk⟩, ⟨1, 0, .lk⟩] }
def MOT_AX_CFG_EN : Fld := ⟨MOT_AX_CFG, 31, 31⟩
def MOT_AX_CFG_LIMEN : Fld := ⟨MOT_AX_CFG, 8, 8⟩
def MOT_AX_CFG_STALLACT : Fld := ⟨MOT_AX_CFG, 7, 7⟩
def MOT_AX_CFG_POLEN : Fld := ⟨MOT_AX_CFG, 6, 6⟩
def MOT_AX_CFG_POLDIR : Fld := ⟨MOT_AX_CFG, 5, 5⟩
def MOT_AX_CFG_POLSTEP : Fld := ⟨MOT_AX_CFG, 4, 4⟩
def MOT_AX_CFG_KIND : Fld := ⟨MOT_AX_CFG, 1, 0⟩
/-- R328. -/
def MOT_AX_IO : Reg := {
  blk := .mot, base := 0x400C1004, dims := [(64, 64)], rd := .g0, wr := .g2, rdom := .feed,
  reset := 0x0, fields := [⟨30, 22, .rw⟩, ⟨17, 0, .lk⟩] }
def MOT_AX_IO_DIRSU : Fld := ⟨MOT_AX_IO, 30, 22⟩
def MOT_AX_IO_STEPW : Fld := ⟨MOT_AX_IO, 17, 0⟩
/-- R328. -/
def MOT_AX_SID : Reg := {
  blk := .mot, base := 0x400C1008, dims := [(64, 64)], rd := .g0, wr := .g2, rdom := .feed,
  reset := 0x0, fields := [⟨31, 31, .rw⟩, ⟨17, 0, .lk⟩] }
def MOT_AX_SID_EN : Fld := ⟨MOT_AX_SID, 31, 31⟩
def MOT_AX_SID_BASE : Fld := ⟨MOT_AX_SID, 17, 0⟩
/-- R328. -/
def MOT_AX_LIMLO : Reg := {
  blk := .mot, base := 0x400C100C, dims := [(64, 64)], rd := .g0, wr := .g2, rdom := .feed,
  reset := 0x80000000, fields := [⟨31, 0, .rw⟩] }
def MOT_AX_LIMLO_VALUE : Fld := ⟨MOT_AX_LIMLO, 31, 0⟩
/-- R328. -/
def MOT_AX_LIMHI : Reg := {
  blk := .mot, base := 0x400C1010, dims := [(64, 64)], rd := .g0, wr := .g2, rdom := .feed,
  reset := 0x7FFFFFFF, fields := [⟨31, 0, .rw⟩] }
def MOT_AX_LIMHI_VALUE : Fld := ⟨MOT_AX_LIMHI, 31, 0⟩
/-- R328. -/
def MOT_AX_FERR : Reg := {
  blk := .mot, base := 0x400C1014, dims := [(64, 64)], rd := .g0, wr := .g2, rdom := .feed,
  reset := 0x100400, fields := [⟨31, 16, .rw⟩, ⟨15, 0, .rw⟩] }
def MOT_AX_FERR_INPOS : Fld := ⟨MOT_AX_FERR, 31, 16⟩
def MOT_AX_FERR_LIM : Fld := ⟨MOT_AX_FERR, 15, 0⟩
/-- R328. -/
def MOT_AX_MVP : Reg := {
  blk := .mot, base := 0x400C1018, dims := [(64, 64)], rd := .g0, wr := .g1, rdom := .block,
  reset := 0x0, fields := [⟨31, 0, .rw⟩] }
def MOT_AX_MVP_VALUE : Fld := ⟨MOT_AX_MVP, 31, 0⟩
/-- R328. -/
def MOT_AX_MVC : Reg := {
  blk := .mot, base := 0x400C101C, dims := [(64, 64)], rd := .g0, wr := .g1, rdom := .block,
  reset := 0x0, fields := [⟨31, 31, .w1s⟩, ⟨27, 24, .rw⟩, ⟨17, 16, .rw⟩, ⟨15, 0, .rw⟩] }
def MOT_AX_MVC_PUSH : Fld := ⟨MOT_AX_MVC, 31, 31⟩
def MOT_AX_MVC_PROF : Fld := ⟨MOT_AX_MVC, 27, 24⟩
def MOT_AX_MVC_KIND : Fld := ⟨MOT_AX_MVC, 17, 16⟩
def MOT_AX_MVC_TAG : Fld := ⟨MOT_AX_MVC, 15, 0⟩
/-- R328. -/
def MOT_AX_CMD : Reg := {
  blk := .mot, base := 0x400C1020, dims := [(64, 64)], rd := .g0, wr := .g1, rdom := .block,
  reset := 0x0, fields := [⟨2, 2, .w1s⟩, ⟨1, 1, .w1s⟩, ⟨0, 0, .w1s⟩] }
def MOT_AX_CMD_SETPOS : Fld := ⟨MOT_AX_CMD, 2, 2⟩
def MOT_AX_CMD_FCLR : Fld := ⟨MOT_AX_CMD, 1, 1⟩
def MOT_AX_CMD_STOP : Fld := ⟨MOT_AX_CMD, 0, 0⟩
/-- R328. -/
def MOT_AX_SETPOS : Reg := {
  blk := .mot, base := 0x400C1024, dims := [(64, 64)], rd := .g0, wr := .g1, rdom := .feed,
  reset := 0x0, fields := [⟨31, 0, .rw⟩] }
def MOT_AX_SETPOS_VALUE : Fld := ⟨MOT_AX_SETPOS, 31, 0⟩
/-- R328. -/
def MOT_AX_STAT : Reg := {
  blk := .mot, base := 0x400C1028, dims := [(64, 64)], rd := .g0, wr := .g0, rdom := .feed,
  reset := 0x80, fields := [⟨31, 26, .ro⟩, ⟨21, 16, .ro⟩, ⟨7, 7, .ro⟩, ⟨6, 6, .ro⟩, ⟨5, 5, .ro⟩, ⟨4, 4, .ro⟩, ⟨3, 3, .ro⟩, ⟨2, 0, .ro⟩] }
def MOT_AX_STAT_QLEN : Fld := ⟨MOT_AX_STAT, 31, 26⟩
def MOT_AX_STAT_FAULT : Fld := ⟨MOT_AX_STAT, 21, 16⟩
def MOT_AX_STAT_UNREF : Fld := ⟨MOT_AX_STAT, 7, 7⟩
def MOT_AX_STAT_STO : Fld := ⟨MOT_AX_STAT, 6, 6⟩
def MOT_AX_STAT_HOLDCUR : Fld := ⟨MOT_AX_STAT, 5, 5⟩
def MOT_AX_STAT_INPOS : Fld := ⟨MOT_AX_STAT, 4, 4⟩
def MOT_AX_STAT_BLEND : Fld := ⟨MOT_AX_STAT, 3, 3⟩
def MOT_AX_STAT_STATE : Fld := ⟨MOT_AX_STAT, 2, 0⟩
/-- R328. -/
def MOT_AX_POS : Reg := {
  blk := .mot, base := 0x400C102C, dims := [(64, 64)], rd := .g0, wr := .g0, rdom := .feed,
  reset := 0x0, fields := [⟨31, 0, .ro⟩] }
def MOT_AX_POS_VALUE : Fld := ⟨MOT_AX_POS, 31, 0⟩
/-- R328. -/
def MOT_AX_VEL : Reg := {
  blk := .mot, base := 0x400C1030, dims := [(64, 64)], rd := .g0, wr := .g0, rdom := .feed,
  reset := 0x0, fields := [⟨31, 0, .ro⟩] }
def MOT_AX_VEL_VALUE : Fld := ⟨MOT_AX_VEL, 31, 0⟩
/-- R328. -/
def MOT_AX_LOAD : Reg := {
  blk := .mot, base := 0x400C1034, dims := [(64, 64)], rd := .g0, wr := .g0, rdom := .feed,
  reset := 0x0, fields := [⟨15, 0, .ro⟩] }
def MOT_AX_LOAD_VALUE : Fld := ⟨MOT_AX_LOAD, 15, 0⟩
/-- R328. -/
def MOT_ID_CUR : Reg := {
  blk := .mot, base := 0x400C3000, dims := [(12, 32)], rd := .g0, wr := .g2, rdom := .feed,
  reset := 0x0, fields := [⟨31, 16, .rw⟩, ⟨15, 0, .rw⟩] }
def MOT_ID_CUR_IHOLD : Fld := ⟨MOT_ID_CUR, 31, 16⟩
def MOT_ID_CUR_IRUN : Fld := ⟨MOT_ID_CUR, 15, 0⟩
/-- R328. -/
def MOT_ID_RL : Reg := {
  blk := .mot, base := 0x400C3004, dims := [(12, 32)], rd := .g0, wr := .g2, rdom := .feed,
  reset := 0x0, fields := [⟨31, 16, .rw⟩, ⟨15, 0, .rw⟩] }
def MOT_ID_RL_L : Fld := ⟨MOT_ID_RL, 31, 16⟩
def MOT_ID_RL_R : Fld := ⟨MOT_ID_RL, 15, 0⟩
/-- R328. -/
def MOT_ID_VBUS : Reg := {
  blk := .mot, base := 0x400C3008, dims := [(12, 32)], rd := .g0, wr := .g2, rdom := .feed,
  reset := 0x0, fields := [⟨31, 16, .rw⟩, ⟨15, 0, .rw⟩] }
def MOT_ID_VBUS_EMIN : Fld := ⟨MOT_ID_VBUS, 31, 16⟩
def MOT_ID_VBUS_VBUS : Fld := ⟨MOT_ID_VBUS, 15, 0⟩
/-- R328. -/
def MOT_ID_SNS : Reg := {
  blk := .mot, base := 0x400C300C, dims := [(12, 32)], rd := .g0, wr := .g2, rdom := .feed,
  reset := 0x0, fields := [⟨15, 0, .rw⟩] }
def MOT_ID_SNS_SCALE : Fld := ⟨MOT_ID_SNS, 15, 0⟩
/-- R328. -/
def MOT_ID_STALL : Reg := {
  blk := .mot, base := 0x400C3010, dims := [(12, 32)], rd := .g0, wr := .g2, rdom := .feed,
  reset := 0x0, fields := [⟨31, 24, .rw⟩, ⟨23, 16, .rw⟩, ⟨15, 0, .rw⟩] }
def MOT_ID_STALL_N : Fld := ⟨MOT_ID_STALL, 31, 24⟩
def MOT_ID_STALL_ANG : Fld := ⟨MOT_ID_STALL, 23, 16⟩
def MOT_ID_STALL_MINSPD : Fld := ⟨MOT_ID_STALL, 15, 0⟩
/-- R341. -/
def CAN_CTL : Reg := {
  blk := .can, base := 0x400D0000, dims := [(8, 256)], rd := .g0, wr := .g1, rdom := .feed,
  reset := 0x2, fields := [⟨6, 6, .w1s⟩, ⟨5, 5, .rw⟩, ⟨4, 4, .rw⟩, ⟨3, 2, .rw⟩, ⟨1, 1, .rw⟩, ⟨0, 0, .rw⟩] }
def CAN_CTL_RECOVER : Fld := ⟨CAN_CTL, 6, 6⟩
def CAN_CTL_ONESHOT : Fld := ⟨CAN_CTL, 5, 5⟩
def CAN_CTL_FDEN : Fld := ⟨CAN_CTL, 4, 4⟩
def CAN_CTL_OPMODE : Fld := ⟨CAN_CTL, 3, 2⟩
def CAN_CTL_INIT : Fld := ⟨CAN_CTL, 1, 1⟩
def CAN_CTL_EN : Fld := ⟨CAN_CTL, 0, 0⟩
/-- R341. -/
def CAN_NBT : Reg := {
  blk := .can, base := 0x400D0004, dims := [(8, 256)], rd := .g0, wr := .g2, rdom := .feed,
  reset := 0x0, fields := [⟨31, 27, .rw⟩, ⟨25, 18, .rw⟩, ⟨17, 11, .rw⟩, ⟨6, 0, .rw⟩] }
def CAN_NBT_NBRP : Fld := ⟨CAN_NBT, 31, 27⟩
def CAN_NBT_NTSEG1 : Fld := ⟨CAN_NBT, 25, 18⟩
def CAN_NBT_NTSEG2 : Fld := ⟨CAN_NBT, 17, 11⟩
def CAN_NBT_NSJW : Fld := ⟨CAN_NBT, 6, 0⟩
/-- R341. -/
def CAN_DBT : Reg := {
  blk := .can, base := 0x400D0008, dims := [(8, 256)], rd := .g0, wr := .g2, rdom := .feed,
  reset := 0x0, fields := [⟨31, 27, .rw⟩, ⟨26, 22, .rw⟩, ⟨21, 18, .rw⟩, ⟨17, 14, .rw⟩, ⟨13, 13, .rw⟩, ⟨6, 0, .rw⟩] }
def CAN_DBT_DBRP : Fld := ⟨CAN_DBT, 31, 27⟩
def CAN_DBT_DTSEG1 : Fld := ⟨CAN_DBT, 26, 22⟩
def CAN_DBT_DTSEG2 : Fld := ⟨CAN_DBT, 21, 18⟩
def CAN_DBT_DSJW : Fld := ⟨CAN_DBT, 17, 14⟩
def CAN_DBT_TDCEN : Fld := ⟨CAN_DBT, 13, 13⟩
def CAN_DBT_TDCO : Fld := ⟨CAN_DBT, 6, 0⟩
/-- R341. -/
def CAN_ERR : Reg := {
  blk := .can, base := 0x400D000C, dims := [(8, 256)], rd := .g0, wr := .g0, rdom := .block,
  reset := 0x0, fields := [⟨31, 30, .ro⟩, ⟨23, 16, .ro⟩, ⟨15, 8, .ro⟩] }
def CAN_ERR_STATE : Fld := ⟨CAN_ERR, 31, 30⟩
def CAN_ERR_TEC : Fld := ⟨CAN_ERR, 23, 16⟩
def CAN_ERR_REC : Fld := ⟨CAN_ERR, 15, 8⟩
/-- R341. -/
def CAN_FLAGS : Reg := {
  blk := .can, base := 0x400D0010, dims := [(8, 256)], rd := .g0, wr := .g1, rdom := .block,
  reset := 0x0, fields := [⟨21, 16, (.w1cTo 0)⟩, ⟨6, 6, .ro⟩, ⟨5, 5, .rs⟩, ⟨4, 4, .rs⟩, ⟨3, 3, .rs⟩, ⟨2, 2, .rs⟩, ⟨1, 1, .rs⟩, ⟨0, 0, .rs⟩] }
def CAN_FLAGS_CLR : Fld := ⟨CAN_FLAGS, 21, 16⟩
def CAN_FLAGS_BUSOFF : Fld := ⟨CAN_FLAGS, 6, 6⟩
def CAN_FLAGS_TMOF : Fld := ⟨CAN_FLAGS, 5, 5⟩
def CAN_FLAGS_MAPF : Fld := ⟨CAN_FLAGS, 4, 4⟩
def CAN_FLAGS_PXE : Fld := ⟨CAN_FLAGS, 3, 3⟩
def CAN_FLAGS_RXLOSTF : Fld := ⟨CAN_FLAGS, 2, 2⟩
def CAN_FLAGS_EPASS : Fld := ⟨CAN_FLAGS, 1, 1⟩
def CAN_FLAGS_BOFF : Fld := ⟨CAN_FLAGS, 0, 0⟩
/-- R341. -/
def CAN_OWN : Reg := {
  blk := .can, base := 0x400D0014, dims := [(8, 256)], rd := .g0, wr := .g0, rdom := .block,
  reset := 0x40, fields := [⟨23, 16, .ro⟩, ⟨15, 8, .ro⟩, ⟨7, 0, .ro⟩] }
def CAN_OWN_NCTRL : Fld := ⟨CAN_OWN, 23, 16⟩
def CAN_OWN_NSW : Fld := ⟨CAN_OWN, 15, 8⟩
def CAN_OWN_NFREE : Fld := ⟨CAN_OWN, 7, 0⟩
/-- R341. -/
def CAN_ND : Reg := {
  blk := .can, base := 0x400D0018, dims := [(8, 256), (2, 4)], rd := .g0, wr := .g1, rdom := .block,
  reset := 0x0, fields := [⟨31, 0, .w1c⟩] }
def CAN_ND_ND : Fld := ⟨CAN_ND, 31, 0⟩
/-- R341. -/
def CAN_RXCNT : Reg := {
  blk := .can, base := 0x400D0020, dims := [(8, 256)], rd := .g0, wr := .g0, rdom := .block,
  reset := 0x0, fields := [⟨31, 0, .ro⟩] }
def CAN_RXCNT_COUNT : Fld := ⟨CAN_RXCNT, 31, 0⟩
/-- R341. -/
def CAN_NOMATCH : Reg := {
  blk := .can, base := 0x400D0024, dims := [(8, 256)], rd := .g0, wr := .g0, rdom := .block,
  reset := 0x0, fields := [⟨31, 0, .ro⟩] }
def CAN_NOMATCH_COUNT : Fld := ⟨CAN_NOMATCH, 31, 0⟩
/-- R341. -/
def CAN_RXLOST : Reg := {
  blk := .can, base := 0x400D0028, dims := [(8, 256)], rd := .g0, wr := .g0, rdom := .block,
  reset := 0x0, fields := [⟨31, 0, .ro⟩] }
def CAN_RXLOST_COUNT : Fld := ⟨CAN_RXLOST, 31, 0⟩
/-- R341. -/
def CAN_TXCNT : Reg := {
  blk := .can, base := 0x400D002C, dims := [(8, 256)], rd := .g0, wr := .g0, rdom := .block,
  reset := 0x0, fields := [⟨31, 0, .ro⟩] }
def CAN_TXCNT_COUNT : Fld := ⟨CAN_TXCNT, 31, 0⟩
/-- R341. -/
def CAN_MB_ID : Reg := {
  blk := .can, base := 0x400D1000, dims := [(8, 6144), (64, 96)], rd := .g0, wr := .g1, rdom := .feed,
  reset := 0x0, fields := [⟨31, 31, .rw⟩, ⟨28, 0, .rw⟩] }
def CAN_MB_ID_IDE : Fld := ⟨CAN_MB_ID, 31, 31⟩
def CAN_MB_ID_ID : Fld := ⟨CAN_MB_ID, 28, 0⟩
/-- R341. -/
def CAN_MB_CTRL : Reg := {
  blk := .can, base := 0x400D1004, dims := [(8, 6144), (64, 96)], rd := .g0, wr := .g1, rdom := .feed,
  reset := 0x0, fields := [⟨31, 31, .rw⟩, ⟨30, 30, .rw⟩, ⟨29, 29, .ro⟩, ⟨3, 0, .rw⟩] }
def CAN_MB_CTRL_FDF : Fld := ⟨CAN_MB_CTRL, 31, 31⟩
def CAN_MB_CTRL_BRS : Fld := ⟨CAN_MB_CTRL, 30, 30⟩
def CAN_MB_CTRL_ESI : Fld := ⟨CAN_MB_CTRL, 29, 29⟩
def CAN_MB_CTRL_DLC : Fld := ⟨CAN_MB_CTRL, 3, 0⟩
/-- R341. -/
def CAN_MB_MASK : Reg := {
  blk := .can, base := 0x400D1008, dims := [(8, 6144), (64, 96)], rd := .g0, wr := .g1, rdom := .feed,
  reset := 0x0, fields := [⟨31, 31, .rw⟩, ⟨28, 0, .rw⟩] }
def CAN_MB_MASK_IDE : Fld := ⟨CAN_MB_MASK, 31, 31⟩
def CAN_MB_MASK_MASK : Fld := ⟨CAN_MB_MASK, 28, 0⟩
/-- R341. -/
def CAN_MB_CFG : Reg := {
  blk := .can, base := 0x400D100C, dims := [(8, 6144), (64, 96)], rd := .g0, wr := .g1, rdom := .feed,
  reset := 0x0, fields := [⟨31, 30, .rw⟩, ⟨15, 0, .rw⟩] }
def CAN_MB_CFG_ROLE : Fld := ⟨CAN_MB_CFG, 31, 30⟩
def CAN_MB_CFG_TMO : Fld := ⟨CAN_MB_CFG, 15, 0⟩
/-- R341. -/
def CAN_MB_STAT : Reg := {
  blk := .can, base := 0x400D1010, dims := [(8, 6144), (64, 96)], rd := .g0, wr := .g1, rdom := .feed,
  reset := 0x0, fields := [⟨31, 24, .ro⟩, ⟨9, 9, (.w1cTo 8)⟩, ⟨8, 8, .rs⟩, ⟨2, 2, .ro⟩, ⟨1, 1, .w1s⟩, ⟨0, 0, .w1s⟩] }
def CAN_MB_STAT_CODE : Fld := ⟨CAN_MB_STAT, 31, 24⟩
def CAN_MB_STAT_OVR_CLR : Fld := ⟨CAN_MB_STAT, 9, 9⟩
def CAN_MB_STAT_OVR : Fld := ⟨CAN_MB_STAT, 8, 8⟩
def CAN_MB_STAT_TXPEND : Fld := ⟨CAN_MB_STAT, 2, 2⟩
def CAN_MB_STAT_ABORT : Fld := ⟨CAN_MB_STAT, 1, 1⟩
def CAN_MB_STAT_TXREQ : Fld := ⟨CAN_MB_STAT, 0, 0⟩
/-- R341. -/
def CAN_MB_TICK : Reg := {
  blk := .can, base := 0x400D1014, dims := [(8, 6144), (64, 96)], rd := .g0, wr := .g0, rdom := .feed,
  reset := 0x0, fields := [⟨31, 0, .ro⟩] }
def CAN_MB_TICK_TICK : Fld := ⟨CAN_MB_TICK, 31, 0⟩
/-- R341. -/
def CAN_MB_DATA : Reg := {
  blk := .can, base := 0x400D1020, dims := [(8, 6144), (64, 96), (16, 4)], rd := .g0, wr := .g1, rdom := .feed,
  reset := 0x0, fields := [⟨31, 0, .rw⟩] }
def CAN_MB_DATA_DATA : Fld := ⟨CAN_MB_DATA, 31, 0⟩
/-- R341. -/
def CAN_MAP_A : Reg := {
  blk := .can, base := 0x400DE000, dims := [(512, 8)], rd := .g0, wr := .g2, rdom := .feed,
  reset := 0x0, fields := [⟨31, 31, .rw⟩, ⟨30, 28, .rw⟩, ⟨27, 22, .rw⟩, ⟨21, 20, .rw⟩, ⟨19, 19, .rw⟩, ⟨17, 0, .rw⟩] }
def CAN_MAP_A_EN : Fld := ⟨CAN_MAP_A, 31, 31⟩
def CAN_MAP_A_CTRL : Fld := ⟨CAN_MAP_A, 30, 28⟩
def CAN_MAP_A_MB : Fld := ⟨CAN_MAP_A, 27, 22⟩
def CAN_MAP_A_FMT : Fld := ⟨CAN_MAP_A, 21, 20⟩
def CAN_MAP_A_ORDER : Fld := ⟨CAN_MAP_A, 19, 19⟩
def CAN_MAP_A_SID : Fld := ⟨CAN_MAP_A, 17, 0⟩
/-- R341. -/
def CAN_MAP_B : Reg := {
  blk := .can, base := 0x400DE004, dims := [(512, 8)], rd := .g0, wr := .g2, rdom := .feed,
  reset := 0x0, fields := [⟨25, 16, .rw⟩, ⟨5, 0, .rw⟩] }
def CAN_MAP_B_START : Fld := ⟨CAN_MAP_B, 25, 16⟩
def CAN_MAP_B_LEN : Fld := ⟨CAN_MAP_B, 5, 0⟩
/-- R244. -/
def ACQ_NFREE_H : Reg := {
  blk := .acq, base := 0x400A0040, dims := [], rd := .g0, wr := .g0, rdom := .block,
  reset := 0x0, fields := [⟨14, 0, .ro⟩] }
/-- R244. -/
def ACQ_NARMED_H : Reg := {
  blk := .acq, base := 0x400A0044, dims := [], rd := .g0, wr := .g0, rdom := .block,
  reset := 0x0, fields := [⟨14, 0, .ro⟩] }
/-- R244. -/
def ACQ_NFILL_H : Reg := {
  blk := .acq, base := 0x400A0048, dims := [], rd := .g0, wr := .g0, rdom := .block,
  reset := 0x0, fields := [⟨14, 0, .ro⟩] }
/-- R244. -/
def ACQ_NCOMPL_H : Reg := {
  blk := .acq, base := 0x400A004C, dims := [], rd := .g0, wr := .g0, rdom := .block,
  reset := 0x0, fields := [⟨14, 0, .ro⟩] }
/-- R244. -/
def ACQ_NCONF_H : Reg := {
  blk := .acq, base := 0x400A0050, dims := [], rd := .g0, wr := .g0, rdom := .block,
  reset := 0x0, fields := [⟨14, 0, .ro⟩] }
/-- R244. -/
def ACQ_OVWR_H : Reg := {
  blk := .acq, base := 0x400A0054, dims := [], rd := .g0, wr := .g0, rdom := .block,
  reset := 0x0, fields := [⟨31, 0, .ro⟩] }
/-- R341. -/
def CAN_RXCNT_H : Reg := {
  blk := .can, base := 0x400D0030, dims := [(8, 256)], rd := .g0, wr := .g0, rdom := .block,
  reset := 0x0, fields := [⟨31, 0, .ro⟩] }
/-- R341. -/
def CAN_NOMATCH_H : Reg := {
  blk := .can, base := 0x400D0034, dims := [(8, 256)], rd := .g0, wr := .g0, rdom := .block,
  reset := 0x0, fields := [⟨31, 0, .ro⟩] }
/-- R341. -/
def CAN_RXLOST_H : Reg := {
  blk := .can, base := 0x400D0038, dims := [(8, 256)], rd := .g0, wr := .g0, rdom := .block,
  reset := 0x0, fields := [⟨31, 0, .ro⟩] }
/-- R341. -/
def CAN_TXCNT_H : Reg := {
  blk := .can, base := 0x400D003C, dims := [(8, 256)], rd := .g0, wr := .g0, rdom := .block,
  reset := 0x0, fields := [⟨31, 0, .ro⟩] }
/-- R244. -/
def ACQ_SET_MISS_H : Reg := {
  blk := .acq, base := 0x400A2000, dims := [(64, 8)], rd := .g0, wr := .g0, rdom := .block,
  reset := 0x0, fields := [⟨31, 0, .ro⟩] }
/-- R244. -/
def ACQ_SET_SEGS_H : Reg := {
  blk := .acq, base := 0x400A2004, dims := [(64, 8)], rd := .g0, wr := .g0, rdom := .block,
  reset := 0x0, fields := [⟨31, 0, .ro⟩] }
/-- R286. -/
def RIO_DROVR_H : Reg := {
  blk := .rio, base := 0x40070030, dims := [], rd := .g0, wr := .g0, rdom := .block,
  reset := 0x0, fields := [⟨31, 0, .ro⟩] }
/-- R286. -/
def RIO_P_SENT_H : Reg := {
  blk := .rio, base := 0x40070400, dims := [(4, 32)], rd := .g0, wr := .g0, rdom := .block,
  reset := 0x0, fields := [⟨31, 0, .ro⟩] }
/-- R286. -/
def RIO_P_RET_H : Reg := {
  blk := .rio, base := 0x40070404, dims := [(4, 32)], rd := .g0, wr := .g0, rdom := .block,
  reset := 0x0, fields := [⟨31, 0, .ro⟩] }
/-- R286. -/
def RIO_P_LOST_H : Reg := {
  blk := .rio, base := 0x40070408, dims := [(4, 32)], rd := .g0, wr := .g0, rdom := .block,
  reset := 0x0, fields := [⟨31, 0, .ro⟩] }
/-- R286. -/
def RIO_P_LATE_H : Reg := {
  blk := .rio, base := 0x4007040C, dims := [(4, 32)], rd := .g0, wr := .g0, rdom := .block,
  reset := 0x0, fields := [⟨31, 0, .ro⟩] }
/-- R286. -/
def RIO_P_FCSERR_H : Reg := {
  blk := .rio, base := 0x40070410, dims := [(4, 32)], rd := .g0, wr := .g0, rdom := .block,
  reset := 0x0, fields := [⟨31, 0, .ro⟩] }
/-- R286. -/
def RIO_ST_MISS_H : Reg := {
  blk := .rio, base := 0x40075000, dims := [(256, 4)], rd := .g0, wr := .g0, rdom := .block,
  reset := 0x0, fields := [⟨31, 0, .ro⟩] }
/-- R328. -/
def MOT_MOVETOT_H : Reg := {
  blk := .mot, base := 0x400C0030, dims := [], rd := .g0, wr := .g0, rdom := .block,
  reset := 0x0, fields := [⟨31, 0, .ro⟩] }
/-- R328. -/
def MOT_FAULTTOT_H : Reg := {
  blk := .mot, base := 0x400C0034, dims := [], rd := .g0, wr := .g0, rdom := .block,
  reset := 0x0, fields := [⟨31, 0, .ro⟩] }
/-- R328. -/
def MOT_RINGOVR_H : Reg := {
  blk := .mot, base := 0x400C0038, dims := [], rd := .g0, wr := .g0, rdom := .block,
  reset := 0x0, fields := [⟨31, 0, .ro⟩] }
def lensRegs : List Reg :=
  [LENS_RECTOT, LENS_DROPTOT, LENS_RECTOT_H, LENS_DROPTOT_H, LENS_CH_SRC, LENS_CH_BUF, LENS_CH_TRG, LENS_CH_THR, LENS_CH_PRE, LENS_CH_POST, LENS_CH_CTL, LENS_CH_STAT, LENS_CH_FIRST, LENS_CH_NREC, LENS_CH_TRGIDX, LENS_CH_TTICK_LO, LENS_CH_TTICK_HI, LENS_CH_REC, LENS_CH_DROP]
/-- Each counter of the block with its holding register (R73). -/
def lensSnap : List (Reg × Reg) :=
  [(LENS_RECTOT, LENS_RECTOT_H), (LENS_DROPTOT, LENS_DROPTOT_H)]
def rfaRegs : List Reg :=
  [RFA_STAT, RFA_ARCLOST, RFA_ARCLOST_H, RFA_CH_CFG, RFA_CH_SCALE, RFA_CH_CALCTL, RFA_CH_CALSTAT, RFA_CH_ARC, RFA_CH_ARCOUT, RFA_CH_ARCCNT, RFA_CH_ARCCNT_H, RFA_CH_TONESID, RFA_CH_EST_A, RFA_CH_EST_B, RFA_TONE_FREQ, RFA_TONE_CFG, RFA_PAIR_CFG, RFA_PAIR_ZFS, RFA_PAIR_PFS]
/-- Each counter of the block with its holding register (R73). -/
def rfaSnap : List (Reg × Reg) :=
  [(RFA_ARCLOST, RFA_ARCLOST_H), (RFA_CH_ARCCNT, RFA_CH_ARCCNT_H)]
def acqRegs0 : List Reg :=
  [ACQ_STAT, ACQ_BUDGET, ACQ_TOUT, ACQ_NFREE, ACQ_NARMED, ACQ_NFILL, ACQ_NCOMPL, ACQ_NCONF, ACQ_OVWR, ACQ_SET_BASE, ACQ_SET_SEG, ACQ_SET_STRM, ACQ_SET_PRE, ACQ_SET_TRG, ACQ_SET_THR, ACQ_SET_CTL, ACQ_SET_STAT, ACQ_SET_RATE, ACQ_SET_OLDEST, ACQ_SET_REL, ACQ_SET_MISS, ACQ_SET_SEGS, ACQ_NFREE_H, ACQ_NARMED_H]
def acqRegs1 : List Reg :=
  [ACQ_NFILL_H, ACQ_NCOMPL_H, ACQ_NCONF_H, ACQ_OVWR_H, ACQ_SET_MISS_H, ACQ_SET_SEGS_H]
/-- The registers of the block ACQ. -/
def acqRegs : List Reg := acqRegs0 ++ acqRegs1
/-- Each counter of the block with its holding register (R73). -/
def acqSnap : List (Reg × Reg) :=
  [(ACQ_NFREE, ACQ_NFREE_H), (ACQ_NARMED, ACQ_NARMED_H), (ACQ_NFILL, ACQ_NFILL_H), (ACQ_NCOMPL, ACQ_NCOMPL_H), (ACQ_NCONF, ACQ_NCONF_H), (ACQ_OVWR, ACQ_OVWR_H), (ACQ_SET_MISS, ACQ_SET_MISS_H), (ACQ_SET_SEGS, ACQ_SET_SEGS_H)]
def sarRegs : List Reg :=
  [SAR_STAT, SAR_CONVTOT, SAR_MISS, SAR_LOST, SAR_CONVTOT_H, SAR_MISS_H, SAR_LOST_H, SAR_CONV_CFG, SAR_CONV_TRG, SAR_CONV_DIV, SAR_CONV_CTL, SAR_CONV_STAT, SAR_IN_MAP, SAR_IN_CAL, SAR_TDAC_LVL, SAR_TDAC_REQ, SAR_TDAC_LIM, SAR_TDAC_RES, SAR_FAULT, SAR_DAC_CFG, SAR_DAC_CODE, SAR_DAC_STAT]
/-- Each counter of the block with its holding register (R73). -/
def sarSnap : List (Reg × Reg) :=
  [(SAR_CONVTOT, SAR_CONVTOT_H), (SAR_MISS, SAR_MISS_H), (SAR_LOST, SAR_LOST_H)]
def rioRegs0 : List Reg :=
  [RIO_ETYPE, RIO_IMG, RIO_DRING, RIO_STAT, RIO_DRING_WR, RIO_DRING_RD, RIO_DROVR, RIO_NEWLOST, RIO_P_CTL, RIO_P_CYC, RIO_P_BND, RIO_P_STAT, RIO_P_PRED, RIO_P_CSEQ, RIO_P_SENT, RIO_P_RET, RIO_P_LOST, RIO_P_LATE, RIO_P_FCSERR, RIO_ST_CFG, RIO_ST_EXP, RIO_ST_LEN, RIO_ST_ISID, RIO_ST_STAT]
def rioRegs1 : List Reg :=
  [RIO_ST_ID, RIO_ST_SER, RIO_ST_DLEN, RIO_ST_DLY, RIO_ST_MISS, RIO_DROVR_H, RIO_P_SENT_H, RIO_P_RET_H, RIO_P_LOST_H, RIO_P_LATE_H, RIO_P_FCSERR_H, RIO_ST_MISS_H]
/-- The registers of the block RIO. -/
def rioRegs : List Reg := rioRegs0 ++ rioRegs1
/-- Each counter of the block with its holding register (R73). -/
def rioSnap : List (Reg × Reg) :=
  [(RIO_DROVR, RIO_DROVR_H), (RIO_P_SENT, RIO_P_SENT_H), (RIO_P_RET, RIO_P_RET_H), (RIO_P_LOST, RIO_P_LOST_H), (RIO_P_LATE, RIO_P_LATE_H), (RIO_P_FCSERR, RIO_P_FCSERR_H), (RIO_ST_MISS, RIO_ST_MISS_H)]
def pwmRegs : List Reg :=
  [PWM_STAT, PWM_COMMIT, PWM_TRIPPOL, PWM_FC_SW, PWM_LVL, PWM_TRIPTOT, PWM_FCTOT, PWM_TRIPTOT_H, PWM_FCTOT_H, PWM_PR_CFG, PWM_PR_PER, PWM_PR_ON, PWM_PR_PH, PWM_PR_MINOFF, PWM_PR_CMP, PWM_PR_DTHL, PWM_PR_DTLH, PWM_PR_TRIP, PWM_PR_TRIPN, PWM_PR_STAT, PWM_PR_CNT, PWM_PR_FCLO, PWM_PR_FCHI, PWM_PR_FCCTL]
/-- Each counter of the block with its holding register (R73). -/
def pwmSnap : List (Reg × Reg) :=
  [(PWM_TRIPTOT, PWM_TRIPTOT_H), (PWM_FCTOT, PWM_FCTOT_H)]
def motRegs0 : List Reg :=
  [MOT_CTL, MOT_STAT, MOT_RING, MOT_RING_WR, MOT_RING_RD, MOT_MOVETOT, MOT_FAULTTOT, MOT_RINGOVR, MOT_PF_VMAX, MOT_PF_AMAX, MOT_PF_DMAX, MOT_PF_JMAX, MOT_PF_CFG, MOT_AX_CFG, MOT_AX_IO, MOT_AX_SID, MOT_AX_LIMLO, MOT_AX_LIMHI, MOT_AX_FERR, MOT_AX_MVP, MOT_AX_MVC, MOT_AX_CMD, MOT_AX_SETPOS, MOT_AX_STAT]
def motRegs1 : List Reg :=
  [MOT_AX_POS, MOT_AX_VEL, MOT_AX_LOAD, MOT_ID_CUR, MOT_ID_RL, MOT_ID_VBUS, MOT_ID_SNS, MOT_ID_STALL, MOT_MOVETOT_H, MOT_FAULTTOT_H, MOT_RINGOVR_H]
/-- The registers of the block MOT. -/
def motRegs : List Reg := motRegs0 ++ motRegs1
/-- Each counter of the block with its holding register (R73). -/
def motSnap : List (Reg × Reg) :=
  [(MOT_MOVETOT, MOT_MOVETOT_H), (MOT_FAULTTOT, MOT_FAULTTOT_H), (MOT_RINGOVR, MOT_RINGOVR_H)]
def canRegs : List Reg :=
  [CAN_CTL, CAN_NBT, CAN_DBT, CAN_ERR, CAN_FLAGS, CAN_OWN, CAN_ND, CAN_RXCNT, CAN_NOMATCH, CAN_RXLOST, CAN_TXCNT, CAN_MB_ID, CAN_MB_CTRL, CAN_MB_MASK, CAN_MB_CFG, CAN_MB_STAT, CAN_MB_TICK, CAN_MB_DATA, CAN_MAP_A, CAN_MAP_B, CAN_RXCNT_H, CAN_NOMATCH_H, CAN_RXLOST_H, CAN_TXCNT_H]
/-- Each counter of the block with its holding register (R73). -/
def canSnap : List (Reg × Reg) :=
  [(CAN_RXCNT, CAN_RXCNT_H), (CAN_NOMATCH, CAN_NOMATCH_H), (CAN_RXLOST, CAN_RXLOST_H), (CAN_TXCNT, CAN_TXCNT_H)]

end Sys2Proof.Machine
end

