-- ==== Sys2Proof/Machine/RegsInfra.lean ====
section
/-!
DEFINITION. Register descriptors of the blocks SYS, PWR, CLK, TIME, TAIL, NVM,
each from the summary table and the field table of its chapter of spec/ (base address, index ranges,
guards, reset domain, fields with access code; `reset` joins the fields' reset values), and one name
per field. Reserved bits are those no field covers (02 R66).
-/
namespace Sys2Proof.Machine

/-- R79. -/
def SYS_ID : Reg := {
  blk := .sys, base := 0x40000000, dims := [], rd := .g0, wr := .g0, rdom := .por,
  reset := 0x64164149, fields := [⟨31, 16, .ro⟩, ⟨15, 8, .ro⟩, ⟨7, 0, .ro⟩] }
def SYS_ID_PART : Fld := ⟨SYS_ID, 31, 16⟩
def SYS_ID_STEP : Fld := ⟨SYS_ID, 15, 8⟩
def SYS_ID_GRADE : Fld := ⟨SYS_ID, 7, 0⟩
/-- R79. -/
def SYS_DEVNUM : Reg := {
  blk := .sys, base := 0x40000004, dims := [], rd := .g0, wr := .g2, rdom := .retained,
  reset := 0x0, fields := [⟨13, 0, .lk⟩] }
def SYS_DEVNUM_DEVNUM : Fld := ⟨SYS_DEVNUM, 13, 0⟩
/-- R79. -/
def SYS_MODE : Reg := {
  blk := .sys, base := 0x40000008, dims := [], rd := .g0, wr := .g0, rdom := .feed,
  reset := 0x1, fields := [⟨7, 4, .ro⟩, ⟨3, 0, .ro⟩] }
def SYS_MODE_PREV : Fld := ⟨SYS_MODE, 7, 4⟩
def SYS_MODE_CUR : Fld := ⟨SYS_MODE, 3, 0⟩
/-- R79. -/
def SYS_RSTCAUSE : Reg := {
  blk := .sys, base := 0x4000000C, dims := [], rd := .g0, wr := .g1, rdom := .por,
  reset := 0x1, fields := [⟨4, 4, .w1c⟩, ⟨3, 3, .w1c⟩, ⟨2, 2, .w1c⟩, ⟨1, 1, .w1c⟩, ⟨0, 0, .w1c⟩] }
def SYS_RSTCAUSE_RESET_STUCK : Fld := ⟨SYS_RSTCAUSE, 4, 4⟩
def SYS_RSTCAUSE_KEEPER : Fld := ⟨SYS_RSTCAUSE, 3, 3⟩
def SYS_RSTCAUSE_PIN : Fld := ⟨SYS_RSTCAUSE, 2, 2⟩
def SYS_RSTCAUSE_FEED : Fld := ⟨SYS_RSTCAUSE, 1, 1⟩
def SYS_RSTCAUSE_POR : Fld := ⟨SYS_RSTCAUSE, 0, 0⟩
/-- R79. -/
def SYS_RSVW : Reg := {
  blk := .sys, base := 0x40000010, dims := [], rd := .g0, wr := .g2, rdom := .feed,
  reset := 0x0, fields := [⟨31, 16, .ro⟩, ⟨12, 8, .ro⟩, ⟨1, 1, (.w1cTo 0)⟩, ⟨0, 0, .rs⟩] }
def SYS_RSVW_COUNT : Fld := ⟨SYS_RSVW, 31, 16⟩
def SYS_RSVW_MST : Fld := ⟨SYS_RSVW, 12, 8⟩
def SYS_RSVW_RSVW_CLR : Fld := ⟨SYS_RSVW, 1, 1⟩
def SYS_RSVW_RSVW : Fld := ⟨SYS_RSVW, 0, 0⟩
/-- R79. -/
def SYS_RSVW_ADDR : Reg := {
  blk := .sys, base := 0x40000014, dims := [], rd := .g0, wr := .g0, rdom := .feed,
  reset := 0x0, fields := [⟨31, 0, .ro⟩] }
def SYS_RSVW_ADDR_ADDR : Fld := ⟨SYS_RSVW_ADDR, 31, 0⟩
/-- R79. -/
def SYS_GUARDV : Reg := {
  blk := .sys, base := 0x40000018, dims := [], rd := .g0, wr := .g0, rdom := .feed,
  reset := 0x0, fields := [⟨31, 16, .ro⟩, ⟨15, 0, .ro⟩] }
def SYS_GUARDV_RD : Fld := ⟨SYS_GUARDV, 31, 16⟩
def SYS_GUARDV_WR : Fld := ⟨SYS_GUARDV, 15, 0⟩
/-- R79. -/
def SYS_ACCERR : Reg := {
  blk := .sys, base := 0x4000001C, dims := [], rd := .g0, wr := .g0, rdom := .feed,
  reset := 0x0, fields := [⟨31, 16, .ro⟩, ⟨15, 0, .ro⟩] }
def SYS_ACCERR_UNMAP : Fld := ⟨SYS_ACCERR, 31, 16⟩
def SYS_ACCERR_WIDTH : Fld := ⟨SYS_ACCERR, 15, 0⟩
/-- R79. -/
def SYS_GUARDV_H : Reg := {
  blk := .sys, base := 0x40000040, dims := [], rd := .g0, wr := .g0, rdom := .feed,
  reset := 0x0, fields := [⟨31, 16, .ro⟩, ⟨15, 0, .ro⟩] }
/-- R79. -/
def SYS_ACCERR_H : Reg := {
  blk := .sys, base := 0x40000044, dims := [], rd := .g0, wr := .g0, rdom := .feed,
  reset := 0x0, fields := [⟨31, 16, .ro⟩, ⟨15, 0, .ro⟩] }
/-- R79. -/
def SYS_ADM_DEFER : Reg := {
  blk := .sys, base := 0x40000050, dims := [], rd := .g0, wr := .g0, rdom := .feed,
  reset := 0x0, fields := [⟨31, 0, .ro⟩] }
def SYS_ADM_DEFER_COUNT : Fld := ⟨SYS_ADM_DEFER, 31, 0⟩
/-- R79. -/
def SYS_ADM_DEFER_H : Reg := {
  blk := .sys, base := 0x40000054, dims := [], rd := .g0, wr := .g0, rdom := .feed,
  reset := 0x0, fields := [⟨31, 0, .ro⟩] }
/-- R79. -/
def SYS_Q_NUM : Reg := {
  blk := .sys, base := 0x40000058, dims := [], rd := .g0, wr := .g0, rdom := .por,
  reset := 0x0, fields := [⟨8, 0, .ro⟩] }
def SYS_Q_NUM_COUNT : Fld := ⟨SYS_Q_NUM, 8, 0⟩
/-- R79. -/
def SYS_WINB : Reg := {
  blk := .sys, base := 0x40000100, dims := [(64, 8)], rd := .g0, wr := .g2, rdom := .feed,
  reset := 0x0, fields := [⟨17, 16, .lk⟩, ⟨9, 0, .lk⟩] }
def SYS_WINB_OWNER : Fld := ⟨SYS_WINB, 17, 16⟩
def SYS_WINB_BASE : Fld := ⟨SYS_WINB, 9, 0⟩
/-- R79. -/
def SYS_WINS : Reg := {
  blk := .sys, base := 0x40000104, dims := [(64, 8)], rd := .g0, wr := .g2, rdom := .feed,
  reset := 0x0, fields := [⟨10, 0, .lk⟩] }
def SYS_WINS_SIZE : Fld := ⟨SYS_WINS, 10, 0⟩
/-- R79. -/
def SYS_ADM_LATE : Reg := {
  blk := .sys, base := 0x40000800, dims := [(378, 4)], rd := .g0, wr := .g0, rdom := .feed,
  reset := 0x0, fields := [⟨31, 0, .ro⟩] }
def SYS_ADM_LATE_COUNT : Fld := ⟨SYS_ADM_LATE, 31, 0⟩
/-- R79. -/
def SYS_ADM_LATE_H : Reg := {
  blk := .sys, base := 0x40001000, dims := [(378, 4)], rd := .g0, wr := .g0, rdom := .feed,
  reset := 0x0, fields := [⟨31, 0, .ro⟩] }
/-- R79. -/
def SYS_Q_ID : Reg := {
  blk := .sys, base := 0x40002000, dims := [(256, 32)], rd := .g0, wr := .g0, rdom := .por,
  reset := 0x0, fields := [⟨31, 24, .ro⟩, ⟨15, 8, .ro⟩, ⟨7, 0, .ro⟩] }
def SYS_Q_ID_DEPTH : Fld := ⟨SYS_Q_ID, 31, 24⟩
def SYS_Q_ID_RX : Fld := ⟨SYS_Q_ID, 15, 8⟩
def SYS_Q_ID_TX : Fld := ⟨SYS_Q_ID, 7, 0⟩
/-- R79. -/
def SYS_Q_SENT : Reg := {
  blk := .sys, base := 0x40002004, dims := [(256, 32)], rd := .g0, wr := .g0, rdom := .feed,
  reset := 0x0, fields := [⟨31, 0, .ro⟩] }
def SYS_Q_SENT_COUNT : Fld := ⟨SYS_Q_SENT, 31, 0⟩
/-- R79. -/
def SYS_Q_RCVD : Reg := {
  blk := .sys, base := 0x40002008, dims := [(256, 32)], rd := .g0, wr := .g0, rdom := .feed,
  reset := 0x0, fields := [⟨31, 0, .ro⟩] }
def SYS_Q_RCVD_COUNT : Fld := ⟨SYS_Q_RCVD, 31, 0⟩
/-- R79. -/
def SYS_Q_RET : Reg := {
  blk := .sys, base := 0x4000200C, dims := [(256, 32)], rd := .g0, wr := .g0, rdom := .feed,
  reset := 0x0, fields := [⟨31, 0, .ro⟩] }
def SYS_Q_RET_COUNT : Fld := ⟨SYS_Q_RET, 31, 0⟩
/-- R79. -/
def SYS_Q_REF : Reg := {
  blk := .sys, base := 0x40002010, dims := [(256, 32)], rd := .g0, wr := .g0, rdom := .feed,
  reset := 0x0, fields := [⟨31, 0, .ro⟩] }
def SYS_Q_REF_COUNT : Fld := ⟨SYS_Q_REF, 31, 0⟩
/-- R111. -/
def CLK_STAT : Reg := {
  blk := .clk, base := 0x40020000, dims := [], rd := .g0, wr := .g0, rdom := .feed,
  reset := 0x0, fields := [⟨11, 11, .ro⟩, ⟨10, 10, .ro⟩, ⟨9, 4, .ro⟩, ⟨3, 0, .ro⟩] }
def CLK_STAT_HOLDOVER : Fld := ⟨CLK_STAT, 11, 11⟩
def CLK_STAT_TBSRC : Fld := ⟨CLK_STAT, 10, 10⟩
def CLK_STAT_LOCK : Fld := ⟨CLK_STAT, 9, 4⟩
def CLK_STAT_PRESENT : Fld := ⟨CLK_STAT, 3, 0⟩
/-- R111. -/
def CLK_TBSEL : Reg := {
  blk := .clk, base := 0x40020004, dims := [], rd := .g0, wr := .g2, rdom := .feed,
  reset := 0x4, fields := [⟨2, 2, .lk⟩, ⟨1, 1, .lk⟩, ⟨0, 0, .lk⟩] }
def CLK_TBSEL_AUTORET : Fld := ⟨CLK_TBSEL, 2, 2⟩
def CLK_TBSEL_TFREQ : Fld := ⟨CLK_TBSEL, 1, 1⟩
def CLK_TBSEL_USETREF : Fld := ⟨CLK_TBSEL, 0, 0⟩
/-- R111. -/
def CLK_FLAGS : Reg := {
  blk := .clk, base := 0x40020008, dims := [], rd := .g0, wr := .g1, rdom := .feed,
  reset := 0x0, fields := [⟨21, 16, (.w1cTo 0)⟩, ⟨5, 5, .rs⟩, ⟨4, 4, .rs⟩, ⟨3, 3, .rs⟩, ⟨2, 2, .rs⟩, ⟨1, 1, .rs⟩, ⟨0, 0, .rs⟩] }
def CLK_FLAGS_CLR : Fld := ⟨CLK_FLAGS, 21, 16⟩
def CLK_FLAGS_TB_SWITCH : Fld := ⟨CLK_FLAGS, 5, 5⟩
def CLK_FLAGS_PLL_UNLOCK : Fld := ⟨CLK_FLAGS, 4, 4⟩
def CLK_FLAGS_SDREF_LOSS : Fld := ⟨CLK_FLAGS, 3, 3⟩
def CLK_FLAGS_SMP_LOSS : Fld := ⟨CLK_FLAGS, 2, 2⟩
def CLK_FLAGS_TREF_LOSS : Fld := ⟨CLK_FLAGS, 1, 1⟩
def CLK_FLAGS_REF_LOSS : Fld := ⟨CLK_FLAGS, 0, 0⟩
/-- R111. -/
def CLK_DEV : Reg := {
  blk := .clk, base := 0x40020010, dims := [(4, 4)], rd := .g0, wr := .g0, rdom := .feed,
  reset := 0x80000000, fields := [⟨31, 0, .ro⟩] }
def CLK_DEV_DEV : Fld := ⟨CLK_DEV, 31, 0⟩
/-- R111. -/
def CLK_LOSS : Reg := {
  blk := .clk, base := 0x40020020, dims := [], rd := .g0, wr := .g0, rdom := .feed,
  reset := 0x0, fields := [⟨31, 24, .ro⟩, ⟨23, 16, .ro⟩, ⟨15, 8, .ro⟩, ⟨7, 0, .ro⟩] }
def CLK_LOSS_SDREF : Fld := ⟨CLK_LOSS, 31, 24⟩
def CLK_LOSS_SMP : Fld := ⟨CLK_LOSS, 23, 16⟩
def CLK_LOSS_TREF : Fld := ⟨CLK_LOSS, 15, 8⟩
def CLK_LOSS_REF : Fld := ⟨CLK_LOSS, 7, 0⟩
/-- R111. -/
def CLK_LOSS_H : Reg := {
  blk := .clk, base := 0x40020040, dims := [], rd := .g0, wr := .g0, rdom := .feed,
  reset := 0x0, fields := [⟨31, 24, .ro⟩, ⟨23, 16, .ro⟩, ⟨15, 8, .ro⟩, ⟨7, 0, .ro⟩] }
/-- R112. -/
def TIME_CTL : Reg := {
  blk := .time, base := 0x40030000, dims := [], rd := .g0, wr := .g1, rdom := .feed,
  reset := 0x0, fields := [⟨2, 2, .rw⟩, ⟨1, 1, .w1s⟩, ⟨0, 0, .w1s⟩] }
def TIME_CTL_KOWN : Fld := ⟨TIME_CTL, 2, 2⟩
def TIME_CTL_ALTSTOP : Fld := ⟨TIME_CTL, 1, 1⟩
def TIME_CTL_STEP : Fld := ⟨TIME_CTL, 0, 0⟩
/-- R112. -/
def TIME_STAT : Reg := {
  blk := .time, base := 0x40030004, dims := [], rd := .g0, wr := .g1, rdom := .feed,
  reset := 0x0, fields := [⟨18, 16, (.w1cTo 0)⟩, ⟨8, 8, .ro⟩, ⟨2, 2, .rs⟩, ⟨1, 1, .rs⟩, ⟨0, 0, .rs⟩] }
def TIME_STAT_CLR : Fld := ⟨TIME_STAT, 18, 16⟩
def TIME_STAT_ALTBUSY : Fld := ⟨TIME_STAT, 8, 8⟩
def TIME_STAT_INCRREJ : Fld := ⟨TIME_STAT, 2, 2⟩
def TIME_STAT_STEPREJ : Fld := ⟨TIME_STAT, 1, 1⟩
def TIME_STAT_STEPPED : Fld := ⟨TIME_STAT, 0, 0⟩
/-- R112. -/
def TIME_INCR : Reg := {
  blk := .time, base := 0x40030010, dims := [], rd := .g0, wr := .g1, rdom := .feed,
  reset := 0x40000000, fields := [⟨31, 28, .rw⟩, ⟨27, 12, .rw⟩, ⟨11, 0, .rw⟩] }
def TIME_INCR_INC_NS : Fld := ⟨TIME_INCR, 31, 28⟩
def TIME_INCR_INC_FRAC : Fld := ⟨TIME_INCR, 27, 12⟩
def TIME_INCR_INC_XFRAC : Fld := ⟨TIME_INCR, 11, 0⟩
/-- R112. -/
def TIME_INCR_ALT : Reg := {
  blk := .time, base := 0x40030014, dims := [], rd := .g0, wr := .g1, rdom := .feed,
  reset := 0x40000000, fields := [⟨31, 28, .rw⟩, ⟨27, 12, .rw⟩, ⟨11, 0, .rw⟩] }
def TIME_INCR_ALT_INC_NS : Fld := ⟨TIME_INCR_ALT, 31, 28⟩
def TIME_INCR_ALT_INC_FRAC : Fld := ⟨TIME_INCR_ALT, 27, 12⟩
def TIME_INCR_ALT_INC_XFRAC : Fld := ⟨TIME_INCR_ALT, 11, 0⟩
/-- R112. -/
def TIME_ALTCNT : Reg := {
  blk := .time, base := 0x40030018, dims := [], rd := .g0, wr := .g1, rdom := .feed,
  reset := 0x0, fields := [⟨27, 0, .rw⟩] }
def TIME_ALTCNT_COUNT : Fld := ⟨TIME_ALTCNT, 27, 0⟩
/-- R112. -/
def TIME_SET : Reg := {
  blk := .time, base := 0x40030020, dims := [(3, 4)], rd := .g0, wr := .g1, rdom := .feed,
  reset := 0x0, fields := [⟨31, 0, .rw⟩] }
def TIME_SET_WORD : Fld := ⟨TIME_SET, 31, 0⟩
/-- R112. -/
def TIME_TICK_LO : Reg := {
  blk := .time, base := 0x40030030, dims := [], rd := .g0, wr := .g0, rdom := .feed,
  reset := 0x0, fields := [⟨31, 0, .ro⟩] }
def TIME_TICK_LO_TICK : Fld := ⟨TIME_TICK_LO, 31, 0⟩
/-- R112. -/
def TIME_TICK_HI : Reg := {
  blk := .time, base := 0x40030034, dims := [], rd := .g0, wr := .g0, rdom := .feed,
  reset := 0x0, fields := [⟨31, 0, .ro⟩] }
def TIME_TICK_HI_TICK : Fld := ⟨TIME_TICK_HI, 31, 0⟩
/-- R112. -/
def TIME_TRIG : Reg := {
  blk := .time, base := 0x40030040, dims := [(12, 4)], rd := .g0, wr := .g1, rdom := .feed,
  reset := 0x0, fields := [⟨15, 8, .rw⟩, ⟨3, 2, .rw⟩, ⟨1, 1, .rw⟩, ⟨0, 0, .rw⟩] }
def TIME_TRIG_FILT : Fld := ⟨TIME_TRIG, 15, 8⟩
def TIME_TRIG_EDGE : Fld := ⟨TIME_TRIG, 3, 2⟩
def TIME_TRIG_INV : Fld := ⟨TIME_TRIG, 1, 1⟩
def TIME_TRIG_EN : Fld := ⟨TIME_TRIG, 0, 0⟩
/-- R112. -/
def TIME_TBUSDRV : Reg := {
  blk := .time, base := 0x40030070, dims := [(4, 4)], rd := .g0, wr := .g1, rdom := .feed,
  reset := 0x0, fields := [⟨11, 8, .rw⟩, ⟨5, 4, .rw⟩, ⟨0, 0, .rw⟩] }
def TIME_TBUSDRV_BCN : Fld := ⟨TIME_TBUSDRV, 11, 8⟩
def TIME_TBUSDRV_SRC : Fld := ⟨TIME_TBUSDRV, 5, 4⟩
def TIME_TBUSDRV_SWDRV : Fld := ⟨TIME_TBUSDRV, 0, 0⟩
/-- R112. -/
def TIME_PORT_INGLAT : Reg := {
  blk := .time, base := 0x40030080, dims := [(6, 8)], rd := .g0, wr := .g2, rdom := .feed,
  reset := 0x0, fields := [⟨31, 0, .rw⟩] }
def TIME_PORT_INGLAT_LAT : Fld := ⟨TIME_PORT_INGLAT, 31, 0⟩
/-- R112. -/
def TIME_PORT_EGLAT : Reg := {
  blk := .time, base := 0x40030084, dims := [(6, 8)], rd := .g0, wr := .g2, rdom := .feed,
  reset := 0x0, fields := [⟨31, 0, .rw⟩] }
def TIME_PORT_EGLAT_LAT : Fld := ⟨TIME_PORT_EGLAT, 31, 0⟩
/-- R112. -/
def TIME_PORT_CTL : Reg := {
  blk := .time, base := 0x400300B0, dims := [(6, 4)], rd := .g0, wr := .g1, rdom := .feed,
  reset := 0x0, fields := [⟨4, 4, .rw⟩, ⟨3, 3, .rw⟩, ⟨2, 2, .rw⟩, ⟨1, 1, .rw⟩, ⟨0, 0, .rw⟩] }
def TIME_PORT_CTL_UDP6 : Fld := ⟨TIME_PORT_CTL, 4, 4⟩
def TIME_PORT_CTL_UDP4 : Fld := ⟨TIME_PORT_CTL, 3, 3⟩
def TIME_PORT_CTL_ETH : Fld := ⟨TIME_PORT_CTL, 2, 2⟩
def TIME_PORT_CTL_ONESTEP : Fld := ⟨TIME_PORT_CTL, 1, 1⟩
def TIME_PORT_CTL_EN : Fld := ⟨TIME_PORT_CTL, 0, 0⟩
/-- R112. -/
def TIME_OVR : Reg := {
  blk := .time, base := 0x400300D0, dims := [], rd := .g0, wr := .g0, rdom := .feed,
  reset := 0x0, fields := [⟨31, 16, .ro⟩, ⟨15, 0, .ro⟩] }
def TIME_OVR_STAMP : Fld := ⟨TIME_OVR, 31, 16⟩
def TIME_OVR_TRIG : Fld := ⟨TIME_OVR, 15, 0⟩
/-- R112. -/
def TIME_OVR_H : Reg := {
  blk := .time, base := 0x400300E0, dims := [], rd := .g0, wr := .g0, rdom := .feed,
  reset := 0x0, fields := [⟨31, 16, .ro⟩, ⟨15, 0, .ro⟩] }
/-- R112. -/
def TIME_BCN_T : Reg := {
  blk := .time, base := 0x40030100, dims := [(16, 32), (3, 4)], rd := .g0, wr := .g1, rdom := .feed,
  reset := 0x0, fields := [⟨31, 0, .rw⟩] }
def TIME_BCN_T_WORD : Fld := ⟨TIME_BCN_T, 31, 0⟩
/-- R112. -/
def TIME_BCN_PER : Reg := {
  blk := .time, base := 0x4003010C, dims := [(16, 32)], rd := .g0, wr := .g1, rdom := .feed,
  reset := 0x0, fields := [⟨31, 0, .rw⟩] }
def TIME_BCN_PER_PERNS : Fld := ⟨TIME_BCN_PER, 31, 0⟩
/-- R112. -/
def TIME_BCN_WID : Reg := {
  blk := .time, base := 0x40030110, dims := [(16, 32)], rd := .g0, wr := .g1, rdom := .feed,
  reset := 0x8, fields := [⟨31, 16, .rw⟩, ⟨15, 0, .rw⟩] }
def TIME_BCN_WID_PERFRAC : Fld := ⟨TIME_BCN_WID, 31, 16⟩
def TIME_BCN_WID_WIDTH : Fld := ⟨TIME_BCN_WID, 15, 0⟩
/-- R112. -/
def TIME_BCN_CTL : Reg := {
  blk := .time, base := 0x40030114, dims := [(16, 32)], rd := .g0, wr := .g1, rdom := .feed,
  reset := 0x0, fields := [⟨5, 5, .w1cCtl⟩, ⟨4, 4, .w1cCtl⟩, ⟨3, 3, .rw⟩, ⟨2, 2, .rw⟩, ⟨1, 1, .w1s⟩, ⟨0, 0, .w1s⟩] }
def TIME_BCN_CTL_BADCFG_CLR : Fld := ⟨TIME_BCN_CTL, 5, 5⟩
def TIME_BCN_CTL_MISSED_CLR : Fld := ⟨TIME_BCN_CTL, 4, 4⟩
def TIME_BCN_CTL_OUTEN : Fld := ⟨TIME_BCN_CTL, 3, 3⟩
def TIME_BCN_CTL_POL : Fld := ⟨TIME_BCN_CTL, 2, 2⟩
def TIME_BCN_CTL_DISARM : Fld := ⟨TIME_BCN_CTL, 1, 1⟩
def TIME_BCN_CTL_ARM : Fld := ⟨TIME_BCN_CTL, 0, 0⟩
/-- R112. -/
def TIME_BCN_STAT : Reg := {
  blk := .time, base := 0x40030118, dims := [(16, 32)], rd := .g0, wr := .g0, rdom := .feed,
  reset := 0x0, fields := [⟨31, 16, .ro⟩, ⟨3, 3, .rs⟩, ⟨2, 2, .rs⟩, ⟨1, 1, .ro⟩, ⟨0, 0, .ro⟩] }
def TIME_BCN_STAT_PULSES : Fld := ⟨TIME_BCN_STAT, 31, 16⟩
def TIME_BCN_STAT_BADCFG : Fld := ⟨TIME_BCN_STAT, 3, 3⟩
def TIME_BCN_STAT_MISSED : Fld := ⟨TIME_BCN_STAT, 2, 2⟩
def TIME_BCN_STAT_ACTIVE : Fld := ⟨TIME_BCN_STAT, 1, 1⟩
def TIME_BCN_STAT_ARMED : Fld := ⟨TIME_BCN_STAT, 0, 0⟩
/-- R543. -/
def PWR_STAT : Reg := {
  blk := .pwr, base := 0x40010000, dims := [], rd := .g0, wr := .g1, rdom := .feed,
  reset := 0x0, fields := [⟨21, 16, (.w1cTo 0)⟩, ⟨12, 12, .ro⟩, ⟨11, 11, .ro⟩, ⟨10, 10, .ro⟩, ⟨9, 8, .ro⟩, ⟨6, 6, .w1cCtl⟩, ⟨5, 5, .rs⟩, ⟨4, 4, .rs⟩, ⟨3, 3, .rs⟩, ⟨2, 2, .rs⟩, ⟨1, 1, .rs⟩, ⟨0, 0, .rs⟩] }
def PWR_STAT_CLR : Fld := ⟨PWR_STAT, 21, 16⟩
def PWR_STAT_COMMIT : Fld := ⟨PWR_STAT, 12, 12⟩
def PWR_STAT_BRACE : Fld := ⟨PWR_STAT, 11, 11⟩
def PWR_STAT_WARN : Fld := ⟨PWR_STAT, 10, 10⟩
def PWR_STAT_SRC : Fld := ⟨PWR_STAT, 9, 8⟩
def PWR_STAT_PEAKCLR : Fld := ⟨PWR_STAT, 6, 6⟩
def PWR_STAT_CUTF : Fld := ⟨PWR_STAT, 5, 5⟩
def PWR_STAT_VIOF : Fld := ⟨PWR_STAT, 4, 4⟩
def PWR_STAT_DOMFLTF : Fld := ⟨PWR_STAT, 3, 3⟩
def PWR_STAT_OVF : Fld := ⟨PWR_STAT, 2, 2⟩
def PWR_STAT_FEEDLOSSF : Fld := ⟨PWR_STAT, 1, 1⟩
def PWR_STAT_DIPF : Fld := ⟨PWR_STAT, 0, 0⟩
/-- R543. -/
def PWR_FEED_A : Reg := {
  blk := .pwr, base := 0x40010004, dims := [], rd := .g0, wr := .g0, rdom := .feed,
  reset := 0x0, fields := [⟨31, 16, .ro⟩, ⟨15, 15, .ro⟩, ⟨14, 14, .ro⟩, ⟨11, 0, .ro⟩] }
def PWR_FEED_A_CURR : Fld := ⟨PWR_FEED_A, 31, 16⟩
def PWR_FEED_A_OK : Fld := ⟨PWR_FEED_A, 15, 15⟩
def PWR_FEED_A_OV : Fld := ⟨PWR_FEED_A, 14, 14⟩
def PWR_FEED_A_VOLT : Fld := ⟨PWR_FEED_A, 11, 0⟩
/-- R543. -/
def PWR_FEED_B : Reg := {
  blk := .pwr, base := 0x40010008, dims := [], rd := .g0, wr := .g0, rdom := .feed,
  reset := 0x0, fields := [⟨31, 16, .ro⟩, ⟨15, 15, .ro⟩, ⟨14, 14, .ro⟩, ⟨11, 0, .ro⟩] }
def PWR_FEED_B_CURR : Fld := ⟨PWR_FEED_B, 31, 16⟩
def PWR_FEED_B_OK : Fld := ⟨PWR_FEED_B, 15, 15⟩
def PWR_FEED_B_OV : Fld := ⟨PWR_FEED_B, 14, 14⟩
def PWR_FEED_B_VOLT : Fld := ⟨PWR_FEED_B, 11, 0⟩
/-- R543. -/
def PWR_PIN : Reg := {
  blk := .pwr, base := 0x4001000C, dims := [], rd := .g0, wr := .g0, rdom := .feed,
  reset := 0x0, fields := [⟨31, 16, .ro⟩, ⟨15, 0, .ro⟩] }
def PWR_PIN_PEAK : Fld := ⟨PWR_PIN, 31, 16⟩
def PWR_PIN_PIN : Fld := ⟨PWR_PIN, 15, 0⟩
/-- R543. -/
def PWR_DIPCNT : Reg := {
  blk := .pwr, base := 0x40010010, dims := [], rd := .g0, wr := .g0, rdom := .retained,
  reset := 0x0, fields := [⟨31, 16, .ro⟩, ⟨15, 0, .ro⟩] }
def PWR_DIPCNT_CUT : Fld := ⟨PWR_DIPCNT, 31, 16⟩
def PWR_DIPCNT_DIPS : Fld := ⟨PWR_DIPCNT, 15, 0⟩
/-- R543. -/
def PWR_LASTDIP : Reg := {
  blk := .pwr, base := 0x40010014, dims := [], rd := .g0, wr := .g0, rdom := .feed,
  reset := 0x0, fields := [⟨31, 16, .ro⟩, ⟨15, 15, .ro⟩, ⟨11, 0, .ro⟩] }
def PWR_LASTDIP_DUR : Fld := ⟨PWR_LASTDIP, 31, 16⟩
def PWR_LASTDIP_BRACED : Fld := ⟨PWR_LASTDIP, 15, 15⟩
def PWR_LASTDIP_MINV : Fld := ⟨PWR_LASTDIP, 11, 0⟩
/-- R543. -/
def PWR_DOMEN : Reg := {
  blk := .pwr, base := 0x40010018, dims := [], rd := .g0, wr := .g2, rdom := .feed,
  reset := 0xFFF, fields := [⟨11, 0, .rw⟩] }
def PWR_DOMEN_EN : Fld := ⟨PWR_DOMEN, 11, 0⟩
/-- R543. -/
def PWR_DOMSTAT : Reg := {
  blk := .pwr, base := 0x4001001C, dims := [], rd := .g0, wr := .g1, rdom := .feed,
  reset := 0x0, fields := [⟨27, 16, .w1c⟩, ⟨11, 0, .ro⟩] }
def PWR_DOMSTAT_FLT : Fld := ⟨PWR_DOMSTAT, 27, 16⟩
def PWR_DOMSTAT_ON : Fld := ⟨PWR_DOMSTAT, 11, 0⟩
/-- R543. -/
def PWR_VIOCFG : Reg := {
  blk := .pwr, base := 0x40010020, dims := [], rd := .g0, wr := .g2, rdom := .feed,
  reset := 0xFFFF, fields := [⟨15, 0, .lk⟩] }
def PWR_VIOCFG_LVL : Fld := ⟨PWR_VIOCFG, 15, 0⟩
/-- R543. -/
def PWR_VIOSTAT : Reg := {
  blk := .pwr, base := 0x40010024, dims := [], rd := .g0, wr := .g1, rdom := .feed,
  reset := 0x0, fields := [⟨15, 8, .w1c⟩, ⟨7, 0, .ro⟩] }
def PWR_VIOSTAT_LOW : Fld := ⟨PWR_VIOSTAT, 15, 8⟩
def PWR_VIOSTAT_OK : Fld := ⟨PWR_VIOSTAT, 7, 0⟩
/-- R543. -/
def PWR_ENERGY_LO : Reg := {
  blk := .pwr, base := 0x40010030, dims := [], rd := .g0, wr := .g0, rdom := .feed,
  reset := 0x0, fields := [⟨31, 0, .ro⟩] }
def PWR_ENERGY_LO_COUNT : Fld := ⟨PWR_ENERGY_LO, 31, 0⟩
/-- R543. -/
def PWR_ENERGY_HI : Reg := {
  blk := .pwr, base := 0x40010034, dims := [], rd := .g0, wr := .g0, rdom := .feed,
  reset := 0x0, fields := [⟨31, 0, .ro⟩] }
def PWR_ENERGY_HI_COUNT : Fld := ⟨PWR_ENERGY_HI, 31, 0⟩
/-- R543. -/
def PWR_ENERGY_LO_H : Reg := {
  blk := .pwr, base := 0x40010038, dims := [], rd := .g0, wr := .g0, rdom := .feed,
  reset := 0x0, fields := [⟨31, 0, .ro⟩] }
/-- R543. -/
def PWR_ENERGY_HI_H : Reg := {
  blk := .pwr, base := 0x4001003C, dims := [], rd := .g0, wr := .g0, rdom := .feed,
  reset := 0x0, fields := [⟨31, 0, .ro⟩] }
/-- R543. -/
def PWR_DOM_V : Reg := {
  blk := .pwr, base := 0x40010100, dims := [(12, 8)], rd := .g0, wr := .g0, rdom := .feed,
  reset := 0x0, fields := [⟨31, 16, .ro⟩, ⟨11, 0, .ro⟩] }
def PWR_DOM_V_CURR : Fld := ⟨PWR_DOM_V, 31, 16⟩
def PWR_DOM_V_VOLT : Fld := ⟨PWR_DOM_V, 11, 0⟩
/-- R543. -/
def PWR_DOM_FLT : Reg := {
  blk := .pwr, base := 0x40010104, dims := [(12, 8)], rd := .g0, wr := .g0, rdom := .feed,
  reset := 0x0, fields := [⟨31, 16, .ro⟩, ⟨2, 0, .ro⟩] }
def PWR_DOM_FLT_COUNT : Fld := ⟨PWR_DOM_FLT, 31, 16⟩
def PWR_DOM_FLT_CAUSE : Fld := ⟨PWR_DOM_FLT, 2, 0⟩
/-- R543. -/
def PWR_VIO_V : Reg := {
  blk := .pwr, base := 0x40010200, dims := [(8, 4)], rd := .g0, wr := .g0, rdom := .feed,
  reset := 0x0, fields := [⟨11, 0, .ro⟩] }
def PWR_VIO_V_VOLT : Fld := ⟨PWR_VIO_V, 11, 0⟩
/-- R612. -/
def NVM_CMD : Reg := {
  blk := .nvm, base := 0x40170000, dims := [], rd := .g0, wr := .g2, rdom := .block,
  reset := 0x0, fields := [⟨31, 31, .w1s⟩, ⟨2, 0, .rw⟩] }
def NVM_CMD_GO : Fld := ⟨NVM_CMD, 31, 31⟩
def NVM_CMD_OP : Fld := ⟨NVM_CMD, 2, 0⟩
/-- R612. -/
def NVM_STAT : Reg := {
  blk := .nvm, base := 0x40170004, dims := [], rd := .g0, wr := .g0, rdom := .block,
  reset := 0x0, fields := [⟨15, 8, .ro⟩, ⟨1, 1, .ro⟩, ⟨0, 0, .ro⟩] }
def NVM_STAT_CODE : Fld := ⟨NVM_STAT, 15, 8⟩
def NVM_STAT_DONE : Fld := ⟨NVM_STAT, 1, 1⟩
def NVM_STAT_BUSY : Fld := ⟨NVM_STAT, 0, 0⟩
/-- R612. -/
def NVM_SET : Reg := {
  blk := .nvm, base := 0x40170008, dims := [], rd := .g0, wr := .g0, rdom := .feed,
  reset := 0x0, fields := [⟨31, 16, .ro⟩, ⟨2, 2, .ro⟩, ⟨1, 1, .ro⟩, ⟨0, 0, .ro⟩] }
def NVM_SET_SETVER : Fld := ⟨NVM_SET, 31, 16⟩
def NVM_SET_VALIDC : Fld := ⟨NVM_SET, 2, 2⟩
def NVM_SET_VALIDP : Fld := ⟨NVM_SET, 1, 1⟩
def NVM_SET_MIGRATED : Fld := ⟨NVM_SET, 0, 0⟩
/-- R612. -/
def NVM_SETCFG : Reg := {
  blk := .nvm, base := 0x4017000C, dims := [], rd := .g0, wr := .g2, rdom := .feed,
  reset := 0x0, fields := [⟨0, 0, .rw⟩] }
def NVM_SETCFG_POLICY : Fld := ⟨NVM_SETCFG, 0, 0⟩
/-- R79. -/
def SYS_Q_SENT_H : Reg := {
  blk := .sys, base := 0x40004004, dims := [(256, 32)], rd := .g0, wr := .g0, rdom := .feed,
  reset := 0x0, fields := [⟨31, 0, .ro⟩] }
/-- R79. -/
def SYS_Q_RCVD_H : Reg := {
  blk := .sys, base := 0x40004008, dims := [(256, 32)], rd := .g0, wr := .g0, rdom := .feed,
  reset := 0x0, fields := [⟨31, 0, .ro⟩] }
/-- R79. -/
def SYS_Q_RET_H : Reg := {
  blk := .sys, base := 0x4000400C, dims := [(256, 32)], rd := .g0, wr := .g0, rdom := .feed,
  reset := 0x0, fields := [⟨31, 0, .ro⟩] }
/-- R79. -/
def SYS_Q_REF_H : Reg := {
  blk := .sys, base := 0x40004010, dims := [(256, 32)], rd := .g0, wr := .g0, rdom := .feed,
  reset := 0x0, fields := [⟨31, 0, .ro⟩] }
/-- R72. -/
def TAIL_SNAP : Reg := {
  blk := .sys, base := 0x4000FF00, dims := [(24, 65536)], rd := .g0, wr := .g0, rdom := .block,
  reset := 0x0, fields := [⟨15, 8, .ro⟩, ⟨1, 1, .ro⟩, ⟨0, 0, .w1s⟩] }
def TAIL_SNAP_SEQ : Fld := ⟨TAIL_SNAP, 15, 8⟩
def TAIL_SNAP_DONE : Fld := ⟨TAIL_SNAP, 1, 1⟩
def TAIL_SNAP_GO : Fld := ⟨TAIL_SNAP, 0, 0⟩
/-- R72. -/
def TAIL_STICKY : Reg := {
  blk := .sys, base := 0x4000FF04, dims := [(24, 65536)], rd := .g0, wr := .g0, rdom := .block,
  reset := 0x0, fields := [⟨31, 16, .ro⟩, ⟨12, 8, .ro⟩, ⟨1, 1, (.w1cTo 0)⟩, ⟨0, 0, .rs⟩] }
def TAIL_STICKY_OFS : Fld := ⟨TAIL_STICKY, 31, 16⟩
def TAIL_STICKY_MST : Fld := ⟨TAIL_STICKY, 12, 8⟩
def TAIL_STICKY_LOCKV_CLR : Fld := ⟨TAIL_STICKY, 1, 1⟩
def TAIL_STICKY_LOCKV : Fld := ⟨TAIL_STICKY, 0, 0⟩
/-- R72. -/
def TAIL_LOCK : Reg := {
  blk := .sys, base := 0x4000FF08, dims := [(24, 65536)], rd := .g0, wr := .g0, rdom := .block,
  reset := 0x0, fields := [⟨0, 0, .w1s⟩] }
def TAIL_LOCK_SET : Fld := ⟨TAIL_LOCK, 0, 0⟩
/-- R72. -/
def TAIL_MBX_REQ : Reg := {
  blk := .sys, base := 0x4000FF10, dims := [(24, 65536)], rd := .g0, wr := .g0, rdom := .block,
  reset := 0x0, fields := [⟨23, 8, .wo⟩, ⟨7, 0, .wo⟩] }
def TAIL_MBX_REQ_INDEX : Fld := ⟨TAIL_MBX_REQ, 23, 8⟩
def TAIL_MBX_REQ_ITEM : Fld := ⟨TAIL_MBX_REQ, 7, 0⟩
/-- R72. -/
def TAIL_MBX_STAT : Reg := {
  blk := .sys, base := 0x4000FF14, dims := [(24, 65536)], rd := .g0, wr := .g0, rdom := .block,
  reset := 0x0, fields := [⟨19, 16, .ro⟩, ⟨12, 8, .ro⟩, ⟨7, 4, .ro⟩, ⟨1, 1, .ro⟩, ⟨0, 0, .ro⟩] }
def TAIL_MBX_STAT_WORDS : Fld := ⟨TAIL_MBX_STAT, 19, 16⟩
def TAIL_MBX_STAT_OWNER : Fld := ⟨TAIL_MBX_STAT, 12, 8⟩
def TAIL_MBX_STAT_ERR : Fld := ⟨TAIL_MBX_STAT, 7, 4⟩
def TAIL_MBX_STAT_BUSY : Fld := ⟨TAIL_MBX_STAT, 1, 1⟩
def TAIL_MBX_STAT_VALID : Fld := ⟨TAIL_MBX_STAT, 0, 0⟩
/-- R72. -/
def TAIL_MBX_DATA : Reg := {
  blk := .sys, base := 0x4000FF20, dims := [(24, 65536), (12, 4)], rd := .g0, wr := .g0, rdom := .block,
  reset := 0x0, fields := [⟨31, 0, .ro⟩] }
def TAIL_MBX_DATA_WORD : Fld := ⟨TAIL_MBX_DATA, 31, 0⟩
def sysRegs0 : List Reg :=
  [SYS_ID, SYS_DEVNUM, SYS_MODE, SYS_RSTCAUSE, SYS_RSVW, SYS_RSVW_ADDR, SYS_GUARDV, SYS_ACCERR, SYS_GUARDV_H, SYS_ACCERR_H, SYS_ADM_DEFER, SYS_ADM_DEFER_H, SYS_Q_NUM, SYS_WINB, SYS_WINS, SYS_ADM_LATE, SYS_ADM_LATE_H, SYS_Q_ID, SYS_Q_SENT, SYS_Q_RCVD, SYS_Q_RET, SYS_Q_REF, SYS_Q_SENT_H, SYS_Q_RCVD_H]
def sysRegs1 : List Reg :=
  [SYS_Q_RET_H, SYS_Q_REF_H]
/-- The registers of the block SYS. -/
def sysRegs : List Reg := sysRegs0 ++ sysRegs1
/-- Each counter of the block with its holding register (R73). -/
def sysSnap : List (Reg × Reg) :=
  [(SYS_GUARDV, SYS_GUARDV_H), (SYS_ACCERR, SYS_ACCERR_H), (SYS_ADM_DEFER, SYS_ADM_DEFER_H), (SYS_ADM_LATE, SYS_ADM_LATE_H), (SYS_Q_SENT, SYS_Q_SENT_H), (SYS_Q_RCVD, SYS_Q_RCVD_H), (SYS_Q_RET, SYS_Q_RET_H), (SYS_Q_REF, SYS_Q_REF_H)]
def clkRegs : List Reg :=
  [CLK_STAT, CLK_TBSEL, CLK_FLAGS, CLK_DEV, CLK_LOSS, CLK_LOSS_H]
/-- Each counter of the block with its holding register (R73). -/
def clkSnap : List (Reg × Reg) :=
  [(CLK_LOSS, CLK_LOSS_H)]
def timeRegs : List Reg :=
  [TIME_CTL, TIME_STAT, TIME_INCR, TIME_INCR_ALT, TIME_ALTCNT, TIME_SET, TIME_TICK_LO, TIME_TICK_HI, TIME_TRIG, TIME_TBUSDRV, TIME_PORT_INGLAT, TIME_PORT_EGLAT, TIME_PORT_CTL, TIME_OVR, TIME_OVR_H, TIME_BCN_T, TIME_BCN_PER, TIME_BCN_WID, TIME_BCN_CTL, TIME_BCN_STAT]
/-- Each counter of the block with its holding register (R73). -/
def timeSnap : List (Reg × Reg) :=
  [(TIME_OVR, TIME_OVR_H)]
def pwrRegs : List Reg :=
  [PWR_STAT, PWR_FEED_A, PWR_FEED_B, PWR_PIN, PWR_DIPCNT, PWR_LASTDIP, PWR_DOMEN, PWR_DOMSTAT, PWR_VIOCFG, PWR_VIOSTAT, PWR_ENERGY_LO, PWR_ENERGY_HI, PWR_ENERGY_LO_H, PWR_ENERGY_HI_H, PWR_DOM_V, PWR_DOM_FLT, PWR_VIO_V]
/-- Each counter of the block with its holding register (R73). -/
def pwrSnap : List (Reg × Reg) :=
  [(PWR_ENERGY_LO, PWR_ENERGY_LO_H), (PWR_ENERGY_HI, PWR_ENERGY_HI_H)]
def nvmRegs : List Reg :=
  [NVM_CMD, NVM_STAT, NVM_SET, NVM_SETCFG]

end Sys2Proof.Machine
end

