-- ==== Sys2Proof/Machine/RegsSystem.lean ====
section
/-!
DEFINITION. Register descriptors of the blocks SAFE, TWIN, HOST, REC, KPR, EVL, UPD,
each from the summary table and the field table of its chapter of spec/ (base address, index ranges,
guards, reset domain, fields with access code; `reset` joins the fields' reset values), and one name
per field. Reserved bits are those no field covers (02 R66).
-/
namespace Sys2Proof.Machine

/-- R465. -/
def SAFE_STAT : Reg := {
  blk := .safe, base := 0x400E0000, dims := [], rd := .g0, wr := .g1, rdom := .feed,
  reset := 0x1, fields := [⟨17, 17, .ro⟩, ⟨16, 16, .ro⟩, ⟨15, 8, .ro⟩, ⟨7, 4, .ro⟩, ⟨2, 0, .ro⟩] }
def SAFE_STAT_TESTRUN : Fld := ⟨SAFE_STAT, 17, 17⟩
def SAFE_STAT_ACKSTUCK : Fld := ⟨SAFE_STAT, 16, 16⟩
def SAFE_STAT_ACKCNT : Fld := ⟨SAFE_STAT, 15, 8⟩
def SAFE_STAT_CAUSE : Fld := ⟨SAFE_STAT, 7, 4⟩
def SAFE_STAT_STATE : Fld := ⟨SAFE_STAT, 2, 0⟩
/-- R465. -/
def SAFE_STRAP : Reg := {
  blk := .safe, base := 0x400E0004, dims := [], rd := .g0, wr := .g1, rdom := .feed,
  reset := 0x0, fields := [⟨31, 16, .ro⟩, ⟨15, 0, .ro⟩] }
def SAFE_STRAP_EQ : Fld := ⟨SAFE_STRAP, 31, 16⟩
def SAFE_STRAP_WORD : Fld := ⟨SAFE_STRAP, 15, 0⟩
/-- R465. -/
def SAFE_CFG : Reg := {
  blk := .safe, base := 0x400E0008, dims := [], rd := .g0, wr := .g1, rdom := .feed,
  reset := 0x0, fields := [⟨31, 28, .ro⟩, ⟨13, 12, .ro⟩, ⟨11, 0, .ro⟩] }
def SAFE_CFG_CFGERR : Fld := ⟨SAFE_CFG, 31, 28⟩
def SAFE_CFG_NETSEL : Fld := ⟨SAFE_CFG, 13, 12⟩
def SAFE_CFG_CFGID : Fld := ⟨SAFE_CFG, 11, 0⟩
/-- R465. -/
def SAFE_CRC : Reg := {
  blk := .safe, base := 0x400E000C, dims := [], rd := .g0, wr := .g1, rdom := .feed,
  reset := 0x0, fields := [⟨31, 0, .ro⟩] }
def SAFE_CRC_CRC : Fld := ⟨SAFE_CRC, 31, 0⟩
/-- R465. -/
def SAFE_TICK : Reg := {
  blk := .safe, base := 0x400E0010, dims := [], rd := .g0, wr := .g1, rdom := .feed,
  reset := 0x0, fields := [⟨31, 0, .ro⟩] }
def SAFE_TICK_COUNT : Fld := ⟨SAFE_TICK, 31, 0⟩
/-- R465. -/
def SAFE_TDEV : Reg := {
  blk := .safe, base := 0x400E0014, dims := [], rd := .g0, wr := .g1, rdom := .feed,
  reset := 0x0, fields := [⟨16, 16, .ro⟩, ⟨15, 0, .ro⟩] }
def SAFE_TDEV_VALID : Fld := ⟨SAFE_TDEV, 16, 16⟩
def SAFE_TDEV_DEV : Fld := ⟨SAFE_TDEV, 15, 0⟩
/-- R465. -/
def SAFE_SIDBASE : Reg := {
  blk := .safe, base := 0x400E0018, dims := [], rd := .g0, wr := .g1, rdom := .feed,
  reset := 0x0, fields := [⟨17, 0, .ro⟩] }
def SAFE_SIDBASE_SID : Fld := ⟨SAFE_SIDBASE, 17, 0⟩
/-- R465. -/
def SAFE_IN_DMD : Reg := {
  blk := .safe, base := 0x400E0020, dims := [], rd := .g0, wr := .g1, rdom := .feed,
  reset := 0x0, fields := [⟨31, 0, .ro⟩] }
def SAFE_IN_DMD_MAP : Fld := ⟨SAFE_IN_DMD, 31, 0⟩
/-- R465. -/
def SAFE_IN_FLT : Reg := {
  blk := .safe, base := 0x400E0024, dims := [], rd := .g0, wr := .g1, rdom := .feed,
  reset := 0x0, fields := [⟨31, 0, .ro⟩] }
def SAFE_IN_FLT_MAP : Fld := ⟨SAFE_IN_FLT, 31, 0⟩
/-- R465. -/
def SAFE_IN_A : Reg := {
  blk := .safe, base := 0x400E0028, dims := [], rd := .g0, wr := .g1, rdom := .feed,
  reset := 0x0, fields := [⟨31, 0, .ro⟩] }
def SAFE_IN_A_MAP : Fld := ⟨SAFE_IN_A, 31, 0⟩
/-- R465. -/
def SAFE_IN_B : Reg := {
  blk := .safe, base := 0x400E002C, dims := [], rd := .g0, wr := .g1, rdom := .feed,
  reset := 0x0, fields := [⟨31, 0, .ro⟩] }
def SAFE_IN_B_MAP : Fld := ⟨SAFE_IN_B, 31, 0⟩
/-- R465. -/
def SAFE_OUT : Reg := {
  blk := .safe, base := 0x400E0030, dims := [], rd := .g0, wr := .g1, rdom := .feed,
  reset := 0x0, fields := [⟨31, 16, .ro⟩, ⟨15, 0, .ro⟩] }
def SAFE_OUT_FAULT : Fld := ⟨SAFE_OUT, 31, 16⟩
def SAFE_OUT_ON : Fld := ⟨SAFE_OUT, 15, 0⟩
/-- R465. -/
def SAFE_OUT_RB : Reg := {
  blk := .safe, base := 0x400E0034, dims := [], rd := .g0, wr := .g1, rdom := .feed,
  reset := 0x0, fields := [⟨31, 16, .ro⟩, ⟨15, 0, .ro⟩] }
def SAFE_OUT_RB_LS : Fld := ⟨SAFE_OUT_RB, 31, 16⟩
def SAFE_OUT_RB_HS : Fld := ⟨SAFE_OUT_RB, 15, 0⟩
/-- R465. -/
def SAFE_GRP : Reg := {
  blk := .safe, base := 0x400E0038, dims := [], rd := .g0, wr := .g1, rdom := .feed,
  reset := 0x0, fields := [⟨15, 0, .ro⟩] }
def SAFE_GRP_MAP : Fld := ⟨SAFE_GRP, 15, 0⟩
/-- R465. -/
def SAFE_GPWM : Reg := {
  blk := .safe, base := 0x400E0040, dims := [(2, 4)], rd := .g0, wr := .g1, rdom := .feed,
  reset := 0x0, fields := [⟨31, 0, .ro⟩] }
def SAFE_GPWM_MAP : Fld := ⟨SAFE_GPWM, 31, 0⟩
/-- R465. -/
def SAFE_GAX : Reg := {
  blk := .safe, base := 0x400E0048, dims := [(2, 4)], rd := .g0, wr := .g1, rdom := .feed,
  reset := 0x0, fields := [⟨31, 0, .ro⟩] }
def SAFE_GAX_MAP : Fld := ⟨SAFE_GAX, 31, 0⟩
/-- R465. -/
def SAFE_FN : Reg := {
  blk := .safe, base := 0x400E0050, dims := [(2, 4)], rd := .g0, wr := .g1, rdom := .feed,
  reset := 0x0, fields := [⟨31, 0, .ro⟩] }
def SAFE_FN_MAP : Fld := ⟨SAFE_FN, 31, 0⟩
/-- R465. -/
def SAFE_SS1 : Reg := {
  blk := .safe, base := 0x400E0058, dims := [(2, 4)], rd := .g0, wr := .g1, rdom := .feed,
  reset := 0x0, fields := [⟨31, 0, .ro⟩] }
def SAFE_SS1_MAP : Fld := ⟨SAFE_SS1, 31, 0⟩
/-- R465. -/
def SAFE_AXF : Reg := {
  blk := .safe, base := 0x400E0060, dims := [(2, 4)], rd := .g0, wr := .g1, rdom := .feed,
  reset := 0x0, fields := [⟨31, 0, .ro⟩] }
def SAFE_AXF_MAP : Fld := ⟨SAFE_AXF, 31, 0⟩
/-- R465. -/
def SAFE_NET : Reg := {
  blk := .safe, base := 0x400E0080, dims := [(8, 4)], rd := .g0, wr := .g1, rdom := .feed,
  reset := 0x0, fields := [⟨31, 16, .ro⟩, ⟨15, 8, .ro⟩, ⟨7, 4, .ro⟩, ⟨2, 0, .ro⟩] }
def SAFE_NET_RXCNT : Fld := ⟨SAFE_NET, 31, 16⟩
def SAFE_NET_SEQERR : Fld := ⟨SAFE_NET, 15, 8⟩
def SAFE_NET_FCAUSE : Fld := ⟨SAFE_NET, 7, 4⟩
def SAFE_NET_STATE : Fld := ⟨SAFE_NET, 2, 0⟩
/-- R465. -/
def SAFE_SWCNT : Reg := {
  blk := .safe, base := 0x400E0100, dims := [(16, 4)], rd := .g0, wr := .g1, rdom := .feed,
  reset := 0x0, fields := [⟨31, 0, .ro⟩] }
def SAFE_SWCNT_COUNT : Fld := ⟨SAFE_SWCNT, 31, 0⟩
/-- R497. -/
def TWIN_CTL : Reg := {
  blk := .twin, base := 0x400F0000, dims := [], rd := .g0, wr := .g2, rdom := .feed,
  reset := 0x0, fields := [⟨31, 31, .lk⟩, ⟨30, 30, .lk⟩, ⟨29, 29, .lk⟩, ⟨27, 16, .lk⟩, ⟨13, 0, .lk⟩] }
def TWIN_CTL_EN : Fld := ⟨TWIN_CTL, 31, 31⟩
def TWIN_CTL_PREF : Fld := ⟨TWIN_CTL, 30, 30⟩
def TWIN_CTL_GMHOME : Fld := ⟨TWIN_CTL, 29, 29⟩
def TWIN_CTL_PAIRID : Fld := ⟨TWIN_CTL, 27, 16⟩
def TWIN_CTL_PEERDEV : Fld := ⟨TWIN_CTL, 13, 0⟩
/-- R497. -/
def TWIN_CMD : Reg := {
  blk := .twin, base := 0x400F0004, dims := [], rd := .g0, wr := .g2, rdom := .block,
  reset := 0x0, fields := [⟨2, 2, .w1s⟩, ⟨1, 1, .w1s⟩, ⟨0, 0, .w1s⟩] }
def TWIN_CMD_ABORTRS : Fld := ⟨TWIN_CMD, 2, 2⟩
def TWIN_CMD_SWAP : Fld := ⟨TWIN_CMD, 1, 1⟩
def TWIN_CMD_RESYNC : Fld := ⟨TWIN_CMD, 0, 0⟩
/-- R497. -/
def TWIN_STAT : Reg := {
  blk := .twin, base := 0x400F0008, dims := [], rd := .g0, wr := .g1, rdom := .block,
  reset := 0x0, fields := [⟨28, 24, (.w1cTo 16)⟩, ⟨20, 20, .rs⟩, ⟨19, 19, .rs⟩, ⟨18, 18, .rs⟩, ⟨17, 17, .rs⟩, ⟨16, 16, .rs⟩, ⟨15, 12, .ro⟩, ⟨11, 8, .ro⟩, ⟨6, 6, .ro⟩, ⟨5, 4, .ro⟩, ⟨3, 3, .ro⟩, ⟨2, 0, .ro⟩] }
def TWIN_STAT_CLR : Fld := ⟨TWIN_STAT, 28, 24⟩
def TWIN_STAT_DIGF : Fld := ⟨TWIN_STAT, 20, 20⟩
def TWIN_STAT_LATEF : Fld := ⟨TWIN_STAT, 19, 19⟩
def TWIN_STAT_ISOLF : Fld := ⟨TWIN_STAT, 18, 18⟩
def TWIN_STAT_LOSSF : Fld := ⟨TWIN_STAT, 17, 17⟩
def TWIN_STAT_DISCF : Fld := ⟨TWIN_STAT, 16, 16⟩
def TWIN_STAT_PEEROWN : Fld := ⟨TWIN_STAT, 15, 12⟩
def TWIN_STAT_OWNED : Fld := ⟨TWIN_STAT, 11, 8⟩
def TWIN_STAT_PEER : Fld := ⟨TWIN_STAT, 6, 6⟩
def TWIN_STAT_MISSRUN : Fld := ⟨TWIN_STAT, 5, 4⟩
def TWIN_STAT_INSTEP : Fld := ⟨TWIN_STAT, 3, 3⟩
def TWIN_STAT_ROLE : Fld := ⟨TWIN_STAT, 2, 0⟩
/-- R497. -/
def TWIN_EPOCH : Reg := {
  blk := .twin, base := 0x400F000C, dims := [], rd := .g0, wr := .g2, rdom := .retained,
  reset := 0x0, fields := [⟨15, 0, .rw⟩] }
def TWIN_EPOCH_EPOCH : Fld := ⟨TWIN_EPOCH, 15, 0⟩
/-- R497. -/
def TWIN_RS : Reg := {
  blk := .twin, base := 0x400F0010, dims := [], rd := .g0, wr := .g0, rdom := .block,
  reset := 0x0, fields := [⟨31, 16, .ro⟩, ⟨15, 8, .ro⟩, ⟨7, 4, .ro⟩, ⟨2, 0, .ro⟩] }
def TWIN_RS_SENT : Fld := ⟨TWIN_RS, 31, 16⟩
def TWIN_RS_ROUNDS : Fld := ⟨TWIN_RS, 15, 8⟩
def TWIN_RS_CAUSE : Fld := ⟨TWIN_RS, 7, 4⟩
def TWIN_RS_PHASE : Fld := ⟨TWIN_RS, 2, 0⟩
/-- R497. -/
def TWIN_LINK : Reg := {
  blk := .twin, base := 0x400F0014, dims := [], rd := .g0, wr := .g0, rdom := .block,
  reset := 0x0, fields := [⟨31, 31, .ro⟩, ⟨25, 16, .ro⟩, ⟨15, 15, .ro⟩, ⟨9, 0, .ro⟩] }
def TWIN_LINK_UP1 : Fld := ⟨TWIN_LINK, 31, 31⟩
def TWIN_LINK_DLY1 : Fld := ⟨TWIN_LINK, 25, 16⟩
def TWIN_LINK_UP0 : Fld := ⟨TWIN_LINK, 15, 15⟩
def TWIN_LINK_DLY0 : Fld := ⟨TWIN_LINK, 9, 0⟩
/-- R497. -/
def TWIN_TOL : Reg := {
  blk := .twin, base := 0x400F0018, dims := [], rd := .g0, wr := .g2, rdom := .feed,
  reset := 0x320040, fields := [⟨31, 16, .rw⟩, ⟨15, 0, .rw⟩] }
def TWIN_TOL_STAMP : Fld := ⟨TWIN_TOL, 31, 16⟩
def TWIN_TOL_VAL : Fld := ⟨TWIN_TOL, 15, 0⟩
/-- R497. -/
def TWIN_DISCSRC : Reg := {
  blk := .twin, base := 0x400F001C, dims := [], rd := .g0, wr := .g0, rdom := .block,
  reset := 0x0, fields := [⟨20, 9, .ro⟩, ⟨8, 0, .ro⟩] }
def TWIN_DISCSRC_TICK : Fld := ⟨TWIN_DISCSRC, 20, 9⟩
def TWIN_DISCSRC_SOURCE : Fld := ⟨TWIN_DISCSRC, 8, 0⟩
/-- R497. -/
def TWIN_SHR : Reg := {
  blk := .twin, base := 0x400F0020, dims := [(12, 4)], rd := .g0, wr := .g2, rdom := .feed,
  reset := 0x0, fields := [⟨31, 0, .lk⟩] }
def TWIN_SHR_SHR : Fld := ⟨TWIN_SHR, 31, 0⟩
/-- R497. -/
def TWIN_OGA : Reg := {
  blk := .twin, base := 0x400F0060, dims := [(4, 4)], rd := .g0, wr := .g2, rdom := .feed,
  reset := 0x0, fields := [⟨31, 0, .lk⟩] }
def TWIN_OGA_GRP : Fld := ⟨TWIN_OGA, 31, 0⟩
/-- R497. -/
def TWIN_OGX : Reg := {
  blk := .twin, base := 0x400F0070, dims := [(4, 4)], rd := .g0, wr := .g2, rdom := .feed,
  reset := 0x0, fields := [⟨31, 0, .lk⟩] }
def TWIN_OGX_GRP : Fld := ⟨TWIN_OGX, 31, 0⟩
/-- R497. -/
def TWIN_OGD : Reg := {
  blk := .twin, base := 0x400F0080, dims := [], rd := .g0, wr := .g2, rdom := .feed,
  reset := 0x0, fields := [⟨31, 0, .lk⟩] }
def TWIN_OGD_GRP : Fld := ⟨TWIN_OGD, 31, 0⟩
/-- R497. -/
def TWIN_OGB : Reg := {
  blk := .twin, base := 0x400F0084, dims := [], rd := .g0, wr := .g2, rdom := .feed,
  reset := 0x0, fields := [⟨31, 0, .lk⟩] }
def TWIN_OGB_GRP : Fld := ⟨TWIN_OGB, 31, 0⟩
/-- R497. -/
def TWIN_OGP : Reg := {
  blk := .twin, base := 0x400F0088, dims := [], rd := .g0, wr := .g2, rdom := .feed,
  reset := 0x0, fields := [⟨23, 8, .lk⟩, ⟨7, 0, .lk⟩] }
def TWIN_OGP_CAN : Fld := ⟨TWIN_OGP, 23, 8⟩
def TWIN_OGP_PORT : Fld := ⟨TWIN_OGP, 7, 0⟩
/-- R497. -/
def TWIN_GRP : Reg := {
  blk := .twin, base := 0x400F0090, dims := [(4, 4)], rd := .g0, wr := .g2, rdom := .feed,
  reset := 0x0, fields := [⟨31, 31, .lk⟩, ⟨30, 30, .lk⟩, ⟨7, 7, .lk⟩, ⟨5, 0, .lk⟩] }
def TWIN_GRP_ANCHOR : Fld := ⟨TWIN_GRP, 31, 31⟩
def TWIN_GRP_HOME : Fld := ⟨TWIN_GRP, 30, 30⟩
def TWIN_GRP_USETHR : Fld := ⟨TWIN_GRP, 7, 7⟩
def TWIN_GRP_THREAD : Fld := ⟨TWIN_GRP, 5, 0⟩
/-- R497. -/
def TWIN_PORT_DSKEW : Reg := {
  blk := .twin, base := 0x400F00A0, dims := [(4, 4)], rd := .g0, wr := .g2, rdom := .feed,
  reset := 0x0, fields := [⟨15, 0, .lk⟩] }
def TWIN_PORT_DSKEW_DSKEW : Fld := ⟨TWIN_PORT_DSKEW, 15, 0⟩
/-- R497. -/
def TWIN_HBMISS : Reg := {
  blk := .twin, base := 0x400F00C0, dims := [], rd := .g0, wr := .g0, rdom := .block,
  reset := 0x0, fields := [⟨31, 0, .ro⟩] }
def TWIN_HBMISS_COUNT : Fld := ⟨TWIN_HBMISS, 31, 0⟩
/-- R497. -/
def TWIN_LATEB : Reg := {
  blk := .twin, base := 0x400F00C4, dims := [], rd := .g0, wr := .g0, rdom := .block,
  reset := 0x0, fields := [⟨31, 0, .ro⟩] }
def TWIN_LATEB_COUNT : Fld := ⟨TWIN_LATEB, 31, 0⟩
/-- R497. -/
def TWIN_DISC : Reg := {
  blk := .twin, base := 0x400F00C8, dims := [], rd := .g0, wr := .g0, rdom := .block,
  reset := 0x0, fields := [⟨31, 0, .ro⟩] }
def TWIN_DISC_COUNT : Fld := ⟨TWIN_DISC, 31, 0⟩
/-- R497. -/
def TWIN_TAKEOVER : Reg := {
  blk := .twin, base := 0x400F00CC, dims := [], rd := .g0, wr := .g0, rdom := .block,
  reset := 0x0, fields := [⟨31, 0, .ro⟩] }
def TWIN_TAKEOVER_COUNT : Fld := ⟨TWIN_TAKEOVER, 31, 0⟩
/-- R497. -/
def TWIN_RESYNCS : Reg := {
  blk := .twin, base := 0x400F00D0, dims := [], rd := .g0, wr := .g0, rdom := .block,
  reset := 0x0, fields := [⟨31, 0, .ro⟩] }
def TWIN_RESYNCS_COUNT : Fld := ⟨TWIN_RESYNCS, 31, 0⟩
/-- R497. -/
def TWIN_DEFER : Reg := {
  blk := .twin, base := 0x400F00D4, dims := [], rd := .g0, wr := .g0, rdom := .block,
  reset := 0x0, fields := [⟨31, 0, .ro⟩] }
def TWIN_DEFER_COUNT : Fld := ⟨TWIN_DEFER, 31, 0⟩
/-- R568. -/
def HOST_CTL : Reg := {
  blk := .host, base := 0x40100000, dims := [], rd := .g0, wr := .g2, rdom := .feed,
  reset := 0x140AB8F0, fields := [⟨31, 24, .rw⟩, ⟨23, 16, .rw⟩, ⟨15, 0, .lk⟩] }
def HOST_CTL_RTMO : Fld := ⟨HOST_CTL, 31, 24⟩
def HOST_CTL_IDLE : Fld := ⟨HOST_CTL, 23, 16⟩
def HOST_CTL_UDPPORT : Fld := ⟨HOST_CTL, 15, 0⟩
/-- R568. -/
def HOST_STAT : Reg := {
  blk := .host, base := 0x40100004, dims := [], rd := .g0, wr := .g1, rdom := .block,
  reset := 0x0, fields := [⟨17, 16, (.w1cTo 0)⟩, ⟨14, 8, .ro⟩, ⟨1, 1, .rs⟩, ⟨0, 0, .rs⟩] }
def HOST_STAT_CLR : Fld := ⟨HOST_STAT, 17, 16⟩
def HOST_STAT_NSESS : Fld := ⟨HOST_STAT, 14, 8⟩
def HOST_STAT_RSPBUSYF : Fld := ⟨HOST_STAT, 1, 1⟩
def HOST_STAT_RXDROPF : Fld := ⟨HOST_STAT, 0, 0⟩
/-- R568. -/
def HOST_P_CFG : Reg := {
  blk := .host, base := 0x40100100, dims := [(2, 64)], rd := .g0, wr := .g2, rdom := .feed,
  reset := 0x10BB8000, fields := [⟨31, 31, .rw⟩, ⟨30, 30, .lk⟩, ⟨29, 28, .lk⟩, ⟨27, 27, .lk⟩, ⟨26, 13, .lk⟩, ⟨11, 0, .lk⟩] }
def HOST_P_CFG_EN : Fld := ⟨HOST_P_CFG, 31, 31⟩
def HOST_P_CFG_SPEED : Fld := ⟨HOST_P_CFG, 30, 30⟩
def HOST_P_CFG_NET : Fld := ⟨HOST_P_CFG, 29, 28⟩
def HOST_P_CFG_VLANEN : Fld := ⟨HOST_P_CFG, 27, 27⟩
def HOST_P_CFG_MTU : Fld := ⟨HOST_P_CFG, 26, 13⟩
def HOST_P_CFG_VLAN : Fld := ⟨HOST_P_CFG, 11, 0⟩
/-- R568. -/
def HOST_P_MACL : Reg := {
  blk := .host, base := 0x40100104, dims := [(2, 64)], rd := .g0, wr := .g2, rdom := .feed,
  reset := 0x0, fields := [⟨31, 0, .lk⟩] }
def HOST_P_MACL_ADDR : Fld := ⟨HOST_P_MACL, 31, 0⟩
/-- R568. -/
def HOST_P_MACH : Reg := {
  blk := .host, base := 0x40100108, dims := [(2, 64)], rd := .g0, wr := .g2, rdom := .feed,
  reset := 0x0, fields := [⟨15, 0, .lk⟩] }
def HOST_P_MACH_ADDR : Fld := ⟨HOST_P_MACH, 15, 0⟩
/-- R568. -/
def HOST_P_IP4 : Reg := {
  blk := .host, base := 0x4010010C, dims := [(2, 64)], rd := .g0, wr := .g2, rdom := .feed,
  reset := 0x0, fields := [⟨31, 0, .lk⟩] }
def HOST_P_IP4_ADDR : Fld := ⟨HOST_P_IP4, 31, 0⟩
/-- R568. -/
def HOST_P_IP6 : Reg := {
  blk := .host, base := 0x40100110, dims := [(2, 64), (4, 4)], rd := .g0, wr := .g2, rdom := .feed,
  reset := 0x0, fields := [⟨31, 0, .lk⟩] }
def HOST_P_IP6_ADDR : Fld := ⟨HOST_P_IP6, 31, 0⟩
/-- R568. -/
def HOST_P_STAT : Reg := {
  blk := .host, base := 0x40100120, dims := [(2, 64)], rd := .g0, wr := .g0, rdom := .block,
  reset := 0x0, fields := [⟨7, 6, .ro⟩, ⟨3, 2, .ro⟩, ⟨1, 1, .ro⟩, ⟨0, 0, .ro⟩] }
def HOST_P_STAT_FEC : Fld := ⟨HOST_P_STAT, 7, 6⟩
def HOST_P_STAT_SPEED : Fld := ⟨HOST_P_STAT, 3, 2⟩
def HOST_P_STAT_RECSAT : Fld := ⟨HOST_P_STAT, 1, 1⟩
def HOST_P_STAT_LINK : Fld := ⟨HOST_P_STAT, 0, 0⟩
/-- R568. -/
def HOST_P_RXPKT : Reg := {
  blk := .host, base := 0x40100124, dims := [(2, 64)], rd := .g0, wr := .g0, rdom := .block,
  reset := 0x0, fields := [⟨31, 0, .ro⟩] }
def HOST_P_RXPKT_COUNT : Fld := ⟨HOST_P_RXPKT, 31, 0⟩
/-- R568. -/
def HOST_P_RXDROP : Reg := {
  blk := .host, base := 0x40100128, dims := [(2, 64)], rd := .g0, wr := .g0, rdom := .block,
  reset := 0x0, fields := [⟨31, 0, .ro⟩] }
def HOST_P_RXDROP_COUNT : Fld := ⟨HOST_P_RXDROP, 31, 0⟩
/-- R568. -/
def HOST_P_TXPKT : Reg := {
  blk := .host, base := 0x4010012C, dims := [(2, 64)], rd := .g0, wr := .g0, rdom := .block,
  reset := 0x0, fields := [⟨31, 0, .ro⟩] }
def HOST_P_TXPKT_COUNT : Fld := ⟨HOST_P_TXPKT, 31, 0⟩
/-- R568. -/
def HOST_S_STAT : Reg := {
  blk := .host, base := 0x40100200, dims := [(64, 8)], rd := .g0, wr := .g0, rdom := .block,
  reset := 0x0, fields := [⟨31, 24, .ro⟩, ⟨19, 19, .ro⟩, ⟨18, 18, .ro⟩, ⟨17, 16, .ro⟩, ⟨15, 0, .ro⟩] }
def HOST_S_STAT_STATE : Fld := ⟨HOST_S_STAT, 31, 24⟩
def HOST_S_STAT_EVSUB : Fld := ⟨HOST_S_STAT, 19, 19⟩
def HOST_S_STAT_PORT : Fld := ⟨HOST_S_STAT, 18, 18⟩
def HOST_S_STAT_ROLE : Fld := ⟨HOST_S_STAT, 17, 16⟩
def HOST_S_STAT_OUTST : Fld := ⟨HOST_S_STAT, 15, 0⟩
/-- R568. -/
def HOST_S_CNT : Reg := {
  blk := .host, base := 0x40100204, dims := [(64, 8)], rd := .g0, wr := .g0, rdom := .block,
  reset := 0x0, fields := [⟨31, 24, .ro⟩, ⟨23, 16, .ro⟩, ⟨15, 0, .ro⟩] }
def HOST_S_CNT_DUP : Fld := ⟨HOST_S_CNT, 31, 24⟩
def HOST_S_CNT_BUSY : Fld := ⟨HOST_S_CNT, 23, 16⟩
def HOST_S_CNT_DONE : Fld := ⟨HOST_S_CNT, 15, 0⟩
/-- R569. -/
def REC_CTL : Reg := {
  blk := .recs, base := 0x40110000, dims := [], rd := .g0, wr := .g2, rdom := .feed,
  reset := 0x5000000, fields := [⟨31, 24, .rw⟩, ⟨19, 10, .lk⟩, ⟨9, 0, .lk⟩] }
def REC_CTL_RTO : Fld := ⟨REC_CTL, 31, 24⟩
def REC_CTL_SIZE : Fld := ⟨REC_CTL, 19, 10⟩
def REC_CTL_BASE : Fld := ⟨REC_CTL, 9, 0⟩
/-- R569. -/
def REC_STAT : Reg := {
  blk := .recs, base := 0x40110004, dims := [], rd := .g0, wr := .g1, rdom := .block,
  reset := 0x0, fields := [⟨17, 17, (.w1cTo 16)⟩, ⟨16, 16, .rs⟩, ⟨15, 15, .ro⟩, ⟨12, 0, .ro⟩] }
def REC_STAT_DROPF_CLR : Fld := ⟨REC_STAT, 17, 17⟩
def REC_STAT_DROPF : Fld := ⟨REC_STAT, 16, 16⟩
def REC_STAT_CFGERR : Fld := ⟨REC_STAT, 15, 15⟩
def REC_STAT_NSIDS : Fld := ⟨REC_STAT, 12, 0⟩
/-- R569. -/
def REC_BUDGET : Reg := {
  blk := .recs, base := 0x40110008, dims := [], rd := .g0, wr := .g0, rdom := .block,
  reset := 0x0, fields := [⟨31, 16, .ro⟩, ⟨15, 0, .ro⟩] }
def REC_BUDGET_P1 : Fld := ⟨REC_BUDGET, 31, 16⟩
def REC_BUDGET_P0 : Fld := ⟨REC_BUDGET, 15, 0⟩
/-- R569. -/
def REC_ST_CFG : Reg := {
  blk := .recs, base := 0x40110100, dims := [(64, 64)], rd := .g0, wr := .g0, rdom := .block,
  reset := 0x0, fields := [⟨25, 23, .ro⟩, ⟨22, 22, .ro⟩, ⟨21, 16, .ro⟩, ⟨15, 14, .ro⟩, ⟨10, 0, .ro⟩] }
def REC_ST_CFG_OPT : Fld := ⟨REC_ST_CFG, 25, 23⟩
def REC_ST_CFG_PORT : Fld := ⟨REC_ST_CFG, 22, 22⟩
def REC_ST_CFG_SESS : Fld := ⟨REC_ST_CFG, 21, 16⟩
def REC_ST_CFG_STATE : Fld := ⟨REC_ST_CFG, 15, 14⟩
def REC_ST_CFG_NSID : Fld := ⟨REC_ST_CFG, 10, 0⟩
/-- R569. -/
def REC_ST_DEC : Reg := {
  blk := .recs, base := 0x40110104, dims := [(64, 64)], rd := .g0, wr := .g0, rdom := .block,
  reset := 0x0, fields := [⟨31, 16, .ro⟩, ⟨15, 0, .ro⟩] }
def REC_ST_DEC_PH : Fld := ⟨REC_ST_DEC, 31, 16⟩
def REC_ST_DEC_D : Fld := ⟨REC_ST_DEC, 15, 0⟩
/-- R569. -/
def REC_ST_SEQ : Reg := {
  blk := .recs, base := 0x40110108, dims := [(64, 64)], rd := .g0, wr := .g0, rdom := .block,
  reset := 0x0, fields := [⟨31, 0, .ro⟩] }
def REC_ST_SEQ_COUNT : Fld := ⟨REC_ST_SEQ, 31, 0⟩
/-- R569. -/
def REC_ST_CTL : Reg := {
  blk := .recs, base := 0x4011010C, dims := [(64, 64)], rd := .g0, wr := .g2, rdom := .block,
  reset := 0x0, fields := [⟨0, 0, .w1s⟩] }
def REC_ST_CTL_CLOSE : Fld := ⟨REC_ST_CTL, 0, 0⟩
/-- R569. -/
def REC_ST_PROD : Reg := {
  blk := .recs, base := 0x40110110, dims := [(64, 64)], rd := .g0, wr := .g0, rdom := .block,
  reset := 0x0, fields := [⟨31, 0, .ro⟩] }
def REC_ST_PROD_COUNT : Fld := ⟨REC_ST_PROD, 31, 0⟩
/-- R569. -/
def REC_ST_DELIV : Reg := {
  blk := .recs, base := 0x40110114, dims := [(64, 64)], rd := .g0, wr := .g0, rdom := .block,
  reset := 0x0, fields := [⟨31, 0, .ro⟩] }
def REC_ST_DELIV_COUNT : Fld := ⟨REC_ST_DELIV, 31, 0⟩
/-- R569. -/
def REC_ST_DROP : Reg := {
  blk := .recs, base := 0x40110118, dims := [(64, 64)], rd := .g0, wr := .g0, rdom := .block,
  reset := 0x0, fields := [⟨31, 0, .ro⟩] }
def REC_ST_DROP_COUNT : Fld := ⟨REC_ST_DROP, 31, 0⟩
/-- R569. -/
def REC_ST_PEND : Reg := {
  blk := .recs, base := 0x4011011C, dims := [(64, 64)], rd := .g0, wr := .g0, rdom := .block,
  reset := 0x0, fields := [⟨31, 0, .ro⟩] }
def REC_ST_PEND_COUNT : Fld := ⟨REC_ST_PEND, 31, 0⟩
/-- R595. -/
def KPR_STAT : Reg := {
  blk := .kpr, base := 0x40130000, dims := [], rd := .g0, wr := .g1, rdom := .feed,
  reset := 0x0, fields := [⟨17, 16, (.w1cTo 0)⟩, ⟨2, 2, .ro⟩, ⟨1, 1, .rs⟩, ⟨0, 0, .rs⟩] }
def KPR_STAT_CLR : Fld := ⟨KPR_STAT, 17, 16⟩
def KPR_STAT_OVLD : Fld := ⟨KPR_STAT, 2, 2⟩
def KPR_STAT_SENSF : Fld := ⟨KPR_STAT, 1, 1⟩
def KPR_STAT_HOTF : Fld := ⟨KPR_STAT, 0, 0⟩
/-- R595. -/
def KPR_WDT : Reg := {
  blk := .kpr, base := 0x40130004, dims := [], rd := .g0, wr := .g1, rdom := .feed,
  reset := 0x64, fields := [⟨31, 31, .w1s⟩, ⟨15, 0, .rw⟩] }
def KPR_WDT_KICK : Fld := ⟨KPR_WDT, 31, 31⟩
def KPR_WDT_PER : Fld := ⟨KPR_WDT, 15, 0⟩
/-- R595. -/
def KPR_QUEUE : Reg := {
  blk := .kpr, base := 0x40130008, dims := [], rd := .g0, wr := .g0, rdom := .feed,
  reset := 0x0, fields := [⟨31, 21, .ro⟩, ⟨20, 14, .ro⟩, ⟨13, 9, .ro⟩, ⟨8, 6, .ro⟩] }
def KPR_QUEUE_E : Fld := ⟨KPR_QUEUE, 31, 21⟩
def KPR_QUEUE_Q : Fld := ⟨KPR_QUEUE, 20, 14⟩
def KPR_QUEUE_M : Fld := ⟨KPR_QUEUE, 13, 9⟩
def KPR_QUEUE_S : Fld := ⟨KPR_QUEUE, 8, 6⟩
/-- R595. -/
def KPR_BUSYTOT : Reg := {
  blk := .kpr, base := 0x40130010, dims := [], rd := .g0, wr := .g0, rdom := .feed,
  reset := 0x0, fields := [⟨31, 0, .ro⟩] }
def KPR_BUSYTOT_COUNT : Fld := ⟨KPR_BUSYTOT, 31, 0⟩
/-- R595. -/
def KPR_WDRST : Reg := {
  blk := .kpr, base := 0x40130014, dims := [], rd := .g0, wr := .g0, rdom := .feed,
  reset := 0x0, fields := [⟨31, 0, .ro⟩] }
def KPR_WDRST_COUNT : Fld := ⟨KPR_WDRST, 31, 0⟩
/-- R595. -/
def KPR_LOGINF : Reg := {
  blk := .kpr, base := 0x40130018, dims := [], rd := .g0, wr := .g0, rdom := .feed,
  reset := 0x0, fields := [⟨31, 0, .ro⟩] }
def KPR_LOGINF_COUNT : Fld := ⟨KPR_LOGINF, 31, 0⟩
/-- R595. -/
def KPR_TLIM : Reg := {
  blk := .kpr, base := 0x40130040, dims := [], rd := .g0, wr := .g2, rdom := .feed,
  reset := 0x6E0069, fields := [⟨31, 16, .rw⟩, ⟨15, 0, .rw⟩] }
def KPR_TLIM_CRIT : Fld := ⟨KPR_TLIM, 31, 16⟩
def KPR_TLIM_WARN : Fld := ⟨KPR_TLIM, 15, 0⟩
/-- R595. -/
def KPR_TAVG : Reg := {
  blk := .kpr, base := 0x40130044, dims := [], rd := .g0, wr := .g0, rdom := .retained,
  reset := 0x0, fields := [⟨31, 16, .ro⟩, ⟨15, 0, .ro⟩] }
def KPR_TAVG_HOURS : Fld := ⟨KPR_TAVG, 31, 16⟩
def KPR_TAVG_AVG : Fld := ⟨KPR_TAVG, 15, 0⟩
/-- R595. -/
def KPR_TEMP : Reg := {
  blk := .kpr, base := 0x40130100, dims := [(24, 4)], rd := .g0, wr := .g0, rdom := .feed,
  reset := 0x80008000, fields := [⟨31, 16, .ro⟩, ⟨15, 0, .ro⟩] }
def KPR_TEMP_MAX : Fld := ⟨KPR_TEMP, 31, 16⟩
def KPR_TEMP_NOW : Fld := ⟨KPR_TEMP, 15, 0⟩
/-- R595. -/
def KPR_RO : Reg := {
  blk := .kpr, base := 0x40130200, dims := [(12, 4)], rd := .g0, wr := .g0, rdom := .retained,
  reset := 0x0, fields := [⟨31, 16, .ro⟩, ⟨15, 0, .ro⟩] }
def KPR_RO_RATE : Fld := ⟨KPR_RO, 31, 16⟩
def KPR_RO_USED : Fld := ⟨KPR_RO, 15, 0⟩
/-- R595. -/
def KPR_EM : Reg := {
  blk := .kpr, base := 0x40130240, dims := [(2, 4)], rd := .g0, wr := .g0, rdom := .retained,
  reset := 0x0, fields := [⟨31, 16, .ro⟩, ⟨15, 0, .ro⟩] }
def KPR_EM_RATE : Fld := ⟨KPR_EM, 31, 16⟩
def KPR_EM_USED : Fld := ⟨KPR_EM, 15, 0⟩
/-- R595. -/
def KPR_MW : Reg := {
  blk := .kpr, base := 0x40130250, dims := [(11, 4)], rd := .g0, wr := .g0, rdom := .retained,
  reset := 0x0, fields := [⟨31, 16, .ro⟩, ⟨15, 0, .ro⟩] }
def KPR_MW_RATE : Fld := ⟨KPR_MW, 31, 16⟩
def KPR_MW_USED : Fld := ⟨KPR_MW, 15, 0⟩
/-- R595. -/
def KPR_SWRATE : Reg := {
  blk := .kpr, base := 0x40130280, dims := [(16, 4)], rd := .g0, wr := .g2, rdom := .feed,
  reset := 0x0, fields := [⟨31, 0, .rw⟩] }
def KPR_SWRATE_RATED : Fld := ⟨KPR_SWRATE, 31, 0⟩
/-- R595. -/
def KPR_EOL : Reg := {
  blk := .kpr, base := 0x40130300, dims := [], rd := .g0, wr := .g0, rdom := .retained,
  reset := 0xFFFF, fields := [⟨31, 16, .ro⟩, ⟨15, 0, .ro⟩] }
def KPR_EOL_SRC : Fld := ⟨KPR_EOL, 31, 16⟩
def KPR_EOL_P50 : Fld := ⟨KPR_EOL, 15, 0⟩
/-- R595. -/
def KPR_EOLB : Reg := {
  blk := .kpr, base := 0x40130304, dims := [], rd := .g0, wr := .g0, rdom := .retained,
  reset := 0xFFFF, fields := [⟨31, 16, .ro⟩, ⟨15, 0, .ro⟩] }
def KPR_EOLB_HI : Fld := ⟨KPR_EOLB, 31, 16⟩
def KPR_EOLB_LO : Fld := ⟨KPR_EOLB, 15, 0⟩
/-- R595. -/
def KPR_CRED : Reg := {
  blk := .kpr, base := 0x40130400, dims := [], rd := .g0, wr := .g2, rdom := .block,
  reset := 0x0, fields := [⟨31, 31, .w1s⟩, ⟨5, 4, .ro⟩, ⟨1, 0, .rw⟩] }
def KPR_CRED_SET : Fld := ⟨KPR_CRED, 31, 31⟩
def KPR_CRED_KEYSET : Fld := ⟨KPR_CRED, 5, 4⟩
def KPR_CRED_ROLE : Fld := ⟨KPR_CRED, 1, 0⟩
/-- R595. -/
def KPR_CREDK : Reg := {
  blk := .kpr, base := 0x40130410, dims := [(8, 4)], rd := .g2, wr := .g2, rdom := .block,
  reset := 0x0, fields := [⟨31, 0, .wo⟩] }
def KPR_CREDK_KEY : Fld := ⟨KPR_CREDK, 31, 0⟩
/-- R595. -/
def KPR_MG_CFG : Reg := {
  blk := .kpr, base := 0x40130500, dims := [], rd := .g0, wr := .g2, rdom := .feed,
  reset := 0xB8F0, fields := [⟨31, 31, .rw⟩, ⟨15, 0, .lk⟩] }
def KPR_MG_CFG_EN : Fld := ⟨KPR_MG_CFG, 31, 31⟩
def KPR_MG_CFG_PORT : Fld := ⟨KPR_MG_CFG, 15, 0⟩
/-- R595. -/
def KPR_MG_IP4 : Reg := {
  blk := .kpr, base := 0x40130504, dims := [], rd := .g0, wr := .g2, rdom := .feed,
  reset := 0x0, fields := [⟨31, 0, .lk⟩] }
def KPR_MG_IP4_ADDR : Fld := ⟨KPR_MG_IP4, 31, 0⟩
/-- R595. -/
def KPR_MG_MACL : Reg := {
  blk := .kpr, base := 0x40130508, dims := [], rd := .g0, wr := .g2, rdom := .feed,
  reset := 0x0, fields := [⟨31, 0, .lk⟩] }
def KPR_MG_MACL_ADDR : Fld := ⟨KPR_MG_MACL, 31, 0⟩
/-- R595. -/
def KPR_MG_MACH : Reg := {
  blk := .kpr, base := 0x4013050C, dims := [], rd := .g0, wr := .g2, rdom := .feed,
  reset := 0x0, fields := [⟨15, 0, .lk⟩] }
def KPR_MG_MACH_ADDR : Fld := ⟨KPR_MG_MACH, 15, 0⟩
/-- R595. -/
def KPR_MG_STAT : Reg := {
  blk := .kpr, base := 0x40130510, dims := [], rd := .g0, wr := .g0, rdom := .feed,
  reset := 0x0, fields := [⟨20, 17, .ro⟩, ⟨16, 16, .ro⟩] }
def KPR_MG_STAT_SESS : Fld := ⟨KPR_MG_STAT, 20, 17⟩
def KPR_MG_STAT_LINK : Fld := ⟨KPR_MG_STAT, 16, 16⟩
/-- R596. -/
def EVL_STAT : Reg := {
  blk := .evl, base := 0x40140000, dims := [], rd := .g0, wr := .g1, rdom := .feed,
  reset := 0x0, fields := [⟨18, 16, (.w1cTo 0)⟩, ⟨2, 2, .rs⟩, ⟨1, 1, .rs⟩, ⟨0, 0, .rs⟩] }
def EVL_STAT_CLR : Fld := ⟨EVL_STAT, 18, 16⟩
def EVL_STAT_SUPPF : Fld := ⟨EVL_STAT, 2, 2⟩
def EVL_STAT_KEELF : Fld := ⟨EVL_STAT, 1, 1⟩
def EVL_STAT_DROPF : Fld := ⟨EVL_STAT, 0, 0⟩
/-- R596. -/
def EVL_FUM : Reg := {
  blk := .evl, base := 0x40140004, dims := [], rd := .g0, wr := .g2, rdom := .feed,
  reset := 0x40C81032, fields := [⟨31, 24, .rw⟩, ⟨23, 16, .rw⟩, ⟨15, 8, .rw⟩, ⟨7, 0, .rw⟩] }
def EVL_FUM_BURSTH : Fld := ⟨EVL_FUM, 31, 24⟩
def EVL_FUM_RATEH : Fld := ⟨EVL_FUM, 23, 16⟩
def EVL_FUM_BURSTL : Fld := ⟨EVL_FUM, 15, 8⟩
def EVL_FUM_RATEL : Fld := ⟨EVL_FUM, 7, 0⟩
/-- R596. -/
def EVL_KEYS : Reg := {
  blk := .evl, base := 0x40140008, dims := [], rd := .g0, wr := .g0, rdom := .feed,
  reset := 0x0, fields := [⟨31, 16, .ro⟩, ⟨15, 0, .ro⟩] }
def EVL_KEYS_OPEN : Fld := ⟨EVL_KEYS, 31, 16⟩
def EVL_KEYS_USED : Fld := ⟨EVL_KEYS, 15, 0⟩
/-- R596. -/
def EVL_WRITTEN : Reg := {
  blk := .evl, base := 0x40140010, dims := [], rd := .g0, wr := .g0, rdom := .retained,
  reset := 0x0, fields := [⟨31, 0, .ro⟩] }
def EVL_WRITTEN_COUNT : Fld := ⟨EVL_WRITTEN, 31, 0⟩
/-- R596. -/
def EVL_STORED : Reg := {
  blk := .evl, base := 0x40140014, dims := [], rd := .g0, wr := .g0, rdom := .retained,
  reset := 0x0, fields := [⟨31, 0, .ro⟩] }
def EVL_STORED_COUNT : Fld := ⟨EVL_STORED, 31, 0⟩
/-- R596. -/
def EVL_OVWR : Reg := {
  blk := .evl, base := 0x40140018, dims := [], rd := .g0, wr := .g0, rdom := .retained,
  reset := 0x0, fields := [⟨31, 0, .ro⟩] }
def EVL_OVWR_COUNT : Fld := ⟨EVL_OVWR, 31, 0⟩
/-- R596. -/
def EVL_DROP : Reg := {
  blk := .evl, base := 0x4014001C, dims := [], rd := .g0, wr := .g0, rdom := .retained,
  reset := 0x0, fields := [⟨31, 0, .ro⟩] }
def EVL_DROP_COUNT : Fld := ⟨EVL_DROP, 31, 0⟩
/-- R596. -/
def EVL_REPEATS : Reg := {
  blk := .evl, base := 0x40140020, dims := [], rd := .g0, wr := .g0, rdom := .retained,
  reset := 0x0, fields := [⟨31, 0, .ro⟩] }
def EVL_REPEATS_COUNT : Fld := ⟨EVL_REPEATS, 31, 0⟩
/-- R596. -/
def EVL_SUPP : Reg := {
  blk := .evl, base := 0x40140024, dims := [], rd := .g0, wr := .g0, rdom := .retained,
  reset := 0x0, fields := [⟨31, 0, .ro⟩] }
def EVL_SUPP_COUNT : Fld := ⟨EVL_SUPP, 31, 0⟩
/-- R596. -/
def EVL_KEEL : Reg := {
  blk := .evl, base := 0x40140050, dims := [], rd := .g0, wr := .g0, rdom := .retained,
  reset := 0x0, fields := [⟨31, 16, .ro⟩, ⟨15, 0, .ro⟩] }
def EVL_KEEL_NEXT : Fld := ⟨EVL_KEEL, 31, 16⟩
def EVL_KEEL_USED : Fld := ⟨EVL_KEEL, 15, 0⟩
/-- R596. -/
def EVL_LAST : Reg := {
  blk := .evl, base := 0x40140054, dims := [], rd := .g0, wr := .g0, rdom := .feed,
  reset := 0x0, fields := [⟨16, 16, .ro⟩, ⟨15, 0, .ro⟩] }
def EVL_LAST_KEEL : Fld := ⟨EVL_LAST, 16, 16⟩
def EVL_LAST_SLOT : Fld := ⟨EVL_LAST, 15, 0⟩
/-- R596. -/
def EVL_NSEV : Reg := {
  blk := .evl, base := 0x40140060, dims := [(8, 4)], rd := .g0, wr := .g0, rdom := .retained,
  reset := 0x0, fields := [⟨31, 0, .ro⟩] }
def EVL_NSEV_COUNT : Fld := ⟨EVL_NSEV, 31, 0⟩
/-- R611. -/
def UPD_CTL : Reg := {
  blk := .upd, base := 0x40150000, dims := [], rd := .g0, wr := .g2, rdom := .feed,
  reset := 0x78, fields := [⟨31, 31, .rw⟩, ⟨15, 0, .rw⟩] }
def UPD_CTL_MANUAL : Fld := ⟨UPD_CTL, 31, 31⟩
def UPD_CTL_DEADLINE : Fld := ⟨UPD_CTL, 15, 0⟩
/-- R611. -/
def UPD_CMD : Reg := {
  blk := .upd, base := 0x40150004, dims := [], rd := .g0, wr := .g2, rdom := .block,
  reset := 0x0, fields := [⟨31, 31, .w1s⟩, ⟨2, 0, .rw⟩] }
def UPD_CMD_GO : Fld := ⟨UPD_CMD, 31, 31⟩
def UPD_CMD_OP : Fld := ⟨UPD_CMD, 2, 0⟩
/-- R611. -/
def UPD_SRC : Reg := {
  blk := .upd, base := 0x40150008, dims := [], rd := .g0, wr := .g2, rdom := .block,
  reset := 0x0, fields := [⟨31, 0, .rw⟩] }
def UPD_SRC_VALUE : Fld := ⟨UPD_SRC, 31, 0⟩
/-- R611. -/
def UPD_OFS : Reg := {
  blk := .upd, base := 0x4015000C, dims := [], rd := .g0, wr := .g2, rdom := .block,
  reset := 0x0, fields := [⟨22, 0, .rw⟩] }
def UPD_OFS_VALUE : Fld := ⟨UPD_OFS, 22, 0⟩
/-- R611. -/
def UPD_LEN : Reg := {
  blk := .upd, base := 0x40150010, dims := [], rd := .g0, wr := .g2, rdom := .block,
  reset := 0x0, fields := [⟨16, 0, .rw⟩] }
def UPD_LEN_VALUE : Fld := ⟨UPD_LEN, 16, 0⟩
/-- R611. -/
def UPD_STAT : Reg := {
  blk := .upd, base := 0x40150014, dims := [], rd := .g0, wr := .g0, rdom := .block,
  reset := 0x0, fields := [⟨31, 16, .ro⟩, ⟨15, 8, .ro⟩, ⟨7, 4, .ro⟩, ⟨3, 3, .ro⟩, ⟨2, 0, .ro⟩] }
def UPD_STAT_NCHUNK : Fld := ⟨UPD_STAT, 31, 16⟩
def UPD_STAT_CODE : Fld := ⟨UPD_STAT, 15, 8⟩
def UPD_STAT_ERR : Fld := ⟨UPD_STAT, 7, 4⟩
def UPD_STAT_BUSY : Fld := ⟨UPD_STAT, 3, 3⟩
def UPD_STAT_STATE : Fld := ⟨UPD_STAT, 2, 0⟩
/-- R611. -/
def UPD_SLOT : Reg := {
  blk := .upd, base := 0x40150018, dims := [], rd := .g0, wr := .g0, rdom := .retained,
  reset := 0x0, fields := [⟨31, 16, .ro⟩, ⟨7, 7, .ro⟩, ⟨6, 6, .ro⟩, ⟨3, 3, .ro⟩, ⟨2, 2, .ro⟩, ⟨0, 0, .ro⟩] }
def UPD_SLOT_FALLBK : Fld := ⟨UPD_SLOT, 31, 16⟩
def UPD_SLOT_TRIAL : Fld := ⟨UPD_SLOT, 7, 7⟩
def UPD_SLOT_TRIALSLOT : Fld := ⟨UPD_SLOT, 6, 6⟩
def UPD_SLOT_VALIDB : Fld := ⟨UPD_SLOT, 3, 3⟩
def UPD_SLOT_VALIDA : Fld := ⟨UPD_SLOT, 2, 2⟩
def UPD_SLOT_ACTIVE : Fld := ⟨UPD_SLOT, 0, 0⟩
/-- R611. -/
def UPD_TRIALT : Reg := {
  blk := .upd, base := 0x4015001C, dims := [], rd := .g0, wr := .g0, rdom := .feed,
  reset := 0x0, fields := [⟨15, 0, .ro⟩] }
def UPD_TRIALT_LEFT : Fld := ⟨UPD_TRIALT, 15, 0⟩
/-- R611. -/
def UPD_VER_LO : Reg := {
  blk := .upd, base := 0x40150020, dims := [(2, 8)], rd := .g0, wr := .g0, rdom := .retained,
  reset := 0x0, fields := [⟨31, 0, .ro⟩] }
def UPD_VER_LO_VERSION : Fld := ⟨UPD_VER_LO, 31, 0⟩
/-- R611. -/
def UPD_VER_HI : Reg := {
  blk := .upd, base := 0x40150024, dims := [(2, 8)], rd := .g0, wr := .g0, rdom := .retained,
  reset := 0x0, fields := [⟨31, 0, .ro⟩] }
def UPD_VER_HI_VERSION : Fld := ⟨UPD_VER_HI, 31, 0⟩
/-- R611. -/
def UPD_MON : Reg := {
  blk := .upd, base := 0x40150030, dims := [], rd := .g0, wr := .g2, rdom := .feed,
  reset := 0x100, fields := [⟨8, 8, .rw⟩, ⟨2, 0, .rw⟩] }
def UPD_MON_ECHO : Fld := ⟨UPD_MON, 8, 8⟩
def UPD_MON_BAUD : Fld := ⟨UPD_MON, 2, 0⟩
/-- R595. -/
def KPR_BUSYTOT_H : Reg := {
  blk := .kpr, base := 0x40130020, dims := [], rd := .g0, wr := .g0, rdom := .feed,
  reset := 0x0, fields := [⟨31, 0, .ro⟩] }
/-- R595. -/
def KPR_WDRST_H : Reg := {
  blk := .kpr, base := 0x40130024, dims := [], rd := .g0, wr := .g0, rdom := .feed,
  reset := 0x0, fields := [⟨31, 0, .ro⟩] }
/-- R595. -/
def KPR_LOGINF_H : Reg := {
  blk := .kpr, base := 0x40130028, dims := [], rd := .g0, wr := .g0, rdom := .feed,
  reset := 0x0, fields := [⟨31, 0, .ro⟩] }
/-- R596. -/
def EVL_WRITTEN_H : Reg := {
  blk := .evl, base := 0x40140030, dims := [], rd := .g0, wr := .g0, rdom := .retained,
  reset := 0x0, fields := [⟨31, 0, .ro⟩] }
/-- R596. -/
def EVL_STORED_H : Reg := {
  blk := .evl, base := 0x40140034, dims := [], rd := .g0, wr := .g0, rdom := .retained,
  reset := 0x0, fields := [⟨31, 0, .ro⟩] }
/-- R596. -/
def EVL_OVWR_H : Reg := {
  blk := .evl, base := 0x40140038, dims := [], rd := .g0, wr := .g0, rdom := .retained,
  reset := 0x0, fields := [⟨31, 0, .ro⟩] }
/-- R596. -/
def EVL_DROP_H : Reg := {
  blk := .evl, base := 0x4014003C, dims := [], rd := .g0, wr := .g0, rdom := .retained,
  reset := 0x0, fields := [⟨31, 0, .ro⟩] }
/-- R596. -/
def EVL_REPEATS_H : Reg := {
  blk := .evl, base := 0x40140040, dims := [], rd := .g0, wr := .g0, rdom := .retained,
  reset := 0x0, fields := [⟨31, 0, .ro⟩] }
/-- R596. -/
def EVL_SUPP_H : Reg := {
  blk := .evl, base := 0x40140044, dims := [], rd := .g0, wr := .g0, rdom := .retained,
  reset := 0x0, fields := [⟨31, 0, .ro⟩] }
/-- R497. -/
def TWIN_HBMISS_H : Reg := {
  blk := .twin, base := 0x400F00E0, dims := [], rd := .g0, wr := .g0, rdom := .block,
  reset := 0x0, fields := [⟨31, 0, .ro⟩] }
/-- R497. -/
def TWIN_LATEB_H : Reg := {
  blk := .twin, base := 0x400F00E4, dims := [], rd := .g0, wr := .g0, rdom := .block,
  reset := 0x0, fields := [⟨31, 0, .ro⟩] }
/-- R497. -/
def TWIN_DISC_H : Reg := {
  blk := .twin, base := 0x400F00E8, dims := [], rd := .g0, wr := .g0, rdom := .block,
  reset := 0x0, fields := [⟨31, 0, .ro⟩] }
/-- R497. -/
def TWIN_TAKEOVER_H : Reg := {
  blk := .twin, base := 0x400F00EC, dims := [], rd := .g0, wr := .g0, rdom := .block,
  reset := 0x0, fields := [⟨31, 0, .ro⟩] }
/-- R497. -/
def TWIN_RESYNCS_H : Reg := {
  blk := .twin, base := 0x400F00F0, dims := [], rd := .g0, wr := .g0, rdom := .block,
  reset := 0x0, fields := [⟨31, 0, .ro⟩] }
/-- R497. -/
def TWIN_DEFER_H : Reg := {
  blk := .twin, base := 0x400F00F4, dims := [], rd := .g0, wr := .g0, rdom := .block,
  reset := 0x0, fields := [⟨31, 0, .ro⟩] }
/-- R568. -/
def HOST_P_RXPKT_H : Reg := {
  blk := .host, base := 0x40101000, dims := [(2, 64)], rd := .g0, wr := .g0, rdom := .block,
  reset := 0x0, fields := [⟨31, 0, .ro⟩] }
/-- R568. -/
def HOST_P_RXDROP_H : Reg := {
  blk := .host, base := 0x40101004, dims := [(2, 64)], rd := .g0, wr := .g0, rdom := .block,
  reset := 0x0, fields := [⟨31, 0, .ro⟩] }
/-- R568. -/
def HOST_P_TXPKT_H : Reg := {
  blk := .host, base := 0x40101008, dims := [(2, 64)], rd := .g0, wr := .g0, rdom := .block,
  reset := 0x0, fields := [⟨31, 0, .ro⟩] }
/-- R568. -/
def HOST_S_CNT_H : Reg := {
  blk := .host, base := 0x40101100, dims := [(64, 4)], rd := .g0, wr := .g0, rdom := .block,
  reset := 0x0, fields := [⟨31, 24, .ro⟩, ⟨23, 16, .ro⟩, ⟨15, 0, .ro⟩] }
/-- R569. -/
def REC_ST_PROD_H : Reg := {
  blk := .recs, base := 0x40112000, dims := [(64, 16)], rd := .g0, wr := .g0, rdom := .block,
  reset := 0x0, fields := [⟨31, 0, .ro⟩] }
/-- R569. -/
def REC_ST_DELIV_H : Reg := {
  blk := .recs, base := 0x40112004, dims := [(64, 16)], rd := .g0, wr := .g0, rdom := .block,
  reset := 0x0, fields := [⟨31, 0, .ro⟩] }
/-- R569. -/
def REC_ST_DROP_H : Reg := {
  blk := .recs, base := 0x40112008, dims := [(64, 16)], rd := .g0, wr := .g0, rdom := .block,
  reset := 0x0, fields := [⟨31, 0, .ro⟩] }
/-- R569. -/
def REC_ST_PEND_H : Reg := {
  blk := .recs, base := 0x4011200C, dims := [(64, 16)], rd := .g0, wr := .g0, rdom := .block,
  reset := 0x0, fields := [⟨31, 0, .ro⟩] }
def safeRegs : List Reg :=
  [SAFE_STAT, SAFE_STRAP, SAFE_CFG, SAFE_CRC, SAFE_TICK, SAFE_TDEV, SAFE_SIDBASE, SAFE_IN_DMD, SAFE_IN_FLT, SAFE_IN_A, SAFE_IN_B, SAFE_OUT, SAFE_OUT_RB, SAFE_GRP, SAFE_GPWM, SAFE_GAX, SAFE_FN, SAFE_SS1, SAFE_AXF, SAFE_NET, SAFE_SWCNT]
def twinRegs0 : List Reg :=
  [TWIN_CTL, TWIN_CMD, TWIN_STAT, TWIN_EPOCH, TWIN_RS, TWIN_LINK, TWIN_TOL, TWIN_DISCSRC, TWIN_SHR, TWIN_OGA, TWIN_OGX, TWIN_OGD, TWIN_OGB, TWIN_OGP, TWIN_GRP, TWIN_PORT_DSKEW, TWIN_HBMISS, TWIN_LATEB, TWIN_DISC, TWIN_TAKEOVER, TWIN_RESYNCS, TWIN_DEFER, TWIN_HBMISS_H, TWIN_LATEB_H]
def twinRegs1 : List Reg :=
  [TWIN_DISC_H, TWIN_TAKEOVER_H, TWIN_RESYNCS_H, TWIN_DEFER_H]
/-- The registers of the block TWIN. -/
def twinRegs : List Reg := twinRegs0 ++ twinRegs1
/-- Each counter of the block with its holding register (R73). -/
def twinSnap : List (Reg × Reg) :=
  [(TWIN_HBMISS, TWIN_HBMISS_H), (TWIN_LATEB, TWIN_LATEB_H), (TWIN_DISC, TWIN_DISC_H), (TWIN_TAKEOVER, TWIN_TAKEOVER_H), (TWIN_RESYNCS, TWIN_RESYNCS_H), (TWIN_DEFER, TWIN_DEFER_H)]
def hostRegs : List Reg :=
  [HOST_CTL, HOST_STAT, HOST_P_CFG, HOST_P_MACL, HOST_P_MACH, HOST_P_IP4, HOST_P_IP6, HOST_P_STAT, HOST_P_RXPKT, HOST_P_RXDROP, HOST_P_TXPKT, HOST_S_STAT, HOST_S_CNT, HOST_P_RXPKT_H, HOST_P_RXDROP_H, HOST_P_TXPKT_H, HOST_S_CNT_H]
/-- Each counter of the block with its holding register (R73). -/
def hostSnap : List (Reg × Reg) :=
  [(HOST_P_RXPKT, HOST_P_RXPKT_H), (HOST_P_RXDROP, HOST_P_RXDROP_H), (HOST_P_TXPKT, HOST_P_TXPKT_H), (HOST_S_CNT, HOST_S_CNT_H)]
def recsRegs : List Reg :=
  [REC_CTL, REC_STAT, REC_BUDGET, REC_ST_CFG, REC_ST_DEC, REC_ST_SEQ, REC_ST_CTL, REC_ST_PROD, REC_ST_DELIV, REC_ST_DROP, REC_ST_PEND, REC_ST_PROD_H, REC_ST_DELIV_H, REC_ST_DROP_H, REC_ST_PEND_H]
/-- Each counter of the block with its holding register (R73). -/
def recsSnap : List (Reg × Reg) :=
  [(REC_ST_PROD, REC_ST_PROD_H), (REC_ST_DELIV, REC_ST_DELIV_H), (REC_ST_DROP, REC_ST_DROP_H), (REC_ST_PEND, REC_ST_PEND_H)]
def kprRegs0 : List Reg :=
  [KPR_STAT, KPR_WDT, KPR_QUEUE, KPR_BUSYTOT, KPR_WDRST, KPR_LOGINF, KPR_TLIM, KPR_TAVG, KPR_TEMP, KPR_RO, KPR_EM, KPR_MW, KPR_SWRATE, KPR_EOL, KPR_EOLB, KPR_CRED, KPR_CREDK, KPR_MG_CFG, KPR_MG_IP4, KPR_MG_MACL, KPR_MG_MACH, KPR_MG_STAT, KPR_BUSYTOT_H, KPR_WDRST_H]
def kprRegs1 : List Reg :=
  [KPR_LOGINF_H]
/-- The registers of the block KPR. -/
def kprRegs : List Reg := kprRegs0 ++ kprRegs1
/-- Each counter of the block with its holding register (R73). -/
def kprSnap : List (Reg × Reg) :=
  [(KPR_BUSYTOT, KPR_BUSYTOT_H), (KPR_WDRST, KPR_WDRST_H), (KPR_LOGINF, KPR_LOGINF_H)]
def evlRegs : List Reg :=
  [EVL_STAT, EVL_FUM, EVL_KEYS, EVL_WRITTEN, EVL_STORED, EVL_OVWR, EVL_DROP, EVL_REPEATS, EVL_SUPP, EVL_KEEL, EVL_LAST, EVL_NSEV, EVL_WRITTEN_H, EVL_STORED_H, EVL_OVWR_H, EVL_DROP_H, EVL_REPEATS_H, EVL_SUPP_H]
/-- Each counter of the block with its holding register (R73). -/
def evlSnap : List (Reg × Reg) :=
  [(EVL_WRITTEN, EVL_WRITTEN_H), (EVL_STORED, EVL_STORED_H), (EVL_OVWR, EVL_OVWR_H), (EVL_DROP, EVL_DROP_H), (EVL_REPEATS, EVL_REPEATS_H), (EVL_SUPP, EVL_SUPP_H)]
def updRegs : List Reg :=
  [UPD_CTL, UPD_CMD, UPD_SRC, UPD_OFS, UPD_LEN, UPD_STAT, UPD_SLOT, UPD_TRIALT, UPD_VER_LO, UPD_VER_HI, UPD_MON]

end Sys2Proof.Machine
end

