-- ==== Sys2Proof/Machine/State.lean ====
section
/-!
DEFINITION. The state of the KV6416 as plain data: its registers and memories (sparse, in canonical form), the
state of each block that no register holds, and the queue of commands that wait.
-/
namespace Sys2Proof.Machine

/-- Pins and internal lines whose changes a command puts out. -/
inductive Pin where
  | beacon | tbus | pwmH | pwmL | stepOut | dirOut | winding | dac | own | safeOut | testOut | gate | arc | trigOut
  | convTrig | fault
  deriving DecidableEq, Repr

/-- The balls of type OUT that a block drives, by group; those of AX_EN stand under `winding` from 1,024 on (23 R619). -/
def Pin.balls : Pin → List Nat
  | .beacon => List.range 16
  | .pwmH | .pwmL | .stepOut | .dirOut => List.range 64
  | .winding => (List.range 64).map (· + 1024)
  | .own => List.range 4
  | .safeOut => List.range 32
  | .testOut => List.range 16
  | .tbus | .dac | .convTrig | .fault | .gate | .arc | .trigOut => []

/-- The groups of balls of type OUT. -/
def outGroups : List Pin := [.beacon, .pwmH, .pwmL, .stepOut, .dirOut, .winding, .own, .safeOut, .testOut]

/-- What the device puts out while a command runs: the answer to an access, a reply to a requester, a pin or line
changing level, a packet or frame sent. -/
inductive Out where
  | resp (r : Resp)
  | reply (path code : Nat) (data : List Nat)
  | pin (p : Pin) (idx val : Nat)
  | send (port kind : Nat) (data : List Nat)
  | line (words : List Nat)
  /-- A STATE message of a resync: its phase, the cut tick where it names one, its parts (17 R493). -/
  | twinState (phase cut : Nat) (parts : List StatePart)
  deriving DecidableEq, Repr

/-- Why a command stops the machine. -/
inductive Fault where
  /-- Raised by every command that acts on a block whose reserved field was changed: 02 R66 says that the block's
  behaviour is not specified from then on. Safe: the model stops where the device goes on. -/
  | unspecifiedBehaviour
  deriving DecidableEq, Repr

/-- Why a command has no meaning. -/
inductive Refusal where
  /-- Raised by an arm of the dispatcher whose command has no meaning yet. Safe: the model stops. -/
  | notModelled (mnemonic : String)
  deriving DecidableEq, Repr

/-- The state of the device. -/
structure State where
  /-- Commands that wait, first in, first out. -/
  pending : List Instr
  /-- What the last command put out. -/
  out     : List Out
  /-- Groups of balls that are high impedance, as their block has not driven them yet (23 R623, 18 R519). -/
  hiz     : List Pin
  /-- Counter of free values drawn: the model's own. -/
  free    : Nat
  /-- Registers that differ from their reset value, by address. -/
  regs    : List (Nat × Word)
  /-- Bytes that differ from what an unlisted address reads as, by address. -/
  mem     : List Host.Cell
  /-- Blocks whose LK fields are locked (02 R71), by index. -/
  locked  : List Nat
  /-- Blocks whose behaviour is not specified (02 R66), by index. -/
  tainted : List Nat
  /-- Staging registers of 64-bit atomic pairs (02 R69), by master × 2³² + address. -/
  stage   : List (Nat × Word)
  /-- Read shadows of 64-bit atomic pairs (02 R69), by master × 2³² + address. -/
  shadow  : List (Nat × Word)
  /-- Snapshots in progress (02 R73), by block index: the values copied, and the instant of the copy. -/
  snaps   : List Nat
  /-- Mailboxes (02 R74), by block index. -/
  mbx     : List (Nat × Mailbox)
  /-- The queues of the event fabric (01 R25). -/
  fab     : List FabQueue
  /-- The Keeper's class E queue (21 R570). -/
  evq     : List Event
  tb      : TimeBase
  beacons : List Beacon
  trigs   : List TrigIn
  ptp     : List PtpPort
  servo   : PtpServo
  clkIns  : List ClkIn
  tbPll   : TbPll
  adm     : Adm
  mc      : ModeCtl
  rcp     : Rcp
  le      : LoopEng
  lens    : List LensCh
  rf      : List RfChan
  acq     : List AcqSet
  sar     : Sar
  pwm     : Pwm
  rio     : Rio
  axes    : List Axis
  can     : List CanCtl
  cores   : List Core
  disp    : Disp
  rt      : Rt
  isl     : Island
  islv    : IslView
  twin    : Twin
  sessions : List Session
  host    : HostSt
  kpr     : Kpr
  evl     : Evl
  upd     : Upd
  pwrs    : PwrSt
  seed    : SeedSt
  deriving DecidableEq, Repr

/-- The queues of the event fabric: queue b from block b to the Keeper, and queue 24 from the recipe engine to the
acquisition engine (01 R25, 07 R231). DESIGN CHOICE: log 4. -/
def fabReset : List FabQueue :=
  (List.range 24).map (fun b => { tx := b, rx := 19, depth := Config.queueDepth, tokens := [] }) ++
    [{ tx := 6, rx := 10, depth := Config.queueDepth, tokens := [] }]

/-- The device right after a POR (02 R65, 18 R504): D0 is good, the cold Seed has begun, D0 and D2 are powered, device time
does not count, every register holds its reset value and memory lists nothing. -/
def State.reset : State where
  pending := []
  out := []
  hiz := outGroups
  free := 0
  regs := [(0x4001001C, 5)]
  mem := []
  locked := []
  tainted := []
  stage := []
  shadow := []
  snaps := []
  mbx := []
  fab := fabReset
  evq := []
  tb := {}
  beacons := List.replicate 16 {}
  trigs := List.replicate 8 {} ++ List.replicate 4 { ball := true, ext := true }
  ptp := List.replicate 6 {}
  servo := {}
  clkIns := List.replicate 4 {}
  tbPll := {}
  adm := {}
  mc := {}
  rcp := {}
  le := {}
  lens := List.replicate 64 {}
  rf := List.replicate 4 {}
  acq := List.replicate 64 {}
  sar := {}
  pwm := {}
  rio := {}
  axes := List.replicate 64 {}
  can := List.replicate 8 {}
  cores := List.replicate 18 {}
  disp := {}
  rt := {}
  isl := {}
  islv := {}
  twin := {}
  sessions := List.replicate 68 {}
  host := {}
  kpr := {}
  evl := {}
  upd := {}
  pwrs := {}
  seed := {}

end Sys2Proof.Machine
end

