-- ==== Sys2Proof/Machine/Ops.lean ====
section
/-!
DEFINITION. The named operations over registers, memory, events and time that every block uses.
-/
namespace Sys2Proof.Machine

/-! ### Registers -/

/-- The address of element `ix` of a register family. -/
def Reg.addr (r : Reg) (ix : List Nat) : Nat :=
  r.base + ((r.dims.zip ix).map (fun p => p.1.2 * p.2)).foldl (· + ·) 0

/-- Whether `ix` lies within the register's index ranges. -/
def Reg.inRange (r : Reg) (ix : List Nat) : Bool :=
  ix.length == r.dims.length && (r.dims.zip ix).all (fun p => p.2 < p.1.1)

/-- A register's present word. -/
def State.reg (s : State) (r : Reg) (ix : List Nat := []) : Word :=
  (getKey s.regs (r.addr ix)).getD r.reset

/-- `s` with a register's word replaced. A word equal to the reset value is not listed. -/
def State.setReg (s : State) (r : Reg) (w : Word) (ix : List Nat := []) : State :=
  { s with regs := if w = r.reset then delKey s.regs (r.addr ix) else putKey s.regs (r.addr ix) w }

/-- The value of a field. -/
def State.fld (s : State) (f : Fld) (ix : List Nat := []) : Nat := bits (s.reg f.reg ix).toNat f.hi f.lo

/-- `s` with a field replaced by the low bits of `v`. -/
def State.setFld (s : State) (f : Fld) (v : Nat) (ix : List Nat := []) : State :=
  s.setReg f.reg (BitVec.ofNat 32 (putBits (s.reg f.reg ix).toNat f.hi f.lo v)) ix

/-- Whether a field is not 0. -/
def State.isSet (s : State) (f : Fld) (ix : List Nat := []) : Bool := s.fld f ix ≠ 0

/-- Set every bit of a field to 1. -/
def State.raise (s : State) (f : Fld) (ix : List Nat := []) : State := s.setFld f (2 ^ (f.hi + 1 - f.lo) - 1) ix

/-- Clear a field. -/
def State.lower (s : State) (f : Fld) (ix : List Nat := []) : State := s.setFld f 0 ix

/-- The largest value of a field. -/
def Fld.max (f : Fld) : Nat := 2 ^ (f.hi + 1 - f.lo) - 1

/-- Add `n` to a field, modulo its width. -/
def State.incr (s : State) (f : Fld) (ix : List Nat := []) (n : Nat := 1) : State :=
  s.setFld f (s.fld f ix + n) ix

/-- Add `n` to a field, saturating. -/
def State.incrSat (s : State) (f : Fld) (ix : List Nat := []) (n : Nat := 1) : State :=
  s.setFld f (min f.max (s.fld f ix + n)) ix

/-- The value of a field in a word that is being written. -/
def Fld.of (f : Fld) (w : Word) : Nat := bits w.toNat f.hi f.lo

/-- Whether a one-bit field is set in a word that is being written. -/
def Fld.on (f : Fld) (w : Word) : Bool := f.of w ≠ 0

/-! ### Mode, power domains and roles -/

/-- SYS_MODE.CUR, 18 R498. -/
def State.mode (s : State) : Mode := Mode.ofCode (s.fld SYS_MODE_CUR)

/-- The mode whose behaviour the blocks show: in Brace every block behaves as in UNDER (18 R508), in Follow as in the
leader's mode (17 R471). -/
def State.effMode (s : State) : Mode :=
  match s.mode with
  | .brace => Mode.ofCode s.mc.under
  | .follow => Mode.ofCode s.twin.ldrMode
  | m => m

/-- The modes in which loops, recipes and cyclic tasks execute (18 R498): Run, Hold, Follow, Trial and Brace. -/
def Mode.executes : Mode → Bool
  | .run | .hold | .follow | .trial | .brace => true
  | _ => false

/-- Whether a power domain is on (19 R537: PWR_DOMSTAT.ON). -/
def State.domOn (s : State) (d : Nat) : Bool := bit (s.fld PWR_DOMSTAT_ON) d

/-- The power domains of a block, 01 R17. -/
def blockDomains : Block → List Nat
  | .cpu => [3, 4] | .disp => [6] | .loop => [5] | .rcp => [5] | .rio => [10] | .sar => [8] | .rfa => [7]
  | .pwm => [10] | .mot => [10] | .can => [10] | .twin => [9] | .acq => [7] | .lens => [11] | .recs => [11]
  | .host => [9] | .kpr => [0] | .evl => [0] | .upd => [0] | .safe => [1] | .sys => [0] | .pwr => [0]
  | .clk => [0] | .time => [0] | .nvm => [2]

/-- Whether a block answers (02 R62): one of its domains is on. -/
def State.powered (s : State) (b : Block) : Bool := (blockDomains b).any s.domOn

/-- The plane a block belongs to, 01 R17. -/
inductive Plane where
  | control | data | management | safety | infra
  deriving DecidableEq, Repr

/-- 01 R17. -/
def blockPlane : Block → Plane
  | .cpu | .disp | .loop | .rcp | .rio | .sar | .rfa | .pwm | .mot | .can | .twin => .control
  | .acq | .lens | .recs | .host => .data
  | .kpr | .evl | .upd => .management
  | .safe => .safety
  | .sys | .pwr | .clk | .time | .nvm => .infra

/-- The role of a session: of one held here, or as role-change items have told it (01 R31). -/
def State.sessRole (s : State) (n : Nat) : Role :=
  if (nth s.sessions n {}).isOpen then (nth s.sessions n {}).role else Role.ofCode ((getKey s.adm.roles n).getD 0)

/-- Whether a core is in supervisor mode (14: PSR.S is bit 0). -/
def State.coreSuper (s : State) (c : Nat) : Bool := (nth s.cores c {}).psr.getLsbD 0

/-! ### Reason codes, 01 R49 -/

/-- Completed as requested. -/
def codeDone : Nat := 0
/-- Not qualified for the guard class. -/
def codeGuard : Nat := 1
/-- A field out of range or malformed. -/
def codeArgument : Nat := 2
/-- Not permitted in the mode. -/
def codeMode : Nat := 3
/-- Refused by an admission or bandwidth check. -/
def codeBudget : Nat := 4
/-- Not completed within its bound. -/
def codeTimeout : Nat := 5
/-- The target was lost. -/
def codeTargetLost : Nat := 6
/-- Not confirmed by its target in its cycle. -/
def codeNotDelivered : Nat := 7
/-- Cancelled. -/
def codeAborted : Nat := 8
/-- Replaced before it took effect. -/
def codeSuperseded : Nat := 9
/-- The target reported a fault. -/
def codeTargetFault : Nat := 10
/-- Blocked by a low gate line. -/
def codeSafetyVeto : Nat := 11
/-- In flight at a reset. -/
def codeRestarted : Nat := 12
/-- A digest, signature or header check failed. -/
def codeCheckFailed : Nat := 13
/-- Nothing was done. -/
def codeBusy : Nat := 14
/-- No free buffer, descriptor or slot. -/
def codeNoResource : Nat := 15
/-- An uncorrectable memory error. -/
def codeMemoryError : Nat := 16

/-! ### Device time -/

/-- One nanosecond in units of 2⁻²⁸ ns. -/
def nsU : Nat := 2 ^ 28
/-- One nanosecond in units of 2⁻¹⁶ ns, the unit of stamps. -/
def nsF : Nat := 2 ^ 16
/-- One second in units of 2⁻¹⁶ ns. -/
def secF : Nat := 1000000000 * 2 ^ 16

/-- Device time in units of 2⁻¹⁶ ns (the extension bits cannot be read, 03 R87). -/
def State.now (s : State) : Nat := s.tb.dt / 4096

/-- The 96-bit layout of 03 R86 of an instant in units of 2⁻¹⁶ ns. -/
def time96 (t : Nat) : Nat := (t / secF % 2 ^ 48) * 2 ^ 48 + t % secF

/-- The instant that a 96-bit time spells. -/
def ofTime96 (v : Nat) : Nat := (v / 2 ^ 48) * secF + v % 2 ^ 46

/-- T(n) of base tick n, 01 R29, in units of 2⁻¹⁶ ns. -/
def tickAt (n : Nat) : Nat := n * 5000 * nsF

/-- The base tick number of an instant, 01 R29. -/
def tickNo (t : Nat) : Nat := t / (5000 * nsF)

/-- The number of the present base tick, 03 R95. -/
def State.tick (s : State) : Nat := tickNo s.now

/-! ### Free values -/

/-- Draw a value that the spec leaves open. -/
def State.draw (s : State) : Nat × State := (Config.freeValue s.free, { s with free := s.free + 1 })

/-- One more entry was written to report ring k: 0 recipe, 1 motion, 2 Buoy delivery, 3 dispatcher (20 R553). -/
def State.noteRing (s : State) (k : Nat) : State := { s with host := { s.host with tot := modNth s.host.tot k (· + 1) } }

/-! ### Outputs -/

/-- Put something out. -/
def State.say (s : State) (o : Out) : State := { s with out := s.out ++ [o] }

/-- A level at a ball of type OUT; nothing shows while its group is high impedance (23 R623). -/
def State.ball (s : State) (p : Pin) (i v : Nat) : State := if s.hiz.contains p then s else s.say (.pin p i v)

/-- Groups of balls become high impedance, shown as 2 (23 R623, 18 R519). -/
def ballsOff (gs : List Pin) (s : State) : State :=
  { s with hiz := s.hiz.filter (fun p => !gs.contains p) ++ gs,
           out := s.out ++ gs.flatMap (fun p => p.balls.map (fun i => .pin p i 2)) }

/-- The blocks drive groups of balls from now on. -/
def ballsOn (gs : List Pin) (s : State) : State := { s with hiz := s.hiz.filter (fun p => !gs.contains p) }

/-! ### The event fabric and events -/

/-- The registers of queue `q` count a token sent, refused, or taken with its credit returned (02 R81). -/
def State.sendToken (s : State) (q : Nat) (t : Token) : State :=
  match s.fab[q]? with
  | none => s
  | some fq =>
    if fq.tokens.length < fq.depth then
      { s.incr SYS_Q_SENT_COUNT [q] with fab := modNth s.fab q (fun f => { f with tokens := f.tokens ++ [t] }) }
    else s.incr SYS_Q_REF_COUNT [q]

/-- Whether the sender of queue `q` holds a credit (01 R25). -/
def State.hasCredit (s : State) (q : Nat) : Bool :=
  match s.fab[q]? with
  | none => false
  | some fq => fq.tokens.length < fq.depth

/-- Whether an event that the sender holds and a new one tell the same thing: key and data (21 R582). The numbers of accesses
and messages are never merged: KIND 0x05 and 0x0F tell each occurrence. -/
def Event.same (a b : Event) : Bool :=
  a.sev = b.sev && a.kind = b.kind && a.blk = b.blk && a.inst = b.inst && a.mst = b.mst && a.d0 = b.d0 && a.d1 = b.d1 &&
    a.kind ≠ 0x05 && a.kind ≠ 0x0F

/-- The sender of queue `q` sends an event token. Without a credit, or behind events that it holds already, it counts the
refusal and holds the event; one that it holds already is coalesced into that (R26). DESIGN CHOICE: log 202. -/
def State.sendEvent (s : State) (q : Nat) (e : Event) : State :=
  match s.fab[q]? with
  | none => s
  | some fq =>
    if fq.held = [] && fq.tokens.length < fq.depth then s.sendToken q (.event e)
    else
      let s := s.incr SYS_Q_REF_COUNT [q]
      if fq.held.any (fun h => h.same e) then s
      else { s with fab := modNth s.fab q (fun f => { f with held := f.held ++ [e] }) }

/-- The events held for queue `q` go out, oldest first, as far as there are credits (R26: a held retry at the next base
tick). -/
def State.retryHeld (s : State) (q : Nat) : State :=
  match s.fab[q]? with
  | none => s
  | some fq =>
    let go := fq.held.take (fq.depth - fq.tokens.length)
    if go = [] then s
    else
      { s.incr SYS_Q_SENT_COUNT [q] go.length with
        fab := modNth s.fab q (fun f => { f with tokens := f.tokens ++ go.map .event, held := f.held.drop go.length }) }

/-- An event that the block of index `blk` raises now, 21 R578. -/
def State.mkEvent (s : State) (sev kind blk inst mst d0 d1 : Nat) : Event :=
  { sev := sev, kind := kind, blk := blk, inst := inst, mst := mst, d0 := d0 % 2 ^ 32, d1 := d1 % 2 ^ 96,
    mode := s.fld SYS_MODE_CUR, tick := s.tick % 2 ^ 32, first := s.now }

/-- Raise an event: its token goes into the raising block's queue, or is refused, counted and held (01 R26). -/
def State.emit (s : State) (sev kind : Nat) (b : Block) (inst : Nat := 0xFFFF) (mst : Nat := 0xFF)
    (d0 : Nat := 0) (d1 : Nat := 0) : State :=
  s.sendEvent b.index (s.mkEvent sev kind b.index inst mst d0 d1)

/-- A UNIT event (21 R579, KIND 0x0C): the address and the value of the register that names the state. -/
def State.emitUnit (s : State) (sev : Nat) (b : Block) (inst : Nat) (r : Reg) (ix : List Nat) : State :=
  s.emit sev 0x0C b inst 0xFF (r.addr ix) (s.reg r ix).toNat

/-- Record a cause for the error task of the cyclic program (13 R349). -/
def State.rtCause (s : State) (b : Nat) : State := s.setFld RT_ERRCAUSE_PEND (s.fld RT_ERRCAUSE_PEND ||| 2 ^ b)

/-! ### Local outcomes, 17 R475 -/

/-- Whether the device is FOLLOWER (TWIN_STAT.ROLE). -/
def State.follower (s : State) : Bool := s.fld TWIN_STAT_ROLE = 2

/-- An outcome of the device's own hardware: with no twin operation it acts at once; with it, it waits for Phase 3 of the
next base tick, and a follower discards it for the leader's. -/
def State.outcome (s : State) (o : Outcome) (act : State → State) : State :=
  if !s.isSet TWIN_CTL_EN then act s
  else if s.follower || s.twin.outs.contains o then s
  else { s with twin := { s.twin with outs := s.twin.outs ++ [o] } }

/-! ### Items of the admission boundary -/

/-- What an item carries, as the numbers of a link message. -/
def ItemKind.words : ItemKind → List Nat
  | .hostWrite sess req a r ws => [0, sess, req, a, r] ++ ws.map (fun w => w.toNat)
  | .sigWrite sess req sid v st => [1, sess, req, sid, v, st]
  | .trig n r l o k => [2, n, b2n r, b2n l, b2n o, k]
  | .can c b i f d => [3, c, b, i, f] ++ d.map (fun x => x.toNat)
  | .sar c m raw f t => [4, c, m, ofInt 17 raw, f, t]
  | .sarVal sid v st t => [5, sid, v, st, t]
  | .tone c ws => [6, c] ++ ws.flatMap (fun (w : Nat × Nat × Nat) => [w.1, w.2.1, w.2.2])
  | .arc c k r => [7, c, k, r]
  | .ifr n c st acks img => [8, n, c, st, acks.length] ++ acks ++ img.map (fun x => x.toNat)
  | .modeReq t r i p => [9, t, r, i, p]
  | .softReset b p => [10, b, p]
  | .roleChange n r => [11, n, r]
  | .island ws => 12 :: ws

/-- Put an item into its source's admission queue (01 R35): `stamp` in units of 2⁻¹⁶ ns. A leader sends it as an ITEM with
its forward sequence number (17 R469), a follower one of its sessions or of its Keeper as a FWD (17 R468, R483), and after a handover what it had started (17 R491). -/
def State.pushItem (s : State) (src stamp : Nat) (k : ItemKind) : State :=
  let n := s.adm.num + 1
  let t := { s with adm := { s.adm with queue := s.adm.queue ++ [{ src := src, stamp := stamp, arr := s.now, num := n,
                                                                   kind := k }],
                                        num := n } }
  if !s.isSet TWIN_CTL_EN then t
  else if s.fld TWIN_STAT_ROLE = 1 then
    { t with twin := { t.twin with fwd := n } }.say (.send 24 2 ([src, stamp, n] ++ k.words))
  else if s.follower && (312 ≤ src && src ≤ 376 || s.twin.swap.isSome && src < 264) then t.say (.send 24 3 ([src, stamp, n] ++ k.words))
  else t

/-! ### Memory -/

/-- The byte at an address. -/
def State.byte (s : State) (a : Nat) : Byte := (getKey s.mem a).getD Config.emptyByte

/-- Write one byte; a byte equal to what an unlisted address reads as is not listed. -/
def memSet (m : List Host.Cell) (a : Nat) (b : Byte) : List Host.Cell :=
  if b = Config.emptyByte then delKey m a else putKey m a b

/-- `s` with one byte written. -/
def State.setByte (s : State) (a : Nat) (b : Byte) : State := { s with mem := memSet s.mem a b }

/-- `n` bytes from an address upward. -/
def State.bytes (s : State) (a : Nat) : Nat → List Byte
  | 0 => []
  | n + 1 => s.byte a :: s.bytes (a + 1) n

/-- `s` with bytes written from an address upward. -/
def State.setBytes (s : State) (a : Nat) : List Byte → State
  | [] => s
  | b :: bs => (s.setByte a b).setBytes (a + 1) bs

/-- The little-endian number of `n` bytes at an address (00 R13). -/
def State.peek (s : State) (a n : Nat) : Nat := ofLE (s.bytes a n)

/-- `s` with the `n` little-endian bytes of `v` at an address. -/
def State.poke (s : State) (a n v : Nat) : State := s.setBytes a (leBytes n v)

/-! ### Signals -/

/-- The address of a signal's entry, 01 R22. -/
def sigAddr (sid : Nat) : Nat := 0x10200000 + 8 * sid

/-- VALUE of a signal. -/
def State.sigVal (s : State) (sid : Nat) : Nat := s.peek (sigAddr sid) 4

/-- The status word of a signal, 01 R23. -/
def State.sigStat (s : State) (sid : Nat) : Nat := s.peek (sigAddr sid + 4) 2

/-- QUAL of a signal. -/
def State.sigQual (s : State) (sid : Nat) : Nat := bits (s.sigStat sid) 15 14

/-- Write a signal's entry as one aligned unit: value, status word, and WTICK of tick `n` (R22, R24). -/
def State.setSig (s : State) (sid val stat n : Nat) : State :=
  s.poke (sigAddr sid) 8 (val % 2 ^ 32 + stat % 2 ^ 16 * 2 ^ 32 + n % 2 ^ 16 * 2 ^ 48)

/-- The canonical form of a memory: addresses strictly rising, no byte that an unlisted address reads as. -/
def Memory.wf : List Host.Cell → Bool
  | [] => true
  | [c] => c.2 ≠ Config.emptyByte
  | c :: d :: t => c.2 ≠ Config.emptyByte && c.1 < d.1 && Memory.wf (d :: t)

/-- A memory in its canonical form: of two entries for one address the first counts, as in a read. On a memory that is
canonical already it changes nothing. -/
def Memory.canon : List Host.Cell → List Host.Cell
  | [] => []
  | c :: t => memSet (Memory.canon t) c.1 c.2

/-! ### Running a command -/

/-- What a command starts from: nothing put out yet. -/
def State.begin (s : State) : State := { s with out := [] }

/-- What a command leaves: the commands that wait are those of `s`, the rest is `t`, its memory in canonical form. -/
def State.finish (s t : State) : State := { t with pending := s.pending, mem := Memory.canon t.mem }

/-- The frame of every meaning: a command that acts on a block whose behaviour is no longer specified (02 R66)
stops; in Dark nothing runs (18 R498); otherwise the command has its effect, and the commands that wait are left
as they are. -/
def run (bs : List Block) (f : State → State) (s : State) : Host.Outcome State Fault Refusal :=
  if bs.any (fun b => s.tainted.contains b.index) then .fault .unspecifiedBehaviour
  else if s.mode = .dark then .next (s.finish s.begin)
  else .next (s.finish (f s.begin))

/-- As `run`, for the commands that the supplies bring about, in Dark too. -/
def runAlways (bs : List Block) (f : State → State) (s : State) : Host.Outcome State Fault Refusal :=
  if bs.any (fun b => s.tainted.contains b.index) then .fault .unspecifiedBehaviour
  else .next (s.finish (f s.begin))

end Sys2Proof.Machine
end

