-- ==== Sys2Proof/Machine/Bus.lean ====
section
/-!
DEFINITION. Register access (02): masters, scope and guards, the order of checks of R70, the store of a word by
the access codes of its fields, the refusals and what they record.
-/
namespace Sys2Proof.Machine

/-- The identity of a master, 02 R58. -/
def masterId : Master → Nat
  | .core n => n.val | .keeper => 16 | .keeperFor _ => 16 | .island => 17 | .host _ => 18 | .hostItem _ _ => 18
  | .twin => 19 | .dma => 20 | .recorder => 21

/-- The plane of a master, 02 R58. -/
def masterPlane : Master → Plane
  | .core _ | .twin | .dma => .control
  | .keeper | .keeperFor _ => .management
  | .island => .safety
  | .host _ | .hostItem _ _ | .recorder => .data

/-- Whether a block lies in a master's write scope, 02 R58. -/
def inScope (m : Master) (b : Block) : Bool :=
  match m with
  | .core _ => blockPlane b = .control || blockPlane b = .infra
  | .keeper | .keeperFor _ => blockPlane b = .management || blockPlane b = .infra
  | .island => b = .safe
  | .host _ | .hostItem _ _ => b ≠ .safe
  | .twin | .dma | .recorder => false

/-- Whether a role qualifies for a guard class, 00 R2. -/
def roleQualifies (r : Role) : Guard → Bool
  | .g0 => true
  | .g1 => false
  | .g2 => r = .installer || r = .maker
  | .g3 => r = .maker

/-- Whether a master qualifies for a guard class, 02 R59. -/
def qualifies (s : State) (m : Master) (g : Guard) : Bool :=
  match m with
  | .core n => match g with
    | .g0 => true
    | .g1 => s.coreSuper n.val
    | _ => false
  | .keeper => g = .g0 || (g = .g1 && s.coreSuper 16)
  | .island => g = .g0 || (g = .g1 && s.coreSuper 17)
  | .keeperFor r => roleQualifies r g
  | .host n => roleQualifies (s.sessRole n.val) g
  | .hostItem _ r => roleQualifies r g
  | .twin | .dma | .recorder => g = .g0

/-- The session byte of an ACCESS event, 21 R579. -/
def sessByte : Master → Nat
  | .host n | .hostItem n _ => n.val
  | _ => 0xFF

/-- What a block's own rules answer to a write: done, or refused by value or state (02 R634); `own` says that the
block has recorded the one event itself, of another KIND. -/
inductive ActRes where
  | ok (s : State)
  | no (r : BusReason) (own : Bool) (s : State)
  deriving DecidableEq, Repr

/-- A block's own rules for a write: the master, the indices, the word written. -/
abbrev Act := Master → List Nat → Word → State → ActRes

/-- Refuse by value, leaving the state. -/
def ActRes.badValue (s : State) : ActRes := .no .value false s
/-- Refuse by state, leaving the state. -/
def ActRes.badState (s : State) : ActRes := .no .state false s

/-- Refuse because of the device mode. -/
def ActRes.badMode (s : State) : ActRes := .no .mode false s

/-- The one event of a refused access (02 R56 to R71, R634), and the counter its rule names. -/
def refuseAccess (m : Master) (b : Block) (a : Nat) (r : BusReason) (s : State) : State :=
  let s := match r with
    | .unmapped | .noresp => s.incrSat SYS_ACCERR_UNMAP
    | .width => s.incrSat SYS_ACCERR_WIDTH
    | .guard => s.incrSat SYS_GUARDV_WR
    | _ => s
  s.emit 4 0x01 b 0xFFFF (masterId m) a (r.code + 256 * sessByte m)

/-- Set a block's LOCKV with the master and the offset of the refused write (02 R71). -/
def setLockV (b : Block) (m : Master) (a : Nat) (s : State) : State :=
  ((s.raise TAIL_STICKY_LOCKV [b.index]).setFld TAIL_STICKY_MST (masterId m) [b.index]).setFld
    TAIL_STICKY_OFS (a % 0x10000) [b.index]

/-- The bits that a field covers. -/
def fieldMask (f : FieldDesc) : Nat := (2 ^ (f.hi + 1 - f.lo) - 1) * 2 ^ f.lo

/-- The bits of a register that satisfy a test on the access code. -/
def accMask (r : Reg) (p : Access → Bool) : Nat :=
  (r.fields.filter (fun f => p f.acc)).foldl (fun a f => a ||| fieldMask f) 0

/-- The reserved bits of a register: those that no field covers (02 R66). -/
def reservedMask (r : Reg) : Nat := 0xFFFFFFFF - accMask r (fun _ => true)

/-- Whether a write changes a reserved field. -/
def changesReserved (r : Reg) (old w : Word) : Bool := (old.toNat ^^^ w.toNat) &&& reservedMask r ≠ 0

/-- Whether a write changes an LK field. -/
def changesLk (r : Reg) (old w : Word) : Bool :=
  (old.toNat ^^^ w.toNat) &&& accMask r (fun a => a = .lk) ≠ 0

/-- The word a register holds after a write, by the access codes of its fields (02 R63) and R66: RW, LK, WONCE, WO
and reserved bits take the written value, flags cleared by a 1 clear, RO, RS and W1S bits stay. -/
def composeWrite (r : Reg) (old w : Word) : Word :=
  let take := accMask r (fun a => a = .rw || a = .lk || a = .wonce || a = .wo) ||| reservedMask r
  let clr := r.fields.foldl (fun a f => match f.acc with
    | .w1c => a ||| (w.toNat &&& fieldMask f)
    | .w1cTo t => a ||| bits w.toNat f.hi f.lo * 2 ^ t
    | _ => a) 0
  BitVec.ofNat 32 (((old.toNat &&& (0xFFFFFFFF - take)) ||| (w.toNat &&& take)) &&& (0xFFFFFFFF - clr))

/-- The word that a read of a register returns: WO fields and clear controls read 0 (02 R63). -/
def readMask (r : Reg) : Nat :=
  0xFFFFFFFF - accMask r (fun a => match a with
    | .wo | .w1cTo _ | .w1cCtl => true
    | _ => false)

/-- Store a written word under the access codes. -/
def State.store (s : State) (r : Reg) (ix : List Nat) (w : Word) : State :=
  s.setReg r (composeWrite r (s.reg r ix) w) ix

/-- The rule of a register that has no rule of its own: the word is stored. -/
def plainAct (r : Reg) : Act := fun _ ix w s => .ok (s.store r ix w)

/-- 02 R66: note a reserved-field write; from then on the block's behaviour is not specified. -/
def noteReserved (m : Master) (b : Block) (a : Nat) (w : Word) (s : State) : State :=
  let s := (s.raise SYS_RSVW_RSVW).setFld SYS_RSVW_MST (masterId m)
  let s := (s.incrSat SYS_RSVW_COUNT).setReg SYS_RSVW_ADDR (BitVec.ofNat 32 a)
  let s := s.emit 5 0x02 b 0xFFFF (masterId m) a w.toNat
  { s with tainted := if s.tainted.contains b.index then s.tainted else b.index :: s.tainted }

/-- Whether a master is a control core. -/
def isCore : Master → Bool
  | .core _ => true
  | _ => false

/-- A debug hold (18 R525, R526): 1 is refused outside Hold, and a change by a core on a LEADER whose partner is in step. -/
def holdAct (f : Fld) (act : Act) : Act := fun m ix w s =>
  if f.on w && s.effMode ≠ .hold then .badMode s
  else if isCore m && s.fld TWIN_STAT_ROLE = 1 && s.isSet TWIN_STAT_INSTEP && f.of w ≠ s.fld f then .badState s
  else act m ix w s

/-- A write of one word to a register of block `b` with write guard `g`, checked in the order of 02 R70. `free`
marks MBX_REQ, which lies outside every master's write scope (R58). A write that changes a reserved field takes effect, by
the access codes where the block's own rules would refuse it (R66, before R634); the SAFE block takes none, with bus reason
VALUE (DESIGN CHOICE: log 199). While D1 is off, SAFE refuses other masters under R58 (16 R465). -/
def regWriteAt (b : Block) (g : Guard) (free : Bool) (act : Act) (m : Master) (r : Reg) (ix : List Nat) (w : Word)
    (s : State) : Resp × State :=
  let a := r.addr ix
  let old := s.reg r ix
  let scope := (free || inScope m b) && qualifies s m g
  if !r.inRange ix then (.err .unmapped, refuseAccess m b a .unmapped s)
  else if !s.powered b && (b ≠ .safe || scope) then (.err .noresp, refuseAccess m b a .noresp s)
  else if !scope then (.err .guard, refuseAccess m b a .guard s)
  else if changesLk r old w && s.locked.contains b.index then
    (.err .locked, refuseAccess m b a .locked (setLockV b m a s))
  else if changesReserved r old w then
    if b = .safe then (.err .value, refuseAccess m b a .value s)
    else match act m ix w s with
      | .no _ _ _ => (.ok 0, noteReserved m b a w (s.store r ix w))
      | .ok s' => (.ok 0, noteReserved m b a w s')
  else match act m ix w s with
    | .no e own s' => (.err e, if own then s' else refuseAccess m b a e s')
    | .ok s' => (.ok 0, s')

/-- A write to a register of the tables. -/
def regWrite (act : Act) (m : Master) (r : Reg) (ix : List Nat) (w : Word) (s : State) : Resp × State :=
  regWriteAt r.blk r.wr false act m r ix w s

/-- The session, and the code of its role, whose write to block `b` is an admitted item (02 R61): a host session's, to a
control-plane block. -/
def hostAdmits (m : Master) (b : Block) (s : State) : Option (Nat × Nat) :=
  if blockPlane b ≠ .control then none
  else match m with
    | .host n => some (n.val, (s.sessRole n.val).code)
    | .hostItem n r => some (n.val, r.code)
    | _ => none

/-- A write of one word as a command: a host session's to a control-plane block becomes an item of source 312 + n (02 R61),
which no request waits for; any other is performed by `f`, and its answer is put out. -/
def writeCmd (m : Master) (b : Block) (a : Nat) (w : Word) (f : State → Resp × State) (s : State) : State :=
  match hostAdmits m b s with
  | some (n, r) => s.pushItem (312 + n) s.now (.hostWrite n 0 a r [w])
  | none =>
    let x := f s
    x.2.say (.resp x.1)

/-- A register write as a command. -/
def regCmd (act : Act) (m : Master) (r : Reg) (ix : List Nat) (w : Word) (s : State) : State :=
  writeCmd m r.blk (r.addr ix) w (regWrite act m r ix w) s

/-- A read of one word: an unpowered block answers with an error (02 R62), a master that does not qualify reads
zero with a normal response, counted (R60). `v` is the word that the register shows. -/
def regReadAt (b : Block) (g : Guard) (m : Master) (r : Reg) (ix : List Nat) (v : Word) (s : State) : Resp × State :=
  if !s.powered b then (.err .noresp, refuseAccess m b (r.addr ix) .noresp s)
  else if !qualifies s m g then (.ok 0, s.incrSat SYS_GUARDV_RD)
  else (.ok (v.toNat &&& readMask r), s)

/-! ### Addresses -/

/-- The indices that an address spells for dimensions `ds`, outermost first. -/
def splitIx : List (Nat × Nat) → Nat → Option (List Nat)
  | [], o => if o = 0 then some [] else none
  | (c, st) :: ds, o =>
    if o / st < c then (splitIx ds (o % st)).map (o / st :: ·) else none

/-- The element of a register family at an address. -/
def Reg.at? (r : Reg) (a : Nat) : Option (List Nat) :=
  if a < r.base then none else splitIx r.dims (a - r.base)

/-- The registers of a block, without its tail. -/
def blockRegs : Block → List Reg
  | .sys => sysRegs | .pwr => pwrRegs | .clk => clkRegs | .time => timeRegs | .disp => dispRegs
  | .loop => loopRegs | .rcp => rcpRegs | .rio => rioRegs | .sar => sarRegs | .rfa => rfaRegs
  | .acq => acqRegs | .pwm => pwmRegs | .mot => motRegs | .can => canRegs | .safe => safeRegs
  | .twin => twinRegs | .host => hostRegs | .recs => recsRegs | .lens => lensRegs | .kpr => kprRegs
  | .evl => evlRegs | .upd => updRegs | .cpu => cpuRegs ++ rtRegs | .nvm => nvmRegs

/-- Find the register at an address among some registers. -/
def findIn (rs : List Reg) (a : Nat) : Option (Reg × List Nat) :=
  match rs with
  | [] => none
  | r :: t => match r.at? a with
    | some ix => some (r, ix)
    | none => findIn t a

/-- The block of an index, 02 R55. -/
def blockOfIndex : Nat → Option Block
  | 0 => some .sys | 1 => some .pwr | 2 => some .clk | 3 => some .time | 4 => some .disp | 5 => some .loop
  | 6 => some .rcp | 7 => some .rio | 8 => some .sar | 9 => some .rfa | 10 => some .acq | 11 => some .pwm
  | 12 => some .mot | 13 => some .can | 14 => some .safe | 15 => some .twin | 16 => some .host
  | 17 => some .recs | 18 => some .lens | 19 => some .kpr | 20 => some .evl | 21 => some .upd
  | 22 => some .cpu | 23 => some .nvm | _ => none

/-- The lowest write guard of a block, 02 R72. -/
def tailGuard : Block → Guard
  | .rcp | .lens | .acq => .g0
  | .nvm | .upd => .g2
  | _ => .g1

/-- The blocks with counters, which hold SNAP (02 R72). -/
def snapPairs : Block → List (Reg × Reg)
  | .sys => sysSnap | .pwr => pwrSnap | .clk => clkSnap | .time => timeSnap | .disp => dispSnap
  | .loop => loopSnap | .rcp => rcpSnap | .rio => rioSnap | .sar => sarSnap | .rfa => rfaSnap | .acq => acqSnap
  | .pwm => pwmSnap | .mot => motSnap | .can => canSnap | .twin => twinSnap | .host => hostSnap
  | .recs => recsSnap | .lens => lensSnap | .kpr => kprSnap | .evl => evlSnap | .cpu => rtSnap | _ => []

/-- The blocks with a mailbox, 02 R76. -/
def hasMailbox : Block → Bool
  | .sys | .time | .evl | .acq | .twin | .upd => true
  | _ => false

/-- The blocks with LK fields, which hold LOCK. -/
def hasLock (b : Block) : Bool := (blockRegs b).any (fun r => r.fields.any (fun f => f.acc = .lk))

end Sys2Proof.Machine
end

