-- ==== Sys2Proof/Machine/Sys.lean ====
section
/-!
DEFINITION. The SYS block and the common block tail (02): Caldera windows and owners, locks, counter snapshots,
mailboxes, and the queues of the event fabric.
-/
namespace Sys2Proof.Machine

/-- A Safe cause that the mode controller takes at the next base tick (18 R504, R506). -/
def State.raiseSafe (s : State) (cause : Nat) : State :=
  { s with mc := { s.mc with safeReq := s.mc.safeReq ++ [cause] } }

/-! ### Caldera windows -/

/-- Whether unit `u` of 64 KiB lies in the enabled descriptor `n` (02 R80). -/
def inWindow (s : State) (n u : Nat) : Bool :=
  s.fld SYS_WINB_BASE [n] ≤ u && u < s.fld SYS_WINB_BASE [n] + s.fld SYS_WINS_SIZE [n]

/-- The owner plane of a coded owner. -/
def ownerPlane : Nat → Plane
  | 1 => .data | 2 => .management | _ => .control

/-- The owner of a unit of Caldera: the fixed windows and every undeclared unit belong to the control plane
(01 R21), a declared window to its owner (R19). -/
def unitOwner (s : State) (u : Nat) : Plane :=
  match (List.range 64).find? (fun n => inWindow s n u) with
  | some n => ownerPlane (s.fld SYS_WINB_OWNER [n])
  | none => .control

/-- The owner of a Caldera address. -/
def calderaOwner (s : State) (a : Nat) : Plane := unitOwner s ((a - 0x10000000) / 0x10000)

/-- Whether a span of units overlaps a fixed window or the enabled descriptors other than `n` (02 R80). -/
def windowClash (s : State) (n base size : Nat) : Bool :=
  base + size > 1024 || base = 0 || (base < 64 && 32 < base + size) ||
  (List.range 64).any (fun k => k ≠ n && s.fld SYS_WINS_SIZE [k] ≠ 0 &&
    (base < s.fld SYS_WINB_BASE [k] + s.fld SYS_WINS_SIZE [k] && s.fld SYS_WINB_BASE [k] < base + size))

/-- The rule of SYS_WINB_n: in Provision, while the descriptor is disabled, with a defined owner (R20, R80). -/
def winbAct : Act := fun m ix w s =>
  if s.effMode ≠ .provision then .badMode s
  else if s.fld SYS_WINS_SIZE ix ≠ 0 then .badState (setLockV .sys m (SYS_WINB.addr ix) s)
  else if SYS_WINB_OWNER.of w = 3 then .badValue (setLockV .sys m (SYS_WINB.addr ix) s)
  else .ok (s.store SYS_WINB ix w)

/-- The rule of SYS_WINS_n: in Provision, without overlap (R20, R80). -/
def winsAct : Act := fun m ix w s =>
  let size := SYS_WINS_SIZE.of w
  if s.effMode ≠ .provision then .badMode s
  else if size ≠ 0 && windowClash s (ix.headD 0) (s.fld SYS_WINB_BASE ix) size then
    .badValue (setLockV .sys m (SYS_WINS.addr ix) s)
  else .ok (s.store SYS_WINS ix w)

/-- WINDOW_DESCRIPTOR_WRITE: a write of SYS_WINS_n (`size`) or SYS_WINB_n (R80). -/
def execWindowDescriptorWrite (m : Master) (n : Fin 64) (size : Bool) (w : Word) (s : State) :
    Host.Outcome State Fault Refusal :=
  run [.sys] (if size then regCmd winsAct m SYS_WINS [n.val] w else regCmd winbAct m SYS_WINB [n.val] w) s

/-- SYS_DEVNUM is writable only in Provision (02 R79). -/
def devnumAct : Act := fun _ ix w s =>
  if s.effMode ≠ .provision then .badMode s else .ok (s.store SYS_DEVNUM ix w)

/-! ### The block tail -/

/-- LOCK.SET locks every LK field of the block (R71). -/
def lockAct (b : Block) : Act := fun _ _ w s =>
  let s := { s with locked := if bit w.toNat 0 && !s.locked.contains b.index then b.index :: s.locked else s.locked }
  .ok (if bit w.toNat 0 then s.raise TAIL_LOCK_SET [b.index] else s)

/-- LOCK_SET: writing 1 to a block's LOCK.SET (R71, R72). -/
def execLockSet (m : Master) (b : Block) (s : State) : Host.Outcome State Fault Refusal :=
  run [b] (fun s =>
    if hasLock b then
      writeCmd m b (TAIL_LOCK.addr [b.index]) 1 (regWriteAt b (tailGuard b) false (lockAct b) m TAIL_LOCK [b.index] 1) s
    else (refuseAccess m b (TAIL_LOCK.addr [b.index]) .unmapped s).say (.resp (.err .unmapped))) s

/-- SNAP.GO starts a snapshot, or joins the one in progress (R73). -/
def snapAct (b : Block) : Act := fun _ _ w s =>
  if bit w.toNat 0 then
    .ok { s.lower TAIL_SNAP_DONE [b.index] with
          snaps := if s.snaps.contains b.index then s.snaps else b.index :: s.snaps }
  else .ok s

/-- SNAP_GO: writing 1 to a block's SNAP.GO (R73). -/
def execSnapGo (m : Master) (b : Block) (s : State) : Host.Outcome State Fault Refusal :=
  run [b] (fun s =>
    if (snapPairs b).isEmpty then
      (refuseAccess m b (TAIL_SNAP.addr [b.index]) .unmapped s).say (.resp (.err .unmapped))
    else writeCmd m b (TAIL_SNAP.addr [b.index]) 1 (regWriteAt b .g0 false (snapAct b) m TAIL_SNAP [b.index] 1) s) s

/-- Copy a counter, or every element of a family, into its holding register: the listed words are the elements
that differ from reset, and both reset to 0. -/
def copyFamily (s : State) (p : Reg × Reg) : State :=
  let cleared := s.regs.filter (fun e => (p.2.at? e.1).isNone)
  s.regs.foldl (fun t e => match p.1.at? e.1 with
    | some ix => t.setReg p.2 e.2 ix
    | none => t) { s with regs := cleared }

/-- The snapshot of a block: every counter into its holding register on one clock, SEQ counted, DONE set. -/
def takeSnap (b : Block) (s : State) : State :=
  let s := (snapPairs b).foldl copyFamily s
  let s := (s.incr TAIL_SNAP_SEQ [b.index]).raise TAIL_SNAP_DONE [b.index]
  { s with snaps := s.snaps.erase b.index }

/-! ### Mailboxes -/

/-- A block's mailbox. -/
def State.mailbox (s : State) (b : Block) : Mailbox := (getKey s.mbx b.index).getD {}

/-- Replace a block's mailbox. -/
def State.setMailbox (s : State) (b : Block) (x : Mailbox) : State := { s with mbx := putKey s.mbx b.index x }

/-- A mailbox request: refused while another master owns the mailbox, with ERR 3 in that master's view; otherwise
its master owns the mailbox and the capture is in progress (R74, R75). ERR 3 stays in that view until that master's next
accepted request (DESIGN CHOICE: log 200). -/
def mbxReqAct (b : Block) : Act := fun m _ w s =>
  let x := s.mailbox b
  let id := masterId m
  if x.owner.isSome && x.owner ≠ some id then
    .badState (s.setMailbox b { x with refused := if x.refused.contains id then x.refused else id :: x.refused })
  else .ok (s.setMailbox b { owner := some id, req := some (bits w.toNat 7 0, bits w.toNat 23 8), reqAt := s.now,
                             words := [], err := 0, valid := false, expire := 0,
                             refused := x.refused.filter (· ≠ id) })

/-- The guard of a mailbox item: every item of the device has guard G0 (03 R94, 07 R238, 17 R497, 21 R589) but the
image digests of 22, which have G0 as well. -/
def mbxGuard (_b : Block) (_item : Nat) : Guard := .g0

/-- MBX_REQUEST: a write of MBX_REQ (R74, R75). -/
def execMbxRequest (m : Master) (b : Block) (item : BitVec 8) (index : BitVec 16) (s : State) :
    Host.Outcome State Fault Refusal :=
  run [b] (fun s =>
    let w := BitVec.ofNat 32 (index.toNat * 256 + item.toNat)
    if hasMailbox b then
      writeCmd m b (TAIL_MBX_REQ.addr [b.index]) w
        (regWriteAt b (mbxGuard b item.toNat) true (mbxReqAct b) m TAIL_MBX_REQ [b.index] w) s
    else (refuseAccess m b (TAIL_MBX_REQ.addr [b.index]) .unmapped s).say (.resp (.err .unmapped))) s

/-- MBX_STAT as a master sees it (R75). -/
def mbxStat (s : State) (b : Block) (id : Nat) : Nat :=
  let x := s.mailbox b
  let err := if x.refused.contains id then 3 else x.err
  x.words.length * 2 ^ 16 + (x.owner.getD 0) * 2 ^ 8 + err * 16 + b2n x.req.isSome * 2 + b2n x.valid

/-- A read of data word `i`: the owner of a valid capture reads it, and the read of the highest word frees the
mailbox; every other read returns zero (R74, R75). -/
def mbxRead (b : Block) (id i : Nat) (s : State) : Nat × State :=
  let x := s.mailbox b
  if x.valid && x.owner = some id then
    let v := (nth x.words i 0).toNat
    if i + 1 = x.words.length then
      (v, s.setMailbox b { x with owner := none, valid := false, words := x.words })
    else (v, s)
  else (0, s)

/-- MBX_LAST_WORD_READ: a master reads the highest data word (R74); a block without a mailbox has no such register (R56). -/
def execMbxLastWordRead (m : Master) (b : Block) (s : State) : Host.Outcome State Fault Refusal :=
  run [b] (fun s =>
    let k := (s.mailbox b).words.length - 1
    let ix := [b.index, k]
    if !hasMailbox b then (refuseAccess m b (TAIL_MBX_DATA.addr ix) .unmapped s).say (.resp (.err .unmapped))
    else
      let v := mbxRead b (masterId m) k s
      let x := regReadAt b .g0 m TAIL_MBX_DATA ix (BitVec.ofNat 32 v.1) (if s.powered b then v.2 else s)
      x.2.say (.resp x.1)) s

/-- A captured wide value arrives, or the capture ends with an error code (R74). -/
def mbxDeliver (b : Block) (r : Nat × List Word) (s : State) : State :=
  let x := s.mailbox b
  if r.1 = 0 then
    s.setMailbox b { x with req := none, words := r.2, err := 0, valid := true, expire := s.now + 100000 * nsF }
  else s.setMailbox b { x with req := none, words := [], err := r.1, valid := false, owner := none }

/-! ### Queues of the event fabric -/

/-- Take the oldest token out of queue `q` and return its credit (01 R25, 02 R81). -/
def State.popToken (s : State) (q : Nat) : Option (Token × State) :=
  match s.fab[q]? with
  | none => none
  | some fq => match fq.tokens with
    | [] => none
    | t :: ts => some (t, (({ s with fab := modNth s.fab q (fun f => { f with tokens := ts }) }).incr
        SYS_Q_RCVD_COUNT [q]).incr SYS_Q_RET_COUNT [q])

/-- A token taken out by the Keeper enters its class E queue, where its FIRST is stamped (21 R570, R578; the TIME
record of an accepted step keeps the time it carries). -/
def enterClassE (e : Event) (s : State) : State :=
  let e := if e.kind = 0x08 && e.d0 % 256 = 1 then e else { e with first := s.now }
  { s with evq := s.evq ++ [e] }

/-! ### The Keeper's queues (21 R570, R571) -/

/-- Change the Keeper's own state. -/
def State.modKpr (s : State) (f : Kpr → Kpr) : State := { s with kpr := f s.kpr }

/-- OVLD: a queue is more than three-quarters full; each rise records an event (R571). -/
def kprSync (s : State) : State :=
  let over' := 3 < s.kpr.qS || 12 < s.kpr.qM.length || 768 < s.evq.length || 48 < s.kpr.qQ.length
  let rise := over' && !s.isSet KPR_STAT_OVLD
  let s := s.setFld KPR_STAT_OVLD (b2n over')
  if rise then s.emit 4 0x11 .kpr 0xFFFF 16 1 else s

end Sys2Proof.Machine
end

