-- ==== Sys2Proof/Machine/Time.lean ====
section
/-!
DEFINITION. The time base (03): edges of CK_TB, increments, steps of device time, and the passing of time up to a
known instant. Beacons' active sets and the effect of a step on them.
-/
namespace Sys2Proof.Machine

/-- 48 bits of seconds, in units of 2⁻²⁸ ns. -/
def dtWrap : Nat := 2 ^ 48 * 1000000000 * 2 ^ 28

/-- The remaining count of the alternate increment (TIME_ALTCNT reads the edges that remain). -/
def State.altCnt (s : State) : Nat := s.fld TIME_ALTCNT_COUNT

/-- The increment that the next edge adds (R87, R89). -/
def State.inForce (s : State) : Nat := if s.altCnt ≠ 0 then s.tb.alt else s.tb.held.getD s.tb.incr

/-- TIME_ALTCNT and ALTBUSY follow the remaining count. -/
def State.setAlt (s : State) (n : Nat) : State := (s.setFld TIME_ALTCNT_COUNT n).setFld TIME_STAT_ALTBUSY (b2n (n ≠ 0))

/-! ### Beacons: active set and steps -/

/-- The instant of a Beacon's next leading edge. -/
def Beacon.nextAt (b : Beacon) : Nat := b.t0 + b.k * b.per

/-- The smallest k whose instant is at least `t` (R104, R105). -/
def firstK (t0 per t : Nat) : Nat := if t ≤ t0 then 0 else ceilDiv (t - t0) per

/-- R105: a Beacon after a step from `old` to `new`. -/
def stepBeacon (old new : Nat) (s : State) (n : Nat) : State :=
  let b := nth s.beacons n {}
  let b := { b with pulse := b.pulse.map (fun e => e + new - old),
                    next := b.next.map (fun v => (v.1, v.2.1, v.2.2.1, v.2.2.2 + new - old)) }
  if !s.isSet TIME_BCN_STAT_ARMED [n] then { s with beacons := modNth s.beacons n (fun _ => b) }
  else if b.per = 0 then
    let s := { s with beacons := modNth s.beacons n (fun _ => b) }
    if old < b.t0 && b.t0 < new then (s.raise TIME_BCN_STAT_MISSED [n]).lower TIME_BCN_STAT_ARMED [n] else s
  else { s with beacons := modNth s.beacons n (fun _ => { b with k := firstK b.t0 b.per (new + 200 * nsF) }) }

/-! ### Edges of CK_TB -/

/-- A write whose edge has come (R89). -/
def applyTb (s : State) (op : TbOp) : State :=
  match op with
  | .incr v => if s.altCnt ≠ 0 then { s with tb := { s.tb with held := some v } }
               else { s with tb := { s.tb with incr := v, held := none } }
  | .alt v => { s with tb := { s.tb with alt := v } }
  | .cnt v => s.setAlt v
  | .stop => s.setAlt 0
  | .step _ => s

/-- The step whose edge has come: the last one written. -/
def dueStep (ops : List TbOp) : Option Nat :=
  ops.foldl (fun a o => match o with
    | .step d => some d
    | _ => a) none

/-- The step edge (R90, R91): device time is loaded, waiting items are re-admitted, Beacons follow R105, the event
holds the time before, and its FIRST the new time. -/
def stepEdge (d : Nat) (s : State) : State :=
  let old := s.now
  let new := d / 4096
  let wait := fun (i : Item) => { i with held := true }
  let s := { s with tb := { s.tb with dt := d }, adm := { s.adm with queue := s.adm.queue.map wait, lastTick := none },
                    twin := { s.twin with staged := s.twin.staged.map wait },
                    isl := { s.isl with step := true }, rcp := { s.rcp with known := true } }
  let s := s.raise TIME_STAT_STEPPED
  let s := (List.range 16).foldl (stepBeacon old new) s
  let shift := fun (x : TrigIn) => { x with filt := x.filt.map (fun f => (f.1, f.2.1 + new - old, f.2.2)) }
  let s := { s with trigs := s.trigs.map shift }
  s.sendEvent Block.time.index { s.mkEvent 3 0x08 3 0xFFFF 0xFF 1 (time96 old) with first := new }

/-- One CK_TB edge: writes that are due take effect, then a due step loads device time, or the increment in force is
added (R87, R89, R90). Writes that still wait keep their distance from the edge over a step. -/
def tbEdge (s : State) : State :=
  if !s.tb.started then s else
  let lim := s.tb.dt + s.inForce
  let due := (s.tb.pend.filter (fun p => p.1 ≤ lim)).map (·.2)
  let s := { s with tb := { s.tb with pend := s.tb.pend.filter (fun p => ¬ p.1 ≤ lim) } }
  let s := due.foldl applyTb s
  match dueStep due with
  | some d => stepEdge d { s with tb := { s.tb with pend := s.tb.pend.map (fun p => (p.1 - lim + d, p.2)) } }
  | none =>
    if s.altCnt ≠ 0 then
      { s.setAlt (s.altCnt - 1) with tb := { s.tb with dt := (s.tb.dt + s.tb.alt) % dtWrap } }
    else
      let i := s.tb.held.getD s.tb.incr
      { s with tb := { s.tb with incr := i, held := none, dt := (s.tb.dt + i) % dtWrap } }

/-- The number of edges until device time reaches `t` (in units of 2⁻²⁸ ns) when no write is due before. -/
def edgesTo (s : State) (t : Nat) : Nat :=
  if t ≤ s.tb.dt then 0
  else
    let c := s.altCnt
    let i := s.tb.held.getD s.tb.incr
    let a := ceilDiv (t - s.tb.dt) s.tb.alt
    if c = 0 then ceilDiv (t - s.tb.dt) i
    else if a ≤ c then a
    else c + ceilDiv (t - s.tb.dt - c * s.tb.alt) i

/-- `n` edges on which no write is due. -/
def runEdges (n : Nat) (s : State) : State :=
  if n = 0 then s
  else
    let c := s.altCnt
    let i := s.tb.held.getD s.tb.incr
    if n ≤ c then { s.setAlt (c - n) with tb := { s.tb with dt := (s.tb.dt + n * s.tb.alt) % dtWrap } }
    else { (if c = 0 then s else s.setAlt 0) with
           tb := { s.tb with incr := i, held := none, dt := (s.tb.dt + c * s.tb.alt + (n - c) * i) % dtWrap } }

/-- Time passes until device time reaches `t`; `fuel` bounds the writes that come due on the way. -/
def advanceLoop : Nat → Nat → State → State
  | 0, t, s => runEdges (edgesTo s t) s
  | fuel + 1, t, s =>
    let n := edgesTo s t
    match s.tb.pend.map (·.1) with
    | [] => runEdges n s
    | p :: _ =>
      let m := max 1 (edgesTo s p)
      if n = 0 then s
      else if m ≤ n then advanceLoop fuel t (tbEdge (runEdges (m - 1) s))
      else runEdges n s

/-- Time passes until device time reaches the instant `t` (in units of 2⁻¹⁶ ns); an instant already reached, or time
that is not counting, changes nothing. -/
def advanceTo (t : Nat) (s : State) : State :=
  if s.tb.started && s.now < t then advanceLoop s.tb.pend.length (t * 4096) s else s

/-! ### Commands -/

/-- R93: while KOWN is 1 only the Keeper steers time. -/
def kownBars (m : Master) (s : State) : Bool := s.isSet TIME_CTL_KOWN && masterId m ≠ 16

/-- A write that takes effect 40 ns later. -/
def pendTb (op : TbOp) (s : State) : State :=
  { s with tb := { s.tb with pend := s.tb.pend ++ [(s.tb.dt + 40 * nsU, op)] } }

/-- R88: the range of an increment. -/
def incrOk (v : Nat) : Bool := 0x3FF00000 ≤ v && v ≤ 0x40100000

/-- R88: an increment out of range is refused, sets INCRREJ and records a TIME event with the value and register. -/
def refuseIncr (m : Master) (reg : Nat) (w : Word) (s : State) : ActRes :=
  .no .value true ((s.raise TIME_STAT_INCRREJ).emit 4 0x08 .time 0xFFFF (masterId m) (3 + 3 * 256)
    (w.toNat + reg * 2 ^ 32))

/-- The rule of TIME_INCR (R88, R89, R93). -/
def incrAct : Act := fun m ix w s =>
  if kownBars m s then .no .guard false s
  else if !incrOk w.toNat then refuseIncr m 0 w s
  else
    let s := s.store TIME_INCR ix w
    .ok (if s.tb.started then pendTb (.incr w.toNat) s else { s with tb := { s.tb with incr := w.toNat } })

/-- The rule of TIME_INCR_ALT. -/
def incrAltAct : Act := fun m ix w s =>
  if kownBars m s then .no .guard false s
  else if !incrOk w.toNat then refuseIncr m 1 w s
  else
    let s := s.store TIME_INCR_ALT ix w
    .ok (if s.tb.started then pendTb (.alt w.toNat) s else { s with tb := { s.tb with alt := w.toNat } })

/-- The rule of TIME_ALTCNT: a count starts or replaces the alternate increment, 0 ends it while it runs (R89). -/
def altcntAct : Act := fun m ix w s =>
  let v := TIME_ALTCNT_COUNT.of w
  if kownBars m s then .no .guard false s
  else if !s.tb.started then .ok (s.store TIME_ALTCNT ix w)
  else if v ≠ 0 then .ok (pendTb (.cnt v) s)
  else if s.altCnt ≠ 0 then .ok (pendTb .stop s)
  else .ok s

/-- The value in TIME_SET_0 to TIME_SET_2. -/
def timeSet (s : State) : Nat :=
  (s.reg TIME_SET [0]).toNat + (s.reg TIME_SET [1]).toNat * 2 ^ 32 + (s.reg TIME_SET [2]).toNat * 2 ^ 64

/-- R90: the modes that accept a step. -/
def stepMode : Mode → Bool
  | .keeper | .provision | .stop | .safe => true
  | _ => false

/-- R90: a refused step sets STEPREJ and records a TIME event with the value in TIME_SET. -/
def refuseStep (m : Master) (why : Nat) (r : BusReason) (s : State) : ActRes :=
  .no r true ((s.raise TIME_STAT_STEPREJ).emit 4 0x08 .time 0xFFFF (masterId m) (2 + why * 256) (timeSet s))

/-- The rule of TIME_CTL: KOWN for the Keeper alone, ALTSTOP (R89), STEP (R90, R93). -/
def timeCtlAct : Act := fun m _ w s =>
  let step := TIME_CTL_STEP.on w
  let stop := TIME_CTL_ALTSTOP.on w
  let s1 := if masterId m = 16 then s.setFld TIME_CTL_KOWN (TIME_CTL_KOWN.of w) else s
  if (step || stop) && kownBars m s then .no .guard false s
  else if step && !stepMode s.mode then refuseStep m 1 .mode s
  else if step && 1000000000 ≤ bits (timeSet s) 45 16 then refuseStep m 2 .value s
  else
    let s2 := if stop && s.altCnt ≠ 0 && s.tb.started then pendTb .stop s1 else s1
    .ok (if step then pendTb (.step (ofTime96 (timeSet s) * 4096 % dtWrap)) s2 else s2)

/-- TIME_SET_k: R93 alone judges the write. -/
def timeSetAct : Act := fun m ix w s =>
  if kownBars m s then .no .guard false s else .ok (s.store TIME_SET ix w)

/-- TIME_INCR_WRITE (R89). -/
def execTimeIncrWrite (m : Master) (w : Word) (s : State) : Host.Outcome State Fault Refusal :=
  run [.time] (regCmd incrAct m TIME_INCR [] w) s

/-- TIME_INCR_ALT_WRITE (R89). -/
def execTimeIncrAltWrite (m : Master) (w : Word) (s : State) : Host.Outcome State Fault Refusal :=
  run [.time] (regCmd incrAltAct m TIME_INCR_ALT [] w) s

/-- TIME_ALTCNT_WRITE (R89). -/
def execTimeAltcntWrite (m : Master) (w : Word) (s : State) : Host.Outcome State Fault Refusal :=
  run [.time] (regCmd altcntAct m TIME_ALTCNT [] w) s

/-- The word of TIME_CTL with KOWN as it stands and one command bit. -/
def timeCtlWord (s : State) (bits : Nat) : Word := BitVec.ofNat 32 (s.fld TIME_CTL_KOWN * 4 + bits)

/-- ALTSTOP: writing TIME_CTL.ALTSTOP (R89). -/
def execAltstop (m : Master) (s : State) : Host.Outcome State Fault Refusal :=
  run [.time] (fun s => regCmd timeCtlAct m TIME_CTL [] (timeCtlWord s 2) s) s

/-- STEP: writing TIME_CTL.STEP (R90). -/
def execStep (m : Master) (s : State) : Host.Outcome State Fault Refusal :=
  run [.time] (fun s => regCmd timeCtlAct m TIME_CTL [] (timeCtlWord s 1) s) s

/-- Whether a waiting write is a step. -/
def TbOp.isStep : TbOp → Bool
  | .step _ => true
  | _ => false

/-- The number of waiting writes that satisfy `p`. -/
def waiting (p : TbOp → Bool) (s : State) : Nat := (s.tb.pend.filter (fun e => p e.2)).length

/-- Time passes over the edges of waiting writes up to and over the first at which one that satisfies `p` takes effect. -/
def overEdges (p : TbOp → Bool) : Nat → State → State
  | 0, s => s
  | fuel + 1, s =>
    match s.tb.pend.map (·.1) with
    | [] => s
    | q :: _ =>
      let u := tbEdge (runEdges (max 1 (edgesTo s q) - 1) s)
      if waiting p u < waiting p s then u else overEdges p fuel u

/-- Time passes up to and over the edge of the first waiting write that satisfies `p`. -/
def toPending (p : TbOp → Bool) (s : State) : State :=
  if s.tb.started && waiting p s ≠ 0 then overEdges p s.tb.pend.length s else s

/-- INCREMENT_TAKES_EFFECT (R89): the first waiting increment, count or stop reaches its edge. -/
def execIncrementTakesEffect (s : State) : Host.Outcome State Fault Refusal :=
  run [.time] (toPending (fun o => !o.isStep)) s

/-- ALTERNATE_INCREMENT_END (R89): time passes to the last alternate edge. -/
def execAlternateIncrementEnd (s : State) : Host.Outcome State Fault Refusal :=
  run [.time] (fun s => if s.tb.started && s.altCnt ≠ 0 then
      advanceLoop s.tb.pend.length (s.tb.dt + s.altCnt * s.tb.alt) s else s) s

/-- TIME_STEP_EDGE (R91): an accepted step reaches its edge. -/
def execTimeStepEdge (s : State) : Host.Outcome State Fault Refusal :=
  run [.time] (toPending TbOp.isStep) s

/-- Steps that are due at or before the instant that `target` gives reach their edges first (R91). -/
def stepsFirst (target : State → Nat) : Nat → State → State
  | 0, s => s
  | fuel + 1, s =>
    match s.tb.pend.find? (fun e => e.2.isStep) with
    | some e => if e.1 ≤ target s * 4096 then stepsFirst target fuel (toPending TbOp.isStep s) else s
    | none => s

/-- 01 R29, 03 R92: device time starts counting when the time-base PLL locks; the register values are in force. -/
def startTime (s : State) : State :=
  { s with tb := { s.tb with started := true, incr := (s.reg TIME_INCR).toNat, alt := (s.reg TIME_INCR_ALT).toNat,
                             held := none, pend := [] } }

/-! ### Items -/

/-- The number of items of a source that wait in its admission queue. -/
def State.waiting (s : State) (src : Nat) : Nat := (s.adm.queue.filter (fun i => i.src = src)).length

end Sys2Proof.Machine
end

