-- ==== Sys2Proof/Machine/RcpBase.lean ====
section
/-!
DEFINITION. The recipe engine (04): step records and the checks of a load, commands to a thread, action reports,
conditions and endpoint detectors.
-/
namespace Sys2Proof.Machine

/-! ### Registers of a thread -/

/-- The thread states of R117. -/
def thrIdle : Nat := 0
/-- R117. -/
def thrRunning : Nat := 1
/-- R117. -/
def thrPending : Nat := 2
/-- R117. -/
def thrEnded : Nat := 3
/-- R117. -/
def thrFaulted : Nat := 4

/-- The state of thread n. -/
def State.thrState (s : State) (n : Nat) : Nat := s.fld RCP_THR_STATE_STATE [n]

/-- The engine's part of thread n. -/
def State.thread (s : State) (n : Nat) : Thread := nth s.rcp.threads n {}

/-- Change the engine's part of thread n. -/
def State.modThread (s : State) (n : Nat) (f : Thread → Thread) : State :=
  { s with rcp := { s.rcp with threads := modNth s.rcp.threads n f } }

/-- Loop counter k of thread n. -/
def State.lctr (s : State) (n k : Nat) : Nat :=
  if k % 2 = 0 then s.fld RCP_THR_LCTR_CTRL [n, k / 2] else s.fld RCP_THR_LCTR_CTRH [n, k / 2]

/-- Set loop counter k of thread n. -/
def State.setLctr (s : State) (n k v : Nat) : State :=
  if k % 2 = 0 then s.setFld RCP_THR_LCTR_CTRL v [n, k / 2] else s.setFld RCP_THR_LCTR_CTRH v [n, k / 2]

/-- The eight loop counters set to 0. -/
def State.clearLctr (s : State) (n : Nat) : State := (List.range 8).foldl (fun s k => s.setLctr n k 0) s

/-! ### Records (R119 to R125) -/

/-- The Caldera address of pool entry e (R113). -/
def poolAddr (s : State) (e : Nat) : Nat := 0x10000000 + s.fld RCP_POOL_BASE * 0x10000 + 64 * e

/-- Record j of the step whose header is at `a`. -/
def recAt (s : State) (a j : Nat) : Nat := s.peek (a + 16 * j) 16

/-- RTYPE. -/
def rType (r : Nat) : Nat := bits r 3 0
/-- Header fields, R120. -/
def hNcond (r : Nat) : Nat := bits r 15 8
/-- R120. -/
def hNact (r : Nat) : Nat := bits r 23 16
/-- R120. -/
def hNbr (r : Nat) : Nat := bits r 27 24
/-- R120. -/
def hPolicy (r : Nat) : Nat := bits r 29 28
/-- R120. -/
def hTomode (r : Nat) : Nat := bits r 31 30
/-- R120. -/
def hAbort (r : Nat) : Nat := bits r 44 32
/-- R120. -/
def hAend (r : Nat) : Bool := bit r 47
/-- R120. -/
def hTotgt (r : Nat) : Nat := bits r 60 48
/-- R120. -/
def hTmax (r : Nat) : Nat := bits r 95 64
/-- R120. -/
def hGapmax (r : Nat) : Nat := bits r 111 96

/-- The number of records of a step, and of entries it occupies (R119). -/
def hRecords (r : Nat) : Nat := 1 + hNcond r + hNact r + hNbr r
/-- R119. -/
def hEntries (r : Nat) : Nat := ceilDiv (hRecords r) 4

/-- Condition fields, R121. -/
def cKind (r : Nat) : Nat := bits r 7 4
/-- R121. -/
def cCmp (r : Nat) : Nat := bits r 10 8
/-- R121. -/
def cFmt (r : Nat) : Nat := bits r 13 12
/-- R121. -/
def cQgood (r : Nat) : Bool := bit r 14
/-- R121. -/
def cInv (r : Nat) : Bool := bit r 15
/-- R121, R123. -/
def rParam (r : Nat) : Nat := bits r 31 16
/-- R121, R123: the three words of a condition (A, B, C) or an action (P0, P1, P2). -/
def rW0 (r : Nat) : Nat := bits r 63 32
/-- R121, R123. -/
def rW1 (r : Nat) : Nat := bits r 95 64
/-- R121, R123. -/
def rW2 (r : Nat) : Nat := bits r 127 96

/-- Action fields, R123. -/
def aClass (r : Nat) : Nat := bits r 7 4
/-- R123. -/
def aSub (r : Nat) : Nat := bits r 11 8
/-- R123. -/
def aFailAbort (r : Nat) : Bool := bit r 12

/-! ### Conflict keys (R124) -/

/-- The bits of a station's output image that a REMOTE action masks, as a number over the image. -/
def remoteBits (r : Nat) : Nat := (rW2 r % 2 ^ (8 * (bits (rW0 r) 11 10 + 1))) * 2 ^ (8 * bits (rW0 r) 9 0)

/-- The conflict keys of an action: a key, and a mask over its elements; two actions conflict when they have the
same key and their masks meet. A MOVE has none. -/
def actKey (r : Nat) : Option ((Nat × Nat) × Nat) :=
  match aClass r with
  | 1 => some ((if aSub r ≤ 1 then 1 else 0x11, rParam r), 1)
  | 2 => some ((2, rParam r), remoteBits r)
  | 3 => some ((3, rParam r), rW2 r)
  | 4 => some ((4, rParam r), 1)
  | 6 => some ((6, rParam r), 1)
  | 7 => some ((7, rParam r), 1)
  | 8 => some ((8, rParam r), 1)
  | 9 => some ((9, bits (rW0 r) 17 0), 1)
  | 10 => some ((10, rParam r), 1)
  | _ => none

/-- Whether two actions share a conflict key. -/
def actsConflict (a b : Nat) : Bool :=
  match actKey a, actKey b with
  | some (k, m), some (k', m') => k = k' && (m &&& m') ≠ 0
  | _, _ => false

/-! ### The checks of a load (R127) -/

/-- Code `c` when a check fails. -/
def failIf (b : Bool) (c : Nat) : List Nat := if b then [c] else []

/-- The codes of a header. -/
def headerErrs (r : Nat) : List Nat :=
  failIf (bits r 7 4 ≠ 0 || bits r 46 45 ≠ 0 || bits r 63 61 ≠ 0 || bits r 127 112 ≠ 0
    || (hAend r && hAbort r ≠ 0) || (hTomode r ≠ 1 && hTotgt r ≠ 0) || (hTomode r = 0 && hTmax r ≠ 0)) 6
  ++ failIf (hPolicy r = 3 || hTomode r = 3) 7
  ++ failIf (hTomode r ≠ 0 && hTmax r = 0) 8

/-- Whether bits of a value lie outside a mask: an unused field that is not 0. -/
def outside (v mask : Nat) : Bool := v &&& (0xFFFFFFFF - mask) ≠ 0

/-- The codes of a condition: unused fields (QGOOD and FMT among them, where the kind's row does not name them), then what R122 forbids, then ranges. -/
def condErrs (r : Nat) : List Nat :=
  let k := cKind r
  let a := rW0 r
  let b := rW1 r
  let c := rW2 r
  let p := rParam r
  let sid := 0x3FFFF
  let unused := match k with
    | 0 => outside a sid || c ≠ 0 || p ≠ 0
    | 1 => outside a sid || outside b sid || c ≠ 0 || p ≠ 0
    | 2 => a ≠ 0 || c ≠ 0 || p ≠ 0
    | 3 => outside a 0x3F || outside b 0xFFFF || c ≠ 0 || p ≠ 0
    | 4 => outside a sid || c ≠ 0
    | 5 => outside a sid || c ≠ 0
    | 6 => outside a sid || outside p 1
    | 7 => outside a sid || outside b 3 || c ≠ 0 || p ≠ 0
    | 8 => a ≠ 0 || c ≠ 0 || p ≠ 0
    | _ => false
  let bad := k ≥ 9 || cCmp r ≥ 6 || cFmt r = 3 || (k = 2 && cFmt r ≠ 1) || ((k = 4 || k = 6) && cFmt r ≠ 0)
    || (k = 5 && cCmp r < 2) || (k = 7 && (cCmp r > 1 || cQgood r)) || (k = 8 && cCmp r ≠ 0)
  let range := match k with
    | 4 => bits p 15 8 = 0 || bits p 7 0 = 0 || bits p 7 0 > 64
    | 5 => p = 0
    | 8 => b > 2
    | _ => false
  let idle := ((k = 2 || k = 3 || k = 8) && cQgood r) || ((k = 3 || k = 7 || k = 8) && cFmt r ≠ 0)
  failIf (bit r 11 || unused || idle) 6 ++ failIf bad 7 ++ failIf range 8

/-- Whether a Beacon's delay, period and width are in range (R104, R124), in ns. -/
def beaconActOk (delay per wid : Nat) : Bool :=
  200 ≤ delay && (per = 0 || 100 ≤ per) && 8 ≤ wid && (per = 0 || wid + 8 ≤ per)

/-- The codes of an action of thread `own`. -/
def actErrs (own r : Nat) : List Nat :=
  let t := rParam r
  let a := rW0 r
  let b := rW1 r
  let c := rW2 r
  let su := aSub r
  let wb := 2 ^ (8 * (bits a 11 10 + 1)) - 1
  let unused := match aClass r with
    | 1 => (!(su = 0 || su = 1 || su = 4) && a ≠ 0) || (su ≠ 1 && b ≠ 0) || c ≠ 0
    | 2 => outside a 0xFFF || outside b wb || outside c wb
    | 3 => a ≠ 0
    | 4 => c ≠ 0
    | 5 => (su = 3 && a ≠ 0) || outside b 0xF || c ≠ 0
    | 6 => outside a 0xFFFF || b ≠ 0 || c ≠ 0
    | 7 => a ≠ 0 || b ≠ 0 || c ≠ 0
    | 8 => outside c 0xFFFF
    | 9 => t ≠ 0 || outside a 0x3FFFF || outside c 0xFFFF
    | 10 => (if su = 0 then outside a 0x1FFF else a ≠ 0) || b ≠ 0 || c ≠ 0
    | _ => false
  let bad := match aClass r with
    | 1 => su > 5
    | 5 => su > 3
    | 10 => su > 1
    | 2 | 3 | 4 | 6 | 7 | 8 | 9 => su ≠ 0
    | _ => true
  let range := match aClass r with
    | 1 => t > 1023 || (su = 1 && b = 0)
    | 2 => t > 255 || bits a 9 0 + bits a 11 10 + 1 > 1024
    | 3 => t > 3
    | 4 => t > 63
    | 5 => t > 63
    | 6 => t > 15
    | 7 => t > 63
    | 8 => t > 15 || !beaconActOk a b (bits c 15 0)
    | 10 => t > 63 || t = own
    | _ => false
  failIf (bits r 15 13 ≠ 0 || (!bad && unused)) 6 ++ failIf bad 7 ++ failIf (!bad && range) 8

/-- The codes of a branch of a step with `nc` conditions (R125). -/
def branchErrs (nc r : Nat) : List Nat :=
  failIf (bit r 7 || bits r 15 8 ≠ 0 || bits r 47 45 ≠ 0 || bits r 127 64 ≠ 0
    || ((bit r 5 || bit r 6) && bits r 44 32 ≠ 0) || (!bit r 63 && bits r 62 48 ≠ 0)) 6
  ++ failIf ((bit r 5 && bit r 6) || (bit r 4 && bits r 31 16 = 0) || bits r 31 16 ≥ 2 ^ nc) 7

/-- The thread whose range holds pool entry e, with the end of its range; 64 and the pool's end when none does. -/
def entryOwner (s : State) (e : Nat) : Nat × Nat :=
  match (List.range 64).find? (fun n =>
      s.fld RCP_THR_CFG_FIRST [n] ≤ e && e < s.fld RCP_THR_CFG_FIRST [n] + s.fld RCP_THR_CFG_SIZE [n]) with
  | some n => (n, s.fld RCP_THR_CFG_FIRST [n] + s.fld RCP_THR_CFG_SIZE [n])
  | none => (64, 65536)

/-- The failing checks of one step of a load: pairs of code and load entry. `a` is the address of its header, `e` its
load entry, `left` the entries left in the load, `dst` the pool entry of the load's first. -/
def stepErrs (s : State) (a e left dst : Nat) : List (Nat × Nat) :=
  let h := recAt s a 0
  let own := entryOwner s (dst + e)
  let nc := hNcond h
  let na := hNact h
  let nr := hRecords h
  let n := hEntries h
  let js := (List.range (4 * min n left)).drop 1
  let one := fun j =>
    let r := recAt s a j
    let ent := e + j / 4
    let want := if j ≤ nc then 2 else if j ≤ nc + na then 3 else if j < nr then 4 else 0
    let errs :=
      if rType r ≠ want then [4]
      else if want = 0 then failIf (r ≠ 0) 4
      else if want = 2 then condErrs r
      else if want = 3 then actErrs own.1 r ++
        failIf ((List.range (j - 1 - nc)).any (fun i => actsConflict (recAt s a (nc + 1 + i)) r)) 9
      else branchErrs nc r
    errs.map (fun c => (c, ent))
  let dets := ((List.range nc).filter (fun j => let k := cKind (recAt s a (j + 1)); 4 ≤ k && k ≤ 6)).length
  (headerErrs h).map (fun c => (c, e)) ++ js.flatMap one
    ++ (failIf (n > left || dst + e + n > own.2) 10).map (fun c => (c, e))
    ++ (failIf (dets > 4) 11).map (fun c => (c, e))

/-- The failing checks of the steps of a load from load entry e, with `fuel` entries left to look at. -/
def loadWalk (s : State) (src count dst : Nat) : Nat → Nat → List (Nat × Nat)
  | 0, _ => []
  | fuel + 1, e =>
    if count ≤ e then []
    else
      let a := src + 64 * e
      let h := recAt s a 0
      if rType h ≠ 1 then [(4, e)]
      else if hNcond h > 16 || hNact h > 64 || hNbr h > 8 then [(5, e)]
      else stepErrs s a e (count - e) dst ++ loadWalk s src count dst fuel (e + hEntries h)

/-- Entries of a load that belong to a thread that is RUNNING or PENDING. -/
def loadBusy (s : State) (dst count : Nat) : List (Nat × Nat) :=
  ((List.range 64).filter (fun n => s.thrState n = thrRunning || s.thrState n = thrPending)).filterMap (fun n =>
    let f := s.fld RCP_THR_CFG_FIRST [n]
    let lo := max f dst
    if lo < min (f + s.fld RCP_THR_CFG_SIZE [n]) (dst + count) then some (3, lo - dst) else none)

/-- The first failing code in table order and the entry at which it first fails (R127); (0, 0) when none does. -/
def firstErr (l : List (Nat × Nat)) : Nat × Nat :=
  l.foldl (fun b e => if b.1 = 0 || e.1 < b.1 || (e.1 = b.1 && e.2 < b.2) then e else b) (0, 0)

/-- ERR and the load entry of BADENT for the load that the registers describe (R127). -/
def loadCheck (s : State) : Nat × Nat :=
  let src := (s.reg RCP_LOAD_SRC).toNat
  let dst := s.fld RCP_LOAD_DST_FIRST
  let count := s.fld RCP_LOAD_CNT_COUNT
  if src % 64 ≠ 0 || src < 0x10000000 || 0x14000000 < src + 64 * count then (1, 0)
  else if count = 0 || 65536 < dst + count then (2, 0)
  else firstErr (loadBusy s dst count ++ loadWalk s src count dst count 0)

/-- The rule of RCP_LOAD_SRC and RCP_LOAD_DST: not while a load is in progress (R126). -/
def loadRegAct (r : Reg) : Act := fun _ ix w s =>
  if s.isSet RCP_LOAD_STAT_BUSY then .badState s else .ok (s.store r ix w)

/-- The rule of RCP_LOAD_CNT: GO checks the load and starts it (R126, R127). -/
def loadCntAct : Act := fun _ ix w s =>
  if s.isSet RCP_LOAD_STAT_BUSY then .badState s
  else
    let s := s.store RCP_LOAD_CNT ix w
    if !RCP_LOAD_CNT_GO.on w then .ok s
    else
      let e := loadCheck s
      let s := ((s.setReg RCP_LOAD_STAT 0).setFld RCP_LOAD_STAT_ERR e.1)
      if e.1 = 0 then .ok { s.raise RCP_LOAD_STAT_BUSY with rcp := { s.rcp with load := true } }
      else .ok ((s.setFld RCP_LOAD_STAT_BADENT (s.fld RCP_LOAD_DST_FIRST + e.2)).raise RCP_LOAD_STAT_DONE)

/-- RCP_LOAD_GO: writing RCP_LOAD_CNT with GO (R126). -/
def execRcpLoadGo (m : Master) (count : BitVec 17) (s : State) : Host.Outcome State Fault Refusal :=
  run [.rcp] (regCmd loadCntAct m RCP_LOAD_CNT [] (BitVec.ofNat 32 (2 ^ 31 + count.toNat))) s

/-- A pool entry's bit after a write that is no load (R116). -/
def rcpWritten (s : State) (a : Nat) : State :=
  let base := poolAddr s 0
  if base ≤ a && a < base + 65536 * 64 then
    { s with rcp := { s.rcp with valid := s.rcp.valid.filter (· ≠ (a - base) / 64) } }
  else s

/-- The bytes of a thread's range. -/
def rangeBytes (s : State) (n : Nat) : List Byte :=
  s.bytes (poolAddr s (s.fld RCP_THR_CFG_FIRST [n])) (64 * s.fld RCP_THR_CFG_SIZE [n])

/-- RCP_LOAD_DONE: the entries are copied and validated, DONE is set, and each thread whose range the load wrote
keeps the CRC of its range (R116, R126, R148). -/
def loadDone (s : State) : State :=
  if !s.rcp.load then s
  else
    let src := (s.reg RCP_LOAD_SRC).toNat
    let dst := s.fld RCP_LOAD_DST_FIRST
    let count := s.fld RCP_LOAD_CNT_COUNT
    let s := s.setBytes (poolAddr s dst) (s.bytes src (64 * count))
    let new := (List.range count).map (· + dst)
    let s := { s with rcp := { s.rcp with load := false,
                                          valid := new ++ s.rcp.valid.filter (fun e => e < dst || dst + count ≤ e) } }
    let s := (List.range 64).foldl (fun s n =>
      let f := s.fld RCP_THR_CFG_FIRST [n]
      let sz := s.fld RCP_THR_CFG_SIZE [n]
      if f < dst + count && dst < f + sz then s.modThread n (fun t => { t with rcrc := crc32 (rangeBytes s n) })
      else s) s
    (s.lower RCP_LOAD_STAT_BUSY).raise RCP_LOAD_STAT_DONE

/-- RCP_LOAD_DONE (R126). -/
def execRcpLoadDone (s : State) : Host.Outcome State Fault Refusal := run [.rcp] loadDone s

/-! ### Configuration -/

/-- R114: thread settings are writable only in Provision, without overlap or overrun. -/
def thrCfgAct : Act := fun m ix w s =>
  let f := RCP_THR_CFG_FIRST.of w
  let z := RCP_THR_CFG_SIZE.of w
  if s.effMode ≠ .provision then .badMode s
  else if z > 8192 || f + z > 65536 || (z ≠ 0 && (List.range 64).any (fun k => k ≠ ix.headD 0 &&
      s.fld RCP_THR_CFG_SIZE [k] ≠ 0 && f < s.fld RCP_THR_CFG_FIRST [k] + s.fld RCP_THR_CFG_SIZE [k] &&
      s.fld RCP_THR_CFG_FIRST [k] < f + z)) then .badValue (setLockV .rcp m (RCP_THR_CFG.addr ix) s)
  else .ok (s.store RCP_THR_CFG ix w)

/-- The rule of RCP_THR_n_OPT. -/
def thrOptAct : Act := fun _ ix w s =>
  let l := RCP_THR_OPT_LEAD.of w
  if s.effMode ≠ .provision then .badMode s
  else if l % 2 = 1 || l < 2 || 2000 < l then .badValue s else .ok (s.store RCP_THR_OPT ix w)

/-- The rule of RCP_POOL (largest base 960) and RCP_RING (1,008). -/
def rcpBaseAct (r : Reg) (lim : Nat) : Act := fun _ ix w s =>
  if s.effMode ≠ .provision then .badMode s
  else if lim < bits w.toNat 9 0 then .badValue s else .ok (s.store r ix w)

/-- R115: the placement checked when the device leaves Provision. -/
def rcpPlacementOk (s : State) : Bool :=
  let p := s.fld RCP_POOL_BASE
  let r := s.fld RCP_RING_BASE
  let free := fun u => u ≠ 0 && !(32 ≤ u && u < 64) && unitOwner s u = .control
  ((List.range 64).all (fun k => free (p + k))) && ((List.range 16).all (fun k => free (r + k)))
    && (r + 16 ≤ p || p + 64 ≤ r)

/-- R115, R517: CFGERR follows the check. -/
def rcpCheckPlacement (s : State) : State := s.setFld RCP_STAT_CFGERR (b2n (!rcpPlacementOk s))

/-! ### Commands to a thread (R118) -/

/-- Whether a load in progress writes into thread n's range. -/
def loadInto (s : State) (n : Nat) : Bool :=
  s.rcp.load && s.fld RCP_THR_CFG_FIRST [n] < s.fld RCP_LOAD_DST_FIRST + s.fld RCP_LOAD_CNT_COUNT &&
    s.fld RCP_LOAD_DST_FIRST < s.fld RCP_THR_CFG_FIRST [n] + s.fld RCP_THR_CFG_SIZE [n]

/-- Whether the state of a thread, CFGERR and the load allow a START (R118). -/
def startable (s : State) (n : Nat) : Bool :=
  (s.thrState n = thrIdle || s.thrState n = thrEnded) && !s.isSet RCP_STAT_CFGERR && !loadInto s n

/-- A command that thread n accepted waits behind those accepted before it (R118). -/
def State.queueCmd (s : State) (n : Nat) (c : Nat × Nat) : State := s.modThread n (fun t => { t with cmds := t.cmds ++ [c] })

/-- The rule of RCP_THR_n_CMD (R118): the command waits for the first even base tick. In Follow a START acts only
through the leader's batch, which carries host writes. -/
def thrCmdAct : Act := fun m ix w s =>
  let n := ix.headD 0
  let dead := match s.effMode with
    | .dark | .seed | .keeper | .provision => true
    | _ => false
  match RCP_THR_CMD_CMD.of w with
  | 1 =>
    let ok := match s.effMode with
      | .run | .trial => s.mode ≠ .follow || masterId m = 18
      | _ => false
    if !ok then .badMode s
    else if !startable s n then .badState s
    else .ok (s.queueCmd n (1, RCP_THR_CMD_STEP.of w))
  | 2 => if dead then .badMode s else .ok (s.queueCmd n (2, 0))
  | 3 =>
    if dead then .badMode s
    else if s.thrState n = thrEnded || s.thrState n = thrFaulted then
      .ok (s.queueCmd n (3, 0))
    else .badState s
  | _ => .ok s

/-- RCP_START: the START command of a thread (R118). -/
def execRcpStart (m : Master) (n : Fin 64) (step : BitVec 13) (s : State) : Host.Outcome State Fault Refusal :=
  run [.rcp] (regCmd thrCmdAct m RCP_THR_CMD [n.val] (BitVec.ofNat 32 (step.toNat * 2 ^ 16 + 1))) s

/-- RCP_ABORT: the ABORT command of a thread (R118). -/
def execRcpAbort (m : Master) (n : Fin 64) (s : State) : Host.Outcome State Fault Refusal :=
  run [.rcp] (regCmd thrCmdAct m RCP_THR_CMD [n.val] 2) s

/-- RCP_CLEAR: the CLEAR command of a thread (R118). -/
def execRcpClear (m : Master) (n : Fin 64) (s : State) : Host.Outcome State Fault Refusal :=
  run [.rcp] (regCmd thrCmdAct m RCP_THR_CMD [n.val] 3) s

/-! ### Reports (R143, R144) -/

/-- INFLIGHT counts the committed actions not yet reported. -/
def syncInflight (s : State) : State :=
  s.setFld RCP_STAT_INFLIGHT (s.rcp.slots.filter (·.committed)).length

/-- The 16 bytes of a report entry (R144). -/
def reportEntry (a : ActSlot) (code etick : Nat) : Nat :=
  a.thread + a.act * 2 ^ 8 + b2n a.res * 2 ^ 15 + a.step * 2 ^ 16 + code * 2 ^ 32 + a.cls * 2 ^ 40 + a.sub * 2 ^ 44
    + a.seq % 2 ^ 16 * 2 ^ 48 + a.ctick % 2 ^ 32 * 2 ^ 64 + etick % 2 ^ 32 * 2 ^ 96

/-- Write one entry to the report ring; a full ring loses its oldest entry (R143). -/
def ringPut (v : Nat) (s : State) : State :=
  let wr := s.fld RCP_RING_WR_WR
  let next := (wr + 1) % 65536
  let s := s.poke (0x10000000 + s.fld RCP_RING_BASE * 0x10000 + 16 * wr) 16 v
  let s := if next = s.fld RCP_RING_RD_RD then
      ((s.incr RCP_RING_RD_RD).incr RCP_RINGOVR_COUNT).raise RCP_STAT_RINGOVRF else s
  (s.setFld RCP_RING_WR_WR next).noteRing 0

/-- ACTION_REPORT: a committed action's outcome, written once (R143); every failure of an action with FAILABORT is an
abort cause (R141), one that an abort made among them. -/
def reportSlotAt (etick : Nat) (a : ActSlot) (code : Nat) (s : State) : State :=
  let s := { s with rcp := { s.rcp with slots := s.rcp.slots.filter (fun x => x.id ≠ a.id) } }
  let s := ringPut (reportEntry a code etick) s
  let s := if code = 0 then s.incr RCP_DONE_COUNT else s.incr RCP_FAILED_COUNT
  let s := s.setFld RCP_THR_INFL_COUNT (s.fld RCP_THR_INFL_COUNT [a.thread] - 1) [a.thread]
  let s := if (s.reg RCP_THR_SEQ [a.thread]).toNat = a.seq then
      s.modThread a.thread (fun t => { t with outs := t.outs ++ [(a.act, code)] }) else s
  let s := if code ≠ 0 && a.failAbort then
      s.modThread a.thread (fun t => { t with causes := t.causes ++ [2], failed := if t.causes.contains 2 then t.failed else a.act })
    else s
  syncInflight s

/-- A report whose ETICK is the present tick. -/
def reportSlot (a : ActSlot) (code : Nat) (s : State) : State := reportSlotAt s.tick a code s

/-- The outcome of the action with an identifier becomes known at a tick: reported, or held until its commit tick
(R138). -/
def rcpReportAt (etick id code : Nat) (s : State) : State :=
  match s.rcp.slots.find? (fun x => x.id = id) with
  | none => s
  | some a =>
    if a.committed then reportSlotAt etick a code s
    else { s with rcp := { s.rcp with slots := s.rcp.slots.map (fun x =>
            if x.id = id then { x with early := some code } else x) } }

/-- The outcome of an action becomes known now. -/
def rcpReport (id code : Nat) (s : State) : State := rcpReportAt s.tick id code s

/-- The report of an action whose outcome arises in the device's own hardware (17 R475). -/
def rcpOutcome (id code : Nat) (s : State) : State := s.outcome (.report id code) (rcpReport id code)

/-- The identifiers of the committed actions in flight that satisfy a test. -/
def slotsWhere (s : State) (p : ActSlot → Bool) : List ActSlot := s.rcp.slots.filter (fun a => a.committed && p a)

/-! ### Fetch -/

/-- The header address of step `k` of thread n. -/
def stepAddr (s : State) (n k : Nat) : Nat := poolAddr s (s.fld RCP_THR_CFG_FIRST [n] + k)

/-- Whether a target is a header entry whose entries are all validated and lie in the thread's range (R130). -/
def fetchable (s : State) (n k : Nat) : Bool :=
  let f := s.fld RCP_THR_CFG_FIRST [n]
  let h := recAt s (stepAddr s n k) 0
  k < s.fld RCP_THR_CFG_SIZE [n] && rType h = 1 && k + hEntries h ≤ s.fld RCP_THR_CFG_SIZE [n] &&
    (List.range (hEntries h)).all (fun i => s.rcp.valid.contains (f + k + i))

/-! ### Conditions and detectors (R121, R122, R131 to R135) -/

/-- SLOPE (R132): the detector after an evaluation with sample `x`, and whether it holds. -/
def slopeEval (d : Detector) (cmp dd w : Nat) (b x : Int) : Detector × Bool :=
  if d.evals % dd = 0 then
    let v := x :: d.samples.take w
    let hit := v.length = w + 1 && cmpInt cmp (x - nth v w 0) b
    ({ d with samples := v, evals := d.evals + 1 }, hit)
  else ({ d with evals := d.evals + 1 }, false)

/-- CROSS (R133): the detector after an evaluation whose comparison gave `c`, and whether it holds. -/
def crossEval (d : Detector) (n : Nat) (c : Bool) : Detector × Bool :=
  if !c then ({ d with armed := true, count := 0 }, false)
  else if d.armed then ({ d with count := d.count + 1 }, n ≤ d.count + 1)
  else (d, false)

/-- INTEGRAL (R134): the sum saturates at the 64-bit limits. -/
def integralEval (d : Detector) (cmp : Nat) (pos : Bool) (x tgt : Int) : Detector × Bool :=
  let sum := satW 64 (d.sum + if pos then max x 0 else x)
  ({ d with sum := sum }, cmpInt cmp sum tgt)

/-- The step value that THREADSTEP reads. -/
def stepValue (s : State) (n : Nat) : Nat := s.fld RCP_THR_STEP_STEP [n]

/-- ACTDONE (R122): outcomes of this step instance's `na` actions. -/
def actDone (t : Thread) (na b : Nat) : Bool :=
  match b with
  | 0 => t.outs.length = na && t.outs.all (fun o => o.2 = 0)
  | 1 => t.outs.any (fun o => o.2 ≠ 0)
  | _ => t.outs.length = na

/-- The detector of a condition after an evaluation that QGOOD makes false (R131 to R133). -/
def detQuiet (k : Nat) (d : Detector) : Detector :=
  match k with
  | 4 => { d with samples := [], evals := d.evals + 1 }
  | 5 => { d with count := 0 }
  | _ => d

/-- One condition at an evaluation: its bit and its detector. `s` is the state as it stood at the start of Phase 4,
`tis` the time in step, `na` the number of actions of the step. -/
def evalCond (s : State) (t : Thread) (r tis na : Nat) (d : Detector) : Bool × Detector :=
  let k := cKind r
  let a := bits (rW0 r) 17 0
  let b := rW1 r
  let bad := cQgood r && ((k = 0 || k = 1 || k = 4 || k = 5 || k = 6) && s.sigQual a ≠ 0
    || (k = 1 && s.sigQual (bits b 17 0) ≠ 0))
  let x := sx 32 (s.sigVal a)
  let v : Bool × Detector :=
    if bad then (d.latched, detQuiet k d)
    else match k with
      | 0 => (cmpFmt (cFmt r) (cCmp r) (s.sigVal a) b, d)
      | 1 => (cmpFmt (cFmt r) (cCmp r) (s.sigVal a) (s.sigVal (bits b 17 0)), d)
      | 2 => (cmpInt (cCmp r) tis b, d)
      | 3 => (cmpInt (cCmp r) (stepValue s (bits (rW0 r) 5 0)) (bits b 15 0), d)
      | 4 => let e := slopeEval d (cCmp r) (bits (rParam r) 15 8) (bits (rParam r) 7 0) (sx 32 b) x
             (e.2 || d.latched, { e.1 with latched := e.2 || d.latched })
      | 5 => let e := crossEval d (rParam r) (cmpFmt (cFmt r) (cCmp r) (s.sigVal a) b)
             (e.2 || d.latched, { e.1 with latched := e.2 || d.latched })
      | 6 => let e := integralEval d (cCmp r) (bit (rParam r) 0) x (sx 64 (rW2 r * 2 ^ 32 + b))
             (e.2 || d.latched, { e.1 with latched := e.2 || d.latched })
      | 7 => (cmpInt (cCmp r) (s.sigQual a) (bits b 1 0), d)
      | _ => (actDone t na b, d)
  (v.1 != cInv r, v.2)

/-- Every condition of a thread's step, in order: the condition bits as a number and the detectors. -/
def evalConds (s : State) (t : Thread) (tis : Nat) : Nat × List Detector :=
  let h := nth t.recs 0 0
  (List.range (hNcond h)).foldl (fun acc i =>
    let e := evalCond s t (nth t.recs (i + 1) 0) tis (hNact h) (nth t.dets i {})
    (acc.1 + b2n e.1 * 2 ^ i, acc.2 ++ [e.2])) (0, [])

/-- The test of a branch on the condition bits (R125). -/
def branchTest (r c : Nat) : Bool :=
  let m := bits r 31 16
  if bit r 4 then (m &&& c) ≠ 0 else (m &&& c) = m

end Sys2Proof.Machine
end

