-- ==== Sys2Proof/Machine/Loop.lean ====
section
/-!
DEFINITION. The loop engine (05): the lane schedule, the check of R178 and R179, binding, live and structural writes,
the latch of a period.
-/
namespace Sys2Proof.Machine

/-! ### Words of a context -/

/-- Word i of loop n's program (R171, R184). -/
def loopWord (s : State) (n i : Nat) : Nat :=
  (s.reg LOOP_OP [n, 2 * i]).toNat + (s.reg LOOP_OP [n, 2 * i + 1]).toNat * 2 ^ 32

/-- The operation words 0 to NOPS − 1 of loop n, at most 64. -/
def loopProg (s : State) (n : Nat) : List Nat :=
  (List.range (min 64 (s.fld LOOP_CFG_NOPS [n]))).map (loopWord s n)

/-- A bit of one of the 32-word sets of the LOOP block. -/
def State.loopBit (s : State) (f : Fld) (n : Nat) : Bool := bit (s.fld f [n / 32]) (n % 32)

/-- Set or clear a bit of one of the 32-word sets of the LOOP block. -/
def State.setLoopBit (s : State) (f : Fld) (n : Nat) (b : Bool) : State :=
  s.setFld f (putBits (s.fld f [n / 32]) (n % 32) (n % 32) (b2n b)) [n / 32]

/-- Whether loop n is bound (R152). -/
def State.loopBound (s : State) (n : Nat) : Bool := s.isSet LOOP_CFG_BOUND [n]

/-- The bound loops, in loop order. -/
def boundLoops (s : State) : List Nat := (List.range 1024).filter (s.loopBit LOOP_BOUND_BOUND)

/-- What the engine keeps of loop n. -/
def State.loopDyn (s : State) (n : Nat) : LoopDyn := (getKey s.le.dyn n).getD {}

/-- Change what the engine keeps of loop n. -/
def State.setLoopDyn (s : State) (n : Nat) (d : LoopDyn) : State :=
  { s with le := { s.le with dyn := putKey s.le.dyn n d } }

/-- The cost of an execution of loop n (R154). -/
def loopCost (s : State) (n : Nat) : Nat := 32 + ((loopProg s n).map opCost).foldl (· + ·) 0

/-- The class of a loop. -/
def loopClass (s : State) (n : Nat) : Nat := s.fld LOOP_CFG_CLASS [n]

/-- Whether a period of class c starts at tick t (R158). -/
def classStarts (s : State) (c t : Nat) : Bool :=
  let p := s.fld LOOP_CLS_PER_PER [c]
  let h := s.fld LOOP_CLS_PH_PH [c]
  p ≠ 0 && h ≤ t && (t - h) % p = 0

/-! ### The lane schedule (R160) -/

/-- An execution of the schedule: loop, class, period start, release tick, cost. -/
structure Job where
  loop  : Nat
  cls   : Nat
  start : Nat
  rel   : Nat
  cost  : Nat
  deriving DecidableEq, Repr

/-- The absolute slot at which an execution of period `start` becomes eligible. -/
def eligibleAt (start : Nat) : Nat := start * 2900 + 900

/-- Whether one execution goes before another: earlier release tick, lower class, lower loop. -/
def jobBefore (a b : Job) : Bool :=
  a.rel < b.rel || (a.rel = b.rel && (a.cls < b.cls || (a.cls = b.cls && a.loop < b.loop)))

/-- The execution to start at slot `t` among those eligible. -/
def pickJob (t : Nat) (q : List Job) : Option Job :=
  (q.filter (fun j => eligibleAt j.start ≤ t)).foldl (fun b j => match b with
    | none => some j
    | some k => if jobBefore j k then some j else some k) none

/-- The earliest slot at which a waiting execution is eligible. -/
def firstEligible (q : List Job) : Option Nat :=
  q.foldl (fun b j => match b with
    | none => some (eligibleAt j.start)
    | some k => some (min k (eligibleAt j.start))) none

/-- Run a lane up to slot `lim`: the slot at which it is free, the executions that still wait, and those started, each
with its last slot, in order. -/
def laneRun (lim : Nat) : Nat → Nat → List Job → List (Job × Nat) → Nat × List Job × List (Job × Nat)
  | 0, free, q, acc => (free, q, acc)
  | fuel + 1, free, q, acc =>
    match firstEligible q with
    | none => (free, q, acc)
    | some e =>
      let t := max free e
      if lim ≤ t then (free, q, acc)
      else match pickJob t q with
        | none => (free, q, acc)
        | some j => laneRun lim fuel (t + j.cost) (q.erase j) (acc ++ [(j, t + j.cost - 1)])

/-! ### The check (R178, R179) -/

/-- Whether a code is an operand that a program may read (R172). -/
def opReadable (c : Nat) : Bool := c < 0x34 || (0x40 ≤ c && c < 0x56 && (c < 0x50 || c ≤ 0x55)) || c = 0xFF
/-- Whether a code is an operand that a program may write (R172). -/
def opWritable (c : Nat) : Bool := c < 0x20 || (0x30 ≤ c && c < 0x34) || c = 0xFF
/-- Whether a code is a latched input. -/
def opInput (c : Nat) : Bool := 0x20 ≤ c && c < 0x30

/-- The operand fields that an operation reads, the state slots it uses, and whether it writes DST (R173). -/
def opReads (w : Nat) : List Nat :=
  match opOpc w with
  | 0x01 | 0x02 | 0x03 | 0x06 | 0x07 | 0x09 | 0x0B | 0x12 | 0x13 | 0x14 | 0x15 | 0x18 | 0x19 | 0x1A | 0x1B => [opSa w]
  | 0x04 | 0x05 | 0x08 | 0x0A | 0x0D | 0x0F | 0x11 | 0x16 | 0x17 => [opSa w, opSb w]
  | 0x0C | 0x0E => [opSa w, opSb w, opSc w]
  | 0x10 => [opSa w, opSc w]
  | _ => []

/-- The state slots of an operation (R173). -/
def opStates (w : Nat) : List Nat :=
  match opOpc w with
  | 0x12 | 0x15 | 0x16 => [opSc w]
  | 0x13 | 0x14 => [opSc w, opSc w + 1]
  | 0x17 => [opSc w, opSc w + 1, opSc w + 2]
  | _ => []

/-- ERR 2 of an operation: an operand code invalid for its place, or an input without an enabled binding. -/
def opBadOperand (inb : Nat → Bool) (w : Nat) : Bool :=
  let dstBad := match opOpc w with
    | 0x00 | 0x1B => false
    | 0x03 => !(0x30 ≤ opDst w && opDst w < 0x34)
    | _ => !opWritable (opDst w)
  let inBad := opOpc w = 0x02 && !opInput (opSa w)
  dstBad || inBad || (opReads w).any (fun c => !opReadable c || (opInput c && !inb (c - 0x20)))

/-- ERR 4 of an operation: a K index beyond K15. -/
def opBadK (w : Nat) : Bool := (opOpc w = 0x14 || opOpc w = 0x17) && 11 < bits (opParam w) 3 0

/-- ERR 5 of an operation: reserved or unused fields, fixed fields, PARAM ranges. -/
def opBadField (w : Nat) : Bool :=
  let p := opParam w
  let sbUsed := match opOpc w with
    | 0x04 | 0x05 | 0x08 | 0x0A | 0x0C | 0x0D | 0x0E | 0x0F | 0x11 | 0x16 | 0x17 => true
    | _ => false
  let scUsed := match opOpc w with
    | 0x0C | 0x0E | 0x10 | 0x12 | 0x13 | 0x14 | 0x15 | 0x16 | 0x17 => true
    | _ => false
  let pBad := match opOpc w with
    | 0x00 => p ≠ 0 || opDst w ≠ 0 || opSa w ≠ 0
    | 0x02 | 0x03 => p &&& 0xE0FC ≠ 0 || 30 < bits p 12 8
    | 0x08 | 0x0A => p &&& 0xFFF0 ≠ 0
    | 0x09 | 0x12 => false
    | 0x0B => p &&& 0xFFC0 ≠ 0
    | 0x0C => p &&& 0xFFFE ≠ 0
    | 0x0E => p &&& 0xFFFC ≠ 0
    | 0x0F => p &&& 0xFFF8 ≠ 0 || 5 < bits p 2 0
    | 0x13 => p &&& 0xF000 ≠ 0
    | 0x14 => p &&& 0xFFF0 ≠ 0
    | 0x15 => p &&& 0xFFE0 ≠ 0 || 16 < bits p 4 0
    | 0x17 => p &&& 0x0C00 ≠ 0
    | 0x18 => p &&& 0xFFF0 ≠ 0
    | 0x19 => p &&& 0xFFFE ≠ 0
    | 0x1B => p &&& 0xFFF0 ≠ 0 || opDst w ≠ 0xFF
    | _ => p ≠ 0
  bits w 7 0 ≠ 0 || (!sbUsed && opSb w ≠ 0) || (!scUsed && opSc w ≠ 0) || pBad

/-- Whether two entries of a list are equal. -/
def hasDup : List Nat → Bool
  | [] => false
  | a :: t => t.contains a || hasDup t

/-- ERR 3: a state slot beyond S31, or one used twice. -/
def progBadState (ws : List Nat) : Bool :=
  let q := ws.flatMap opStates
  q.any (fun x => 31 < x) || hasDup q

/-- The OUT format that an output binding requires (R166): 4 stands for any. -/
def outFmt : Nat → Nat
  | 2 => 2
  | 3 => 0
  | _ => 4

/-- ERR 10 for loop n among the other bound loops (R166, R178). -/
def loopBadBinding (s : State) (others : List Nat) (n : Nat) : Bool :=
  (List.range 4).any (fun j =>
    let k := s.fld LOOP_OUTB_KIND [n, j]
    let t := s.fld LOOP_OUTB_TARGET [n, j]
    3 < k || (k = 2 && 15 < t) || (k = 3 && 63 < t) ||
    (k ≠ 0 && others.any (fun m => (List.range 4).any (fun i =>
      s.fld LOOP_OUTB_KIND [m, i] = k && s.fld LOOP_OUTB_TARGET [m, i] = t))) ||
    (outFmt k ≠ 4 && (loopProg s n).any (fun w =>
      opOpc w = 0x03 && opDst w = 0x30 + j && bits (opParam w) 1 0 ≠ outFmt k)))
  || !s.isSet LOOP_INB_EN [n, s.fld LOOP_CFG_PVSLOT [n]]

/-- ERR 1 to 10 for loop n, among the loops bound besides it; 0 when none fails. -/
def loopErr (s : State) (others : List Nat) (n : Nat) : Nat :=
  let ws := loopProg s n
  let nops := s.fld LOOP_CFG_NOPS [n]
  let c := loopClass s n
  let per := s.fld LOOP_CLS_PER_PER [c]
  let frame := s.fld LOOP_FRAME_F
  if ws.any (fun w => 0x1B < opOpc w) then 1
  else if ws.any (opBadOperand (fun i => s.isSet LOOP_INB_EN [n, i])) then 2
  else if progBadState ws then 3
  else if ws.any opBadK then 4
  else if ws.any opBadField then 5
  else if 1 < (ws.filter (fun w => opOpc w = 0x18)).length then 6
  else if nops = 0 || 64 < nops then 7
  else if per = 0 || 20000 < per || s.fld LOOP_CLS_OFS_OFS [c] = 0 || per < s.fld LOOP_CLS_OFS_OFS [c]
      || per ≤ s.fld LOOP_CLS_PH_PH [c] then 8
  else if (n :: others).any (fun m => frame % s.fld LOOP_CLS_PER_PER [loopClass s m] ≠ 0) then 9
  else if loopBadBinding s others n then 10
  else 0

/-- The enabled input bindings of loop n. -/
def loopInputs (s : State) (n : Nat) : Nat := ((List.range 16).filter (fun i => s.isSet LOOP_INB_EN [n, i])).length

/-- For each class, the inputs its bound loops latch at a period start, and its period, phase and offset. -/
def classLoads (s : State) (loops : List Nat) : List (Nat × Nat × Nat) :=
  (List.range 8).map (fun c => ((loops.filter (fun n => loopClass s n = c)).foldl (fun a n => a + loopInputs s n) 0,
    s.fld LOOP_CLS_PER_PER [c], s.fld LOOP_CLS_PH_PH [c]))

/-- The inputs latched at tick t of the frame. -/
def latchAt (cl : List (Nat × Nat × Nat)) (t : Nat) : Nat :=
  cl.foldl (fun a x => if x.2.1 ≠ 0 && x.2.2 ≤ t && (t - x.2.2) % x.2.1 = 0 then a + x.1 else a) 0

/-- The most inputs latched at one tick of the frame. -/
def maxLatch (cl : List (Nat × Nat × Nat)) : Nat → Nat
  | 0 => 0
  | t + 1 => max (latchAt cl t) (maxLatch cl t)

/-- The executions of a lane that start their period at tick t. -/
def jobsAt (s : State) (loops : List (Nat × Nat)) (t : Nat) : List Job :=
  loops.filterMap (fun x =>
    let c := loopClass s x.1
    if classStarts s c t then
      some { loop := x.1, cls := c, start := t, rel := t + s.fld LOOP_CLS_OFS_OFS [c], cost := x.2 } else none)

/-- Where the simulation of a lane stands: free slot, waiting executions, started executions with last slot. -/
structure LaneSim where
  free : Nat
  q    : List Job
  done : List (Job × Nat)
  deriving DecidableEq, Repr

/-- Simulate `n` ticks of a lane from tick t. -/
def laneTicks (s : State) (loops : List (Nat × Nat)) : Nat → Nat → LaneSim → LaneSim
  | 0, _, x => x
  | n + 1, t, x =>
    let q := x.q ++ jobsAt s loops t
    let r := laneRun ((t + 1) * 2900) q.length x.free q x.done
    laneTicks s loops n (t + 1) { free := r.1, q := r.2.1, done := r.2.2 }

/-- The state of a lane at a frame boundary (R179): the loop in progress with its remaining slots, and the waiting
executions, relative to the boundary at tick b. -/
def laneMark (x : LaneSim) (b : Nat) : (Nat × Nat) × List (Nat × Nat) :=
  ((if b * 2900 < x.free then ((x.done.getLast?.map (fun d => d.1.loop)).getD 0, x.free - b * 2900) else (0, 0)),
   x.q.map (fun j => (j.loop, b - j.start)))

/-- Simulate a lane frame by frame, at most `n` more frames: the executions started, and whether a boundary repeats. -/
def laneFrames (s : State) (loops : List (Nat × Nat)) (f : Nat) : Nat → Nat → LaneSim → List (Job × Nat) × Bool
  | 0, _, x => (x.done, false)
  | n + 1, j, x =>
    let y := laneTicks s loops f (j * f) x
    if laneMark y ((j + 1) * f) = laneMark x (j * f) then (y.done, true)
    else laneFrames s loops f n (j + 1) y

/-- The smallest r for which an execution is ready for S + r (R161, R179). -/
def jobOffset (d : Job × Nat) : Nat := d.2 / 2900 - d.1.start + 1

/-- The result of a check: ERR, loop, and for each loop its worst offset and the slot of its worst execution. -/
structure CheckRes where
  err   : Nat
  loop  : Nat
  worst : List (Nat × Nat × Nat)
  latch : Nat
  util  : Nat
  deriving DecidableEq, Repr

/-- The worst offset of each loop over the executions of a lane. -/
def worstOf (loops : List Nat) (ds : List (Job × Nat)) : List (Nat × Nat × Nat) :=
  loops.map (fun n => (ds.filter (fun d => d.1.loop = n)).foldl
    (fun b d => if b.2.1 < jobOffset d then (n, jobOffset d, d.2 % 2900) else b) (n, 0, 0))

/-- The check of the bound loops with loop n added (R178, R179). -/
def loopCheck (s : State) (n : Nat) : CheckRes :=
  let others := (boundLoops s).filter (· ≠ n)
  let e := loopErr s others n
  let f := s.fld LOOP_FRAME_F
  let all := sortBy (fun (a b : Nat) => a < b) ((boundLoops s) ++ (if s.loopBound n then [] else [n]))
  let cl := classLoads s all
  let ml := maxLatch cl f
  if e ≠ 0 then { err := e, loop := n, worst := [], latch := 0, util := 0 }
  else if 4096 < ml then
    let t := ((List.range f).find? (fun t => 4096 < latchAt cl t)).getD 0
    { err := 11, loop := ((all.filter (fun m => classStarts s (loopClass s m) t)).getLast?).getD 0,
      worst := [], latch := ml, util := 0 }
  else
    let lanes := (List.range 4).map (fun l =>
      (all.filter (fun m => s.fld LOOP_CFG_LANE [m] = l)).map (fun m => (m, loopCost s m)))
    let sims := lanes.map (fun ls => laneFrames s ls f 4 0 { free := 0, q := [], done := [] })
    let late := sims.findSome? (fun r => r.1.find? (fun d => s.fld LOOP_CLS_PER_PER [d.1.cls] < jobOffset d))
    let util := (lanes.map (fun ls => ls.foldl (fun a m =>
      a + m.2 * (f / s.fld LOOP_CLS_PER_PER [loopClass s m.1])) 0)).foldl max 0
    match late with
    | some d => { err := 12, loop := d.1.loop, worst := [], latch := ml, util := 0 }
    | none =>
      match (lanes.zip sims).find? (fun r => !r.2.2) with
      | some r => { err := 13, loop := (r.1.headD (0, 0)).1, worst := [], latch := ml, util := 0 }
      | none => { err := 0, loop := 0, latch := ml, util := min 10000 (ceilDiv (10000 * util) (f * 2900)),
                  worst := (lanes.zip sims).flatMap (fun r => worstOf (r.1.map (·.1)) r.2.1) }

/-! ### LOOP_CMD -/

/-- Whether a loop's worst offset exceeds the OFS of its class: it is predicted late (R179). -/
def predLate (s : State) (x : Nat × Nat × Nat) : Bool := s.fld LOOP_CLS_OFS_OFS [loopClass s x.1] < x.2.1

/-- LOOP_WCF and LOOP_CLS_c_WCF take the worst offsets that a passed check recorded (R179, R182). -/
def worstWords (worst : List (Nat × Nat × Nat)) (s : State) : State :=
  let s := worst.foldl (fun s x =>
    ((s.setFld LOOP_WCF_WCF x.2.1 [x.1]).setFld LOOP_WCF_SLOT x.2.2 [x.1]).setFld
      LOOP_WCF_PREDLATE (b2n (predLate s x)) [x.1]) s
  (List.range 8).foldl (fun s c =>
    let xs := worst.filter (fun x => loopClass s x.1 = c)
    (s.setFld LOOP_CLS_WCF_WCF ((xs.map (·.2.1)).foldl max 0) [c]).setFld LOOP_CLS_WCF_PREDLATE
      (b2n (xs.any (predLate s))) [c]) s

/-- Report a failed or passed check in LOOP_CHK, LOOP_WCF and LOOP_CLS_c_WCF (R178, R179). -/
def reportCheck (r : CheckRes) (s : State) : State :=
  let isLate := predLate s
  let late := sortBy (fun (a b : Nat × Nat × Nat) => a.1 < b.1) (r.worst.filter isLate)
  let who := if r.err ≠ 0 then some r.loop else (late.head?).map (·.1)
  let s := s.setReg LOOP_CHK 0
  let s := ((s.raise LOOP_CHK_DONE).setFld LOOP_CHK_ERR r.err).setFld LOOP_CHK_LATEPRED late.length
  let s := match who with
    | some n => ((s.setFld LOOP_CHK_LOOP n).setFld LOOP_CHK_LANE (s.fld LOOP_CFG_LANE [n])).setFld
        LOOP_CHK_CLASS (loopClass s n)
    | none => s
  if r.err ≠ 0 then s
  else
    worstWords r.worst ((s.setFld LOOP_CHK_LOAD_MAXLATCH r.latch).setFld LOOP_CHK_LOAD_UTIL r.util)

/-- Bind loop n: BOUND and its mirror, counts at 0, no executions yet (R174, R178, R185). -/
def bindLoop (n : Nat) (s : State) : State :=
  let s := (s.raise LOOP_CFG_BOUND [n]).setLoopBit LOOP_BOUND_BOUND n true
  let s := (s.setReg LOOP_LATECNT 0 [n]).setReg LOOP_EXECCNT 0 [n]
  let s := (List.range 16).foldl (fun s h => s.setReg LOOP_DLY 0 [n, h]) s
  s.setLoopDyn n { s.loopDyn n with en := false, auto := false }

/-- Unbind loop n (R178); the WCF of a class that has no bound loop is 0 (R182). -/
def unbindLoop (n : Nat) (s : State) : State :=
  let s := (s.lower LOOP_CFG_BOUND [n]).setLoopBit LOOP_BOUND_BOUND n false
  let c := loopClass s n
  if (boundLoops s).any (fun m => loopClass s m = c) then s else s.setReg LOOP_CLS_WCF 0 [c]

/-- The rule of LOOP_CMD: in Provision or Stop, as the behaviour in force has it (17 R471), not while a check runs (R178). GO
clears DONE and sets BUSY (R182); UNBIND clears BOUND at once. The Lens
captures of the loop end with it (06 R206); `lensLost` is that rule. -/
def loopCmdAct (lensLost : Nat → State → State) : Act := fun _ ix w s =>
  if s.isSet LOOP_CHK_BUSY then .badState s
  else if s.effMode ≠ .provision && s.effMode ≠ .stop then .badMode s
  else
    let s := s.store LOOP_CMD ix w
    let n := LOOP_CMD_LOOP.of w
    if !LOOP_CMD_GO.on w then .ok s
    else
      let s := (s.setReg LOOP_CHK 0).raise LOOP_CHK_BUSY
      .ok (if LOOP_CMD_OP.of w = 2 then lensLost n (unbindLoop n s) else s)

/-- What GO began completes (R179, R182): a passed BIND binds the loop; with OP none or UNBIND nothing was to be checked. -/
def loopCheckDone (s : State) : State :=
  if !s.isSet LOOP_CHK_BUSY then s
  else if s.fld LOOP_CMD_OP % 2 = 0 then (s.lower LOOP_CHK_BUSY).raise LOOP_CHK_DONE
  else
    let n := s.fld LOOP_CMD_LOOP
    let r := loopCheck s n
    let s := if r.err = 0 && s.fld LOOP_CMD_OP = 1 then bindLoop n s else s
    reportCheck r s

/-- LOOP_CHECK_DONE (R179). -/
def execLoopCheckDone (s : State) : Host.Outcome State Fault Refusal := run [.loop] loopCheckDone s

/-! ### Structural writes (R170) -/

/-- Whether any loop is bound. -/
def anyBound (s : State) : Bool := (List.range 32).any (fun k => s.isSet LOOP_BOUND_BOUND [k])

/-- A structural write is refused outside Provision and Stop, and of a frame or class word while a loop is bound; a word of
a bound loop is refused as a locked write (R170, 02 R71; DEDUCED: log 194). -/
def structAct (r : Reg) (loopOf : List Nat → Option Nat) : Act := fun m ix w s =>
  if (loopOf ix).any s.loopBound then .no .locked false (setLockV .loop m (r.addr ix) s)
  else if s.effMode ≠ .provision && s.effMode ≠ .stop then .badMode s
  else if (loopOf ix).isNone && anyBound s then .badState s
  else .ok (s.store r ix w)

/-- LOOP_FRAME: 1 to 60,000 (R158). -/
def frameAct : Act := fun m ix w s =>
  let f := LOOP_FRAME_F.of w
  if f = 0 || 60000 < f then .badValue s else structAct LOOP_FRAME (fun _ => none) m ix w s

/-! ### Live writes (R169, R191, R193) -/

/-- A RAMP action of a loop in flight ends with a code (R191, R142). -/
def endRamp (n code : Nat) (s : State) : State :=
  let d := s.loopDyn n
  match d.ramp with
  | some id => rcpReport id code (s.setLoopDyn n { d with ramp := none })
  | none => s

/-- A write of LOOP_SPT that takes effect: the ramp ends (R191). -/
def sptWritten (n : Nat) (s : State) : State :=
  let s := endRamp n 0x09 s
  let d := s.loopDyn n
  s.setLoopDyn n { d with r := 0, rst := false, newR := true }

/-- A live word takes effect: bits `mask` of the register at `a` take `v`. -/
def liveApply (s : State) (x : Nat × Nat × Nat) : State :=
  match findIn loopRegs x.1 with
  | none => s
  | some (r, ix) =>
    let old := (s.reg r ix).toNat
    let s := s.setReg r (BitVec.ofNat 32 ((old &&& (0xFFFFFFFF - x.2.1)) ||| (x.2.2 &&& x.2.1))) ix
    if r.blk = .loop && 0x44000000 ≤ x.1 then
      let n := ix.headD 0
      let d := s.loopDyn n
      let s := s.setLoopDyn n { d with dirty := x.1 :: d.dirty }
      if r.base = LOOP_SPT.base then sptWritten n s else s
    else s

/-- The rule of a live word: a core's write waits for the end of Phase 3 of the next base tick, a host's write is
performed in Phase 3 of its admission tick. -/
def liveAct (r : Reg) : Act := fun m ix w s =>
  let a := r.addr ix
  match m with
  | .core _ => .ok { s with le := { s.le with live := s.le.live ++ [(a, 0xFFFFFFFF, w.toNat)] } }
  | _ => .ok (liveApply s (a, 0xFFFFFFFF, w.toNat))

/-- The live writes that wait beyond the first `n` came through a bit alias and reach bit `b` alone (02 R78, R182). -/
def liveBit (b n : Nat) (s : State) : State :=
  { s with le := { s.le with live := s.le.live.take n ++ (s.le.live.drop n).map (fun e => (e.1, 2 ^ b, e.2.2)) } }

/-- LIVE_WORD_APPLY: the core writes made before this tick take effect (R169). -/
def liveWords (s : State) : State :=
  let q := s.le.live
  q.foldl liveApply { s with le := { s.le with live := [] } }

/-- A 64-bit atomic pair (02 R69): the low word is staged for its master, the high word writes both, each through
`act` on the family with two words an element. -/
def pairAct (r : Reg) (act : Reg → Act) : Act := fun m ix w s =>
  let k := ix.getLastD 0
  let lo := ix.dropLast ++ [k - 1]
  let key := masterId m * 2 ^ 32 + r.addr lo
  if k % 2 = 0 then
    match act r m ix w s with
    | .ok _ => .ok { s with stage := putKey s.stage (masterId m * 2 ^ 32 + r.addr ix) w }
    | .no e o s' => .no e o s'
  else
    let low := (getKey s.stage key).getD (s.reg r lo)
    let s := { s with stage := delKey s.stage key }
    match act r m lo low s with
    | .no e o s' => .no e o s'
    | .ok s1 => act r m ix w s1

/-- LOOP_SATF: clears sticky flags, and SATS with the last of them (R177). -/
def satfAct : Act := fun _ ix w s =>
  let s := s.store LOOP_SATF ix w
  let n := ix.headD 0
  .ok (s.setLoopBit LOOP_SATS_SATS n (bits (s.reg LOOP_SATF ix).toNat 4 0 ≠ 0))

/-! ### The latch (R159) -/

/-- The context that loop n latches now. -/
def latchCtx (s : State) (n : Nat) : LoopCtx :=
  let rd := fun (r : Reg) (k : Nat) => (List.range k).map (fun i => sx 32 (s.reg r [n, i]).toNat)
  let d := s.loopDyn n
  { w := rd LOOP_W 32,
    iv := (List.range 16).map (fun i => (s.reg LOOP_IV [n, i]).toNat),
    ist := (List.range 16).map (fun i => (s.reg LOOP_IS [n, i]).toNat),
    os := rd LOOP_OS 4, k := rd LOOP_K 16,
    st := (List.range 32).map (fun q =>
      sx 64 ((s.reg LOOP_S [n, 2 * q]).toNat + (s.reg LOOP_S [n, 2 * q + 1]).toNat * 2 ^ 32)),
    lut0 := rd LOOP_LUT0 17, lut1 := rd LOOP_LUT1 17, dly := rd LOOP_DLY 16,
    sp := sx 32 (s.reg LOOP_SP [n]).toNat, spt := sx 32 (s.reg LOOP_SPT [n]).toNat,
    man := sx 32 (s.reg LOOP_MAN [n]).toNat, r := d.r, rst := d.rst, ss := d.ss }

/-- Copy the enabled inputs of loop n from the signal table (R159, R165). -/
def latchInputs (n : Nat) (s : State) : State :=
  (List.range 16).foldl (fun s i =>
    if s.isSet LOOP_INB_EN [n, i] then
      let a := sigAddr (s.fld LOOP_INB_SID [n, i])
      (s.setReg LOOP_IV (BitVec.ofNat 32 (s.peek a 4)) [n, i]).setReg LOOP_IS (BitVec.ofNat 32 (s.peek (a + 4) 4)) [n, i]
    else s) s

/-- Whether Hold's debug hold is in force (R181). -/
def loopHeld (s : State) : Bool := s.effMode = .hold && s.isSet LOOP_CTL_DBGHOLD

/-- The period of tick t starts for loop n: its inputs are latched, enabled or not, and its execution joins its lane's queue
(R159, R160). Under the debug hold it takes its slots without executing (R181); an initialising execution that falls due
then waits for the first execution after it (06 R185). -/
def latchLoop (t : Nat) (s : State) (n : Nat) : State :=
  let c := loopClass s n
  let held := loopHeld s
  let bit := s.loopBit LOOP_EN_EN n
  let en := bit && !held
  let s := latchInputs n s
  let d := s.loopDyn n
  let auto := s.loopBit LOOP_AUTO_AUTO n
  let e : Exec := { loop := n, cls := c, start := t, rel := t + s.fld LOOP_CLS_OFS_OFS [c],
                    due := t + s.fld LOOP_CLS_PER_PER [c], cost := loopCost s n, en := en, auto := auto,
                    init := !d.en, aedge := auto && !d.auto && d.en,
                    ctx := if en then latchCtx s n else {} }
  let s := if held then s.setLoopDyn n { d with en := d.en && bit }
    else s.setLoopDyn n { d with en := en, auto := auto && en, newR := false, newSS := false, dirty := [] }
  let l := s.fld LOOP_CFG_LANE [n]
  { s with le := { s.le with lanes := modNth s.le.lanes l (fun x => { x with queue := x.queue ++ [e] }) } }

/-- A period of class c starts at tick t: every bound loop of the class latches (R159). -/
def latchClass (t : Nat) (s : State) (c : Nat) : State :=
  if classStarts s c t && nth s.le.latched c 0 ≤ t && s.isSet LOOP_STAT_RUNNING then
    let s := { s with le := { s.le with latched := s.le.latched.set c (t + 1) } }
    ((boundLoops s).filter (fun n => loopClass s n = c)).foldl (latchLoop t) s
  else s

/-- R180: at the first tick divisible by F after an executing mode is entered the lanes start idle. -/
def frameStart (t : Nat) (s : State) : State :=
  if s.isSet LOOP_STAT_WAITFRAME && t % max 1 (s.fld LOOP_FRAME_F) = 0 then
    let s := (s.lower LOOP_STAT_WAITFRAME).raise LOOP_STAT_RUNNING
    { s with le := { s.le with lanes := List.replicate 4 { free := t * 2900 }, latched := List.replicate 8 t } }
  else s

/-- LANE_FRAME_START: time passes to the next frame start, where the waiting lanes start idle (R180). -/
def execLaneFrameStart (s : State) : Host.Outcome State Fault Refusal :=
  run [.loop] (fun s =>
    if s.isSet LOOP_STAT_WAITFRAME then
      let f := max 1 (s.fld LOOP_FRAME_F)
      let t := ceilDiv s.now (tickAt 1)
      let t := ceilDiv t f * f
      frameStart t (advanceTo (tickAt t) s)
    else s) s

/-- The next period start of class c at or after tick t. -/
def nextPeriod (s : State) (c t : Nat) : Nat :=
  let p := max 1 (s.fld LOOP_CLS_PER_PER [c])
  let h := s.fld LOOP_CLS_PH_PH [c]
  if t ≤ h then h else h + ceilDiv (t - h) p * p

/-- LOOP_PERIOD_START: time passes to the next period start of class c that has not latched, and its loops latch
(R159). -/
def execLoopPeriodStart (c : Fin 8) (s : State) : Host.Outcome State Fault Refusal :=
  run [.loop] (fun s =>
    if s.isSet LOOP_STAT_RUNNING && s.fld LOOP_CLS_PER_PER [c.val] ≠ 0 then
      let t := nextPeriod s c.val (max (nth s.le.latched c.val 0) s.tick)
      latchClass t (advanceTo (tickAt t) s) c.val
    else s) s

end Sys2Proof.Machine
end

