-- ==== Sys2Proof/Machine/Lens.lean ====
section
/-!
DEFINITION. Lens traces (06 R198 to R206): channels, records, triggers and captures.
-/
namespace Sys2Proof.Machine

/-- Where the Lens memory starts (02 R55). -/
def lensBase : Nat := 0x38000000

/-- Channel c beside its registers. -/
def State.lensCh (s : State) (c : Nat) : LensCh := nth s.lens c {}

/-- Change channel c. -/
def State.modLens (s : State) (c : Nat) (f : LensCh → LensCh) : State := { s with lens := modNth s.lens c f }

/-- The states of LENS_CH_c_STAT.STATE. -/
def lensIdle : Nat := 0
/-- ARMED. -/
def lensArmed : Nat := 1
/-- TRIGGERED. -/
def lensTriggered : Nat := 2
/-- DONE. -/
def lensDone : Nat := 3

/-- The state of channel c. -/
def State.lensState (s : State) (c : Nat) : Nat := s.fld LENS_CH_STAT_STATE [c]

/-- Whether channel c is ARMED or TRIGGERED. -/
def lensBusy (s : State) (c : Nat) : Bool := s.lensState c = lensArmed || s.lensState c = lensTriggered

/-- The nodes that channel c selects, in ascending order. -/
def lensNodes (s : State) (c : Nat) : List Nat := (List.range 16).filter (fun j => bit (s.fld LENS_CH_SRC_MASK [c]) j)

/-- RS of R199. -/
def lensRS (s : State) (c : Nat) : Nat := 8 + 4 * (lensNodes s c).length

/-- CAP of R200. -/
def lensCap (s : State) (c : Nat) : Nat := 4096 * s.fld LENS_CH_BUF_SIZE [c] / lensRS s c

/-- The nodes to which a loop's program has a TRACE. -/
def tracedNodes (s : State) (n : Nat) : List Nat :=
  ((loopProg s n).filter (fun w => opOpc w = 0x1B)).map (fun w => bits (opParam w) 3 0)

/-- The first failing check of an ARM (R201); 0 when none fails. -/
def lensErr (s : State) (c : Nat) : Nat :=
  let n := s.fld LENS_CH_SRC_LOOP [c]
  let base := s.fld LENS_CH_BUF_BASE [c]
  let size := s.fld LENS_CH_BUF_SIZE [c]
  let src := s.fld LENS_CH_TRG_SRC [c]
  let sel := s.fld LENS_CH_TRG_SEL [c]
  if !s.loopBound n then 1
  else if (lensNodes s c).isEmpty || (lensNodes s c).any (fun j => !(tracedNodes s n).contains j) then 2
  else if size = 0 || 2048 < base + size then 3
  else if (List.range 64).any (fun d => d ≠ c && lensBusy s d &&
      base < s.fld LENS_CH_BUF_BASE [d] + s.fld LENS_CH_BUF_SIZE [d] && s.fld LENS_CH_BUF_BASE [d] < base + size) then 4
  else if s.fld LENS_CH_POST_COUNT [c] = 0 ||
      lensCap s c < s.fld LENS_CH_PRE_COUNT [c] + s.fld LENS_CH_POST_COUNT [c] then 5
  else if 6 < src || (src = 1 && 5 < s.fld LENS_CH_TRG_CMP [c]) || (src = 3 && 7 < sel) || (src = 4 && 3 < sel) then 6
  else 0

/-- The registers describe the records with execution numbers at least `lo` (R204). -/
def lensDescribe (c lo : Nat) (s : State) : State :=
  let x := s.lensCh c
  let held := x.recs.filter (fun r => lo ≤ r.1)
  let first := x.wrote - held.length
  let idx := match x.trec with
    | some t => (held.findIdx? (fun r => r.1 = t)).getD 0xFFFFF
    | none => 0xFFFFF
  ((s.setFld LENS_CH_FIRST_OFS (first % max 1 (lensCap s c) * lensRS s c) [c]).setFld LENS_CH_NREC_COUNT
    held.length [c]).setFld LENS_CH_TRGIDX_COUNT idx [c]

/-- The capture of channel c is complete (R204). -/
def lensComplete (c : Nat) (s : State) : State :=
  let x := s.lensCh c
  let lo := (x.trec.getD 0) - s.fld LENS_CH_PRE_COUNT [c]
  (lensDescribe c lo s).setFld LENS_CH_STAT_STATE lensDone [c]

/-- LENS_CAPTURE_LOST: the capture of channel c ends with LOST set (R206). -/
def lensEnd (c : Nat) (s : State) : State :=
  if lensBusy s c then
    let x := s.lensCh c
    let lo := match x.trec with
      | some t => t - s.fld LENS_CH_PRE_COUNT [c]
      | none => 0
    ((lensDescribe c lo s).setFld LENS_CH_STAT_STATE lensDone [c]).raise LENS_CH_STAT_LOST [c]
  else s

/-- The captures of loop n end (R206). -/
def lensLostLoop (n : Nat) (s : State) : State :=
  (List.range 64).foldl (fun s c => if s.fld LENS_CH_SRC_LOOP [c] = n then lensEnd c s else s) s

/-- Every capture ends (R206). -/
def lensLostAll (s : State) : State := (List.range 64).foldl (fun s c => lensEnd c s) s

/-- Give channel c its trigger record: the first held record with T(S) at or after its instant (R202 to R204). -/
def lensLocate (c : Nat) (s : State) : State :=
  let x := s.lensCh c
  match x.trigAt, x.trec with
  | some t, none =>
    match x.recs.find? (fun r => t ≤ tickAt r.2) with
    | none => s
    | some r =>
      let s := s.modLens c (fun x => { x with trec := some r.1 })
      let s := (s.setReg LENS_CH_TTICK_LO (BitVec.ofNat 32 r.2) [c]).setReg LENS_CH_TTICK_HI
        (BitVec.ofNat 32 (r.2 / 2 ^ 32)) [c]
      if s.fld LENS_CH_POST_COUNT [c] ≤ (s.lensCh c).count - r.1 then lensComplete c s else s
  | _, _ => s

/-- LENS_TRIGGER: an ARMED channel triggers at an instant; `by_` is TRIGBY. -/
def lensTrigger (c t by_ : Nat) (s : State) : State :=
  if s.lensState c = lensArmed then
    let s := s.modLens c (fun x => { x with trigAt := some t })
    lensLocate c ((s.setFld LENS_CH_STAT_STATE lensTriggered [c]).setFld LENS_CH_STAT_TRIGBY by_ [c])
  else s

/-- A channel and the ARMED members of its group trigger (R203). -/
def lensTriggerGroup (c t by_ : Nat) (s : State) : State :=
  if s.lensState c ≠ lensArmed then s
  else
    let g := s.fld LENS_CH_TRG_GROUP [c]
    let s := lensTrigger c t by_ s
    if g = 0 then s
    else (List.range 64).foldl (fun s d =>
      if d ≠ c && s.fld LENS_CH_TRG_GROUP [d] = g then lensTrigger d t 1 s else s) s

/-- An external event of source `src` and selector `sel` at an instant triggers the ARMED channels that select it
(R202); `fall` is the polarity of an edge. -/
def lensExternal (src sel t : Nat) (fall : Bool) (s : State) : State :=
  (List.range 64).foldl (fun s c =>
    if s.fld LENS_CH_TRG_SRC [c] = src && (src = 6 || s.fld LENS_CH_TRG_SEL [c] = sel) &&
        (src ≥ 5 || s.isSet LENS_CH_TRG_FALL [c] = fall) then lensTriggerGroup c t 0 s else s) s

/-- The bytes of a record (R199). -/
def lensRecord (s : State) (c start word1 : Nat) (trace : List (Nat × Int)) : List Byte :=
  leBytes 4 start ++ leBytes 4 word1 ++ (lensNodes s c).flatMap (fun j =>
    leBytes 4 (ofInt 32 (((trace.filter (fun x => x.1 = j)).getLast?.map (·.2)).getD 0)))

/-- LENS_RECORD: channel c takes the record of a released execution, written or dropped (R198, R199, R205). -/
def lensTake (c start word1 : Nat) (trace : List (Nat × Int)) (s : State) : State :=
  if !lensBusy s c then s
  else
    let x := s.lensCh c
    let cap := lensCap s c
    let num := x.count
    let ok := s.powered .lens
    let s := if ok then
        let a := lensBase + 4096 * s.fld LENS_CH_BUF_BASE [c] + x.wrote % max 1 cap * lensRS s c
        let s := s.setBytes a (lensRecord s c start word1 trace)
        let s := s.modLens c (fun x => { x with wrote := x.wrote + 1,
                                                 recs := (x.recs ++ [(num, start)]).drop (x.recs.length + 1 - cap) })
        (s.incr LENS_CH_REC_COUNT [c]).incr LENS_RECTOT_COUNT
      else ((s.incr LENS_CH_DROP_COUNT [c]).incr LENS_DROPTOT_COUNT).raise LENS_CH_STAT_DROPF [c]
    let s := s.modLens c (fun x => { x with count := num + 1 })
    let src := s.fld LENS_CH_TRG_SRC [c]
    let node := s.fld LENS_CH_TRG_NODE [c]
    let v := trace.filter (fun y => y.1 = node)
    let hit := match v.getLast? with
      | some y => cmpInt (s.fld LENS_CH_TRG_CMP [c]) y.2 (sx 32 (s.reg LENS_CH_THR [c]).toNat)
      | none => false
    let own := (src = 1 && hit && x.armed0) || (src = 2 && (word1 &&& s.fld LENS_CH_TRG_FLAGS [c]) ≠ 0)
    let s := if src = 1 && !v.isEmpty && !hit then s.modLens c (fun x => { x with armed0 := true }) else s
    let s := if own then lensTriggerGroup c (tickAt start) 0 s else lensLocate c s
    match (s.lensCh c).trec with
    | some t => if s.lensState c = lensTriggered && s.fld LENS_CH_POST_COUNT [c] ≤ (s.lensCh c).count - t
        then lensComplete c s else s
    | none => s

/-- A released execution of loop n gives each channel that traces it one record (R198). -/
def lensRelease (n start word1 : Nat) (trace : List (Nat × Int)) (s : State) : State :=
  (List.range 64).foldl (fun s c =>
    if s.fld LENS_CH_SRC_LOOP [c] = n && lensBusy s c then lensTake c start word1 trace s else s) s

/-- ARM (R201): the settings are checked, the result registers cleared, the channel ARMED or left IDLE with ERR. -/
def lensArm (c : Nat) (s : State) : State :=
  let s := s.setFld LENS_CH_STAT_STATE lensIdle [c]
  let e := lensErr s c
  if e ≠ 0 then s.setFld LENS_CH_STAT_ERR e [c]
  else
    let s := (((s.setReg LENS_CH_FIRST 0 [c]).setReg LENS_CH_NREC 0 [c]).setReg LENS_CH_TRGIDX 0xFFFFF [c])
    let s := (s.setReg LENS_CH_TTICK_LO 0 [c]).setReg LENS_CH_TTICK_HI 0 [c]
    let s := ((s.lower LENS_CH_STAT_ERR [c]).lower LENS_CH_STAT_LOST [c]).lower LENS_CH_STAT_TRIGBY [c]
    (s.modLens c (fun _ => {})).setFld LENS_CH_STAT_STATE lensArmed [c]

/-- DISARM (R204): IDLE at once; the registers describe the records since the ARM. -/
def lensDisarm (c : Nat) (s : State) : State :=
  if lensBusy s c || s.lensState c = lensDone then
    let s := s.modLens c (fun x => { x with trec := none })
    (lensDescribe c 0 s).setFld LENS_CH_STAT_STATE lensIdle [c]
  else s.setFld LENS_CH_STAT_STATE lensIdle [c]

/-- The rule of LENS_CH_c_CTL: ARM, then FORCE, then DISARM. -/
def lensCtlAct : Act := fun _ ix w s =>
  let c := ix.headD 0
  let s := if LENS_CH_CTL_DROPF_CLR.on w then s.lower LENS_CH_STAT_DROPF [c] else s
  let s := if LENS_CH_CTL_ARM.on w then lensArm c s else s
  let s := if LENS_CH_CTL_FORCE.on w then lensTriggerGroup c s.now 2 s else s
  .ok (if LENS_CH_CTL_DISARM.on w then lensDisarm c s else s)

/-- Settings of a channel: not while it is ARMED or TRIGGERED (R201). -/
def lensSetAct (r : Reg) : Act := fun _ ix w s =>
  if lensBusy s (ix.headD 0) then .badState s else .ok (s.store r ix w)

/-- LENS_ARM (R201). -/
def execLensArm (m : Master) (c : Fin 64) (s : State) : Host.Outcome State Fault Refusal :=
  run [.lens] (regCmd lensCtlAct m LENS_CH_CTL [c.val] 1) s

/-- LENS_DISARM (R204). -/
def execLensDisarm (m : Master) (c : Fin 64) (s : State) : Host.Outcome State Fault Refusal :=
  run [.lens] (regCmd lensCtlAct m LENS_CH_CTL [c.val] 2) s

/-- LENS_FORCE (R202). -/
def execLensForce (m : Master) (c : Fin 64) (s : State) : Host.Outcome State Fault Refusal :=
  run [.lens] (regCmd lensCtlAct m LENS_CH_CTL [c.val] 4) s

/-- LOOP_BIND: a write of LOOP_CMD with OP BIND and GO (05 R178). -/
def execLoopBind (m : Master) (n : Fin 1024) (s : State) : Host.Outcome State Fault Refusal :=
  run [.loop] (regCmd (loopCmdAct lensLostLoop) m LOOP_CMD [] (BitVec.ofNat 32 (2 ^ 31 + 1 * 2 ^ 16 + n.val))) s

/-- LOOP_UNBIND: a write of LOOP_CMD with OP UNBIND and GO (05 R178). -/
def execLoopUnbind (m : Master) (n : Fin 1024) (s : State) : Host.Outcome State Fault Refusal :=
  run [.loop] (regCmd (loopCmdAct lensLostLoop) m LOOP_CMD [] (BitVec.ofNat 32 (2 ^ 31 + 2 * 2 ^ 16 + n.val))) s

/-- LOOP_CHECK: a write of LOOP_CMD with OP CHECK and GO (05 R178). -/
def execLoopCheck (m : Master) (n : Fin 1024) (s : State) : Host.Outcome State Fault Refusal :=
  run [.loop] (regCmd (loopCmdAct lensLostLoop) m LOOP_CMD [] (BitVec.ofNat 32 (2 ^ 31 + 3 * 2 ^ 16 + n.val))) s

end Sys2Proof.Machine
end

