-- ==== Sys2Proof/Machine/Float.lean ====
section
/-!
DEFINITION. binary32 arithmetic with rounding modes and flags (14 R385, R386), after IEEE 754-2019: every operation is
computed exactly on `±m × 2^e` and rounded once. Also the sine-free helpers of 07 R220: cosine and argument, each
the exact value rounded once.
-/
namespace Sys2Proof.Machine

/-- A binary32 result and the flags that it raises: bit 0 NV, 1 DZ, 2 OF, 3 UF, 4 NX (14, FPCR). -/
structure FRes where
  val   : Nat
  flags : Nat
  deriving DecidableEq, Repr

/-- The canonical NaN (R385). -/
def fNaN : Nat := 0x7FC00000
/-- NV. -/
def fNV : Nat := 1
/-- DZ. -/
def fDZ : Nat := 2

/-- Whether a binary32 word is a signalling NaN. -/
def fIsSNaN (v : Nat) : Bool := fIsNan v && !bit v 22
/-- Whether a binary32 word is a subnormal number. -/
def fIsSub (v : Nat) : Bool := bits v 30 23 = 0 && bits v 22 0 ≠ 0

/-- An operand as FTZ takes it. -/
def fIn (ftz : Bool) (v : Nat) : Nat := if ftz && fIsSub v then b2n (fSign v) * 2 ^ 31 else v

/-- `m ÷ 2ⁿ` rounded to an integer in a rounding mode (0 nearest even, 1 towards zero, 2 towards +∞, 3 towards −∞),
and whether it is inexact; `sticky` says that a non-zero part lies below. -/
def fShift (rm : Nat) (neg : Bool) (m n : Nat) (sticky : Bool) : Nat × Bool :=
  let q := m / 2 ^ n
  let r := m % 2 ^ n
  let inex := r ≠ 0 || sticky
  let up := match rm with
    | 0 => n ≠ 0 && (2 ^ (n - 1) < r || (r = 2 ^ (n - 1) && (sticky || q % 2 = 1)))
    | 1 => false
    | 2 => inex && !neg
    | _ => inex && neg
  (if up then q + 1 else q, inex)

/-- The word of `q × 2^(ex − 23)` for a 24-bit `q`. -/
def fPack (neg : Bool) (q : Nat) (ex : Int) : Nat := b2n neg * 2 ^ 31 + (ex + 127).toNat * 2 ^ 23 + (q - 2 ^ 23)

/-- Round `±m × 2^e` to binary32: tininess after rounding, overflow by rounding mode, FTZ (R385). -/
def fpRound (rm : Nat) (ftz : Bool) (neg : Bool) (m : Nat) (e : Int) (sticky : Bool) : FRes :=
  let sg := b2n neg * 2 ^ 31
  if m = 0 then { val := sg, flags := 0 }
  else
    -- at least 26 bits, so that rounding to 24 always drops bits below
    let k := 26 - bitLen m
    let m := m * 2 ^ k
    let e := e - k
    let l := bitLen m
    let ex : Int := l - 1 + e
    let r := fShift rm neg m (l - 24) sticky
    let ex' := if r.1 = 2 ^ 24 then ex + 1 else ex
    let q' := if r.1 = 2 ^ 24 then 2 ^ 23 else r.1
    if ex' < -126 then
      let sh := (-149 - e).toNat
      let t := fShift rm neg m sh sticky
      if ftz && t.1 < 2 ^ 23 && (t.1 ≠ 0 || t.2) then { val := sg, flags := 8 + 16 }
      else { val := sg + t.1, flags := if t.2 then 8 + 16 else 0 }
    else if 127 < ex' then
      let inf := rm = 0 || (rm = 2 && !neg) || (rm = 3 && neg)
      { val := sg + if inf then 0x7F800000 else 0x7F7FFFFF, flags := 4 + 16 }
    else { val := fPack neg q' ex', flags := if r.2 then 16 else 0 }

/-- The NaN result of operands of which one is a NaN: NV for a signalling one. -/
def fNanRes (ops : List Nat) : FRes := { val := fNaN, flags := b2n (ops.any fIsSNaN) }

/-- An invalid operation. -/
def fInvalid : FRes := { val := fNaN, flags := fNV }

/-- The exact sum of two signed dyadics, rounded. `z` is the sign of an exact zero. -/
def fSum (rm : Nat) (ftz : Bool) (a : Int) (ea : Int) (b : Int) (eb : Int) (z : Bool) : FRes :=
  let e := min ea eb
  let s := a * 2 ^ (ea - e).toNat + b * 2 ^ (eb - e).toNat
  if s = 0 then { val := b2n z * 2 ^ 31, flags := 0 } else fpRound rm ftz (s < 0) s.natAbs e false

/-- The sign of an exact zero sum of operands with these signs. -/
def zeroSign (rm : Nat) (sa sb : Bool) : Bool := if sa = sb then sa else rm = 3

/-- FADD. -/
def fAdd (rm : Nat) (ftz : Bool) (a b : Nat) : FRes :=
  let a := fIn ftz a
  let b := fIn ftz b
  if fIsNan a || fIsNan b then fNanRes [a, b]
  else if fIsInf a then (if fIsInf b && fSign a ≠ fSign b then fInvalid else { val := a, flags := 0 })
  else if fIsInf b then { val := b, flags := 0 }
  else
    let x := fUnpack a
    let y := fUnpack b
    let z := if fIsZero a && fIsZero b then zeroSign rm (fSign a) (fSign b) else rm = 3
    fSum rm ftz x.1 (x.2 - 149) y.1 (y.2 - 149) z

/-- FNEG: the sign bit inverted. -/
def fNeg (a : Nat) : Nat := a ^^^ 2 ^ 31

/-- FSUB. -/
def fSub (rm : Nat) (ftz : Bool) (a b : Nat) : FRes :=
  if fIsNan b then fAdd rm ftz a b else fAdd rm ftz a (fNeg b)

/-- FMUL. -/
def fMul (rm : Nat) (ftz : Bool) (a b : Nat) : FRes :=
  let a := fIn ftz a
  let b := fIn ftz b
  let neg := fSign a ≠ fSign b
  if fIsNan a || fIsNan b then fNanRes [a, b]
  else if fIsInf a || fIsInf b then
    (if fIsZero a || fIsZero b then fInvalid else { val := b2n neg * 2 ^ 31 + 0x7F800000, flags := 0 })
  else
    let x := fUnpack a
    let y := fUnpack b
    fpRound rm ftz neg (x.1.natAbs * y.1.natAbs) (x.2 + y.2 - 298) false

/-- FDIV. -/
def fDiv (rm : Nat) (ftz : Bool) (a b : Nat) : FRes :=
  let a := fIn ftz a
  let b := fIn ftz b
  let neg := fSign a ≠ fSign b
  let sg := b2n neg * 2 ^ 31
  if fIsNan a || fIsNan b then fNanRes [a, b]
  else if fIsInf a then (if fIsInf b then fInvalid else { val := sg + 0x7F800000, flags := 0 })
  else if fIsInf b then { val := sg, flags := 0 }
  else if fIsZero b then (if fIsZero a then fInvalid else { val := sg + 0x7F800000, flags := fDZ })
  else
    let x := fUnpack a
    let y := fUnpack b
    let n := x.1.natAbs * 2 ^ 60
    let d := y.1.natAbs
    fpRound rm ftz neg (n / d) ((x.2 : Int) - y.2 - 60) (n % d ≠ 0)

/-- FSQRT. -/
def fSqrt (rm : Nat) (ftz : Bool) (a : Nat) : FRes :=
  let a := fIn ftz a
  if fIsNan a then fNanRes [a]
  else if fIsZero a then { val := a, flags := 0 }
  else if fSign a then fInvalid
  else if fIsInf a then { val := a, flags := 0 }
  else
    let x := fUnpack a
    let e : Int := x.2 - 149
    let odd := e % 2 ≠ 0
    let m := x.1.natAbs * 2 ^ 60 * (if odd then 2 else 1)
    let r := isqrt 48 m
    fpRound rm ftz false r ((e - (if odd then 1 else 0) - 60) / 2) (r * r ≠ m)

/-- FMADD: `c + a × b` with a single rounding. -/
def fMadd (rm : Nat) (ftz : Bool) (c a b : Nat) : FRes :=
  let a := fIn ftz a
  let b := fIn ftz b
  let c := fIn ftz c
  let neg := fSign a ≠ fSign b
  let bad := (fIsInf a && fIsZero b) || (fIsZero a && fIsInf b)
  if bad then fInvalid
  else if fIsNan a || fIsNan b || fIsNan c then fNanRes [a, b, c]
  else if fIsInf a || fIsInf b then
    (if fIsInf c && fSign c ≠ neg then fInvalid else { val := b2n neg * 2 ^ 31 + 0x7F800000, flags := 0 })
  else if fIsInf c then { val := c, flags := 0 }
  else
    let x := fUnpack a
    let y := fUnpack b
    let w := fUnpack c
    let pz := fIsZero a || fIsZero b
    let z := if pz && fIsZero c then zeroSign rm neg (fSign c) else rm = 3
    fSum rm ftz (x.1 * y.1) (x.2 + y.2 - 298) w.1 (w.2 - 149) z

/-- FMIN or FMAX (R386). -/
def fMinMax (mx : Bool) (ftz : Bool) (a b : Nat) : FRes :=
  let a := fIn ftz a
  let b := fIn ftz b
  let nv := b2n (fIsSNaN a || fIsSNaN b)
  let less := fKey a < fKey b || (fKey a = fKey b && fSign a && !fSign b)
  let v := if fIsNan a && fIsNan b then fNaN else if fIsNan a then b else if fIsNan b then a
    else if less = mx then b else a
  { val := v, flags := nv }

/-- FCMPEQ, FCMPLT and FCMPLE by the codes of `cmpF32` (0 EQ, 2 LT, 3 LE). -/
def fCmp (op : Nat) (ftz : Bool) (a b : Nat) : FRes :=
  let a := fIn ftz a
  let b := fIn ftz b
  let nv := if op = 0 then fIsSNaN a || fIsSNaN b else fIsNan a || fIsNan b
  { val := b2n (cmpF32 op a b), flags := b2n nv }

/-- A finite or infinite word times 2ᵏ as a rounded integer clamped to 32 signed bits: value, clamped, inexact. -/
def fToInt (rm k v : Nat) : Int × Bool × Bool :=
  if fIsInf v then (if fSign v then satMin else satMax, true, false)
  else
    let u := fUnpack v
    let e : Int := (u.2 : Int) - 149 + k
    let r := if 0 ≤ e then (u.1.natAbs * 2 ^ e.toNat, false) else fShift rm (fSign v) u.1.natAbs (-e).toNat false
    let i : Int := if fSign v then -(r.1 : Int) else r.1
    let c := sat32 i
    (c.1, c.2, r.2)

/-- FCVTWS. -/
def fToWord (rm : Nat) (ftz : Bool) (a : Nat) : FRes :=
  let a := fIn ftz a
  if fIsNan a then { val := 0, flags := fNV }
  else
    let r := fToInt rm 0 a
    { val := ofInt 32 r.1, flags := if r.2.1 then fNV else if r.2.2 then 16 else 0 }

/-- FCVTSW and FCVTSQ: a signed word times 2⁻ᵏ. -/
def fOfInt (rm : Nat) (ftz : Bool) (k : Nat) (a : Nat) : FRes :=
  let i := sx 32 a
  fpRound rm ftz (i < 0) i.natAbs (-(k : Int)) false

/-- FCVTQS: the value, and whether CVT is set. -/
def fToQ (rm : Nat) (ftz : Bool) (a : Nat) : Nat × Bool :=
  let a := fIn ftz a
  if fIsNan a then (0, true)
  else
    let r := fToInt rm 30 a
    (ofInt 32 r.1, r.2.1)

/-! ### Argument and cosine, in units of 2⁻⁶⁰ -/

/-- One in units of 2⁻⁶⁰. -/
def fxOne : Nat := 2 ^ 60

/-- π in units of 2⁻⁶⁰. -/
def fxPi : Nat := 3622009729038561421

/-- The series of the arc tangent of a small `x`: `x − x³/3 + x⁵/5 − …`. -/
def atanSeries : Nat → Int → Int → Nat → Int
  | 0, _, _, _ => 0
  | f + 1, p, x2, k => p / k - atanSeries f (p * x2 / fxOne) x2 (k + 2)

/-- The arc tangent of `x` from 0 to 1: three halvings of the angle, then the series. -/
def fxAtan (x : Nat) : Int :=
  let half := fun (x : Nat) => x * fxOne / (fxOne + isqrt 64 (fxOne * fxOne + x * x))
  let y := half (half (half x))
  8 * atanSeries 16 y ((y * y / fxOne : Nat) : Int) 1

/-- The argument of `re + i·im` divided by π, in units of 2⁻⁶⁰; 0 for the origin. -/
def fxArg (re im : Int) : Int :=
  let a := re.natAbs
  let b := im.natAbs
  if a = 0 && b = 0 then 0
  else
    let t : Int := if b ≤ a then fxAtan (b * fxOne / a) else (fxPi : Int) / 2 - fxAtan (a * fxOne / b)
    let u := t * fxOne / fxPi
    let v := if re < 0 then (fxOne : Int) - u else u
    if im < 0 then -v else v

/-- The series of the cosine: `1 − x²/2 + x⁴/24 − …`. -/
def cosSeries : Nat → Int → Int → Nat → Int
  | 0, _, _, _ => 0
  | f + 1, p, x2, k => p - cosSeries f (p * x2 / fxOne / ((k + 1) * (k + 2))) x2 (k + 2)

/-- The cosine of π × `y` for `y` in units of 2⁻⁶⁰. -/
def fxCosPi (y : Int) : Int :=
  let x := (y.natAbs % (2 * fxOne)) * fxPi / fxOne
  cosSeries 28 fxOne ((x * x / fxOne : Nat) : Int) 0

end Sys2Proof.Machine
end

