-- ==== Sys2Proof/Machine/Rfa.lean ====
section
/-!
DEFINITION. RF channels (07 R208 to R221): samples and their interleave correction, calibration blocks, tones, impedance and
power. Converter codes come with the commands; the error that a block measures comes with it, and the filters whose
coefficients the spec does not give are free values.
-/
namespace Sys2Proof.Machine

/-- Channel n beside its registers. -/
def State.rfCh (s : State) (n : Nat) : RfChan := nth s.rf n {}

/-- Change channel n. -/
def State.modRf (s : State) (n : Nat) (f : RfChan → RfChan) : State := { s with rf := modNth s.rf n f }

/-- Whether clock input i serves: it is present, and for SMPCLK (2) and SDREFCLK (3) its PLL is locked (03 R83, R85). -/
def State.clkPresent (s : State) (i : Nat) : Bool :=
  bit (s.fld CLK_STAT_PRESENT) i && (i < 2 || bit (s.fld CLK_STAT_LOCK) (i + 2))

/-- Whether channel n runs (R210). -/
def rfRuns (s : State) (n : Nat) : Bool := s.isSet RFA_CH_CFG_EN [n] && s.domOn 7 && s.clkPresent 2

/-- RFA_STAT.RUN and CONV follow the channels. -/
def rfaMirror (s : State) : State :=
  let f := fun (p : Nat → Bool) => (List.range 4).foldl (fun a n => a + b2n (p n) * 2 ^ n) 0
  (s.setFld RFA_STAT_RUN (f (rfRuns s))).setFld RFA_STAT_CONV (f (fun n => s.isSet RFA_CH_CALSTAT_CONV [n]))

/-- Clear CONV of channel n; the movement of its estimates counts from here (R214). -/
def clearConv (n : Nat) (s : State) : State :=
  rfaMirror ((s.lower RFA_CH_CALSTAT_CONV [n]).modRf n (fun c => { c with hist := [c.est] }))

/-- The range of each estimate (R211) in units of 2⁻¹⁶ of its register unit: offset, gain, skew, bandwidth. -/
def estRange : List Int := [16384 * 65536, 2061584302, 20000 * 65536, 5000 * 65536]

/-- The convergence band of each estimate (R214), in the same units. -/
def estBand : List Int := [64 * 65536, 1374389, 200 * 65536, 20 * 65536]

/-- Eight values held at mean zero and within ±`r` (R211): the mean is taken off each, what the division leaves off the first
ones, and what a limit cuts off one value moves to the next that has room. -/
def balance (r : Int) (l : List Int) : List Int :=
  let sum := l.foldl (· + ·) 0
  let c := l.zipIdx.map (fun p => p.1 - sum / 8 - if (p.2 : Int) < sum % 8 then 1 else 0)
  let cut := c.map (fun v => max (-r) (min r v))
  (cut.foldl (fun (a : Int × List Int) v =>
    let w := max (-r) (min r (v + a.1))
    (a.1 + v - w, a.2 ++ [w])) (c.foldl (· + ·) 0 - cut.foldl (· + ·) 0, [])).2

/-- The 32 values of a channel, each kind of estimate balanced over the slices (R211). -/
def balanced (l : List Int) : List Int :=
  let kinds := (List.range 4).map (fun k => balance (nth estRange k 0) ((List.range 8).map (fun q => nth l (4 * q + k) 0)))
  (List.range 32).map (fun i => nth (nth kinds (i % 4) []) (i / 4) 0)

/-- 32 free values, within the ranges of the estimates and balanced. -/
def drawEst (s : State) : List Int × State :=
  let x := (List.range 32).foldl (fun (a : List Int × State) i =>
    let d := a.2.draw
    let r := nth estRange (i % 4) 0
    (a.1 ++ [(d.1 : Int) % (2 * r + 1) - r], d.2)) ([], s)
  (balanced x.1, x.2)

/-- Load the trim values of channel n (R213), which the maker measured: free values. -/
def loadTrim (n : Nat) (s : State) : State :=
  let x := drawEst s
  clearConv n (x.2.modRf n (fun c => { c with est := x.1, lastBlk := none, lastQ := s.now }))

/-! ### Samples (R208, R211) -/

/-- A sample at either end of the code range is over range (R208). -/
def overRange (c : BitVec 12) : Bool := c = 0x800#12 || c = 0x7FF#12

/-- What the four terms are for estimate i of a channel: the estimate with its feed-forward term (R211, R213). -/
def coeff (c : RfChan) (i : Nat) : Int := nth c.est i 0 + nth c.ff i 0

/-- The samples of channel n behind the correction chain, for codes of which the first is of slice 0 (R208, R211, R212): the
offset is subtracted, the gain multiplied, the skew and the bandwidth equalised. In BYPASS no correction is applied. -/
def corrected (s : State) (n : Nat) (codes : List (BitVec 12)) : List Int :=
  if s.fld RFA_CH_CFG_CALMODE [n] = 2 then codes.map (·.toInt)
  else
    let c := s.rfCh n
    let xs := codes.zipIdx.map (fun p =>
      let q := 4 * (p.2 % 8)
      ((p.1.toInt * 2 ^ 24 - coeff c q) * (2 ^ 36 + coeff c (q + 1)) / 2 ^ 36, coeff c (q + 2), coeff c (q + 3)))
    (List.range xs.length).map (fun i => max (-2048) (min 2047 (rshRound (Config.sliceFilter xs i) 24)))

/-- FROZEN by CALMODE and by the age of the last qualified block (R214). -/
def setFrozen (n : Nat) (s : State) : State :=
  let c := s.rfCh n
  s.setFld RFA_CH_CALSTAT_FROZEN (match s.fld RFA_CH_CFG_CALMODE [n] with
    | 1 => 1
    | 2 => 3
    | _ => if c.lastQ + 100000000 * nsF ≤ s.now then 2 else 0) [n]

/-- The largest movement of estimate `i` over the history. -/
def estMove (hist : List (List Int)) (i : Nat) : Int :=
  let vs := hist.map (fun e => nth e i 0)
  match vs with
  | [] => 0
  | v :: t => t.foldl max v - t.foldl min v

/-- The estimates after a qualified block in ADAPT: each moves by 2^−(6+MU) of the error, the mean over the slices is
held at zero, and each stays in its range (R211, R212). -/
def adapt (mu : Nat) (est err : List Int) : List Int :=
  balanced ((List.range 32).map (fun i => nth est i 0 + nth err i 0 / 2 ^ (6 + mu)))

/-- Whether an estimate stands at its limit. -/
def atLimit (est : List Int) : Bool :=
  (List.range 32).any (fun i => (nth est i 0).natAbs = (nth estRange (i % 4) 0).natAbs)

/-- A block that qualifies (R212, R214): it counts, the estimates adapt in ADAPT and are kept in FREEZE and BYPASS, and
convergence is judged over the last 256 qualified blocks: their estimates and those before them. -/
def calQualified (n : Nat) (err : List Int) (s : State) : State :=
  let mode := s.fld RFA_CH_CFG_CALMODE [n]
  let c := s.rfCh n
  let s := s.incr RFA_CH_CALSTAT_QBLK [n]
  let est := if mode = 0 then adapt (s.fld RFA_CH_CFG_MU [n]) c.est err else c.est
  let hist := (est :: c.hist).take 257
  let s := s.modRf n (fun c => { c with est := est, hist := hist, lastQ := s.now })
  let s := s.setFld RFA_CH_CALSTAT_LIMF (b2n (atLimit est)) [n]
  let over2 := (List.range 32).any (fun i => 2 * nth estBand (i % 4) 0 < estMove hist i)
  let calm := (List.range 32).all (fun i => estMove hist i ≤ nth estBand (i % 4) 0)
  let s := if mode ≠ 0 then s
    else if over2 then s.lower RFA_CH_CALSTAT_CONV [n]
    else if hist.length = 257 && calm then s.raise RFA_CH_CALSTAT_CONV [n]
    else s
  rfaMirror (setFrozen n s)

/-- The power of a block, as the sum of the squares of its codes. -/
def power (codes : List (BitVec 12)) : Nat := codes.foldl (fun a c => a + c.toInt.natAbs * c.toInt.natAbs) 0

/-- Whether the RMS level of a block is at least −40 dBFS, where a sine whose peaks reach full scale has 0 dBFS (R212). -/
def loudBlock (codes : List (BitVec 12)) : Bool := 2048 * 2048 * codes.length ≤ 2 * 10000 * power codes

/-- Line k of the discrete spectrum of a block: its squared magnitude. -/
def spectral (codes : List (BitVec 12)) (k : Nat) : Nat :=
  let n := codes.length
  let sum := fun (f : Nat → Int) => codes.zipIdx.foldl (fun (a : Int) p => a + p.1.toInt * f (p.2 * k % n)) 0 / 2 ^ 60
  let re := sum (fun m => fxCosPi (m * 2 ^ 61 / n))
  let im := sum (fun m => fxCosPi ((m * 2 ^ 61 / n : Nat) - (2 ^ 59 : Int)))
  (re * re + im * im).toNat

/-- Whether at most 90 % of the power of a block lies within ±2 MHz of any multiple of 250 MHz (R212): the lines of its spectrum
are 4 GHz ÷ 65,536 apart, 4,096 to 250 MHz, and 32 lie within 2 MHz. -/
def spreadBlock (codes : List (BitVec 12)) : Bool :=
  let n := codes.length
  let near := (List.range n).filter (fun k => k % 4096 ≤ 32 || 4064 ≤ k % 4096)
  10 * near.foldl (fun a k => a + spectral codes k) 0 ≤ 9 * n * power codes

/-- A block is qualified (R212). -/
def qualifiedBlock (codes : List (BitVec 12)) : Bool := loudBlock codes && !codes.any overRange && spreadBlock codes

/-- The error that a block measures, in the order of the estimates: offset and gain of each slice in `a`, skew and bandwidth in
`b`. -/
def blockError (a b : List Int) : List Int :=
  (List.range 8).flatMap (fun q => [nth a (2 * q) 0, nth a (2 * q + 1) 0, nth b (2 * q) 0, nth b (2 * q + 1) 0])

/-- CAL_BLOCK (R212, R214): the estimator takes a block of 65,536 samples of channel n, the first of slice 0, that began `age`
(2⁻¹⁶ ns) ago. `errA` and `errB` are the error that it measures, by a method that the spec does not give; `resid` is the
estimator's spur figure. -/
def execCalBlock (n : Fin 4) (codes : List (BitVec 12)) (age : BitVec 32) (errA errB : List Int) (resid : BitVec 8)
    (s : State) : Host.Outcome State Fault Refusal :=
  run [.rfa] (fun s =>
    let n := n.val
    let t := s.now - age.toNat
    if !rfRuns s n || ((s.rfCh n).lastBlk.any (fun b => t < b + 32000 * nsF)) then s
    else
      let s := if codes.any overRange then s.raise RFA_STAT_OVRF else s
      let s := s.modRf n (fun c => { c with lastBlk := some t })
      let s := s.setFld RFA_CH_CALSTAT_RESID resid.toNat [n]
      if qualifiedBlock codes then calQualified n (blockError errA errB) s else setFrozen n s) s

/-- CAL_FEEDFORWARD (R213): in every mode other than BYPASS the chain adds a temperature feed-forward term to each estimate
(`coeff`), of which the spec states no value. -/
def execCalFeedforward (s : State) : Host.Outcome State Fault Refusal :=
  run [.rfa] (fun s => (List.range 4).foldl (fun s n =>
    if rfRuns s n then
      let s := if s.fld RFA_CH_CFG_CALMODE [n] = 2 then s
        else let d := drawEst s
             d.2.modRf n (fun c => { c with ff := d.1 })
      setFrozen n s
    else s) s) s

/-- The rule of RFA_CH_n_CALCTL: RESTART reloads the trim values (R213), SAMPLE asks for a copy (R217). -/
def calCtlAct : Act := fun _ ix w s =>
  let n := ix.headD 0
  let s := if RFA_CH_CALCTL_RESTART.on w then loadTrim n s else s
  .ok (if RFA_CH_CALCTL_SAMPLE.on w then
    (s.lower RFA_CH_CALSTAT_SAMPLED [n]).modRf n (fun c => { c with sample := true }) else s)

/-- CAL_RESTART: writing RFA_CH_n_CALCTL.RESTART (R213). -/
def execCalRestart (m : Master) (n : Fin 4) (s : State) : Host.Outcome State Fault Refusal :=
  run [.rfa] (regCmd calCtlAct m RFA_CH_CALCTL [n.val] 2) s

/-- CAL_SAMPLE: writing RFA_CH_n_CALCTL.SAMPLE (R217). -/
def execCalSample (m : Master) (n : Fin 4) (s : State) : Host.Outcome State Fault Refusal :=
  run [.rfa] (regCmd calCtlAct m RFA_CH_CALCTL [n.val] 1) s

/-- An estimate in its register unit, rounded to nearest. -/
def estReg (e : Int) : Nat := ofInt 16 (rshRound e 16)

/-- CAL_SAMPLE_DONE (R217): a requested copy of the 32 estimates is taken at a block boundary. -/
def execCalSampleDone (n : Fin 4) (s : State) : Host.Outcome State Fault Refusal :=
  run [.rfa] (fun s =>
    let n := n.val
    let c := s.rfCh n
    if c.sample then
      let s := (List.range 8).foldl (fun s q =>
        let e := fun k => estReg (nth c.est (4 * q + k) 0)
        (s.setReg RFA_CH_EST_A (BitVec.ofNat 32 (e 0 * 65536 + e 1)) [n, q]).setReg RFA_CH_EST_B
          (BitVec.ofNat 32 (e 2 * 65536 + e 3)) [n, q]) s
      (s.raise RFA_CH_CALSTAT_SAMPLED [n]).modRf n (fun c => { c with sample := false })
    else s) s

/-! ### Registers -/

/-- What a change of EN of channel n does, where it was `old` (R210, R214, R222): a channel that is enabled starts with CONV clear
and a new arc reference; one that is disabled owes its last tone item. -/
def enChange (n : Nat) (old : Bool) (s : State) : State :=
  let new := s.isSet RFA_CH_CFG_EN [n]
  if new = old then s
  else if new then
    clearConv n (s.modRf n (fun c =>
      { c with ends := false, lastBlk := none, lastQ := s.now, arcRef := none, dropN := 0, riseN := 0 }))
  else rfaMirror (s.modRf n (fun c => { c with ends := true }))

/-- The rule of RFA_CH_n_CFG: CALMODE 0b11 is refused; EN and a change of CALMODE act (R210, R212, R214). -/
def rfaCfgAct : Act := fun _ ix w s =>
  let n := ix.headD 0
  if RFA_CH_CFG_CALMODE.of w = 3 then .badValue s
  else
    let old := s.fld RFA_CH_CFG_CALMODE [n]
    let en := s.isSet RFA_CH_CFG_EN [n]
    let s := s.store RFA_CH_CFG ix w
    let new := s.fld RFA_CH_CFG_CALMODE [n]
    let s := if new ≠ old && new = 2 then clearConv n s else s
    .ok (setFrozen n (enChange n en s))

/-- Whether a binary32 word is positive and finite. -/
def fPositive (v : Nat) : Bool := !fIsNan v && !fIsInf v && !fIsZero v && !fSign v

/-- SCALE, ZFS and PFS: a value that is not positive and finite is refused. -/
def scaleAct (r : Reg) : Act := fun _ ix w s => if fPositive w.toNat then .ok (s.store r ix w) else .badValue s

/-- The rule of RFA_CH_n_ARC. -/
def rfaArcAct : Act := fun _ ix w s =>
  let d := RFA_CH_ARC_DWELL.of w
  if d = 0 || 10 < d || (RFA_CH_ARC_RISEEN.on w && RFA_CH_ARC_RISETHR.of w ≤ 32) then .badValue s
  else .ok (s.store RFA_CH_ARC ix w)

/-- The rule of RFA_CH_n_ARCOUT: HOLD of 0 is refused. -/
def rfaArcoutAct : Act := fun _ ix w s =>
  if RFA_CH_ARCOUT_HOLD.of w = 0 then .badValue s else .ok (s.store RFA_CH_ARCOUT ix w)

/-- A signal base that would run past SID 262,143 is refused. -/
def sidBaseAct (r : Reg) (count : Nat) : Act := fun _ ix w s =>
  if 262144 < bits w.toNat 17 0 + count then .badValue s else .ok (s.store r ix w)

/-- The rule of RFA_TONE_n_k_FREQ: above 1.8 GHz refused; a change makes the tone uncertain for four ticks (R221). -/
def toneFreqAct : Act := fun _ ix w s =>
  if 0x73333333 < w.toNat then .badValue s
  else
    let n := ix.headD 0
    let s' := s.store RFA_TONE_FREQ ix w
    .ok (if s'.reg RFA_TONE_FREQ ix = s.reg RFA_TONE_FREQ ix then s'
      else s'.modRf n (fun c => { c with chg := putKey c.chg (nth ix 1 0) s.tick }))

/-- The rule of RFA_TONE_n_k_CFG: BW 0b11 refused. -/
def toneCfgAct : Act := fun _ ix w s =>
  if RFA_TONE_CFG_BW.of w = 3 then .badValue s
  else
    let n := ix.headD 0
    let s' := s.store RFA_TONE_CFG ix w
    .ok (if s'.fld RFA_TONE_CFG_BW ix = s.fld RFA_TONE_CFG_BW ix then s'
      else s'.modRf n (fun c => { c with chg := putKey c.chg (nth ix 1 0) s.tick }))

/-! ### Tones -/

/-- The enabled tones of channel n. -/
def tonesOn (s : State) (n : Nat) : List Nat := (List.range 8).filter (fun k => s.isSet RFA_TONE_CFG_EN [n, k])

/-- A status word (01 R23) of a tone signal: QUAL, SAT, AGE 1. -/
def toneStat (qual : Nat) (sat : Bool) : Nat := qual * 2 ^ 14 + b2n sat * 2 ^ 13 + 1

/-- MAG: the magnitude of the mean of five results in units of 2⁻³⁰, in binary32 and then Q1.30 (R220). -/
def toneMag (re im : Int) : Int × Bool :=
  let x := (re * re + im * im).toNat * 2 ^ 40
  let r := isqrt 64 x
  f32ToQ30 (fpRound 0 false false (r / 5) (-50) (r % 5 ≠ 0 || r * r ≠ x)).val

/-- Wrap a value in units of 2⁻³⁰ of π into [−1, 1). -/
def wrapQ30 (v : Int) : Int := (v + 2 ^ 30) % 2 ^ 31 - 2 ^ 30

/-- PHASE: the argument of the mean ÷ π, with the offset of CFG.PHOFS added, wrapped (R218, R220). -/
def tonePhase (re im : Int) (phofs : Int) : Int :=
  let a := fxArg re im + phofs * 2 ^ 45
  let w := (a + 2 ^ 60) % 2 ^ 61 - 2 ^ 60
  wrapQ30 (f32ToQ30 (fpRound 0 false (w < 0) w.natAbs (-60) false).val).1

/-- A product in binary32, as R220 calculates. -/
def fm (a b : Nat) : Nat := (fMul 0 false a b).val
/-- A quotient in binary32. -/
def fd (a b : Nat) : Nat := (fDiv 0 false a b).val

/-- A binary32 value in units of π, wrapped into [−1, 1) in binary32, as a Q1.30 value (R220). -/
def wrapF32 (v : Nat) : Int :=
  let one := q30ToF32 (2 ^ 30)
  let two := q30ToF32 (2 ^ 31)
  let neg := q30ToF32 (-(2 ^ 30))
  let v := if (fCmp 2 false v neg).val ≠ 0 then (fAdd 0 false v two).val else v
  let v := if (fCmp 2 false v one).val = 0 then (fSub 0 false v two).val else v
  (f32ToQ30 v).1

/-- The pair signals of tone k (R220, R221): ZMAG, ZPH, PWR with their status words. -/
def pairSignals (s : State) (p k : Nat) : List (Nat × Nat × Nat) :=
  let cv := s.rfCh (2 * p)
  let ci := s.rfCh (2 * p + 1)
  let v := nth cv.last k (0, 0)
  let i := nth ci.last k (0, 0)
  let q := max (nth cv.qual k 3) (nth ci.qual k 3)
  let sid := s.fld RFA_PAIR_CFG_BASE [p] + 3 * k
  let fv := q30ToF32 (sx 32 v.1)
  let fi := q30ToF32 (sx 32 i.1)
  let vs := (s.reg RFA_CH_SCALE [2 * p]).toNat
  let is_ := (s.reg RFA_CH_SCALE [2 * p + 1]).toNat
  let phi := wrapF32 (fSub 0 false (q30ToF32 (sx 32 v.2)) (q30ToF32 (sx 32 i.2))).val
  let cosv := fxCosPi (phi * 2 ^ 30)
  let fc := (fpRound 0 false (cosv < 0) cosv.natAbs (-60) false).val
  let pw := f32ToQ30 (fd (fm (fm (fm (fm (fm 0x3F000000 fv) fi) fc) vs) is_) (s.reg RFA_PAIR_PFS [p]).toNat)
  let tiny := sx 32 i.1 < 2 ^ 14
  let z := f32ToQ30 (fd (fm fv vs) (fm (fm fi is_) (s.reg RFA_PAIR_ZFS [p]).toNat))
  (if tiny then [(sid, 0x7FFFFFFF, toneStat 2 true), (sid + 1, 0, toneStat 2 true)]
   else [(sid, ofInt 32 z.1, toneStat q z.2), (sid + 1, ofInt 32 phi, toneStat q false)]) ++
  [(sid + 2, ofInt 32 pw.1, toneStat q pw.2)]

/-- The tones of pair p that produce pair signals (R218, R219). -/
def pairTones (s : State) (p : Nat) : List Nat :=
  if s.isSet RFA_PAIR_CFG_EN [p] then (List.range 8).filter (fun k => bit (s.fld RFA_PAIR_CFG_TMASK [p]) k) else []

/-- QUAL of tone k (R221). -/
def toneQual (s : State) (n k tick : Nat) (ovr : Bool) : Nat :=
  let c := s.rfCh n
  if !s.clkPresent 2 then 2
  else if !s.isSet RFA_CH_CALSTAT_CONV [n] || s.fld RFA_CH_CFG_CALMODE [n] = 2 || ovr ||
      (c.chg.any (fun e => e.1 = k && tick ≤ e.2 + 4)) then 1
  else 0

/-- The signals of a channel's tone item: MAG and PHASE of each enabled tone. -/
def toneSignals (s : State) (n : Nat) : List (Nat × Nat × Nat) :=
  let c := s.rfCh n
  let base := s.fld RFA_CH_TONESID_BASE [n]
  (tonesOn s n).flatMap (fun k =>
    let v := nth c.last k (0, 0)
    let q := nth c.qual k 3
    [(base + 2 * k, v.1, toneStat q (nth c.sat k (false, false)).1), (base + 2 * k + 1, v.2, toneStat q false)])

/-- The base tick of a channel's next tone item. -/
def nextToneTick (s : State) (n : Nat) : Nat :=
  if (s.rfCh n).toneTick = s.tick + 1 then s.tick + 2 else s.tick + 1

/-- Produce the tone item of channel n for base tick `t`: the last item of a pair to be produced for a tick carries
the pair signals (R219). -/
def pushTone (n t : Nat) (ws : List (Nat × Nat × Nat)) (s : State) : State :=
  let s := s.modRf n (fun c => { c with toneTick := t })
  s.pushItem (296 + n) (tickAt t - 1000 * nsF) (.tone n ws)

/-- The frequency word of the oscillator that tone k of channel n mixes with: where TMASK of its pair enables the tone, the current
channel uses the voltage channel's (R218). -/
def toneFreq (s : State) (n k : Nat) : Nat :=
  (s.reg RFA_TONE_FREQ [if n % 2 = 1 && bit (s.fld RFA_PAIR_CFG_TMASK [n / 2]) k then n - 1 else n, k]).toNat

/-- A span of samples mixed with an oscillator whose phase at the first is `ph` (in 2⁻³² turns), scaled so that a full-scale sine
gives a constant part of 1.0: real and imaginary part in units of 2⁻³⁰ (R218). -/
def mixed (freq ph : Nat) (xs : List Int) : List (Int × Int) :=
  xs.zipIdx.map (fun p =>
    let y : Int := ((ph + p.2 * freq) % 2 ^ 32 * 2 ^ 29 : Nat)
    (p.1 * fxCosPi y / 2 ^ 40, -(p.1 * fxCosPi (y - 2 ^ 59)) / 2 ^ 40))

/-- For each tone the sums, real and imaginary, of the five complex results of R219, in units of 2⁻³⁰: the corrected samples
mixed with its oscillator and filtered as BW has it (R218). -/
def toneSums (s : State) (n : Nat) (codes : List (BitVec 12)) (phase : List (BitVec 32)) : List (Int × Int) :=
  let xs := corrected s n codes
  (List.range 8).map (fun k =>
    let m := mixed (toneFreq s n k) (nth phase k 0).toNat xs
    (List.range 5).foldl (fun (a : Int × Int) j =>
      let v := Config.toneLowPass (s.fld RFA_TONE_CFG_BW [n, k]) m j
      (a.1 + v.1, a.2 + v.2)) (0, 0))

/-- The next tone item of channel n: the last results with their status words, and the power results of its pair. -/
def toneDue (n : Nat) (res : List (Int × Int)) (ovr : Bool) (s : State) : State :=
  let t := nextToneTick s n
  let s := advanceTo (tickAt t - 1000 * nsF) s
  let ovr := ovr && s.clkPresent 2
  let s := if ovr then s.raise RFA_STAT_OVRF else s
  let s := if !s.clkPresent 2 then s
    else
      let vals := (List.range 8).map (fun k =>
        let r := nth res k (0, 0)
        (toneMag r.1 r.2, tonePhase r.1 r.2 (sx 16 (s.fld RFA_TONE_CFG_PHOFS [n, k]))))
      s.modRf n (fun c => { c with last := vals.map (fun v => (ofInt 32 v.1.1, ofInt 32 v.2)),
                                   sat := vals.map (fun v => (v.1.2, false)) })
  let q := (List.range 8).map (fun k => toneQual s n k t ovr)
  let s := s.modRf n (fun c => { c with qual := q, chg := c.chg.filter (fun e => t < e.2 + 4) })
  let p := n / 2
  let other := s.rfCh (2 * p + 1 - n % 2)
  let pw := if s.isSet RFA_CH_CFG_EN [2 * p + 1 - n % 2] && other.toneTick = t then (pairTones s p).flatMap (pairSignals s p) else []
  pushTone n t (toneSignals s n ++ pw) s

/-- TONE_ITEM (R219 to R221): channel n produces its tone item. `codes` are the samples of the span on which the five results of
R219 rest, the first of slice 0, and `phase` the phases of the eight oscillators at the first of them (they run on SMPCLK, with
no fixed relation to device time). While SMPCLK is lost the last values are held. -/
def execToneItem (n : Fin 4) (codes : List (BitVec 12)) (phase : List (BitVec 32)) (s : State) :
    Host.Outcome State Fault Refusal :=
  run [.rfa] (fun s =>
    if s.domOn 7 && s.isSet RFA_CH_CFG_EN [n.val] then
      toneDue n.val (toneSums s n.val codes phase) (codes.any overRange) s
    else s) s

/-- The last tone item of a channel that has been disabled: each enabled tone signal of the channel and of its pair with
value 0 and QUAL not available (R210). -/
def lastTone (n : Nat) (s : State) : State :=
  let base := s.fld RFA_CH_TONESID_BASE [n]
  let p := n / 2
  let z := toneStat 3 false
  let own := (tonesOn s n).flatMap (fun k => [(base + 2 * k, 0, z), (base + 2 * k + 1, 0, z)])
  let pb := s.fld RFA_PAIR_CFG_BASE [p]
  let pair := (pairTones s p).flatMap (fun k => [(pb + 3 * k, 0, z), (pb + 3 * k + 1, 0, z), (pb + 3 * k + 2, 0, z)])
  let t := nextToneTick s n
  let s := pushTone n t (own ++ pair) (advanceTo (tickAt t - 1000 * nsF) s)
  rfaMirror (s.modRf n (fun c => { c with ends := false, qual := List.replicate 8 3 }))

/-- RF_CHANNEL_DISABLE (R210): a channel whose EN has been cleared produces its last tone item and stops. -/
def execRfChannelDisable (n : Fin 4) (s : State) : Host.Outcome State Fault Refusal :=
  run [.rfa] (fun s =>
    if (s.rfCh n.val).ends && s.domOn 7 then lastTone n.val s else s) s

/-- SMPCLK is lost: the part of the RF channels (R225). `ARC_n` is held at the level that ARCLOSS selects. -/
def rfaSmpLoss (s : State) : State :=
  let s := rfaMirror (s.raise RFA_STAT_SMPLOSS)
  (List.range 4).foldl (fun s n =>
    s.modRf n (fun c => { c with arc := s.isSet RFA_CH_CFG_ARCLOSS [n], dropN := 0, riseN := 0 })) s

/-- SMPCLK is present again: the estimates restart from their last values with CONV cleared, the arc references from the first
block (R214, R225). -/
def rfaSmpReturn (s : State) : State :=
  rfaMirror ((List.range 4).foldl (fun s n =>
    (clearConv n s).modRf n (fun c => { c with arc := false, arcRef := none, lastBlk := none })) s)

end Sys2Proof.Machine
end

