-- ==== Sys2Proof/Machine/Acq.lean ====
section
/-!
DEFINITION. Geyser acquisition (07 R226 to R242): streams, capture sets, their load check, arming, comparators, triggers,
segments and their frames, headers and release.
-/
namespace Sys2Proof.Machine

/-- Where acquisition memory starts (02 R55). -/
def acqBase : Nat := 0x30000000

/-- Set s beside its registers. -/
def State.acqSet (s : State) (k : Nat) : AcqSet := nth s.acq k {}

/-- Change set s. -/
def State.modAcq (s : State) (k : Nat) (f : AcqSet → AcqSet) : State := { s with acq := modNth s.acq k f }

/-- The state of a set: 0 OFF, 1 LOADED, 2 RUNNING, 3 WAITFREE. -/
def State.acqState (s : State) (k : Nat) : Nat := s.fld ACQ_SET_STAT_STATE [k]

/-- The stream codes of a set, S0 to S3, up to the first 0 (R226, R228). -/
def acqStreams (s : State) (k : Nat) : List Nat :=
  let w := s.fld ACQ_SET_STRM_S3_S0 [k]
  ((List.range 4).map (fun i => bits w (4 * i + 3) (4 * i))).takeWhile (· ≠ 0)

/-- D of a set (R226). -/
def acqD (s : State) (k : Nat) : Nat := 2 ^ s.fld ACQ_SET_STRM_DEC [k]

/-- The byte rate of a stream code in B/s. -/
def streamRate (d c : Nat) : Nat := if c ≤ 4 then 8000000000 / d else if c ≤ 8 then 500000000 else 64000000

/-- The time of one frame of a set, in units of 2⁻¹⁶ ns (R226, R227). -/
def frameTime (s : State) (k : Nat) : Nat :=
  match acqStreams s k with
  | [] => nsF
  | c :: _ => if c ≤ 4 then 8 * acqD s k * nsF else if c ≤ 8 then 128 * nsF else 1000 * nsF

/-! ### Streams (R226) -/

/-- Cut a list into pieces of `n`, leaving off a last piece that is short; `fuel` bounds their number. -/
def pieces {α : Type} (n : Nat) : Nat → List α → List (List α)
  | 0, _ => []
  | fuel + 1, l => if l.length < max 1 n then [] else l.take (max 1 n) :: pieces n fuel (l.drop (max 1 n))

/-- A sample word: [15:4] the sample, [3] over range, [2] ARC_n asserted, [0] 1. -/
def sampleWord (v : Int) (ovr arc : Bool) : Nat := ofInt 12 v * 16 + b2n ovr * 8 + b2n arc * 4 + 1

/-- One word from consecutive samples (value, over range, ARC_n): their first, or with `avg` their mean rounded to nearest. That it
is the first that decimation keeps, and that the mean shows over range and ARC_n of any of them, is a DESIGN CHOICE (log 214). -/
def pieceWord (avg : Bool) (p : List (Int × Bool × Bool)) : Nat :=
  match p with
  | [] => 0
  | x :: _ =>
    if avg then sampleWord (divNear (p.foldl (fun a y => a + y.1) 0) p.length) (p.any (·.2.1)) (p.any (·.2.2))
    else sampleWord x.1 x.2.1 x.2.2

/-- The sample words of a raw (codes 1 to 4) or envelope stream (5 to 8) of set k, from converter codes (R226, R222). -/
def streamWords (s : State) (k c : Nat) (codes : List (BitVec 12 × Bool)) : List Nat :=
  let n := if c ≤ 4 then c - 1 else c - 5
  let xs := ((corrected s n (codes.map (·.1))).zip codes).map (fun p => (p.1, overRange p.2.1, p.2.2))
  if c ≤ 4 then (pieces (acqD s k) xs.length xs).map (pieceWord (s.isSet ACQ_SET_STRM_AVG [k]))
  else (pieces 16 xs.length xs).map (fun p =>
    sampleWord ((p.map (·.1.natAbs)).foldl max 0 : Nat) (p.any (·.2.1)) (p.any (·.2.2)))

/-- The 64-byte blocks that a stream gives (R227): 32 sample words, or one tone record. -/
def streamBlocks (s : State) (k c : Nat) (f : StreamFeed) : List (List Byte) :=
  if 9 ≤ c then f.tones.map (fun r => r.flatMap (fun w => leBytes 4 w.toNat))
  else
    let ws := streamWords s k c f.codes
    (pieces 32 ws.length ws).map (fun p => p.flatMap (leBytes 2))

/-- The frames that the streams of set k give, in field order (R227): as many as every stream fills. -/
def streamFrames (s : State) (k : Nat) (feeds : List StreamFeed) : List (List Byte) :=
  let bs := (acqStreams s k).zipIdx.map (fun p => streamBlocks s k p.1 (nth feeds p.2 {}))
  let n := bs.foldl (fun m b => min m b.length) ((bs.headD []).length)
  (List.range n).map (fun i => bs.flatMap (fun b => nth b i []))

/-- The sample words in 64 bytes of a stream: 32, or one tone record. -/
def frameSamples (s : State) (k : Nat) : Nat := if 9 ≤ (acqStreams s k).headD 1 then 1 else 32

/-- The frame size in units of 64 bytes. -/
def frameUnits (s : State) (k : Nat) : Nat := (acqStreams s k).length

/-- SEGSZ in units of 64 bytes. -/
def segUnits (s : State) (k : Nat) : Nat := s.fld ACQ_SET_SEG_SZ [k] + 1

/-- NSEG. -/
def acqNseg (s : State) (k : Nat) : Nat := s.fld ACQ_SET_SEG_NSEG [k] + 1

/-- The exact rate of a set in B/s (R229). -/
def setRate (s : State) (k : Nat) : Nat :=
  (acqStreams s k).length * streamRate (acqD s k) ((acqStreams s k).headD 1) + 256000000

/-- The loaded sets other than `k`. -/
def otherLoaded (s : State) (k : Nat) : List Nat := (List.range 64).filter (fun j => j ≠ k && s.acqState j ≠ 0)

/-- First byte and end of a set's buffer, relative to the memory. -/
def acqSpan (s : State) (k : Nat) : Nat × Nat :=
  let b := 4096 * s.fld ACQ_SET_BASE_BASE [k]
  (b, b + acqNseg s k * segUnits s k * 64)

/-- First descriptor of a set and the end of its range. -/
def descSpan (s : State) (k : Nat) : Nat × Nat :=
  let d := s.fld ACQ_SET_BASE_DESC [k]
  (d, d + acqNseg s k)

/-- Whether two spans overlap. -/
def overlaps (a b : Nat × Nat) : Bool := a.1 < b.2 && b.1 < a.2

/-- Whether the trigger fields of a set are valid (R233). -/
def acqTrgOk (s : State) (k : Nat) : Bool :=
  let sel := s.fld ACQ_SET_TRG_SEL [k]
  let c := s.fld ACQ_SET_TRG_CSTR [k]
  match s.fld ACQ_SET_TRG_SRC [k] with
  | 0 => s.fld ACQ_SET_PRE_PRE [k] = 0
  | 1 => true
  | 2 => sel < 4
  | 3 | 4 | 5 => 1 ≤ c && c ≤ 12
  | 6 => 1 ≤ c && c ≤ 12 && s.fld ACQ_SET_TRG_W [k] ≠ 0
  | 7 => sel < 8
  | 8 => sel < 4
  | 9 => sel < 16
  | 10 => true
  | _ => false

/-- The first failing check of a LOAD (R228); 0 when none fails. -/
def acqErr (s : State) (k : Nat) : Nat :=
  let st := acqStreams s k
  let w := s.fld ACQ_SET_STRM_S3_S0 [k]
  let d := acqD s k
  let pre := s.fld ACQ_SET_PRE_PRE [k]
  let n := st.length
  if s.acqState k ≠ 0 then 1
  else if st.isEmpty || st.any (12 < ·) || w / 16 ^ n ≠ 0 || 256 < d ||
      st.any (fun c => streamRate d c ≠ streamRate d (st.headD 1)) then 2
  else if segUnits s k % n ≠ 0 || pre % n ≠ 0 || segUnits s k ≤ pre then 3
  else if !acqTrgOk s k then 4
  else if 2 ^ 25 < (acqSpan s k).2 || (otherLoaded s k).any (fun j => overlaps (acqSpan s k) (acqSpan s j)) then 5
  else if 16384 < (descSpan s k).2 || (otherLoaded s k).any (fun j => overlaps (descSpan s k) (descSpan s j)) then 6
  else if 48000000000 < (otherLoaded s k).foldl (fun a j => a + (s.acqSet j).rate) (setRate s k) then 7
  else 0

/-- The number of a set's descriptors in a state. -/
def descCount (x : AcqSet) (st : DescState) : Nat := (x.descs.filter (fun d => d.st = st)).length

/-- The registers follow the sets: the counts of R240, the budget of R229, RATE, OLDEST and FILLING. -/
def acqSync (s : State) : State :=
  let total := fun (st : DescState) => s.acq.foldl (fun a x => a + descCount x st) 0
  let s := (((s.setFld ACQ_NFREE_COUNT (total .free)).setFld ACQ_NARMED_COUNT (total .armed)).setFld ACQ_NFILL_COUNT
    (total .filling)).setFld ACQ_NCOMPL_COUNT (total .complete)
  let s := s.setFld ACQ_NCONF_COUNT (s.acq.foldl (fun a x => a + x.descs.length) 0)
  let s := s.setFld ACQ_BUDGET_USED (ceilDiv (s.acq.foldl (fun a x => a + x.rate) 0) 1000000)
  (List.range 64).foldl (fun s k =>
    let x := s.acqSet k
    let s := s.setFld ACQ_SET_RATE_RATE (ceilDiv x.rate 1000000) [k]
    let s := s.setFld ACQ_SET_OLDEST_NCOMPL x.order.length [k]
    let s := s.setFld ACQ_SET_OLDEST_DESC (match x.order with
      | [] => 0
      | i :: _ => s.fld ACQ_SET_BASE_DESC [k] + i) [k]
    s.setFld ACQ_SET_STAT_FILLING (b2n (descCount x .filling ≠ 0)) [k]) s

/-- Change descriptor i of set k. -/
def State.modDesc (s : State) (k i : Nat) (f : Desc → Desc) : State :=
  s.modAcq k (fun x => { x with descs := modNth x.descs i f })

/-- The index of a set's descriptor in a state. -/
def descIn (s : State) (k : Nat) (st : DescState) : Option Nat := (s.acqSet k).descs.findIdx? (fun d => d.st = st)

/-- The instant of the sample at block index j of frame f, counted from the arm of a segment armed at `a` (R239). -/
def sampleInstant (s : State) (k a f j : Nat) : Nat := a + f * frameTime s k + j * (frameTime s k / frameSamples s k)

/-- The trigger instant `t` falls into segment i of set k: the trigger sample is the nearest sample, its frame the trigger
frame (R234, R237). -/
def placeTrigger (k i t : Nat) (forced : Bool) (s : State) : State :=
  let ft := frameTime s k
  let n := frameSamples s k
  let d := nth (s.acqSet k).descs i {}
  let el := t - d.armedAt
  let smp := (el * n + ft / 2) / max 1 ft
  let units := smp / n * frameUnits s k
  s.modDesc k i (fun d => { d with st := .filling, trig := t, tfrm := units % segUnits s k, tabs := smp / n,
                                   prepart := units < s.fld ACQ_SET_PRE_PRE [k],
                                   tidx := if n = 1 then 0 else smp % n, trunc := false, forced := forced })

/-- The acquisition trigger output (R236): a 100 ns low pulse on each TBUS line that selects it, and Lens source 6. -/
def triggerOutput (k t : Nat) (s : State) : State :=
  if s.isSet ACQ_TOUT_EN && s.fld ACQ_TOUT_SET = k then
    let s := (List.range 4).foldl (fun s m =>
      if s.fld TIME_TBUSDRV_SRC [m] = 3 then
        let t := s.now + 100 * nsF
        { ((s.say (.pin .tbus m 0)).say (.pin .tbus m 1)) with
          trigs := modNth s.trigs (8 + m) (fun x => { x with drive := t, due := x.due ++ [(s.now, true), (t, false)] }) }
      else s) s
    lensExternal 6 0 t false s
  else s

/-- A trigger in the CK_AQ clock of a DISARM is taken (R231): the segment that the DISARM freed is armed again, and the set ends
when it has filled. -/
def acqUndo (k : Nat) (s : State) : State :=
  match (s.acqSet k).undo with
  | none => s
  | some u =>
    if s.acqState k = 1 && s.now / (2 * nsF) = u.1 / (2 * nsF) then
      ((s.modDesc k u.2.1 (fun _ => u.2.2)).modAcq k (fun x =>
        { x with next := (u.2.1 + 1) % max 1 x.descs.length, ending := true, undo := none })).setFld ACQ_SET_STAT_STATE 2 [k]
    else s

/-- ACQ_TRIGGER: a trigger of set k at instant t (R233, R235): it is taken by an armed segment, joins a trigger of the
same CK_AQ clock, whose earliest instant governs, or is missed; one before the segment's first sample falls into the re-arm gap.
While SMPCLK is lost nothing is taken (R225). The sets that select the set's trigger follow. `fuel` bounds the chain of sets. -/
def acqTrigger : Nat → Nat → Nat → Bool → State → State
  | 0, _, _, _, s => s
  | fuel + 1, k, t, forced, s =>
    let s := acqUndo k s
    if s.acqState k < 2 || !s.clkPresent 2 then s
    else match descIn s k .armed with
    | some i =>
      if t < (nth (s.acqSet k).descs i {}).armedAt then s.incr ACQ_SET_MISS_COUNT [k] else
      let s := triggerOutput k t (placeTrigger k i t forced s)
      (List.range 64).foldl (fun s j =>
        if s.fld ACQ_SET_TRG_SRC [j] = 10 && s.fld ACQ_SET_TRG_SEL [j] = k then acqTrigger fuel j t false s else s) s
    | none =>
      match descIn s k .filling with
      | some i =>
        let d := nth (s.acqSet k).descs i {}
        if t < d.trig + 2 * nsF && d.trig < t + 2 * nsF then
          placeTrigger k i (min d.trig t) (d.forced || forced) s
        else s.incr ACQ_SET_MISS_COUNT [k]
      | none => s.incr ACQ_SET_MISS_COUNT [k]

/-- An event of trigger source `src` with selector `sel` at instant t, for every set that selects it; `fall` is the
polarity of an edge (R233). -/
def acqSource (src sel t : Nat) (fall : Bool) (s : State) : State :=
  acqSync ((List.range 64).foldl (fun s k =>
    if s.fld ACQ_SET_TRG_SRC [k] = src && s.fld ACQ_SET_TRG_SEL [k] = sel &&
        (src ≠ 7 && src ≠ 8 || s.isSet ACQ_SET_TRG_FALL [k] = fall) then acqTrigger 64 k t false s else s) s)

/-- Arm the next segment of set k: capture starts within 250 ns, at an instant that the spec leaves open (R231, R232). When
no descriptor is free, STOPFULL waits and OVERWRITE reuses the oldest complete segment. -/
def armSegment (k : Nat) (s : State) : State :=
  let x := s.acqSet k
  let s := s.modAcq k (fun x => { x with rearm := false })
  let i := x.next
  let free := (nth x.descs i {}).st = .free
  if !free && (x.order.isEmpty || !s.isSet ACQ_SET_TRG_OVWR [k]) then s.setFld ACQ_SET_STAT_STATE 3 [k]
  else
    let s := if free then s else
      (s.incr ACQ_OVWR_COUNT).modAcq k (fun x => { x with order := x.order.filter (· ≠ i) })
    let d := s.draw
    let at_ := s.now + d.1 % (250 * nsF + 1)
    let s := (d.2.setFld ACQ_SET_STAT_STATE 2 [k]).modDesc k i (fun _ => { st := .armed, armedAt := at_ })
    let s := s.modAcq k (fun x =>
      { x with next := (i + 1) % max 1 x.descs.length, away := false, hist := [], undo := none })
    if s.fld ACQ_SET_TRG_SRC [k] = 0 then acqTrigger 64 k at_ false s else s

/-- Arm set k (R231): RUNNING with its capture count 0, and one segment armed. -/
def acqArm (k : Nat) (s : State) : State :=
  if s.acqState k = 0 then s
  else
    let s := s.modAcq k (fun x => { x with ncap := 0, ending := false })
    acqSync (if s.acqState k = 2 then s else armSegment k s)

/-- Whether set k has a free descriptor. -/
def acqHasFree (s : State) (k : Nat) : Bool := descCount (s.acqSet k) .free ≠ 0

/-- The outcome code of an ACQ action on set k (R231, 01 R49): BUDGET on an OFF set, NO_RESOURCE without a free
descriptor in STOPFULL mode, otherwise DONE. -/
def acqActionCode (s : State) (k : Nat) : Nat :=
  if s.acqState k = 0 then codeBudget
  else if s.acqState k ≠ 2 && !s.isSet ACQ_SET_TRG_OVWR [k] && !acqHasFree s k then codeNoResource
  else 0

/-- The segment that fills completes (R237, R238, R240): its header is set, the counts move on, and the set goes back to
LOADED at its capture count or after a DISARM, or arms its next segment. `keep` leaves the set's state (R225). -/
def completeSegment (k : Nat) (trunc keep : Bool) (s : State) : State :=
  match descIn s k .filling with
  | none => s
  | some i =>
    let seq := (s.acqSet k).total % 1024
    let s := s.modDesc k i (fun d => { d with st := .complete, trunc := trunc, seq := seq })
    let s := s.modAcq k (fun x => { x with order := x.order ++ [i], total := x.total + 1, ncap := x.ncap + 1 })
    let s := s.incr ACQ_SET_SEGS_COUNT [k]
    let x := s.acqSet k
    let n := s.fld ACQ_SET_PRE_NCAP [k]
    let done := x.ending || (n ≠ 0 && n ≤ x.ncap)
    acqSync (if done && !keep then
        (s.modAcq k (fun x => { x with ending := false, rearm := false })).setFld ACQ_SET_STAT_STATE 1 [k]
      else s.modAcq k (fun x => { x with rearm := true }))

/-- DISARM (R231): an armed segment becomes free; a filling one finishes first. -/
def acqDisarm (k : Nat) (s : State) : State :=
  if s.acqState k < 2 then s
  else match descIn s k .filling with
  | some _ => s.modAcq k (fun x => { x with ending := true })
  | none =>
    let s := match descIn s k .armed with
      | some i =>
        let d := nth (s.acqSet k).descs i {}
        (s.modDesc k i (fun _ => {})).modAcq k (fun x => { x with next := i, undo := some (s.now, i, d) })
      | none => s
    acqSync ((s.modAcq k (fun x => { x with ending := false, rearm := false })).setFld ACQ_SET_STAT_STATE 1 [k])

/-- LOAD (R228): the set becomes LOADED, or keeps its state with ERR set. -/
def acqLoad (k : Nat) (s : State) : State :=
  let e := acqErr s k
  let s := s.setFld ACQ_SET_STAT_ERR e [k]
  if e ≠ 0 then s
  else
    let s := (s.setReg ACQ_SET_MISS 0 [k]).setReg ACQ_SET_SEGS 0 [k]
    let s := s.modAcq k (fun _ => { descs := List.replicate (acqNseg s k) {}, rate := setRate s k })
    acqSync (s.setFld ACQ_SET_STAT_STATE 1 [k])

/-- UNLOAD of a LOADED set (R231). -/
def acqUnload (k : Nat) (s : State) : State :=
  acqSync ((s.modAcq k (fun _ => {})).setFld ACQ_SET_STAT_STATE 0 [k])

/-- R241: sets are loaded and armed in every mode from Provision on. -/
def acqModeOk (s : State) : Bool := 3 ≤ s.mode.code

/-- The rule of ACQ_SET_s_CTL: LOAD, UNLOAD, ARM, FORCE, then DISARM (R228, R231, R233). -/
def acqCtlAct : Act := fun _ ix w s =>
  let k := ix.headD 0
  if (ACQ_SET_CTL_LOAD.on w || ACQ_SET_CTL_ARM.on w) && !acqModeOk s then .badMode s
  else
    let s1 := if ACQ_SET_CTL_LOAD.on w then acqLoad k s else s
    if ACQ_SET_CTL_UNLOAD.on w && s1.acqState k ≠ 1 then .badState s
    else
      let s := if ACQ_SET_CTL_UNLOAD.on w then acqUnload k s1 else s1
      let s := if ACQ_SET_CTL_ARM.on w then acqArm k s else s
      let s := if ACQ_SET_CTL_FORCE.on w then acqSync (acqTrigger 64 k s.now true s) else s
      .ok (if ACQ_SET_CTL_DISARM.on w then acqDisarm k s else s)

/-- Configuration of a set: only while it is OFF (R244). -/
def acqSetAct (r : Reg) : Act := fun _ ix w s =>
  if s.acqState (ix.headD 0) ≠ 0 then .badState s else .ok (s.store r ix w)

/-- The rule of ACQ_SET_s_REL: the COUNT oldest complete segments become free; more than the set has is refused
(R240). A set in WAITFREE arms again. -/
def acqRelAct : Act := fun _ ix w s =>
  let k := ix.headD 0
  let n := ACQ_SET_REL_COUNT.of w
  let x := s.acqSet k
  if x.order.length < n then .badValue s
  else
    let s := (x.order.take n).foldl (fun s i => s.modDesc k i (fun _ => {})) s
    let s := s.modAcq k (fun x => { x with order := x.order.drop n })
    .ok (acqSync (if n ≠ 0 && s.acqState k = 3 then s.modAcq k (fun x => { x with rearm := true }) else s))

/-- The header of a descriptor (R238) through the ACQ mailbox: error code, words. -/
def acqMailbox (item index : Nat) (s : State) : Nat × List Word :=
  if item ≠ 1 then (1, [])
  else match (List.range 64).find? (fun k => s.acqState k ≠ 0 &&
      s.fld ACQ_SET_BASE_DESC [k] ≤ index && index < (descSpan s k).2) with
  | none => (2, [])
  | some k =>
    let d := nth (s.acqSet k).descs (index - s.fld ACQ_SET_BASE_DESC [k]) {}
    if d.st = .complete then
      let t := time96 d.trig
      let h := d.tfrm * 2 ^ 18 + b2n d.prepart * 2 ^ 17 + d.tidx * 2 ^ 12 + b2n d.trunc * 2 ^ 11 +
        b2n d.forced * 2 ^ 10 + d.seq
      (0, [BitVec.ofNat 32 t, BitVec.ofNat 32 (t / 2 ^ 32), BitVec.ofNat 32 (t / 2 ^ 64), BitVec.ofNat 32 h])
    else (0, [0, 0, 0, 0])

/-! ### Commands -/

/-- ACQ_LOAD: writing ACQ_SET_s_CTL.LOAD (R228). -/
def execAcqLoad (m : Master) (k : Fin 64) (s : State) : Host.Outcome State Fault Refusal :=
  run [.acq] (regCmd acqCtlAct m ACQ_SET_CTL [k.val] 1) s

/-- ACQ_UNLOAD: writing UNLOAD (R231). -/
def execAcqUnload (m : Master) (k : Fin 64) (s : State) : Host.Outcome State Fault Refusal :=
  run [.acq] (regCmd acqCtlAct m ACQ_SET_CTL [k.val] 2) s

/-- ACQ_ARM: writing ARM (R231). -/
def execAcqArm (m : Master) (k : Fin 64) (s : State) : Host.Outcome State Fault Refusal :=
  run [.acq] (regCmd acqCtlAct m ACQ_SET_CTL [k.val] 4) s

/-- ACQ_DISARM: writing DISARM (R231). -/
def execAcqDisarm (m : Master) (k : Fin 64) (s : State) : Host.Outcome State Fault Refusal :=
  run [.acq] (regCmd acqCtlAct m ACQ_SET_CTL [k.val] 8) s

/-- ACQ_FORCE: writing FORCE (R233). -/
def execAcqForce (m : Master) (k : Fin 64) (s : State) : Host.Outcome State Fault Refusal :=
  run [.acq] (regCmd acqCtlAct m ACQ_SET_CTL [k.val] 16) s

/-- ACQ_ARM_TOKEN: the block takes the oldest arm token of the recipe engine; it arms the set, or the action fails
(R231). -/
def execAcqArmToken (s : State) : Host.Outcome State Fault Refusal :=
  run [.acq] (fun s =>
    match s.popToken 24 with
    | some (.arm k id, s) =>
      let code := if acqModeOk s then acqActionCode s k else codeNoResource
      rcpOutcome id code (if code = 0 then acqArm k s else s)
    | _ => s) s

/-! ### Comparators (R233) -/

/-- The values that the comparator of set k reads from its stream: a sample word with [3:0] cleared, signed for a raw stream and
unsigned for an envelope; bits [31:16] of the MAG of tone TONE, signed. -/
def cmpValues (s : State) (k : Nat) (f : StreamFeed) : List Int :=
  let c := s.fld ACQ_SET_TRG_CSTR [k]
  if 9 ≤ c then f.tones.map (fun r => sx 16 (bits (nth r (2 * s.fld ACQ_SET_TRG_TONE [k]) 0).toNat 31 16))
  else (streamWords s k c f.codes).map (fun w => if c ≤ 4 then sx 16 (w / 16 * 16) else (w / 16 * 16 : Nat))

/-- The time between two samples of a stream (R226), in units of 2⁻¹⁶ ns. -/
def sampleStep (s : State) (k c : Nat) : Nat :=
  if c ≤ 4 then acqD s k * (nsF / 4) else if c ≤ 8 then 4 * nsF else 1000 * nsF

/-- Whether a sample meets the condition of the comparator of set k, judged with those before it, newest first (R233); none for a
SLOPE that W samples do not reach back yet. -/
def cmpMet (s : State) (k : Nat) (hist : List Int) (x : Int) : Option Bool :=
  let c := s.fld ACQ_SET_TRG_CSTR [k]
  let env := 5 ≤ c && c ≤ 8
  let lim := fun (v : Nat) => if env then (v : Int) else sx 16 v
  let lo := lim (s.fld ACQ_SET_THR_LO [k])
  let hi := lim (s.fld ACQ_SET_THR_HI [k])
  let fall := s.isSet ACQ_SET_TRG_FALL [k]
  match s.fld ACQ_SET_TRG_SRC [k] with
  | 3 => some (if fall then x < lo else lo < x)
  | 4 => some (lo ≤ x && x ≤ hi)
  | 5 => some (!(lo ≤ x && x ≤ hi))
  | _ =>
    let slope := sx 16 (s.fld ACQ_SET_THR_HI [k])
    (hist[s.fld ACQ_SET_TRG_W [k] - 1]?).map (fun y => if fall then x - y ≤ slope else slope ≤ x - y)

/-- The comparator of set k takes a sample of instant t: it triggers where its condition is met and was left since the arm. -/
def cmpTake (k : Nat) (s : State) (x : Int × Nat) : State :=
  let a := s.acqSet k
  let m := cmpMet s k a.hist x.1
  let s := s.modAcq k (fun a => { a with hist := (x.1 :: a.hist).take (s.fld ACQ_SET_TRG_W [k]),
                                         away := if m.isSome then m = some false else a.away })
  if m = some true && a.away then acqTrigger 64 k x.2 false s else s

/-- ACQ_TRIGGER (R233): the comparator of set k, SRC 3 to 6, takes what its stream delivers. The other sources fire with their own
events. -/
def execAcqTrigger (k : Fin 64) (feed : CmpFeed) (s : State) : Host.Outcome State Fault Refusal :=
  run [.acq] (fun s =>
    let k := k.val
    let src := s.fld ACQ_SET_TRG_SRC [k]
    if src < 3 || 6 < src || s.acqState k < 2 || !s.clkPresent 2 then s
    else
      let vs := cmpValues s k feed.feed
      let step := sampleStep s k (s.fld ACQ_SET_TRG_CSTR [k])
      let last := s.now - feed.age.toNat
      acqSync ((vs.zipIdx.map (fun p => (p.1, last - (vs.length - 1 - p.2) * step))).foldl (cmpTake k) s)) s

/-! ### Filling -/

/-- The address of segment i of set k (R237). -/
def segAddr (s : State) (k i : Nat) : Nat := acqBase + (acqSpan s k).1 + i * segUnits s k * 64

/-- Frames of segment i of set k are written, from the frame numbered `f` since the arm on, circularly through the segment
(R237). -/
def writeFrames (k i : Nat) : Nat → List (List Byte) → State → State
  | _, [], s => s
  | f, b :: rest, s =>
    let n := max 1 (segUnits s k / max 1 (frameUnits s k))
    writeFrames k i (f + 1) rest (s.setBytes (segAddr s k i + f % n * frameUnits s k * 64) b)

/-- The frames since the arm after which a filling segment is complete: SEGSZ − PRE bytes from the trigger frame on (R237). -/
def lastFrame (s : State) (k : Nat) (d : Desc) : Nat :=
  d.tabs + (segUnits s k - s.fld ACQ_SET_PRE_PRE [k]) / max 1 (frameUnits s k)

/-- Segment i of set k takes frames: it writes them, time passes to the end of the last, and a filling segment that has its last
frame completes (R237, R239). -/
def takeFrames (k i : Nat) (fs : List (List Byte)) (s : State) : State :=
  let d := nth (s.acqSet k).descs i {}
  let fs := if d.st = .filling then fs.take (lastFrame s k d - d.frames) else fs
  let n := d.frames + fs.length
  let s := (writeFrames k i d.frames fs s).modDesc k i (fun d => { d with frames := n })
  let s := advanceTo (sampleInstant s k d.armedAt n 0) s
  if d.st = .filling && lastFrame s k d ≤ n then completeSegment k false false s else s

/-- SEGMENT_COMPLETE (R237): the streams of set k deliver to its filling or armed segment what they took since the last delivery;
with its last frame a filling segment completes. While SMPCLK is lost the streams stand (R225). -/
def execSegmentComplete (k : Fin 64) (feeds : List StreamFeed) (s : State) : Host.Outcome State Fault Refusal :=
  run [.acq] (fun s =>
    let k := k.val
    if !s.clkPresent 2 then s
    else match (descIn s k .filling).orElse (fun _ => descIn s k .armed) with
    | none => s
    | some i => takeFrames k i (streamFrames s k feeds) s) s

/-- SEGMENT_REARM (R232): the next segment of set k is armed, or waits for a free descriptor. -/
def execSegmentRearm (k : Fin 64) (s : State) : Host.Outcome State Fault Refusal :=
  run [.acq] (fun s =>
    let k := k.val
    let x := s.acqSet k
    let n := s.fld ACQ_SET_PRE_NCAP [k]
    if !x.rearm || !s.clkPresent 2 then s
    else if x.ending || (n ≠ 0 && n ≤ x.ncap) then
      (s.modAcq k (fun x => { x with ending := false, rearm := false })).setFld ACQ_SET_STAT_STATE 1 [k]
    else acqSync (armSegment k s)) s

/-- ACQ_RELEASE: writing ACQ_SET_s_REL.COUNT (R240). -/
def execAcqRelease (m : Master) (k : Fin 64) (count : BitVec 15) (s : State) : Host.Outcome State Fault Refusal :=
  run [.acq] (regCmd acqRelAct m ACQ_SET_REL [k.val] (BitVec.ofNat 32 count.toNat)) s

/-- ACQ_QUEUE_OVERFLOW (R230): the write queue of a stream of set k overflows. -/
def execAcqQueueOverflow (k : Fin 64) (s : State) : Host.Outcome State Fault Refusal :=
  run [.acq] (fun s =>
    if 2 ≤ s.acqState k.val then
      let s := completeSegment k.val true false s
      (s.raise ACQ_STAT_OVF).emitUnit 6 .acq k.val ACQ_STAT []
    else s) s

/-! ### Resets and the sampling clock -/

/-- SMPCLK is lost (R225): filling segments complete with TRUNC, and no set changes state. -/
def acqSmpLoss (s : State) : State :=
  (List.range 64).foldl (fun s k => completeSegment k true true s) (s.raise ACQ_STAT_SMPLOSS)

/-- An accepted nRESET (R242): running sets become LOADED, armed descriptors free, filling segments complete. -/
def acqNreset (s : State) : State :=
  acqSync ((List.range 64).foldl (fun s k =>
    if s.acqState k < 2 then s
    else
      let s := completeSegment k true true s
      let s := match descIn s k .armed with
        | some i => (s.modDesc k i (fun _ => {})).modAcq k (fun x => { x with next := i })
        | none => s
      (s.modAcq k (fun x => { x with ending := false, rearm := false })).setFld ACQ_SET_STAT_STATE 1 [k]) s)

/-- Every set is OFF (R242): its registers are reset by the event that calls this. -/
def acqClear (s : State) : State := { s with acq := List.replicate 64 {} }

end Sys2Proof.Machine
end

