-- ==== Sys2Proof/Machine/IslCfg.lean ====
section
/-!
DEFINITION. The safety configuration image (16 R440 to R442): its records and its check, and what the group gates do to
their members (R33, R441).
-/
namespace Sys2Proof.Machine

/-- The safety configuration region (18 R521). -/
def cfgBase : Nat := 0x22E00000

/-- `n` bytes of the header from byte `o`, as a number. -/
def cfgHdr (s : State) (o n : Nat) : Nat := s.peek (cfgBase + o) n

/-- The addresses of the records. -/
def cfgRecs (s : State) : List Nat := (List.range (cfgHdr s 8 2)).map (fun i => cfgBase + 64 + 32 * i)

/-- The record of TYPE `t` and INDEX `i` in the configuration in effect, when its element is present. -/
def islRec (s : State) (t i : Nat) : Option Nat :=
  if s.isl.cfgerr ≠ 0 then none else (cfgRecs s).find? (fun a => s.peek a 1 = t && s.peek (a + 1) 1 = i)

/-- A number of a record. -/
def recN (s : State) (a o n : Nat) : Nat := s.peek (a + o) n

/-- Whether the record at `a` has its EN bit set. -/
def recEn (s : State) (a : Nat) : Bool := bit (recN s a 2 1) 0

/-- The enabled record of an element. -/
def islEn (s : State) (t i : Nat) : Option Nat := (islRec s t i).filter (recEn s)

/-- CRC-32C: reflected polynomial 0x82F63B78, with an initial value and a final inversion. -/
def crc32c (init : Nat) (bs : List Byte) : Nat := (bs.foldl (crcByte 0x82F63B78) init) ^^^ 0xFFFFFFFF

/-- The CRC of the image with its field taken as 0 (R440). -/
def cfgCrc (s : State) : Nat :=
  let len := min 0x10000 (cfgHdr s 12 4)
  crc32c 0xFFFFFFFF (s.bytes cfgBase 16 ++ List.replicate 4 0 ++ s.bytes (cfgBase + 20) (len - 20))

/-- The bytes of a record that must be 0, by TYPE (R441). -/
def recZeros : Nat → List Nat
  | 1 => 3 :: (List.range 22).map (· + 10)
  | 2 => 3 :: (List.range 26).map (· + 6)
  | 3 => 3 :: (List.range 22).map (· + 10)
  | 4 => 3 :: (List.range 22).map (· + 10)
  | 5 => [28, 29, 30, 31]
  | 6 => (List.range 10).map (· + 22)
  | _ => [3, 14, 15]

/-- Whether v lies in a range. -/
def within (v lo hi : Nat) : Bool := lo ≤ v && v ≤ hi

/-- Whether a field of the record at `a` is outside its range (CFGERR 5). -/
def recRange (s : State) (a : Nat) : Bool :=
  let f := recN s a
  let ix := f 1 1
  let tp := fun v => v = 0xFF || v < 16
  match f 0 1 with
  | 1 => ix < 32 && f 2 1 < 8 && within (f 4 2) 2 256 && within (f 6 2) 1 4000 && tp (f 8 1) && tp (f 9 1)
  | 2 => ix < 16 && f 2 1 < 2 && within (f 4 2) 100 400
  | 3 => ix < 16 && f 2 1 < 2 && within (f 4 2) 10 5000 && within (f 6 2) (f 4 2) 10000 && f 8 2 ≤ 3600
  | 4 => ix < 16 && f 2 1 < 2
  | 5 => ix < 64 && f 2 1 < 64 && f 3 1 < 128 && within (f 24 2) 1 4000
  | 6 => ix < 8 && f 2 1 < 2 && within (f 4 2) 1 40 && within (f 6 2) (2 * f 4 2) 4000
  | _ => ix < 64 && f 2 1 < 16 && f 4 2 < 1024

/-- Whether safe output o is selected by an enabled STOP function. -/
def outSelected (s : State) (rs : List Nat) (o : Nat) : Bool :=
  rs.any (fun a => recN s a 0 1 = 7 && recEn s a && !bit (recN s a 2 1) 2 && bit (recN s a 10 2) o)

/-- The first failure of the check of R442 against strap word `w`; 0 when it passes. -/
def cfgCheck (s : State) (w : Nat) : Nat :=
  let h := cfgHdr s
  let len := h 12 4
  let rs := cfgRecs s
  let typ := fun a => recN s a 0 1
  let key := fun a => typ a * 256 + recN s a 1 1
  let en := fun (t i : Nat) => rs.any (fun a => typ a = t && recN s a 1 1 = i && recEn s a)
  let net := bits (h 6 2) 13 12
  if h 0 4 ≠ 0x4353564B || h 4 2 ≠ 1 || len ≠ 64 + 32 * h 8 2 || 0x10000 < len then 1
  else if h 16 4 ≠ cfgCrc s then 2
  else if h 6 2 % 2 ^ 14 ≠ w % 2 ^ 14 then 3
  else if 2 ^ 14 ≤ h 6 2 || h 20 4 ≥ 2 ^ 18 || h 36 28 ≠ 0 ||
      rs.any (fun a => typ a = 0 || 7 < typ a || (recZeros (typ a)).any (fun i => s.byte (a + i) ≠ 0)) ||
      (rs.zip (rs.drop 1)).any (fun p => key p.2 ≤ key p.1) then 4
  else if 216 < h 8 2 || !within (h 10 2) 10 1000 || h 24 2 < 0x600 || rs.any (fun a => !recRange s a) then 5
  else if rs.any (fun a => (typ a = 3 && recEn s a && !outSelected s rs (recN s a 1 1)) ||
      (typ a = 7 && bit (recN s a 2 1) 2 && (recN s a 10 2 ≠ 0 || recN s a 12 2 ≠ 0 || recN s a 16 8 ≠ 0))) then 6
  else if rs.any (fun a => typ a = 5 &&
      (let src := bits (recN s a 3 1) 1 0
       let kind := s.fld MOT_AX_CFG_KIND [recN s a 1 1]
       (bits (recN s a 2 1) 2 0 ≠ 0 && src = 0) || (src = 1 && kind ≠ 1) || (src = 2 && kind ≠ 2))) then 7
  else if rs.any (fun a =>
      (typ a = 6 && recEn s a && net = 0) ||
      (typ a = 5 && bits (recN s a 3 1) 1 0 = 3 && (net = 0 || !en 6 (bits (recN s a 3 1) 4 2))) ||
      (typ a = 7 && bit (recN s a 2 1) 3 && (net = 0 || !en 6 (recN s a 4 2 % 8)))) then 8
  else if 1 < (rs.filter (fun a => typ a = 1 && recEn s a && bit (recN s a 2 1) 2)).length ||
      rs.any (fun a => typ a = 1 && recEn s a && [8, 9].any (fun o => recN s a o 1 ≠ 0xFF && !en 2 (recN s a o 1))) then 9
  else 0

/-! ### Members of output groups -/

/-- What a low group gate makes of DAC d (R33, R441): high impedance or SAFECODE; none while no low group has it. -/
def dacGroup (s : State) (d : Nat) : Option Bool :=
  ((List.range 16).filter (fun g => !bit s.isl.grp g)).findSome? (fun g => match islEn s 4 g with
    | some a => if bit (recN s a 4 2) d then some (bit (recN s a 6 2) d) else none
    | none => none)

/-- Whether a low group gate holds Beacon n at its inactive level. -/
def beaconGroup (s : State) (n : Nat) : Bool :=
  ((List.range 16).filter (fun g => !bit s.isl.grp g)).any (fun g => match islEn s 4 g with
    | some a => bit (recN s a 8 2) n
    | none => false)

/-- NETSEL 2: remote ports 2 and 3 carry island frames only (R453). -/
def islPorts (s : State) : Bool := s.isl.on && bits s.isl.strap 13 12 = 2

end Sys2Proof.Machine
end

