-- ==== Sys2Proof/Machine/SarDac.lean ====
section
/-!
DEFINITION. Precision analog inputs and outputs (08): scans, conversions and their items, path diagnosis, output DACs. The
codes that conversions read come from outside.
-/
namespace Sys2Proof.Machine

/-- One microsecond in units of 2⁻¹⁶ ns. -/
def usF : Nat := 1000 * nsF

/-- One CK_SAR clock (31.25 ns) in the same units. -/
def sarClk : Nat := 2048000

/-- Converter c beside its registers. -/
def State.sarConv (s : State) (c : Nat) : SarConv := nth s.sar.conv c {}

/-- Change converter c. -/
def State.modConv (s : State) (c : Nat) (f : SarConv → SarConv) : State :=
  { s with sar := { s.sar with conv := modNth s.sar.conv c f } }

/-- DAC d beside its registers. -/
def State.dacCh (s : State) (d : Nat) : Dac := nth s.sar.dac d {}

/-- Change DAC d. -/
def State.modDac (s : State) (d : Nat) (f : Dac → Dac) : State :=
  { s with sar := { s.sar with dac := modNth s.sar.dac d f } }

/-- Converters run in every mode from Provision on while D8 is on (R250). -/
def sarRuns (s : State) : Bool := 3 ≤ s.mode.code && s.domOn 8

/-- The first CK_SAR edge at or after `t`, and the state in which the phase of CK_SAR has been drawn (R248). -/
def sarEdge (t : Nat) (s : State) : Nat × State :=
  let r := match s.sar.phase with
    | some p => (p, s)
    | none => let d := s.draw
              (d.1 % sarClk, { d.2 with sar := { d.2.sar with phase := some (d.1 % sarClk) } })
  (r.1 + ceilDiv (t - r.1) sarClk * sarClk, r.2)

/-- The positions that a scan converts, each with whether it is a pair (R245, R247). -/
def scanJobs (s : State) (c : Nat) : List (Nat × Bool) :=
  let mask := s.fld SAR_CONV_CFG_MASK [c]
  let d := fun m => (m < 2 && s.isSet SAR_CONV_CFG_DIFF01 [c]) || (2 ≤ m && s.isSet SAR_CONV_CFG_DIFF23 [c])
  ((List.range 4).filter (fun m => bit mask m && !(m % 2 = 1 && d m))).map (fun m => (m, d m))

/-- The positions of the conversions that a diagnosis appends, in order (R255, R256): D1, M1, D2 and M2 at the mux test position
(a DIRECT path has none of its own: DESIGN CHOICE, log 215), N+ for a pair, I1 and I2 at POS. -/
def diagPos (q : DiagReq) : List Nat :=
  let test := (if bit q.chk 0 then [4] else []) ++ (if bit q.chk 1 then [4] else [])
  test ++ test ++ (if bit q.chk 2 then (if q.pair then [q.pos, q.pos, q.pos] else [q.pos]) else [])

/-- The number of conversions that a diagnosis appends. -/
def diagLen (q : DiagReq) : Nat := (diagPos q).length

/-- The position that converter c converts now (R262): of the scan by its progress, of the appended conversions by the time. -/
def sarPos (s : State) (c : Nat) : Nat :=
  let x := s.sarConv c
  match x.busy, x.jobs.drop x.done, x.diag with
  | true, j :: _, _ => j.1
  | true, [], some t => match nth s.sar.tdac t none with
    | some q => nth (diagPos q) (min (diagLen q - 1) ((s.now - x.start) / usF - x.jobs.length)) 4
    | none => 0
  | _, _, _ => 0

/-- SAR_CONV_c_STAT shows the scan. -/
def sarStatus (c : Nat) (s : State) : State :=
  let x := s.sarConv c
  let inDiag := x.busy && x.diag.isSome && x.jobs.length ≤ x.done
  ((s.setFld SAR_CONV_STAT_BUSY (b2n x.busy) [c]).setFld SAR_CONV_STAT_POS (sarPos s c) [c]).setFld
    SAR_CONV_STAT_DIAG (b2n inDiag) [c]

/-- Whether position `pos` of converter c belongs to a pair. -/
def inPair (s : State) (c pos : Nat) : Bool :=
  (pos < 2 && s.isSet SAR_CONV_CFG_DIFF01 [c]) || (2 ≤ pos && s.isSet SAR_CONV_CFG_DIFF23 [c])

/-- A scan of converter c starts at CK_SAR edge e under the settings in force, with a pending diagnosis appended (R248, R250,
R255). -/
def startScan (c e : Nat) (s : State) : State :=
  let jobs := scanJobs s c
  let t := c / 8
  let q := match nth s.sar.tdac t none with
    | some q => if 8 * t + q.conv = c && !q.started then some { q with started := true, pair := inPair s c q.pos } else none
    | none => none
  let n := match q with
    | some q => diagLen q
    | none => 0
  let s := match q with
    | some q => { s with sar := { s.sar with tdac := modNth s.sar.tdac t (fun _ => some q) } }
    | none => s
  sarStatus c (s.modConv c (fun x => { x with start := e, jobs := jobs, done := 0, codes := [], next := none,
                                              busy := jobs.length + n ≠ 0, diag := q.map (fun _ => t),
                                              end_ := e + (jobs.length + n) * usF }))

/-- A trigger of converter c at instant t (R248, R249): a scan starts at the next CK_SAR edge, or as the scan in progress ends
where that edge does not lie before its end; or the trigger joins the scan that waits for the same edge, or is missed. -/
def sarTrigger (c t : Nat) (s : State) : State :=
  if !sarRuns s then s
  else
    let r := sarEdge t s
    let e := r.1
    let s := r.2
    let x := s.sarConv c
    if !x.busy then startScan c e s
    else if x.start = e || x.next = some e then s
    else if e < x.end_ || x.next.isSome then
      ((s.incrSat SAR_CONV_STAT_MISS [c]).incr SAR_MISS_COUNT).raise SAR_STAT_MISSF
    else s.modConv c (fun x => { x with next := some e })

/-- A scan has ended: one that a trigger has asked for starts, and a continuous converter starts the next (R248). -/
def sarEnd (c : Nat) (s : State) : State :=
  let e := (s.sarConv c).end_
  let next := (s.sarConv c).next
  let s := sarStatus c (s.modConv c (fun x => { x with busy := false, diag := none, next := none }))
  if next.isSome then startScan c (next.getD e) s
  else if s.fld SAR_CONV_TRG_SRC [c] = 4 && !(scanJobs s c).isEmpty then sarTrigger c e s else s

/-- A trigger source of the device fires at instant t: 2 compare `cmp` of PWM pair `sel`, 3 Beacon `sel` (R248). -/
def sarSource (src sel cmp t : Nat) (s : State) : State :=
  (List.range 32).foldl (fun s c =>
    if s.fld SAR_CONV_TRG_SRC [c] = src && s.fld SAR_CONV_TRG_SEL [c] = sel &&
        (src = 3 || s.fld SAR_CONV_TRG_CMP [c] = cmp) then sarTrigger c t s else s) s

/-- The next base-tick trigger of converter c: the first tick n, after the last that triggered, whose instant has not
passed and that satisfies (n − PH) mod DIV = 0 (R248). -/
def nextTickTrig (s : State) (c : Nat) : Nat :=
  let div := max 1 (s.fld SAR_CONV_DIV_DIV [c])
  let ph := s.fld SAR_CONV_DIV_PH [c]
  let dly := s.fld SAR_CONV_TRG_DELAY [c] * nsF
  let n0 := if tickAt s.tick + dly < s.now then s.tick + 1 else s.tick
  let n1 := match (s.sarConv c).trigTick with
    | some k => if k = n0 then n0 + 1 else n0
    | none => n0
  n1 + (ph + div - n1 % div) % div

/-- SCAN_TRIGGER (R248, R249): the trigger source of converter c fires: at its next base-tick instant for SRC 1, now for SRC 4 where
no scan is in progress. SRC 2 and 3 fire with the compare and the Beacon edge themselves (`sarSource`). -/
def execScanTrigger (c : Fin 32) (s : State) : Host.Outcome State Fault Refusal :=
  run [.sar] (fun s =>
    let c := c.val
    if !sarRuns s then s
    else match s.fld SAR_CONV_TRG_SRC [c] with
    | 1 =>
      let n := nextTickTrig s c
      let t := tickAt n + s.fld SAR_CONV_TRG_DELAY [c] * nsF
      sarTrigger c t ((advanceTo t s).modConv c (fun x => { x with trigTick := some n }))
    | 4 => if (s.sarConv c).busy then s else sarTrigger c s.now s
    | _ => s) s

/-- The rule of SAR_CONV_c_CTL (R248). -/
def sarCtlAct : Act := fun _ ix w s =>
  .ok (if SAR_CONV_CTL_SWTRIG.on w then sarTrigger (ix.headD 0) s.now s else s)

/-- SWTRIG: writing SAR_CONV_c_CTL.SWTRIG (R248). -/
def execSwtrig (m : Master) (c : Fin 32) (s : State) : Host.Outcome State Fault Refusal :=
  run [.sar] (regCmd sarCtlAct m SAR_CONV_CTL [c.val] 1) s

/-- A conversion in the form in which it is applied (R252, R253): SID, value, status word without AGE. -/
def sarForm (s : State) (c m : Nat) (code : Int) (flags : Nat) : Nat × Nat × Nat :=
  let i := 4 * c + m
  let cal := (s.reg SAR_IN_CAL [i]).toNat
  let x := rshRound ((code - sx 16 cal) * (bits cal 31 16 : Int)) 15
  let v := if s.isSet SAR_IN_MAP_FMT [i] then x else x * 2 ^ (if bit flags 1 then 15 else 14)
  let r := sat32 v
  let qual := if bit (s.fld SAR_FAULT_FAULT [i / 32]) (i % 32) then 2 else if bit flags 0 then 1 else 0
  (s.fld SAR_IN_MAP_SID [i], ofInt 32 r.1, qual * 2 ^ 14 + b2n (bit flags 0 || r.2) * 2 ^ 13)

/-- An item of converter c's conversion, or its loss when 16 wait (R251). The stamp is within 1 ns of the completion. A leader's item has
the form in which it is applied (17 R469). -/
def sarItem (c m : Nat) (code : Int) (ovr pair : Bool) (sample stamp : Nat) (s : State) : State :=
  if !s.isSet SAR_IN_MAP_EN [4 * c + m] then s
  else if 16 ≤ s.waiting (264 + c) then (s.incr SAR_LOST_COUNT).raise SAR_STAT_LOSTF
  else
    let d := s.draw
    let st := stamp + d.1 % (2 * nsF + 1) - nsF
    let flags := b2n ovr + 2 * b2n pair
    let f := sarForm s c m code flags
    d.2.pushItem (264 + c) st (if s.fld TWIN_STAT_ROLE = 1 then .sarVal f.1 f.2.1 f.2.2 sample else .sar c m code flags sample)

/-- CONVERSION_COMPLETE (R246, R247, R251): the next conversion of converter c's scan completes with the level `raw`,
limited to the range of its kind. -/
def execConversionComplete (c : Fin 32) (raw : Int) (s : State) : Host.Outcome State Fault Refusal :=
  run [.sar] (fun s =>
    let c := c.val
    let x := s.sarConv c
    match x.busy, x.jobs.drop x.done with
    | true, j :: rest =>
      let begin_ := x.start + x.done * usF
      let s := advanceTo (begin_ + usF) s
      let lo : Int := if j.2 then -32768 else 0
      let hi : Int := if j.2 then 32767 else 65535
      let code := max lo (min hi raw)
      let s := s.incr SAR_CONVTOT_COUNT
      let s := s.modConv c (fun x => { x with done := x.done + 1, codes := x.codes ++ [(j.1, code)] })
      let s := sarStatus c (sarItem c j.1 code (code = lo || code = hi) j.2 (begin_ + 8 * sarClk) (begin_ + usF) s)
      if rest.isEmpty && x.diag.isNone then sarEnd c s else s
    | _, _ => s) s

/-- Write a conversion to its signal in Phase 3 of tick n, with its AGE. -/
def sarWrite (sid val stat sample n : Nat) (s : State) : State :=
  s.setSig sid val (stat + min 4095 (ceilDiv (tickAt n - sample) (5000 * nsF))) n

/-- Apply a SAR item in Phase 3 of tick n (R252, R253). -/
def sarApply (c m : Nat) (code : Int) (flags sample n : Nat) (s : State) : State :=
  let f := sarForm s c m code flags
  sarWrite f.1 f.2.1 f.2.2 sample n s

/-! ### Path diagnosis -/

/-- The refusal code of a diagnosis request (R254); 0 when it is accepted. -/
def diagErr (s : State) (t conv pos chk : Nat) : Nat :=
  let c := 8 * t + conv
  if (nth s.sar.tdac t none).isSome then 1
  else if chk = 0 || (pos % 2 = 1 && inPair s c pos) then 2
  else if bit chk 2 && !bit (s.fld SAR_CONV_CFG_MASK [c]) pos then 3
  else if s.fld SAR_TDAC_LVL_HI [t] ≤ s.fld SAR_TDAC_LVL_LO [t] then 4
  else 0

/-- The rule of SAR_TDAC_t_REQ (R254). -/
def diagReqAct : Act := fun _ ix w s =>
  let t := ix.headD 0
  if !SAR_TDAC_REQ_GO.on w then .ok (s.store SAR_TDAC_REQ ix w)
  else
    let conv := SAR_TDAC_REQ_CONV.of w
    let pos := SAR_TDAC_REQ_POS.of w
    let chk := SAR_TDAC_REQ_CHK.of w
    let e := diagErr s t conv pos chk
    if e ≠ 0 then
      .no (if e = 1 then .state else .value) false (s.setFld SAR_TDAC_RES_ERR e [t])
    else
      let s := (s.store SAR_TDAC_REQ ix w).raise SAR_TDAC_REQ_PEND [t]
      let err := s.fld SAR_TDAC_RES_ERR [t]
      let s := (s.setReg SAR_TDAC_RES 0 [t]).setFld SAR_TDAC_RES_ERR err [t]
      let q : DiagReq := { conv := conv, pos := pos, chk := chk, started := false }
      .ok { s with sar := { s.sar with tdac := modNth s.sar.tdac t (fun _ => some q) } }

/-- DIAG_REQUEST: a write of SAR_TDAC_t_REQ with GO (R254). -/
def execDiagRequest (m : Master) (t : Fin 4) (conv : Fin 8) (pos : Fin 4) (chk : BitVec 3) (s : State) :
    Host.Outcome State Fault Refusal :=
  run [.sar] (regCmd diagReqAct m SAR_TDAC_REQ [t.val]
    (BitVec.ofNat 32 (2 ^ 31 + chk.toNat * 256 + pos.val * 16 + conv.val))) s

/-- Division rounded to nearest. -/
def divRound (a b : Int) : Int := (2 * a + b) / (2 * b)

/-- Whether the diagnosis `q` on test bus t has made its last conversion. -/
def diagEnds (s : State) (t : Nat) (q : DiagReq) : Bool :=
  let x := s.sarConv (8 * t + q.conv)
  q.started && x.busy && x.diag = some t && x.jobs.length ≤ x.done

/-- The result of the diagnosis `q` from the codes read (R256, R257). -/
def diagJudge (t : Nat) (q : DiagReq) (d1 m1 d2 m2 i1 i2 np nm : BitVec 16) (s : State) : State :=
  let c := 8 * t + q.conv
  let x := s.sarConv c
  let s := advanceTo x.end_ s
  let s := s.incr SAR_CONVTOT_COUNT [] (diagLen q)
  let n : Int := ((x.codes.filter (fun e => e.1 = q.pos)).getLast?.map (·.2)).getD 0
  let pair := q.pair
  let e := fun (f : Fld) => (16 * s.fld f [t] + 8 : Int)
  let span := e SAR_TDAC_LVL_HI - e SAR_TDAC_LVL_LO
  let i := fun (v : BitVec 16) => (v.toNat : Int)
  let gerr := divRound ((i d2 - i d1 - span) * 10000) span
  let oerr := i d1 - e SAR_TDAC_LVL_LO
  let beyond := fun (a b : Int) (lim : Nat) => lim < (a - b).natAbs
  let fa := s.draw
  let fb := fa.2.draw
  let fg := fb.2.draw
  let s := fg.2
  let dd1 : Int := if bit q.chk 0 then i d1 else fa.1 % 65536
  let dd2 : Int := if bit q.chk 0 then i d2 else fb.1 % 65536
  let gainF := bit q.chk 0 && (s.fld SAR_TDAC_LIM_GAINLIM [t] < gerr.natAbs ||
    s.fld SAR_TDAC_LIM_OFSLIM [t] < oerr.natAbs)
  let muxF := bit q.chk 1 && (beyond (i m1) dd1 (s.fld SAR_TDAC_LIM_MUXLIM [t]) ||
    beyond (i m2) dd2 (s.fld SAR_TDAC_LIM_MUXLIM [t]))
  let lim := s.fld SAR_TDAC_LIM_OPENLIM [t]
  let openF := bit q.chk 2 && (if pair then beyond (i i1) (i np) lim || beyond (i i2) (i nm) lim
    else beyond (i i1) n lim)
  let gfit : Int := if -2048 ≤ gerr && gerr ≤ 2047 then gerr else fg.1
  let s := if bit q.chk 0 then
      (s.setFld SAR_TDAC_RES_GERR (ofInt 12 gfit) [t]).setFld SAR_TDAC_RES_OERR
        (ofInt 8 (max (-127) (min 127 oerr))) [t]
    else s
  let s := (((s.setFld SAR_TDAC_RES_OPENF (b2n openF) [t]).setFld SAR_TDAC_RES_MUXF (b2n muxF) [t]).setFld
    SAR_TDAC_RES_GAINF (b2n gainF) [t]).raise SAR_TDAC_RES_DONE [t]
  let flag := fun (j : Nat) (s : State) =>
    s.setFld SAR_FAULT_FAULT (s.fld SAR_FAULT_FAULT [j / 32] ||| 2 ^ (j % 32)) [j / 32]
  let s := if gainF || muxF then (List.range 4).foldl (fun s m => flag (4 * c + m) s) s else s
  let s := if openF then flag (4 * c + q.pos) s else s
  let s := if gainF || muxF || openF then
      (s.raise SAR_STAT_DIAGF).emitUnit 5 .sar (4 * c + q.pos) SAR_TDAC_RES [t]
    else s
  let s := { s with sar := { s.sar with tdac := modNth s.sar.tdac t (fun _ => none) } }
  sarEnd c (s.lower SAR_TDAC_REQ_PEND [t])

/-- DIAG_COMPLETE (R256, R257): the last diagnostic conversion on test bus t ends; the codes read are D1, M1, D2, M2, I1,
I2, and for a pair the legs `np` and `nm`. Where MUX is selected without GAIN the spec converts no D1 and D2. -/
def execDiagComplete (t : Fin 4) (d1 m1 d2 m2 i1 i2 np nm : BitVec 16) (s : State) :
    Host.Outcome State Fault Refusal :=
  run [.sar] (fun s => match nth s.sar.tdac t.val none with
    | none => s
    | some q => if diagEnds s t.val q then diagJudge t.val q d1 m1 d2 m2 i1 i2 np nm s else s) s

/-! ### Registers of the converters -/

/-- The rule of SAR_CONV_c_CFG: a MASK bit at the odd position of a pair is refused (R247). -/
def sarCfgAct : Act := fun _ ix w s =>
  let m := SAR_CONV_CFG_MASK.of w
  if (SAR_CONV_CFG_DIFF01.on w && bit m 1) || (SAR_CONV_CFG_DIFF23.on w && bit m 3) then .badValue s
  else
    let s := s.store SAR_CONV_CFG ix w
    let c := ix.headD 0
    .ok (if s.fld SAR_CONV_TRG_SRC [c] = 4 && !(s.sarConv c).busy && m ≠ 0 then sarTrigger c s.now s else s)

/-- The rule of SAR_CONV_c_TRG (R248): DELAY above 4,999 and an invalid source are refused; selecting SRC 4 starts
the first scan. -/
def sarTrgAct : Act := fun _ ix w s =>
  let c := ix.headD 0
  if 4999 < SAR_CONV_TRG_DELAY.of w || 4 < SAR_CONV_TRG_SRC.of w then .badValue s
  else
    let old := s.fld SAR_CONV_TRG_SRC [c]
    let s := s.store SAR_CONV_TRG ix w
    .ok (if SAR_CONV_TRG_SRC.of w = 4 && old ≠ 4 && !(scanJobs s c).isEmpty then sarTrigger c s.now s else s)

/-- The rule of SAR_CONV_c_DIV. -/
def sarDivAct : Act := fun _ ix w s =>
  let d := SAR_CONV_DIV_DIV.of w
  if d = 0 || 20000 < d || d ≤ SAR_CONV_DIV_PH.of w then .badValue s else .ok (s.store SAR_CONV_DIV ix w)

/-! ### Output DACs -/

/-- Show DAC d's output: its code, or high impedance while EN is 0 or D8 off (R261), which reads 0x10000;
a low group gate sets its declared off state (01 R33). -/
def dacShow (d : Nat) (s : State) : State :=
  s.say (.pin .dac d (if !(s.isSet SAR_DAC_CFG_EN [d] && s.domOn 8) then 0x10000
    else match dacGroup s d with
      | some true => 0x10000
      | some false => s.fld SAR_DAC_CFG_SAFECODE [d]
      | none => s.fld SAR_DAC_CODE_CODE [d]))

/-- A code that DAC d is to load, within `bound` ns (40 from Phase 1, 100 otherwise, 1,000 for SAFECODE) and at least 1.0 µs after
the last load (R259 to R261). A code that has not been loaded is replaced, and counted. -/
def dacPut (d code bound : Nat) (safe : Bool) (s : State) : State :=
  if !s.domOn 8 then s
  else match (s.dacCh d).pend with
  | some p => (s.incrSat SAR_DAC_STAT_COAL [d]).modDac d (fun x => { x with pend := some (code, p.2.1, safe) })
  | none =>
    let r := s.draw
    let t := s.now + r.1 % (bound * nsF + 1)
    let t := match (s.dacCh d).last with
      | some l => max t (l + usF)
      | none => t
    r.2.modDac d (fun x => { x with pend := some (code, t, safe) })

/-- The rule of SAR_DAC_d_CODE: refused in Safe while SAFECODE is in force (R261). -/
def dacCodeAct : Act := fun _ ix w s =>
  let d := ix.headD 0
  if s.effMode = .safe && s.isSet SAR_DAC_CFG_SAFEACT [d] then .badMode s
  else .ok (dacPut d (SAR_DAC_CODE_CODE.of w) 100 false s)

/-- DAC_CODE_WRITE: a write of SAR_DAC_d_CODE (R259). -/
def execDacCodeWrite (m : Master) (d : Fin 16) (code : BitVec 16) (s : State) : Host.Outcome State Fault Refusal :=
  run [.sar] (regCmd dacCodeAct m SAR_DAC_CODE [d.val] (BitVec.ofNat 32 code.toNat)) s

/-- DAC d is loaded now, with the code that waits or with the one that stands (R260, 17 R494). -/
def dacNow (d : Nat) (s : State) : State :=
  let p := (s.dacCh d).pend
  let s := s.modDac d (fun _ => { pend := none, last := some s.now })
  dacShow d (match p with
    | some x => (s.setFld SAR_DAC_CODE_CODE x.1 [d]).setFld SAR_DAC_STAT_SAFE (b2n x.2.2) [d]
    | none => s)

/-- Load the code that waits at DAC d. -/
def dacLoad (d : Nat) (s : State) : State :=
  match (s.dacCh d).pend with
  | none => s
  | some p => dacNow d (advanceTo p.2.1 s)

/-- DAC_LOAD (R260): DAC d loads the code that stands. -/
def execDacLoad (d : Fin 16) (s : State) : Host.Outcome State Fault Refusal := run [.sar] (dacLoad d.val) s

/-- The rule of SAR_DAC_d_CFG: a change of EN shows at the output (R261). -/
def dacCfgAct : Act := fun _ ix w s =>
  let d := ix.headD 0
  let old := s.isSet SAR_DAC_CFG_EN [d]
  let s := s.store SAR_DAC_CFG ix w
  .ok (if s.isSet SAR_DAC_CFG_EN [d] = old then s else dacShow d s)

/-- SAFECODE is loaded within 1.0 µs by every DAC that SAFEACT selects: on entry to Safe and on nRESET (R261). -/
def dacSafe (s : State) : State :=
  (List.range 16).foldl (fun s d =>
    if s.isSet SAR_DAC_CFG_SAFEACT [d] then dacPut d (s.fld SAR_DAC_CFG_SAFECODE [d]) 1000 true s else s) s

/-- Safe is left: SAFECODE is no longer in force. -/
def dacLeaveSafe (s : State) : State := (List.range 16).foldl (fun s d => s.lower SAR_DAC_STAT_SAFE [d]) s

/-- The scans, requests and waiting codes of the block are gone: a reset, or D8 off (R242, R261). -/
def sarClear (s : State) : State := { s with sar := { phase := s.sar.phase } }

end Sys2Proof.Machine
end

