-- ==== Sys2Proof/Machine/PwmCut.lean ====
section
/-!
DEFINITION. PWM pairs and the fast cut matrix (10): edges and dead times, shadows and commits, trips, converter triggers,
static levels, cuts and the order of forces.
-/
namespace Sys2Proof.Machine

/-- One step of 156.25 ps in units of 2⁻¹⁶ ns. -/
def pwmStep : Nat := 10240

/-- One CK_PWM clock (2.5 ns) in the same units. -/
def pwmClk : Nat := 163840

/-- Pair k beside its registers. -/
def State.pair (s : State) (k : Nat) : Pair := nth s.pwm.pairs k {}

/-- Change pair k. -/
def State.modPair (s : State) (k : Nat) (f : Pair → Pair) : State :=
  { s with pwm := { s.pwm with pairs := modNth s.pwm.pairs k f } }

/-- An instant moved up to a step of 156.25 ps, on which every edge falls (R287). -/
def stepUp (t : Nat) : Nat := ceilDiv t pwmStep * pwmStep

/-- An instant moved up to an edge of CK_PWM, which counts from 0 of device time. DEDUCED: log 220. -/
def clkUp (t : Nat) : Nat := ceilDiv t pwmClk * pwmClk

/-- A step in the span of length `w` from t on, which the spec leaves open. -/
def stepIn (t w v : Nat) : Nat := stepUp t + v % ((t + w - stepUp t) / pwmStep + 1) * pwmStep

/-- MODE of pair k. -/
def pairMode (s : State) (k : Nat) : Nat := s.fld PWM_PR_CFG_MODE [k]

/-! ### Outputs and forces -/

/-- Set the active states of a pair's outputs; a change shows at the balls (R287). -/
def pairOut (k : Nat) (h l : Bool) (s : State) : State :=
  let x := s.pair k
  let s := s.modPair k (fun x => { x with h := h, l := l, hOn := if h then x.hOn else none })
  let s := if x.h = h then s else s.ball .pwmH k (b2n (h != s.isSet PWM_PR_CFG_POLH [k]))
  if x.l = l then s else s.ball .pwmL k (b2n (l != s.isSet PWM_PR_CFG_POLL [k]))

/-- Both balls of pair k show its active states in the present polarity. -/
def pairShow (k : Nat) (s : State) : State :=
  let s := s.ball .pwmH k (b2n ((s.pair k).h != s.isSet PWM_PR_CFG_POLH [k]))
  s.ball .pwmL k (b2n ((s.pair k).l != s.isSet PWM_PR_CFG_POLL [k]))

/-- What the mode does with pair k (R307): nothing, both inactive, or L active. -/
def modeAction (s : State) (k : Nat) : Option Bool :=
  let a := fun (n : Nat) => match n with
    | 1 => some false
    | 2 => some true
    | _ => none
  match s.effMode with
  | .dark | .seed | .keeper => some false
  | .stop => a (s.fld PWM_PR_CFG_MACT [k])
  | .safe => if s.fld PWM_PR_CFG_MACT [k] = 0 then some false else a (s.fld PWM_PR_CFG_MACT [k])
  | _ => none

/-- Whether the integrated axis that holds pair k in MODE 4 is without torque: its gate line is low, it is in safe torque off, or a
fault has taken its windings off (11 R319, R325). -/
def torqueOff (s : State) (k : Nat) : Bool :=
  let x := nth s.axes (k / 4) {}
  pairMode s k = 4 && (!x.gate || x.off || s.isSet MOT_AX_STAT_STO [k / 4])

/-- The strongest force on pair k now (R306): rank, and whether L is active. -/
def pairForce (s : State) (k : Nat) : Nat × Bool :=
  if !bit s.pwm.gate k || torqueOff s k then (4, false)
  else if (s.pair k).cut then (3, s.fld PWM_PR_FCCTL_ACT [k] = 1)
  else if s.isSet PWM_PR_STAT_LATCHOFF [k] then (2, false)
  else match modeAction s k with
  | some l => (1, l)
  | none => (0, false)

/-- The dead time of a turn-on in units of 2⁻¹⁶ ns for a count of 0.5 ns: to the nearest step, halves up (R290). -/
def deadSteps (n : Nat) : Nat := (n * 32 + 5) / 10 * pwmStep

/-- Whether pair k has periods: it runs in FIXED, COT or COFT, or for an integrated drive (11 R320). -/
def hasPeriods (s : State) (k : Nat) : Bool := (s.pair k).run && pairMode s k ≠ 3

/-- The registers of pair k that act at a PS, as they stand now. -/
def pairRegs (s : State) (k : Nat) : PairRegs :=
  { minoff := s.reg PWM_PR_MINOFF [k], dthl := s.reg PWM_PR_DTHL [k], dtlh := s.reg PWM_PR_DTLH [k],
    trip := s.reg PWM_PR_TRIP [k], tripn := s.reg PWM_PR_TRIPN [k] }

/-- The same as they are in force (R292): since the last PS, and without periods as they stand. -/
def heldRegs (s : State) (k : Nat) : PairRegs := if hasPeriods s k then (s.pair k).held else pairRegs s k

/-- The dead-time register of a turn-on in force: DTLH before H, DTHL before L. -/
def deadWord (s : State) (k : Nat) (toH : Bool) : Word := if toH then (heldRegs s k).dtlh else (heldRegs s k).dthl

/-- MINOFF in force. -/
def minOff (s : State) (k : Nat) : Nat := PWM_PR_MINOFF_MINOFF.of (heldRegs s k).minoff

/-- The period in force: that of pair 4j for the pairs of an integrated drive (11 R320). -/
def pairPer (s : State) (k : Nat) : Nat := s.fld PWM_PR_PER_VALUE [if pairMode s k = 4 then k - k % 4 else k]

/-- Both outputs to what a force drives; L turns on after D_HL when H was on. -/
def driveForce (k : Nat) (l : Bool) (t : Nat) (s : State) : State :=
  let wasH := (s.pair k).h
  if l && wasH then
    pairOut k false false (s.modPair k (fun x => { x with dead := some (false, stepUp t) }))
  else pairOut k false l (s.modPair k (fun x => { x with dead := none }))

/-- The outputs of a pair without periods: the static levels in MODE 3, otherwise inactive (R302). -/
def idleOut (k : Nat) (s : State) : State :=
  if pairMode s k = 3 then
    let w := s.fld PWM_LVL_LVL [k / 16]
    pairOut k (bit w (2 * (k % 16))) (bit w (2 * (k % 16) + 1)) s
  else pairOut k false false (s.modPair k (fun x => { x with dead := none }))

/-- A force has changed: a stronger one acts at once; a weaker one, or none, waits for the next PS, and a pair without
periods takes it at once (R306). -/
def pairRefresh (k : Nat) (s : State) : State :=
  let f := pairForce s k
  let r := (s.pair k).rank
  if r < f.1 then driveForce k f.2 s.now (s.modPair k (fun x => { x with rank := f.1 }))
  else if hasPeriods s k then s
  else
    let s := s.modPair k (fun x => { x with rank := f.1 })
    if f.1 = 0 then idleOut k s else driveForce k f.2 s.now s

/-- Every pair meets the forces of the present mode and gates. -/
def pwmRefresh (s : State) : State := (List.range 64).foldl (fun s k => pairRefresh k s) s

/-! ### The fast cut matrix -/

/-- The sources that pair k selects. -/
def cutMask (s : State) (k : Nat) : Nat := s.fld PWM_PR_FCLO_SRC [k] + s.fld PWM_PR_FCHI_SRC [k] * 2 ^ 32

/-- FAST_CUT of one pair (R304, R305). -/
def cutPair (k : Nat) (s : State) : State :=
  if (s.pair k).cut then s
  else
    let s := s.modPair k (fun x => { x with cut := true, clr := false })
    let s := ((s.raise PWM_PR_STAT_CUTNOW [k]).raise PWM_PR_FCCTL_CUTF [k]).raise PWM_STAT_CUTF
    let s := pairRefresh k (s.incr PWM_FCTOT_COUNT)
    if s.isSet PWM_PR_FCCTL_LATCH [k] then s.emitUnit 5 .pwm k PWM_PR_FCCTL [k] else s

/-- Whether the cut of pair k ends now: unlatched with no source asserted, or cleared (R305). -/
def cutEnds (s : State) (k : Nat) : Bool :=
  let x := s.pair k
  x.cut && (if s.isSet PWM_PR_FCCTL_LATCH [k] then x.clr else s.pwm.src &&& cutMask s k = 0)

/-- The cut of pair k ends (FAST_CUT_END). -/
def endCut (k : Nat) (s : State) : State :=
  (s.lower PWM_PR_STAT_CUTNOW [k]).modPair k (fun x => { x with cut := false, clr := false })

/-- A pair without periods ends its cut as soon as it may. -/
def idleCutEnd (k : Nat) (s : State) : State :=
  if !hasPeriods s k && cutEnds s k then pairRefresh k (endCut k s) else s

/-- The least instant of pair k's next PS in COT and COFT: PS + ON + MINOFF (R289). -/
def leastPS (s : State) (k : Nat) : Nat := (s.pair k).ps + (s.fld PWM_PR_ON_VALUE [k] + minOff s k) * pwmStep

/-- Whether pair k restarts on source n. -/
def restartsOn (s : State) (k n : Nat) : Bool :=
  hasPeriods s k && (pairMode s k = 1 || pairMode s k = 2) && s.fld PWM_PR_CFG_RSTSRC [k] = n && (s.pair k).restart.isNone

/-- A fast cut source changes (R303, R304): the pairs that select it are cut; pairs that restart on it hold an assertion, and one
that was still asserted at PS + ON + MINOFF has restarted the period then (R289). -/
def setSource (n : Nat) (on : Bool) (s : State) : State :=
  if bit s.pwm.src n = on then s
  else
    let s := { s with pwm := { s.pwm with src := putBits s.pwm.src n n (b2n on) } }
    (List.range 64).foldl (fun s k =>
      let sel := bit (cutMask s k) n
      let s := if restartsOn s k n && (on || leastPS s k ≤ s.now) then
          s.modPair k (fun x => { x with restart := some (if on then stepUp s.now else leastPS s k) })
        else s
      if on then (if sel then cutPair k s else s)
      else if sel then idleCutEnd k s else s) s

/-! ### Trips -/

/-- The trip inputs that are asserted, after TRIPPOL (R298). -/
def tripLines (s : State) : Nat := s.pwm.trip ^^^ s.fld PWM_TRIPPOL_INV

/-- Whether pair k sees an asserted trip. -/
def tripSeen (s : State) (k : Nat) : Bool := tripLines s &&& PWM_PR_TRIP_MASK.of (heldRegs s k).trip ≠ 0

/-- The end of the blanking window of pair k. -/
def blankEnd (s : State) (k : Nat) : Option Nat :=
  (s.pair k).hOn.map (fun t => t + PWM_PR_TRIPN_BLANK.of (heldRegs s k).tripn * pwmClk)

/-- A trip of pair k while H is on, at instant t (R299, R300): H goes off within 20 ns of the assertion at the ball, of which the
filter has taken 5 ns, and L follows; TRIPRUN counts, and
reaching N latches the pair off. -/
def tripPair (k t : Nat) (s : State) : State :=
  let d := s.draw
  let off := stepIn t (15 * nsF) d.1
  let s := pairOut k false (s.pair k).l d.2
  let s := s.modPair k (fun x => { x with dead := some (false, off) })
  let s := if pairMode s k = 2 then s.modPair k (fun x => { x with restart := some (stepUp t) }) else s
  let first := !(s.pair k).tripped
  let s := s.modPair k (fun x => { x with tripped := true })
  let s := (s.incrSat PWM_PR_CNT_TRIPS [k]).incr PWM_TRIPTOT_COUNT
  let s := if first then s.incrSat PWM_PR_STAT_TRIPRUN [k] else s
  if first && PWM_PR_TRIPN_N.of (heldRegs s k).tripn ≤ s.fld PWM_PR_STAT_TRIPRUN [k] then
    let s := (s.raise PWM_PR_STAT_LATCHOFF [k]).raise PWM_STAT_LOF
    (pairRefresh k s).emitUnit 5 .pwm k PWM_PR_STAT [k]
  else s

/-- Trips act on pair k now, unless blanking holds them (R299). -/
def tripCheck (k t : Nat) (s : State) : State :=
  if hasPeriods s k && (s.pair k).h && (s.pair k).rank = 0 && tripSeen s k &&
      (match blankEnd s k with
       | some e => e ≤ t
       | none => false) then tripPair k t s
  else s

/-- The trip balls or their polarity have changed: the cut sources follow and the pairs look at them. -/
def tripUpdate (s : State) : State :=
  let s := (List.range 16).foldl (fun s i => setSource i (bit (tripLines s) i) s) s
  (List.range 64).foldl (fun s k => tripCheck k s.now s) s

/-- A level at a trip ball acts when it has passed the glitch filter of 2 clocks (R298). -/
def setTrip (i : Nat) (level : Bool) (s : State) : State :=
  let s := advanceTo (s.now + 2 * pwmClk) s
  tripUpdate { s with pwm := { s.pwm with trip := putBits s.pwm.trip i i (b2n level) } }

/-! ### Periods -/

/-- An output turns on at instant t: H opens its blanking window (R299). -/
def turnOn (k : Nat) (toH : Bool) (t : Nat) (s : State) : State :=
  let s := s.modPair k (fun x => { x with dead := none })
  let x := s.pair k
  if toH then
    let s := pairOut k true x.l s
    tripCheck k t (s.modPair k (fun x => { x with hOn := some t }))
  else pairOut k x.h true s

/-- A shadow's value as it stood at instant t. -/
def shadowAt (l : List (Nat × Nat)) (t : Nat) : Option Nat := (l.find? (fun e => e.1 ≤ t)).map (·.2)

/-- A shadow with a new write; writes that a later reload cannot ask for are dropped. -/
def pushShadow (l : List (Nat × Nat)) (now v : Nat) : List (Nat × Nat) :=
  let lim := now - 8 * pwmClk
  (now, v) :: (l.takeWhile (fun e => lim < e.1)) ++ (l.dropWhile (fun e => lim < e.1)).take 1

/-- A transfer at a reload at instant t (R292, R293, R295): every shadow as it stood 8 clocks before goes into force, ON is
clamped in FIXED, COT and COFT, the written marks are cleared, and the PWM actions whose commits it serves are reported. -/
def transfer (k t : Nat) (s : State) : State :=
  let lim := t - 8 * pwmClk
  let x := s.pair k
  let s := match shadowAt x.shPer lim with
    | some v => s.setFld PWM_PR_PER_VALUE v [k]
    | none => s
  let s := (List.range 4).foldl (fun s j => match shadowAt (nth x.shCmp j []) lim with
    | some v => s.setReg PWM_PR_CMP (BitVec.ofNat 32 v) [k, j]
    | none => s) s
  let on := (shadowAt x.shOn lim).getD (s.fld PWM_PR_ON_VALUE [k])
  let max_ := s.fld PWM_PR_PER_VALUE [k] - minOff s k
  let clamp := pairMode s k < 3 && max_ < on
  let s := s.setFld PWM_PR_ON_VALUE (if clamp then max_ else on) [k]
  let s := if clamp then (s.raise PWM_PR_STAT_CLAMP [k]).raise PWM_STAT_SHF else s
  let s := s.modPair k (fun x => { x with mPer := none, mOn := none, half := 0, acts := x.acts.filter (fun a => lim < a.2) })
  (x.acts.filter (fun a => a.2 ≤ lim)).foldl (fun s a => rcpOutcome a.1 (if clamp then codeArgument else codeDone) s) s

/-- What a reload at instant t does with the shadows of pair k. Commits registered 8 clocks before it or earlier transfer; a later
one, up to the clock of the reload, sets LATECOMMIT and waits for the next (R296). Auto-commit transfers a pair of which both
shadows had been written by then, and counts a half-written one (R294). -/
def reloadShadows (k t : Nat) (s : State) : State :=
  let x := s.pair k
  let lim := t - 8 * pwmClk
  let inTime := x.commits.any (· ≤ lim)
  let s := if x.commits.any (fun c => lim < c && c / pwmClk ≤ t / pwmClk) then
      (s.raise PWM_PR_STAT_LATECOMMIT [k]).raise PWM_STAT_SHF
    else s
  let per := x.mPer.any (· ≤ lim)
  let on := x.mOn.any (· ≤ lim)
  if inTime then transfer k t (s.modPair k (fun x => { x with commits := x.commits.filter (lim < ·) }))
  else if !s.isSet PWM_PR_CFG_AUTO [k] then s
  else if per && on then transfer k t s
  else if per || on then
    let s := s.modPair k (fun x => { x with half := x.half + 1 })
    if (s.pair k).half = s.fld PWM_PR_CFG_HALFN [k] then (s.raise PWM_PR_STAT_HALF [k]).raise PWM_STAT_SHF else s
  else s

/-- The on-time that an integrated drive has given goes into force at a reload, without a commit (11 R321). -/
def takeDuty (k : Nat) (s : State) : State :=
  match (s.pair k).duty with
  | some d => if pairMode s k = 4 then (s.setFld PWM_PR_ON_VALUE d [k]).modPair k (fun x => { x with duty := none }) else s
  | none => s

/-- The reference edges of a period start at instant t (R288). -/
def startEdges (k t : Nat) (s : State) : State :=
  let on := s.fld PWM_PR_ON_VALUE [k]
  let x := s.pair k
  if pairMode s k = 2 then
    pairOut k false x.l (s.modPair k (fun x => { x with dead := some (false, t) }))
  else if on = 0 then
    if x.h then pairOut k false x.l (s.modPair k (fun x => { x with dead := some (false, t) }))
    else if x.dead.any (fun d => !d.1) then s
    else pairOut k false true (s.modPair k (fun x => { x with dead := none }))
  else if x.h then s
  else pairOut k false false (s.modPair k (fun x => { x with dead := some (true, t) }))

/-- A period of pair k starts at instant t (R288 to R307). -/
def startPeriod (k t : Nat) (s : State) : State :=
  let s := s.modPair k (fun x => { x with held := pairRegs s k })
  let s := takeDuty k (reloadShadows k t s)
  let s := if (s.pair k).tripped then s else s.setFld PWM_PR_STAT_TRIPRUN 0 [k]
  let s := if cutEnds s k then endCut k s else s
  if !s.isSet PWM_PR_CFG_EN [k] && pairMode s k ≠ 4 then
    let s := (s.lower PWM_PR_STAT_RUN [k]).modPair k (fun x => { x with run := false, first := none, restart := none })
    pairRefresh k (idleOut k s)
  else
    let was := (s.pair k).rank
    let s := s.modPair k (fun x => { x with ps := t, run := true, first := none, onEnded := false, tripped := false,
                                            fired := [], restart := none })
    let s := s.raise PWM_PR_STAT_RUN [k]
    let f := pairForce s k
    let s := s.modPair k (fun x => { x with rank := f.1 })
    if f.1 = 0 then
      let s := if was = 2 then s.setFld PWM_PR_STAT_TRIPRUN 0 [k] else s
      startEdges k t s
    else driveForce k f.2 t s

/-- The instant of the next PS of pair k (R288, R289, R291). -/
def nextPS (s : State) (k : Nat) : Option Nat :=
  let x := s.pair k
  if !x.run then x.first
  else if pairMode s k ≠ 3 then
    let last := x.ps + pairPer s k * pwmStep
    if pairMode s k = 1 || pairMode s k = 2 then
      match x.restart with
      | some r => some (min last (max r (leastPS s k)))
      | none => some (if bit s.pwm.src (s.fld PWM_PR_CFG_RSTSRC [k]) then min last (leastPS s k) else last)
    else some last
  else none

/-- PWM_RELOAD (R292): pair k reaches its next period start. -/
def execPwmReload (k : Fin 64) (s : State) : Host.Outcome State Fault Refusal :=
  run [.pwm] (fun s => match nextPS s k.val with
    | some t => startPeriod k.val t (advanceTo t s)
    | none => s) s

/-- PWM_RESTART (R289): the restart source of pair k asserts and ends its COT or COFT period. -/
def execPwmRestart (k : Fin 64) (s : State) : Host.Outcome State Fault Refusal :=
  run [.pwm] (fun s =>
    let k := k.val
    if hasPeriods s k && (pairMode s k = 1 || pairMode s k = 2) then
      let s := setSource (s.fld PWM_PR_CFG_RSTSRC [k]) true s
      match nextPS s k with
      | some t => startPeriod k t (advanceTo t s)
      | none => s
    else s) s

/-- The on time of pair k's period ends at t: the outputs change unless a trip or a cut holds them. -/
def onTimeEnds (k t : Nat) (s : State) : State :=
  let s := s.modPair k (fun x => { x with onEnded := true })
  if (s.pair k).rank ≠ 0 then s
  else if pairMode s k = 2 then
    pairOut k (s.pair k).h false (s.modPair k (fun x => { x with dead := some (true, t) }))
  else if (s.pair k).h || (s.pair k).dead.any (·.1) then
    pairOut k false (s.pair k).l (s.modPair k (fun x => { x with dead := some (false, t) }))
  else s

/-- PWM_ON_END (R288): at PS + ON the reference edge falls. -/
def execPwmOnEnd (k : Fin 64) (s : State) : Host.Outcome State Fault Refusal :=
  run [.pwm] (fun s =>
    let k := k.val
    let x := s.pair k
    let on := s.fld PWM_PR_ON_VALUE [k]
    if !hasPeriods s k || x.onEnded || (on = 0 && pairMode s k ≠ 2) then s
    else
      let t := x.ps + on * pwmStep
      onTimeEnds k t (advanceTo t s)) s

/-- The span of a dead-time field in units of 2⁻¹⁶ ns. -/
def deadSpan (f : Fld) (w : Word) : Nat := deadSteps (f.of w)

/-- The output that waits turns on at the end of its dead time: after DTMIN, or with ADT and no crossing after DTMAX, which is
counted. -/
def deadEnd (k : Nat) (toH : Bool) (off : Nat) (s : State) : State :=
  let w := deadWord s k toH
  let adt := PWM_PR_DTHL_ADT.on w
  let t := off + deadSpan (if adt then PWM_PR_DTHL_DTMAX else PWM_PR_DTHL_DTMIN) w
  let s := advanceTo t s
  turnOn k toH t (if adt then s.incrSat PWM_PR_CNT_ADTMISS [k] else s)

/-- DEAD_TIME_END (R290): the output that waits turns on. -/
def execDeadTimeEnd (k : Fin 64) (s : State) : Host.Outcome State Fault Refusal :=
  run [.pwm] (fun s => match (s.pair k.val).dead with
    | none => s
    | some (toH, off) => deadEnd k.val toH off s) s

/-- SWS_CROSSING (R290): SWS[k] crosses now; with ADT the first crossing in the expected direction after the turn-off times the
turn-on. A crossing that comes at or after t_off + DTMAX is none. -/
def execSwsCrossing (k : Fin 64) (rising : Bool) (s : State) : Host.Outcome State Fault Refusal :=
  run [.pwm] (fun s =>
    let k := k.val
    match (s.pair k).dead with
    | none => s
    | some (toH, off) =>
      let w := deadWord s k toH
      let top := off + deadSpan PWM_PR_DTHL_DTMAX w
      if PWM_PR_DTHL_ADT.on w && top ≤ s.now then deadEnd k toH off s
      else if PWM_PR_DTHL_ADT.on w && rising = toH && off ≤ s.now then
        let tx := s.now / pwmStep * pwmStep
        let t := min top (max (off + deadSpan PWM_PR_DTHL_DTMIN w) (tx + deadSpan PWM_PR_DTHL_MARGIN w))
        turnOn k toH t (advanceTo t s)
      else s) s

/-- COMPARE_FIRE (R301): compare j of pair k reaches its instant and triggers its converters. -/
def execCompareFire (k : Fin 64) (j : Fin 4) (s : State) : Host.Outcome State Fault Refusal :=
  run [.pwm] (fun s =>
    let k := k.val
    let j := j.val
    let x := s.pair k
    let from_ := if s.isSet PWM_PR_CMP_REF [k, j] then s.fld PWM_PR_ON_VALUE [k] else 0
    let t := x.ps + (from_ + s.fld PWM_PR_CMP_VALUE [k, j]) * pwmStep
    if hasPeriods s k && s.isSet PWM_PR_CMP_EN [k, j] && !x.fired.contains j &&
        (match nextPS s k with
         | some e => t < e
         | none => false) then
      let s := (advanceTo t s).modPair k (fun x => { x with fired := j :: x.fired })
      sarSource 2 k j t s
    else s) s

/-- TRIP_ASSERT (R298, R299): the level at TRIP[i] changes. -/
def execTripAssert (i : Fin 16) (level : Bool) (s : State) : Host.Outcome State Fault Refusal :=
  run [.pwm] (setTrip i.val level) s

/-- BLANKING_WINDOW_CLOSE (R299): a trip still present when the window of pair k closes acts at the close. -/
def execBlankingWindowClose (k : Fin 64) (s : State) : Host.Outcome State Fault Refusal :=
  run [.pwm] (fun s => match blankEnd s k.val with
    | some e => tripCheck k.val e (advanceTo e s)
    | none => s) s

/-- FAST_CUT (R303, R304): a source of the fast cut matrix asserts or deasserts. Sources 0 to 15 are the trip inputs. -/
def execFastCut (n : Fin 64) (on : Bool) (s : State) : Host.Outcome State Fault Refusal :=
  run [.pwm] (fun s =>
    if n.val < 16 then setTrip n.val (on != bit (s.fld PWM_TRIPPOL_INV) n.val) s else setSource n.val on s) s

/-! ### Registers -/

/-- Commit group g at instant t, registered at an edge of CK_PWM (R291, R293): its running pairs transfer at a reload; a pair with
EN starts PH after the commit. -/
def commitGroup (g t : Nat) (s : State) : State :=
  let t := clkUp t
  (List.range 64).foldl (fun s k =>
    if s.fld PWM_PR_CFG_GROUP [k] ≠ g || pairMode s k = 3 then s
    else
      let x := s.pair k
      if x.run || pairMode s k = 4 then s.modPair k (fun x => { x with commits := x.commits ++ [t] })
      else if s.isSet PWM_PR_CFG_EN [k] && x.first.isNone then
        s.modPair k (fun x => { x with commits := [t], first := some (t + s.fld PWM_PR_PH_VALUE [k] * pwmStep) })
      else s) s

/-- The rule of PWM_COMMIT. -/
def pwmCommitAct : Act := fun _ _ w s =>
  .ok ((List.range 16).foldl (fun s g => if bit w.toNat g then commitGroup g s.now s else s) s)

/-- PWM_COMMIT: a write of PWM_COMMIT (R293). -/
def execPwmCommit (m : Master) (groups : BitVec 16) (s : State) : Host.Outcome State Fault Refusal :=
  run [.pwm] (regCmd pwmCommitAct m PWM_COMMIT [] (BitVec.ofNat 32 groups.toNat)) s

/-- Write the PER shadow of pair k. -/
def shadowPer (k v : Nat) (s : State) : State :=
  s.modPair k (fun x => { x with shPer := pushShadow x.shPer s.now v, mPer := some (x.mPer.getD s.now) })

/-- Write the ON shadow of pair k. -/
def shadowOn (k v : Nat) (s : State) : State :=
  s.modPair k (fun x => { x with shOn := pushShadow x.shOn s.now v, mOn := some (x.mOn.getD s.now) })

/-- The range of PER (R308). -/
def perOk (v : Nat) : Bool := 1024 ≤ v && v < 2 ^ 28

/-- The rule of PWM_PR_k_PER (R292). -/
def pwmPerAct : Act := fun _ ix w s =>
  let v := PWM_PR_PER_VALUE.of w
  if !perOk v then .badValue s else .ok (shadowPer (ix.headD 0) v s)

/-- The rule of PWM_PR_k_ON (R292). -/
def pwmOnAct : Act := fun _ ix w s => .ok (shadowOn (ix.headD 0) (PWM_PR_ON_VALUE.of w) s)

/-- The rule of PWM_PR_k_CMP_j (R292). -/
def pwmCmpAct : Act := fun _ ix w s =>
  .ok (s.modPair (ix.headD 0) (fun x => { x with shCmp := modNth x.shCmp (nth ix 1 0) (fun l => pushShadow l s.now w.toNat) }))

/-- SHADOW_WRITE: a write of PER (0), ON (1) or CMP_j (2 + j) of pair k (R292). -/
def execShadowWrite (m : Master) (k : Fin 64) (which : Fin 6) (w : Word) (s : State) :
    Host.Outcome State Fault Refusal :=
  run [.pwm] (match which.val with
    | 0 => regCmd pwmPerAct m PWM_PR_PER [k.val] w
    | 1 => regCmd pwmOnAct m PWM_PR_ON [k.val] w
    | j + 2 => regCmd pwmCmpAct m PWM_PR_CMP [k.val, j] w) s

/-- The rule of PWM_PR_k_PH: PH not below PER is refused. -/
def pwmPhAct : Act := fun _ ix w s =>
  if s.fld PWM_PR_PER_VALUE ix ≤ PWM_PR_PH_VALUE.of w then .badValue s else .ok (s.store PWM_PR_PH ix w)

/-- The rule of the dead-time registers. -/
def pwmDtAct (r : Reg) : Act := fun _ ix w s =>
  let mn := bits w.toNat 11 0
  let mx := bits w.toNat 23 12
  if mn < 4 || 4000 < mx || mx < mn || bits w.toNat 29 24 < 12 then .badValue s else .ok (s.store r ix w)

/-- The rule of PWM_PR_k_TRIPN. -/
def pwmTripnAct : Act := fun _ ix w s =>
  if PWM_PR_TRIPN_N.of w = 0 || 4000 < PWM_PR_TRIPN_BLANK.of w then .badValue s else .ok (s.store PWM_PR_TRIPN ix w)

/-- The rule of PWM_PR_k_CFG (R288, R291, R294, R307): a write of MODE 4, and every write of MODE while an integrated axis holds the
pair (11 R320), is refused; a new polarity shows at the balls. -/
def pwmCfgAct : Act := fun _ ix w s =>
  let k := ix.headD 0
  let mode := PWM_PR_CFG_MODE.of w
  let pol := fun (s : State) => (s.isSet PWM_PR_CFG_POLH ix, s.isSet PWM_PR_CFG_POLL ix)
  if 4 ≤ mode || PWM_PR_CFG_HALFN.of w = 0 || PWM_PR_CFG_MACT.of w = 3 then .badValue s
  else if pairMode s k = 4 then .badState s
  else
    let t := s.store PWM_PR_CFG ix w
    .ok (idleCutEnd k (pairRefresh k (if pol t = pol s then t else pairShow k t)))

/-- The rule of PWM_TRIPPOL (R298). -/
def pwmTrippolAct : Act := fun _ ix w s => .ok (tripUpdate (s.store PWM_TRIPPOL ix w))

/-- The rule of PWM_FC_SW: bit i is source 60 + i (R303). -/
def pwmFcSwAct : Act := fun _ ix w s =>
  .ok ((List.range 4).foldl (fun s i => setSource (60 + i) (bit w.toNat i) s) (s.store PWM_FC_SW ix w))

/-- Static levels of group g under a mask (R302). -/
def setLevels (g mask v : Nat) (s : State) : State :=
  let old := s.fld PWM_LVL_LVL [g]
  let s := s.setFld PWM_LVL_LVL ((old &&& (0xFFFFFFFF - mask % 2 ^ 32)) ||| (v &&& mask % 2 ^ 32)) [g]
  (List.range 16).foldl (fun s i => pairRefresh (16 * g + i) s) s

/-- The rule of PWM_LVL_g. -/
def pwmLvlAct : Act := fun _ ix w s => .ok (setLevels (ix.headD 0) 0xFFFFFFFF w.toNat s)

/-- STATIC_LEVEL_WRITE: a write of PWM_LVL_g (R302). -/
def execStaticLevelWrite (m : Master) (g : Fin 4) (w : Word) (s : State) : Host.Outcome State Fault Refusal :=
  run [.pwm] (regCmd pwmLvlAct m PWM_LVL [g.val] w) s

/-- The rule of PWM_PR_k_STAT: flags clear; clearing LATCHOFF lets the pair resume at the next PS (R300). -/
def pwmStatAct : Act := fun _ ix w s => .ok (pairRefresh (ix.headD 0) (s.store PWM_PR_STAT ix w))

/-- LATCHOFF_CLEAR: writing the clear of PWM_PR_k_STAT.LATCHOFF (R300). -/
def execLatchoffClear (m : Master) (k : Fin 64) (s : State) : Host.Outcome State Fault Refusal :=
  run [.pwm] (regCmd pwmStatAct m PWM_PR_STAT [k.val] 0x10000) s

/-- The rule of PWM_PR_k_FCCTL (R304, R305). -/
def pwmFcctlAct : Act := fun _ ix w s =>
  let k := ix.headD 0
  if 2 ≤ PWM_PR_FCCTL_ACT.of w then .badValue s
  else
    let s := s.store PWM_PR_FCCTL ix w
    let s := if PWM_PR_FCCTL_CUTF_CLR.on w then s.lower PWM_PR_FCCTL_CUTF ix else s
    let s := if PWM_PR_FCCTL_CLR.on w && (s.pair k).cut && s.pwm.src &&& cutMask s k = 0 then
        s.modPair k (fun x => { x with clr := true })
      else s
    .ok (idleCutEnd k s)

/-- FAST_CUT_CLEAR: writing PWM_PR_k_FCCTL.CLR (R305). -/
def execFastCutClear (m : Master) (k : Fin 64) (s : State) : Host.Outcome State Fault Refusal :=
  run [.pwm] (fun s => regCmd pwmFcctlAct m PWM_PR_FCCTL [k.val]
    (BitVec.ofNat 32 (256 + (s.reg PWM_PR_FCCTL [k.val]).toNat % 8)) s) s

/-- PWM_PR_k_FCLO and FCHI: an asserted source that becomes selected cuts the pair (R304). -/
def pwmFcSelAct (r : Reg) : Act := fun _ ix w s =>
  let k := ix.headD 0
  let s := s.store r ix w
  .ok (if s.pwm.src &&& cutMask s k ≠ 0 then cutPair k s else idleCutEnd k s)

/-! ### Loops, recipes, resets -/

/-- The instant at which a release or an action of Phase 1 is registered: at most 25 ns after T(n) (R297). -/
def pwmRegistered (s : State) : Nat × State :=
  let d := s.draw
  (s.now + d.1 % (25 * nsF + 1), d.2)

/-- A loop release of value `x` (Q1.30) to pair k (R297). -/
def pwmLoopRelease (k : Nat) (x : Int) (s : State) : State :=
  if 3 ≤ pairMode s k then s.raise PWM_PR_STAT_REJ [k]
  else
    let p := s.pair k
    let per := if p.mPer.isSome then (p.shPer.head?.map (·.2)).getD 1024 else s.fld PWM_PR_PER_VALUE [k]
    let on := rshRound (max 0 (min (2 ^ 30) x) * per) 30
    let r := pwmRegistered (shadowOn k on.toNat s)
    commitGroup (s.fld PWM_PR_CFG_GROUP [k]) r.1 r.2

/-- A recipe PWM action on pair k (R297), with an on-time beyond the range of ON clamped at its transfer (R295): its failure code at C, or none and it is reported at the transfer. -/
def pwmAction (k p0 p1 id : Nat) (s : State) : Option Nat × State :=
  if 3 ≤ pairMode s k || !perOk p0 then (some codeArgument, s)
  else if !bit s.pwm.gate k then (some codeSafetyVeto, s)
  else if s.isSet PWM_PR_STAT_LATCHOFF [k] then (some codeTargetFault, s)
  else
    let r := pwmRegistered (shadowOn k p1 (shadowPer k p0 s))
    (none, commitGroup (s.fld PWM_PR_CFG_GROUP [k]) r.1 (r.2.modPair k (fun x => { x with acts := x.acts ++ [(id, clkUp r.1)] })))

/-- A gate line of pair k (01 R33). -/
def setPairGate (k : Nat) (high : Bool) (s : State) : State :=
  pairRefresh k { s with pwm := { s.pwm with gate := putBits s.pwm.gate k k (b2n high) } }

/-- nRESET, POR, FEED: every output inactive and every pair stopped (R307). Trip balls and gates stay. -/
def pwmStop (s : State) : State :=
  let s := (List.range 64).foldl (fun s k => pairOut k false false s) s
  { s with pwm := { s.pwm with pairs := List.replicate 64 {} } }

end Sys2Proof.Machine
end

