-- ==== Sys2Proof/Machine/Arc.lean ====
section
/-!
DEFINITION. Arc detection (07 R222 to R225): the arc lines and the three places that they reach.
-/
namespace Sys2Proof.Machine

/-- The arc line of channel n reaches the fast cut matrix (R223). -/
def arcLine (n : Nat) (on : Bool) (s : State) : State :=
  setSource (16 + n) on (s.modRf n (fun c => { c with arc := on }))

/-- The number of arc items of channel n that wait. -/
def arcsWaiting (s : State) (n : Nat) : Nat :=
  (s.adm.queue.filter (fun i => match i.kind with
    | .arc c _ _ => c = n
    | _ => false)).length

/-- An arc begins: ARC_n rises, the acquisition source fires with the instant of the first sample of the first dwell block, and an
item tells it unless sixteen wait (R223, R224). -/
def arcBegins (n : Nat) (rise : Bool) (ratio first : Nat) (s : State) : State :=
  let s := arcLine n true (s.incr RFA_CH_ARCCNT_COUNT [n])
  let s := acqSource 2 n first false s
  if 16 ≤ arcsWaiting s n then s.incr RFA_ARCLOST_COUNT
  else s.pushItem (296 + n) s.now (.arc n (b2n rise) ratio)

/-- The envelope of samples: the largest |sample| of each 16 (R222). `fuel` bounds the number of blocks. -/
def envelope : Nat → List Int → List Nat
  | 0, _ => []
  | fuel + 1, xs =>
    if xs.isEmpty then [] else (xs.take 16).foldl (fun m x => max m x.natAbs) 0 :: envelope fuel (xs.drop 16)

/-- The blocks in the time constant that TAU selects (R222). -/
def arcTau (s : State) (n : Nat) : Nat := 250 * 4 ^ s.fld RFA_CH_ARC_TAU [n]

/-- DROP and RISE on a block of envelope `e` with reference `r` (R222). -/
def arcConds (s : State) (n e r : Nat) : Bool × Bool :=
  let on := s.fld RFA_CH_ARC_MINREF [n] * 2048 * 65536 ≤ 64 * r
  (on && s.isSet RFA_CH_ARC_DROPEN [n] && e * 65536 * 256 < r * s.fld RFA_CH_ARC_DROPTHR [n],
   on && s.isSet RFA_CH_ARC_RISEEN [n] && r * s.fld RFA_CH_ARC_RISETHR [n] < e * 65536 * 32)

/-- The arc detector of channel n takes a block of envelope `e` that ends at instant `t` (R222): its conditions are judged against
the reference as it stands before the block, which then enters the average; while the line is asserted a condition prolongs it
and the reference is frozen. -/
def arcBlock (n : Nat) (s : State) (b : Nat × Nat) : State :=
  let c := s.rfCh n
  let e := b.1
  let r := c.arcRef.getD (e * 65536)
  let x := arcConds s n e r
  let s := if x.1 || x.2 then s.modRf n (fun c => { c with arcHold := b.2 }) else s
  if c.arc then s
  else
    let dw := s.fld RFA_CH_ARC_DWELL [n]
    let d := if x.1 then c.dropN + 1 else 0
    let u := if x.2 then c.riseN + 1 else 0
    let r' := (((r : Int) + ((e * 65536 : Nat) - (r : Int)) / arcTau s n)).toNat
    let s := s.modRf n (fun c => { c with arcRef := some r', dropN := d, riseN := u })
    if d = dw || u = dw then
      arcBegins n (d ≠ dw) (min 65535 (e * 65536 * 256 / max 1 r)) (b.2 - (dw * 16 - 1) * (nsF / 4))
        (s.modRf n (fun c => { c with dropN := 0, riseN := 0 }))
    else s

/-- ARC_ASSERT (R222 to R224): the arc detector of channel n takes blocks of 16 samples, the last of them taken `age` (2⁻¹⁶ ns)
ago; the line asserts where a condition has held on DWELL consecutive ones. `ref` is the reference before them (2⁻¹⁶ LSB) where
samples that no command carried have moved it. -/
def execArcAssert (n : Fin 4) (ref : Option (BitVec 28)) (codes : List (BitVec 12)) (age : BitVec 32) (s : State) :
    Host.Outcome State Fault Refusal :=
  run [.rfa] (fun s =>
    let n := n.val
    if !rfRuns s n then s
    else
      let s := match ref with
        | some r => s.modRf n (fun c => { c with arcRef := some r.toNat })
        | none => s
      let s := if codes.any overRange then s.raise RFA_STAT_OVRF else s
      let es := envelope codes.length (corrected s n codes)
      let last := s.now - age.toNat
      (es.zipIdx.map (fun p => (p.1, last - (es.length - 1 - p.2) * 4 * nsF))).foldl (arcBlock n) s) s

/-- ARC_DEASSERT (R223): HOLD × 100 ns after the condition last held. -/
def execArcDeassert (n : Fin 4) (s : State) : Host.Outcome State Fault Refusal :=
  run [.rfa] (fun s =>
    let n := n.val
    let c := s.rfCh n
    if c.arc && s.clkPresent 2 then
      arcLine n false (advanceTo (c.arcHold + s.fld RFA_CH_ARCOUT_HOLD [n] * 100 * nsF) s)
    else s) s

/-- Apply an arc item in Phase 3 of tick n (R224): the signal counts one arc, with QUAL good. -/
def arcApply (ch n : Nat) (s : State) : State :=
  if s.isSet RFA_CH_ARCOUT_SIDEN [ch] then
    let sid := s.fld RFA_CH_ARCOUT_SID [ch]
    s.setSig sid ((s.sigVal sid + 1) % 2 ^ 32) 1 n
  else s

/-- The arc lines reach the fast cut matrix as the channels hold them. -/
def arcSync (s : State) : State := (List.range 4).foldl (fun s n => setSource (16 + n) (s.rfCh n).arc s) s

/-- SMPCLK is lost (R225): streams stop, filling segments complete, arc lines are held. -/
def smpLoss (s : State) : State := acqSmpLoss (arcSync (rfaSmpLoss s))

/-- SMPCLK is present again (R225). -/
def smpReturn (s : State) : State := arcSync (rfaSmpReturn s)

end Sys2Proof.Machine
end

