-- ==== Sys2Proof/Machine/Ptp.lean ====
section
/-!
DEFINITION. PTP stamps and the Keeper's servo (03 R96 to R102).
-/
namespace Sys2Proof.Machine

/-- The rule of TIME_PORT_p_CTL: on ports 2 to 5 bits [4:1] are RO and read 0 (R112). -/
def portCtlAct : Act := fun _ ix w s =>
  .ok (s.store TIME_PORT_CTL ix (if ix.headD 0 < 2 then w else w &&& 0xFFFFFFE1#32))

/-! ### Stamps -/

/-- Whether host port `p` stamps a message of transport `x` (R97): EN and the transport's bit. -/
def stamps (s : State) (p x : Nat) : Bool :=
  p < 2 && s.isSet TIME_PORT_CTL_EN [p] &&
  (match x with
   | 0 => s.isSet TIME_PORT_CTL_ETH [p]
   | 1 => s.isSet TIME_PORT_CTL_UDP4 [p]
   | _ => s.isSet TIME_PORT_CTL_UDP6 [p])

/-- A stamp in units of 2⁻¹⁶ ns moved by a latency register (R98). -/
def shiftStamp (t : Nat) (d : Int) : Nat := ((t : Int) + d).toNat

/-- PTP_INGRESS_STAMP (R97, R98): port, sequenceId, domainNumber, messageType, transport (0 Ethernet, 1 UDP over
IPv4, 2 UDP over IPv6). -/
def ptpIngress (p seq dom typ x : Nat) (s : State) : State :=
  if !stamps s p x then s
  else
    let st := shiftStamp s.now (- sx 32 (s.reg TIME_PORT_INGLAT [p]).toNat)
    let q := nth s.ptp p {}
    if q.ing.length < 64 then
      { s with ptp := modNth s.ptp p (fun q => { q with ing := q.ing ++ [⟨st, seq, dom, typ, false⟩] }) }
    else s.incrSat TIME_OVR_STAMP

/-- PTP_INGRESS_STAMP (R97). -/
def execPtpIngressStamp (p : Fin 6) (seq : BitVec 16) (dom : BitVec 8) (typ : BitVec 4) (x : Fin 3) (s : State) :
    Host.Outcome State Fault Refusal :=
  run [.time] (ptpIngress p.val seq.toNat dom.toNat typ.toNat x.val) s

/-- The sum of the 16-bit words of a number of `k` words. -/
def wordSum (k v : Nat) : Nat := (List.range k).foldl (fun a i => a + v / 2 ^ (16 * i) % 2 ^ 16) 0

/-- A sum in one's complement arithmetic of 16 bits, as a word of 1 to 0xFFFF. -/
def onesWord (n : Nat) : Nat := if n % 65535 = 0 then 65535 else n % 65535

/-- What keeps the UDP checksum of a message right when words of sum `old` become words of sum `new` (R99): over IPv4 the
checksum, recomputed; over IPv6 the last 2 bytes of the payload; over Ethernet nothing. -/
def fixSum (x old new w : Nat) : Nat :=
  match x with
  | 0 => 0
  | 1 =>
    let c := 65535 - onesWord (65535 - w + 65535 * (old + 1) - old + new)
    if c = 0 then 65535 else c
  | _ => (w + old + 65535 * (new + 1) - new) % 65535

/-- A sent event message is stamped; a Sync with twoStepFlag clear on a one-step port leaves with SEC and NS of the
stamp in originTimestamp, which held `org`, FRAC added to correctionField `corr`, and its UDP checksum over IPv4 or pad bytes
over IPv6, which were `w`, put right (R97 to R99). -/
def ptpEgress (p seq dom typ x : Nat) (oneStep : Bool) (corr org w : Nat) (s : State) : State :=
  if !stamps s p x then s
  else
    let st := shiftStamp s.now (sx 32 (s.reg TIME_PORT_EGLAT [p]).toNat)
    let one := oneStep && typ = 0 && s.isSet TIME_PORT_CTL_ONESTEP [p]
    let q := nth s.ptp p {}
    let sec := st / secF % 2 ^ 48
    let ns := st % secF / nsF
    let corr' := (corr + st % nsF) % 2 ^ 64
    let fixed := fixSum x (wordSum 5 org + wordSum 4 corr) (wordSum 5 (sec * 2 ^ 32 + ns) + wordSum 4 corr') w
    let s := if one then s.say (.send p 1 [seq, sec, ns, corr', x, fixed]) else s
    if q.eg.length < 64 then
      { s with ptp := modNth s.ptp p (fun q => { q with eg := q.eg ++ [⟨st, seq, dom, typ, one⟩] }) }
    else s.incrSat TIME_OVR_STAMP

/-- PTP_EGRESS_STAMP (R97, R99). -/
def execPtpEgressStamp (p : Fin 6) (seq : BitVec 16) (dom : BitVec 8) (typ : BitVec 4) (x : Fin 3) (oneStep : Bool)
    (msg : SyncText) (s : State) : Host.Outcome State Fault Refusal :=
  run [.time] (ptpEgress p.val seq.toNat dom.toNat typ.toNat x.val oneStep msg.corr.toNat msg.org.toNat msg.sum.toNat) s

/-- The five words of a queue entry in a mailbox, or four zero words when the queue is empty (R97). -/
def stampWords : Option PtpStamp → List Word
  | none => [0, 0, 0, 0]
  | some e =>
    let v := time96 e.stamp
    [BitVec.ofNat 32 v, BitVec.ofNat 32 (v / 2 ^ 32), BitVec.ofNat 32 (v / 2 ^ 64),
     BitVec.ofNat 32 (e.seq * 2 ^ 16 + e.dom * 2 ^ 8 + e.typ * 16 + b2n e.oneStep * 2 + 1)]

/-! ### The servo -/

/-- Twice the median of a list of delays; 0 of none. -/
def median2 (l : List Int) : Int :=
  let v := sortBy (fun (a b : Int) => a < b) l
  let n := v.length
  nth v (n / 2) 0 + nth v ((n - 1) / 2) 0

/-- The last 16 entries with a new one. -/
def last16 {α : Type} (l : List α) (x : α) : List α := (l ++ [x]).drop (l.length - 15)

/-- TIME_INCR of R102, limited to the range of R88: `dl ÷ dm` is the ratio of local to master time. -/
def servoIncr (kp ki : Nat) (o i : Int) (dl dm t : Nat) : Nat :=
  let den : Int := (dm : Int) * 10000 * t
  let num : Int := 2 ^ 30 * (2 * den - (dl : Int) * 10000 * t - ((kp : Int) * o + (ki : Int) * i) * dm)
  let v : Int := if den = 0 then 2 ^ 30 else (2 * num + den) / (2 * den)
  (max 0x3FF00000 (min 0x40100000 v)).toNat

/-- A write of the Keeper's own account that cannot be refused, performed as the register's rule gives. -/
def keeperWrite (act : Act) (ix : List Nat) (w : Nat) (s : State) : State :=
  match act .keeper ix (BitVec.ofNat 32 w) s with
  | .ok s' => s'
  | .no _ _ s' => s'

/-- An offset greater than 1 ms, or the first lock: a step where the mode allows one, otherwise the alternate
increment at the largest rate that R88 allows (R102). `o` in units of 2⁻¹⁶ ns. The value that a step loads is device time at the
Sync less the offset (DESIGN CHOICE: log 207). -/
def servoJump (o : Int) (s : State) : State :=
  if stepMode s.mode then
    let v := time96 (((s.now : Int) - o).toNat)
    let s := (List.range 3).foldl (fun s k => keeperWrite timeSetAct [k] (v / 2 ^ (32 * k) % 2 ^ 32) s) s
    keeperWrite timeCtlAct [] (s.fld TIME_CTL_KOWN * 4 + 1) s
  else
    let cur := (s.reg TIME_INCR).toNat
    let alt := if 0 < o then 0x3FF00000 else 0x40100000
    let d := if 0 < o then cur - alt else alt - cur
    let n := if d = 0 then 0 else o.natAbs * 4096 / d
    keeperWrite altcntAct [] (min (2 ^ 28 - 1) n) (keeperWrite incrAltAct [] alt s)

/-- The installer changes the settings of the service, each within its range (R96, R102); one outside its range is not
taken. -/
def ptpSettings (x : PtpSettings) (s : State) : State :=
  let v := s.servo
  let kp := x.kp.toNat
  let ki := x.ki.toNat
  let limit := x.limit.toNat
  let dom := x.dom.toNat
  { s with servo := { v with kp := if 500 ≤ kp && kp ≤ 10000 then kp else v.kp
                             ki := if ki ≤ 2000 then ki else v.ki
                             limit := if 10 ≤ limit && limit ≤ 1000 then limit else v.limit
                             dom := if dom ≤ 127 then dom else v.dom } }

/-- Whether a Sync interval is one that the service supports: 2⁻⁷ s to 2⁴ s (R96). -/
def syncInterval (t : Nat) : Bool := secF / 2 ^ 7 ≤ t && t ≤ secF * 2 ^ 4

/-- A Sync message of the followed domain is served (R102): the offset and the mean path delay, the local and master times of
the message, and the Sync interval, all in units of 2⁻¹⁶ ns. f comes from the oldest and the newest of the last 16 messages
(DESIGN CHOICE: log 207). -/
def ptpServe (o mpd : Int) (loc mas t : Nat) (s : State) : State :=
  let v := s.servo
  if v.mpd ≠ [] && (v.limit : Int) * 2 * 2 ^ 16 < ((2 * mpd - median2 v.mpd).natAbs : Int) then s
  else
    let syncs := last16 v.syncs (loc, mas)
    let v := { v with mpd := last16 v.mpd mpd, syncs := syncs }
    if !v.locked || (1000000 * 2 ^ 16 : Int) < (o.natAbs : Int) then
      servoJump o { s with servo := { v with locked := true } }
    else
      let i := v.integ + o
      let f := syncs.headD (loc, mas)
      let dl := if loc ≤ f.1 || mas ≤ f.2 then 1 else loc - f.1
      let dm := if loc ≤ f.1 || mas ≤ f.2 then 1 else mas - f.2
      keeperWrite incrAct [] (servoIncr v.kp v.ki o i dl dm t) { s with servo := { v with integ := i } }

/-- PTP_SYNC_RECEIVED (R102): a Sync message reaches the enabled PTP service. The Keeper holds KOWN while the service is
enabled (R93); a message of another domain than the one followed, or at an interval that is not supported, is ignored (R96). -/
def ptpSync (o mpd : Int) (loc mas : Nat) (m : SyncMsg) (s : State) : State :=
  let s := s.raise TIME_CTL_KOWN
  let s := match m.set_ with
    | some x => ptpSettings x s
    | none => s
  if m.dom.toNat ≠ s.servo.dom || !syncInterval m.t.toNat then s else ptpServe o mpd loc mas m.t.toNat s

/-- PTP_SYNC_RECEIVED (R102). -/
def execPtpSyncReceived (o mpd : Int) (loc mas : Nat) (sync : SyncMsg) (s : State) : Host.Outcome State Fault Refusal :=
  run [.time] (ptpSync o mpd loc mas sync) s

end Sys2Proof.Machine
end

