-- ==== Sys2Proof/Machine/TrigIn.lean ====
section
/-!
DEFINITION. What a trigger input sees (03 R107 to R109): its filter, the item that an accepted edge becomes, and the TBUS lines
with the device's own drive.
-/
namespace Sys2Proof.Machine

/-- Trigger input n beside its registers. -/
def State.trig (s : State) (n : Nat) : TrigIn := nth s.trigs n {}

/-- Change trigger input n. -/
def State.modTrig (s : State) (n : Nat) (f : TrigIn → TrigIn) : State := { s with trigs := modNth s.trigs n f }

/-- The input after INV. -/
def trigSeen (s : State) (n : Nat) : Bool := (s.trig n).ball != s.isSet TIME_TRIG_INV [n]

/-- The filter time of input n in units of 2⁻¹⁶ ns (R107). -/
def trigFilt (s : State) (n : Nat) : Nat := s.fld TIME_TRIG_FILT [n] * 4 * nsF

/-- An accepted edge that EDGE selects becomes an item, or is lost with its queue full (R108). -/
def trigItem (n : Nat) (up own : Bool) (stamp : Nat) (s : State) : State :=
  if !bit (s.fld TIME_TRIG_EDGE [n]) (if up then 0 else 1) then s
  else if 16 ≤ s.waiting (300 + n) then
    (s.incrSat TIME_OVR_TRIG).modTrig n (fun x => { x with lost := min 255 (x.lost + 1) })
  else
    let lost := (s.trig n).lost
    (s.pushItem (300 + n) stamp (.trig n up up own lost)).modTrig n (fun x => { x with lost := 0 })

/-- The filter of input n accepts its edge (R107): the acquisition trigger takes the edge's instant (07 R233), the Lens
the accepted instant (06 R202). -/
def trigAccept (n : Nat) (s : State) : State :=
  match (s.trig n).filt with
  | none => s
  | some (up, e, own) =>
    let t := e + trigFilt s n
    let s := s.modTrig n (fun x => { x with filt := none, level := up, lastAt := e, lastUp := up, seen := true,
                                            count := (x.count + 1) % 2 ^ 16 })
    let s := if n < 8 then acqSource 7 n e (!up) s else acqSource 8 (n - 8) e (!up) s
    trigItem n up own t (if n < 8 then lensExternal 3 n t (!up) s else lensExternal 4 (n - 8) t (!up) s)

/-- A level at the ball of input n from an instant on, with `own` when the device drives the line low: the fast cut matrix follows the level
after INV (10 R303); an enabled input starts its filter, or discards an excursion shorter than it (R107). -/
def trigLevel (n at_ : Nat) (level own : Bool) (s : State) : State :=
  let s := match (s.trig n).filt with
    | some f => if f.2.1 + trigFilt s n ≤ at_ then trigAccept n s else s
    | none => s
  let s := s.modTrig n (fun x => { x with ball := level })
  let x := trigSeen s n
  let s := setSource (20 + n) x s
  if !s.isSet TIME_TRIG_EN [n] then s
  else if (s.trig n).level = x then s.modTrig n (fun t => { t with filt := none })
  else if (s.trig n).filt.isSome then s
  else s.modTrig n (fun t => { t with filt := some (x, at_, own) })

/-- Whether the device drives TBUS[m] low (R109). -/
def tbusOwn (s : State) (m : Nat) : Bool :=
  match s.fld TIME_TBUSDRV_SRC [m] with
  | 1 => s.isSet TIME_TBUSDRV_SWDRV [m]
  | 2 => (nth s.beacons (s.fld TIME_TBUSDRV_BCN [m]) {}).pulse.isSome
  | 3 => s.now < (nth s.trigs (8 + m) {}).drive
  | _ => false

/-- The device starts or ends driving TBUS[m] low, and its own input sees the line's level (R109). -/
def tbusDrive (m : Nat) (low : Bool) (s : State) : State :=
  let s := s.say (.pin .tbus m (b2n (!low)))
  let x := s.trig (8 + m)
  let level := x.ext && !low
  if x.ball = level then s else trigLevel (8 + m) s.now level low s

/-- The own drive's changes up to an instant reach the TBUS inputs in order (R109). -/
def tbusSettle (t : Nat) (s : State) : State :=
  (List.range 4).foldl (fun s m =>
    let x := s.trig (8 + m)
    let s := s.modTrig (8 + m) (fun x => { x with due := x.due.filter (fun e => t < e.1) })
    (x.due.filter (fun e => e.1 ≤ t)).foldl (fun s e =>
      let level := (s.trig (8 + m)).ext && !e.2
      if (s.trig (8 + m)).ball = level then s else trigLevel (8 + m) e.1 level e.2 s) s) s

end Sys2Proof.Machine
end

