-- ==== Sys2Proof/Machine/Beacon.lean ====
section
/-!
DEFINITION. Beacons (03 R103 to R106): arming, edges, and where each edge goes.
-/
namespace Sys2Proof.Machine

/-- The level of BEACON[n]: inactive while OUTEN is 0 (R106) and under a low group gate (01 R33), inverted by POL. -/
def beaconLevel (s : State) (n : Nat) (active : Bool) : Bool :=
  (active && s.isSet TIME_BCN_CTL_OUTEN [n] && !beaconGroup s n) != s.isSet TIME_BCN_CTL_POL [n]

/-- BEACON[n] takes its level. -/
def beaconPin (n : Nat) (active : Bool) (s : State) : State := s.ball .beacon n (b2n (beaconLevel s n active))

/-- The target, period and width in the registers of Beacon n, in units of 2⁻¹⁶ ns (R103). -/
def beaconSet (s : State) (n : Nat) : Nat × Nat × Nat :=
  let t := (s.reg TIME_BCN_T [n, 0]).toNat + (s.reg TIME_BCN_T [n, 1]).toNat * 2 ^ 32
    + (s.reg TIME_BCN_T [n, 2]).toNat * 2 ^ 64
  (ofTime96 t, (s.reg TIME_BCN_PER [n]).toNat * nsF + s.fld TIME_BCN_WID_PERFRAC [n], s.fld TIME_BCN_WID_WIDTH [n] * nsF)

/-- R104: settings that ARM refuses. -/
def beaconBad (per wid : Nat) : Bool :=
  (per ≠ 0 && per < 100 * nsF) || wid < 8 * nsF || (per ≠ 0 && per < wid + 8 * nsF)

/-- A set that was armed at `t` becomes active: a once-Beacon less than 200 ns after the ARM write is missed (R104), as is one
whose target has passed while the set waited (DESIGN CHOICE: log 208). -/
def beaconLoad (n t : Nat) (v : Nat × Nat × Nat) (s : State) : State :=
  let from' := max (t + 200 * nsF) s.now
  let b := nth s.beacons n {}
  let b := { b with t0 := v.1, per := v.2.1, wid := v.2.2, next := none,
                    k := if v.2.1 = 0 then 0 else firstK v.1 v.2.1 from' }
  let s := { s with beacons := modNth s.beacons n (fun _ => b) }
  if v.2.1 = 0 && v.1 < from' then (s.raise TIME_BCN_STAT_MISSED [n]).lower TIME_BCN_STAT_ARMED [n]
  else s.raise TIME_BCN_STAT_ARMED [n]

/-- Arm Beacon n with a set: at once, or after a pulse of the old set whose edge lies within 200 ns (R104). -/
def beaconArm (n : Nat) (v : Nat × Nat × Nat) (s : State) : State :=
  let b := nth s.beacons n {}
  if s.isSet TIME_BCN_STAT_ARMED [n] && s.now ≤ b.nextAt && b.nextAt ≤ s.now + 200 * nsF then
    { s with beacons := modNth s.beacons n (fun b => { b with next := some (v.1, v.2.1, v.2.2, s.now) }) }
  else beaconLoad n s.now v s

/-- The TBUS lines that Beacon n drives follow its pulse (R106, R109). -/
def beaconTbus (n : Nat) (active : Bool) (s : State) : State :=
  (List.range 4).foldl (fun s m =>
    if s.fld TIME_TBUSDRV_SRC [m] = 2 && s.fld TIME_TBUSDRV_BCN [m] = n then tbusDrive m active s else s) s

/-- Where a Beacon's pulse shows: its ball, the fast cut matrix (10 R303) and the TBUS drive. -/
def beaconShow (n : Nat) (active : Bool) (s : State) : State :=
  beaconTbus n active (setSource (32 + n) active (beaconPin n active s))

/-- DISARM clears ARMED at once and cuts a pulse in progress short (R104). -/
def beaconDisarm (n : Nat) (s : State) : State :=
  let p := (nth s.beacons n {}).pulse.isSome
  let s := { s with beacons := modNth s.beacons n (fun b => { b with pulse := none, next := none }) }
  let s := (s.lower TIME_BCN_STAT_ARMED [n]).lower TIME_BCN_STAT_ACTIVE [n]
  if p then beaconShow n false s else s

/-- The recipe actions in flight on Beacon n end with a code (04 R137, R142). -/
def beaconActs (n code : Nat) (s : State) : State :=
  (slotsWhere s (fun a => a.cls = 8 && a.tgt = n)).foldl (fun s a => rcpReport a.id code s) s

/-- The other recipe actions in flight on Beacon n, when action `id` takes it, end with a code (04 R137). -/
def beaconOthers (n id code : Nat) (s : State) : State :=
  (slotsWhere s (fun a => a.cls = 8 && a.tgt = n && a.id ≠ id)).foldl (fun s a => rcpReport a.id code s) s

/-- The rule of TIME_BCN_n_CTL (R104). -/
def beaconCtlAct : Act := fun _ ix w s =>
  let n := ix.headD 0
  let v := beaconSet s n
  if TIME_BCN_CTL_ARM.on w && beaconBad v.2.1 v.2.2 then .no .value false (s.raise TIME_BCN_STAT_BADCFG ix)
  else
    let pulse := (nth s.beacons n {}).pulse.isSome
    let old := beaconLevel s n pulse
    let s := s.store TIME_BCN_CTL ix w
    let s := if beaconLevel s n pulse = old then s else beaconPin n pulse s
    let s := if TIME_BCN_CTL_BADCFG_CLR.on w then s.lower TIME_BCN_STAT_BADCFG ix else s
    let s := if TIME_BCN_CTL_MISSED_CLR.on w then s.lower TIME_BCN_STAT_MISSED ix else s
    let s := if TIME_BCN_CTL_ARM.on w then beaconArm n v (beaconActs n 9 s) else s
    .ok (if TIME_BCN_CTL_DISARM.on w then beaconDisarm n (beaconActs n 8 s) else s)

/-- A word of a control register: the fields that keep their value, with command bits added. -/
def ctlWord (s : State) (r : Reg) (ix : List Nat) (bits : Nat) : Word :=
  BitVec.ofNat 32 (((s.reg r ix).toNat &&& (accMask r (fun a => a = .rw || a = .lk || a = .wonce) ||| reservedMask r))
    ||| bits)

/-- BEACON_ARM: writing TIME_BCN_n_CTL.ARM (R104). -/
def execBeaconArm (m : Master) (n : Fin 16) (s : State) : Host.Outcome State Fault Refusal :=
  run [.time] (fun s => regCmd beaconCtlAct m TIME_BCN_CTL [n.val] (ctlWord s TIME_BCN_CTL [n.val] 1) s) s

/-- BEACON_DISARM: writing TIME_BCN_n_CTL.DISARM (R104). -/
def execBeaconDisarm (m : Master) (n : Fin 16) (s : State) : Host.Outcome State Fault Refusal :=
  run [.time] (fun s => regCmd beaconCtlAct m TIME_BCN_CTL [n.val] (ctlWord s TIME_BCN_CTL [n.val] 2) s) s

/-- The leading edge of Beacon n at instant e (R103, R106): the pulse begins and the triggers that select it fire; a
once-Beacon is no longer armed (DEDUCED: log 23). -/
def beaconFire (n e : Nat) (s : State) : State :=
  let b := nth s.beacons n {}
  let s := { s with beacons := modNth s.beacons n (fun b => { b with k := b.k + 1, pulse := some (e + b.wid), last := e }) }
  let s := (s.raise TIME_BCN_STAT_ACTIVE [n]).incrSat TIME_BCN_STAT_PULSES [n]
  let s := beaconShow n true (if b.per = 0 then s.lower TIME_BCN_STAT_ARMED [n] else s)
  beaconActs n codeDone (lensExternal 5 n e false (sarSource 3 n 0 e (acqSource 9 n e false s)))

/-- BEACON_EDGE: the next leading edge of an armed Beacon (R103); steps that come before it act first (R105). -/
def execBeaconEdge (n : Fin 16) (s : State) : Host.Outcome State Fault Refusal :=
  run [.time] (fun s =>
    let edge := fun (s : State) => (nth s.beacons n.val {}).nextAt
    let due := fun (s : State) => s.tb.started && s.isSet TIME_BCN_STAT_ARMED [n.val] && (nth s.beacons n.val {}).pulse.isNone
    let s := if due s then stepsFirst edge s.tb.pend.length s else s
    if due s then beaconFire n.val (edge s) (advanceTo (edge s) s) else s) s

/-- BEACON_TRAILING_EDGE: a pulse ends WIDTH ns after its leading edge (R103); a waiting set takes over (R104). -/
def execBeaconTrailingEdge (n : Fin 16) (s : State) : Host.Outcome State Fault Refusal :=
  run [.time] (fun s =>
    match (nth s.beacons n.val {}).pulse with
    | none => s
    | some e =>
      let s := advanceTo e s
      let b := nth s.beacons n.val {}
      let s := { s with beacons := modNth s.beacons n.val (fun b => { b with pulse := none }) }
      let s := beaconShow n.val false (s.lower TIME_BCN_STAT_ACTIVE [n.val])
      match b.next with
      | some v => beaconLoad n.val v.2.2.2 (v.1, v.2.1, v.2.2.1) s
      | none => s) s

end Sys2Proof.Machine
end

