-- ==== Sys2Proof/Machine/RioOps.lean ====
section
/-!
DEFINITION. Buoy remote stations (09): frames, discovery and configuration, cycles, input frames, closes, loss and return,
staged writes and delivery reports.
-/
namespace Sys2Proof.Machine

/-- Port p beside its registers. -/
def State.rioPort (s : State) (p : Nat) : RioPort := nth s.rio.ports p {}

/-- Change port p. -/
def State.modPort (s : State) (p : Nat) (f : RioPort → RioPort) : State :=
  { s with rio := { s.rio with ports := modNth s.rio.ports p f } }

/-- Station `n` beside its registers. -/
def State.stn (s : State) (n : Nat) : RioStn := nth s.rio.stns n {}

/-- Change station `n`. -/
def State.modStn (s : State) (n : Nat) (f : RioStn → RioStn) : State :=
  { s with rio := { s.rio with stns := modNth s.rio.stns n f } }

/-- The states of a station (R286). -/
def stAbsent : Nat := 0
/-- FOUND. -/
def stFound : Nat := 1
/-- MISMATCH. -/
def stMismatch : Nat := 2
/-- CONFIGURED. -/
def stConfigured : Nat := 3
/-- OPERATIONAL. -/
def stOperational : Nat := 4
/-- MISSING. -/
def stMissing : Nat := 5
/-- LOST. -/
def stLost : Nat := 6
/-- REJOINING. -/
def stRejoining : Nat := 7

/-- The state of station n. -/
def State.stnState (s : State) (n : Nat) : Nat := s.fld RIO_ST_STAT_STATE [n]

/-- Set the state of station n. -/
def State.setStn (s : State) (n st : Nat) : State := s.setFld RIO_ST_STAT_STATE st [n]

/-- Whether the device owns a twin group: without a twin every group, otherwise those of TWIN_STAT.OWNED (17). -/
def State.ownsGroup (s : State) (g : Nat) : Bool := !s.isSet TWIN_CTL_EN || bit (s.fld TWIN_STAT_OWNED) g

/-- Whether the device owns remote port p (17 R481). -/
def ownsPort (s : State) (p : Nat) : Bool := s.ownsGroup (bits (s.fld TWIN_OGP_PORT) (2 * p + 1) (2 * p))

/-! ### Images -/

/-- The base of the image region (R280). -/
def rioImg (s : State) : Nat := 0x10000000 + s.fld RIO_IMG_BASE * 0x10000

/-- The input image of station n. -/
def inImg (s : State) (n : Nat) : Nat := rioImg s + 1024 * n
/-- The output image of station n. -/
def outImg (s : State) (n : Nat) : Nat := rioImg s + 0x40000 + 1024 * n
/-- The substitute image of station n. -/
def subImg (s : State) (n : Nat) : Nat := rioImg s + 0x80000 + 1024 * n

/-! ### Frames -/

/-- A Buoy frame's header fields and body (R266). -/
structure Buoy where
  typ   : Nat
  sta   : Nat
  hops  : Nat
  token : Nat
  cseq  : Nat
  ctime : Nat
  body  : List Byte
  deriving DecidableEq, Repr

/-- The number of `n` little-endian bytes of a list from byte `i`. -/
def leAt (bs : List Byte) (i n : Nat) : Nat := ofLE ((bs.drop i).take n)

/-- The Buoy frame in the bytes of an Ethernet frame without FCS; none when R265 or R266 discards it. -/
def buoyParse (s : State) (bs : List Byte) : Option Buoy :=
  let h := bs.drop 14
  let blen := leAt h 10 2
  if bs.length < 46 || ofBE ((bs.drop 12).take 2) ≠ s.fld RIO_ETYPE_ETYPE || leAt h 0 1 ≠ 1 || h.length < 32 + blen then none
  else some { typ := leAt h 1 1, sta := leAt h 2 1, hops := leAt h 3 1, token := leAt h 8 2, cseq := leAt h 12 4,
              ctime := leAt h 16 12, body := (h.drop 32).take blen }

/-- The bytes of a master frame with FCS, padded to 64 (R265, R266). -/
def buoyFrame (s : State) (p typ sta hops token cseq ctime xofs : Nat) (body : List Byte) : List Byte :=
  let dev := s.fld SYS_DEVNUM_DEVNUM
  let hdr := leBytes 1 1 ++ leBytes 1 typ ++ leBytes 1 sta ++ leBytes 1 hops ++ leBytes 2 (s.fld TWIN_EPOCH_EPOCH) ++
    leBytes 2 (dev + p * 2 ^ 14) ++ leBytes 2 token ++ leBytes 2 body.length ++ leBytes 4 cseq ++ leBytes 12 ctime ++
    leBytes 4 xofs
  let f := beBytes 6 0x034B56000000 ++ beBytes 3 0x024B56 ++ beBytes 2 dev ++ beBytes 1 p ++
    beBytes 2 (s.fld RIO_ETYPE_ETYPE) ++ hdr ++ body
  let f := f ++ List.replicate (60 - f.length) 0
  f ++ leBytes 4 (crc32 f)

/-- Send a frame on port p, if its link is enabled and the device owns it (17 R481). -/
def rioSend (p typ : Nat) (f : List Byte) (s : State) : State :=
  if s.isSet RIO_P_CTL_EN [p] && ownsPort s p then s.say (.send p typ (f.map (·.toNat))) else s

/-- The wire time W(x) of R275 in ns, for a frame of `x` bytes with FCS. -/
def wireNs (x : Nat) : Nat := (max 64 x + 20) * 8

/-! ### Discovery and configuration -/

/-- PERIOD of port p in ns. -/
def periodNs (s : State) (p : Nat) : Nat := s.fld RIO_P_CYC_CYC [p] * 5000

/-- Whether a found station is the one that the settings expect (R270). -/
def stnMatches (s : State) (n : Nat) : Bool :=
  s.reg RIO_ST_ID [n] = s.reg RIO_ST_EXP [n] && s.fld RIO_ST_DLEN_ILEN [n] = s.fld RIO_ST_LEN_ILEN [n] &&
    s.fld RIO_ST_DLEN_OLEN [n] = s.fld RIO_ST_LEN_OLEN [n]

/-- Send a CONFIG with a fresh token, which the spec leaves open, to station i of port p (R267, R270). -/
def sendConfig (p i : Nat) (s : State) : State :=
  let n := 64 * p + i
  let d := s.draw
  let token := d.1 % 65535 + 1
  let s := d.2.modStn n (fun x => { x with token := some token })
  let olen := s.fld RIO_ST_LEN_OLEN [n]
  let body := leBytes 4 (s.reg RIO_ST_DLY [n]).toNat ++ leBytes 4 (periodNs s p) ++ leBytes 2 olen ++ leBytes 2 0 ++
    s.bytes (subImg s n) olen
  rioSend p 0x12 (buoyFrame s p 0x12 i 0 token 0 0 0 body) s

/-- The severity 5 event of a mismatch (R270): the UNIT event of the station's state, with the expected and the found value in
bytes 11 to 8 and 15 to 12 of its data, of the identity where it differs and otherwise of the lengths. DESIGN CHOICE: log 217. -/
def mismatchEvent (n : Nat) (s : State) : State :=
  let pair := if s.reg RIO_ST_ID [n] = s.reg RIO_ST_EXP [n] then (s.reg RIO_ST_LEN [n], s.reg RIO_ST_DLEN [n])
    else (s.reg RIO_ST_EXP [n], s.reg RIO_ST_ID [n])
  s.emit 5 0x0C .rio n 0xFF (RIO_ST_STAT.addr [n])
    ((s.reg RIO_ST_STAT [n]).toNat + pair.1.toNat * 2 ^ 32 + pair.2.toNat * 2 ^ 64)

/-- A found station is checked (R270): sent a CONFIG, or MISMATCH with a severity 5 event. -/
def checkStation (p i : Nat) (later : Bool) (s : State) : State :=
  let n := 64 * p + i
  if !s.isSet RIO_ST_CFG_EN [n] then s
  else if stnMatches s n then
    if later then s.modPort p (fun x => { x with hello := if x.hello.contains i then x.hello else x.hello ++ [i] })
    else sendConfig p i s
  else mismatchEvent n (s.setStn n stMismatch)

/-- Record a station's identity and lengths from the body of a DREP or HELLO (R267, R269). -/
def recordStation (n : Nat) (b : List Byte) (s : State) : State :=
  let s := s.setReg RIO_ST_ID (BitVec.ofNat 32 (leAt b 0 2 + leAt b 2 2 * 65536)) [n]
  let s := s.setReg RIO_ST_SER (BitVec.ofNat 32 (leAt b 8 4)) [n]
  (s.setFld RIO_ST_DLEN_ILEN (leAt b 12 2) [n]).setFld RIO_ST_DLEN_OLEN (leAt b 14 2) [n]

/-- The stamp of a frame that leaves now, and of one that has arrived now, at the reference plane of remote port p, which is
stamping port 2 + p (03 R97, R98). -/
def rioEgress (s : State) (p : Nat) : Int := (s.now : Int) + sx 32 (s.reg TIME_PORT_EGLAT [p + 2]).toNat
/-- The ingress stamp. -/
def rioIngress (s : State) (p : Nat) : Int := (s.now : Int) - sx 32 (s.reg TIME_PORT_INGLAT [p + 2]).toNat

/-- Discovery of port p starts (R269). A port that runs stops starting cycles. -/
def rioDisc (p : Nat) (s : State) : State :=
  let s := (List.range 64).foldl (fun s i =>
    let n := 64 * p + i
    (((s.setReg RIO_ST_STAT 0 [n]).setReg RIO_ST_ID 0 [n]).setReg RIO_ST_SER 0 [n]).setReg RIO_ST_DLEN 0 [n]) s
  let s := (s.setFld RIO_P_STAT_STATE 1 [p]).setFld RIO_P_STAT_NFOUND 0 [p]
  let s := s.modPort p (fun x => 
    { x with discAt := rioEgress s p, drepAt := s.now, start := false, stop := false, hello := [] })
  rioSend p 0x10 (buoyFrame s p 0x10 0xFF 0 0 0 0 0 []) s

/-- Discovery of port p ends (R269, R270): IDLE (OFF while its link is not enabled), and found stations are configured. -/
def discoveryEnd (p : Nat) (s : State) : State :=
  let found := (List.range 64).filter (fun i => s.stnState (64 * p + i) ≠ stAbsent)
  let s := (s.setFld RIO_P_STAT_STATE (if s.isSet RIO_P_CTL_EN [p] then 2 else 0) [p]).setFld RIO_P_STAT_NFOUND
    found.length [p]
  found.foldl (fun s i => checkStation p i false s) s

/-- Count a discarded frame (R265). -/
def fcsError (p : Nat) (s : State) : State := s.incr RIO_P_FCSERR_COUNT [p]

/-- Receive a frame on port p: the frame, or a count of its discard. -/
def rioReceive (p : Nat) (fcs : Bool) (bs : List Byte) (s : State) (f : Buoy → State → State) : State :=
  if !s.powered .rio || !s.isSet RIO_P_CTL_EN [p] then s
  else match (if fcs then buoyParse s bs else none) with
  | some b => f b s
  | none => fcsError p s

/-- A station's answer to discovery, while the port discovers (R265, R266): the station is recorded with its delay. -/
def drepTaken (p : Nat) (b : Buoy) (s : State) : State :=
  if b.typ ≠ 0x11 || s.fld RIO_P_STAT_STATE [p] ≠ 1 || 64 ≤ b.sta then s
  else
    let n := 64 * p + b.sta
    let s := (recordStation n b.body s).setStn n stFound
    let trip := ((rioIngress s p - (s.rioPort p).discAt) / nsF).toNat
    let dly := (trip - leAt b.body 16 4 - wireNs 50 - wireNs (50 + b.body.length)) / 2
    let s := s.setReg RIO_ST_DLY (BitVec.ofNat 32 dly) [n]
    let s := s.modPort p (fun x => { x with drepAt := s.now })
    if bit (leAt b.body 6 2) 0 then discoveryEnd p s else s

/-- DREP (R269): a discovery reply arrives; `fcs` says that its FCS is good. -/
def execDrep (p : Fin 4) (fcs : Bool) (frame : List Byte) (s : State) : Host.Outcome State Fault Refusal :=
  run [.rio] (fun s => rioReceive p.val fcs frame s (drepTaken p.val)) s

/-- DISCOVERY_END (R269): 1 ms after the last DREP. -/
def execDiscoveryEnd (p : Fin 4) (s : State) : Host.Outcome State Fault Refusal :=
  run [.rio] (fun s =>
    if s.fld RIO_P_STAT_STATE [p.val] = 1 then
      discoveryEnd p.val (advanceTo ((s.rioPort p.val).drepAt + 1000000 * nsF) s)
    else s) s

/-- A CACK with the station's token configures it (R268). -/
def cackTaken (p : Nat) (b : Buoy) (s : State) : State :=
  let n := 64 * p + b.sta
  if b.typ = 0x13 && b.sta < 64 && (s.stn n).token = some b.token then
    (s.setStn n stConfigured).modStn n (fun x => { x with good := 0 })
  else s

/-- CACK (R270): the station whose token it carries becomes CONFIGURED. -/
def execCack (p : Fin 4) (fcs : Bool) (frame : List Byte) (s : State) : Host.Outcome State Fault Refusal :=
  run [.rio] (fun s => rioReceive p.val fcs frame s (cackTaken p.val)) s

/-- A HELLO on a running port is checked against what is expected (R270). -/
def helloTaken (p : Nat) (b : Buoy) (s : State) : State :=
  if b.typ = 0x14 && b.hops < 64 && s.fld RIO_P_STAT_STATE [p] = 3 then
    checkStation p b.hops true (recordStation (64 * p + b.hops) b.body s)
  else s

/-- HELLO (R271): a station without a token, at index HOPS, is checked while the port runs. -/
def execHello (p : Fin 4) (fcs : Bool) (frame : List Byte) (s : State) : Host.Outcome State Fault Refusal :=
  run [.rio] (fun s => rioReceive p.val fcs frame s (helloTaken p.val)) s

/-! ### Start and stop -/

/-- The enabled stations of port p, in ascending index. -/
def enabledStns (s : State) (p : Nat) : List Nat := (List.range 64).filter (fun i => s.isSet RIO_ST_CFG_EN [64 * p + i])

/-- O_i of R275. -/
def ofrLen (s : State) (p i : Nat) : Nat := 14 + 32 + 12 + s.fld RIO_ST_LEN_OLEN [64 * p + i] + 128 + 4
/-- I_i of R275. -/
def ifrLen (s : State) (p i : Nat) : Nat := 14 + 32 + 8 + 16 + s.fld RIO_ST_LEN_ILEN [64 * p + i] + 4

/-- Dpred and Rpred of R275, in ns. -/
def rioPred (s : State) (p : Nat) : Nat × Nat :=
  let en := enabledStns s p
  let wo := fun i => wireNs (ofrLen s p i)
  let wi := fun i => wireNs (ifrLen s p i)
  let dly := fun i => (s.reg RIO_ST_DLY [64 * p + i]).toNat
  let mx := fun (l : List Nat) => l.foldl max 0
  let sum := fun (l : List Nat) => l.foldl (· + ·) 0
  let d := mx (en.map (fun i =>
    let upto := (en.filter (· ≤ i)).map wo
    sum upto + dly i + i * (mx upto + 1000)))
  (d, d + 1000 + sum (en.map wi) + mx (en.map dly) + mx en * (mx (en.map wi) + 1000))

/-- Whether the image region and the report ring are placed as R280 says. -/
def rioPlaced (s : State) : Bool :=
  let a := s.fld RIO_IMG_BASE
  let b := s.fld RIO_DRING_BASE
  let pool := s.fld RCP_POOL_BASE
  let ring := s.fld RCP_RING_BASE
  let ok := fun u => u < 1024 && u ≠ 0 && !(32 ≤ u && u < 64) && !(pool ≤ u && u < pool + 64) &&
    !(ring ≤ u && u < ring + 16) && unitOwner s u = .control
  (List.range 12).all (fun k => ok (a + k)) && ok b && !(a ≤ b && b < a + 12)

/-- The input signals of station n: first SID and end. -/
def stnSids (s : State) (n : Nat) : Nat × Nat :=
  let f := s.fld RIO_ST_ISID_SID [n]
  (f, f + ceilDiv (s.fld RIO_ST_LEN_ILEN [n]) 4)

/-- Whether the station's input signals are placed (R275, ERR 7). -/
def sidsOk (s : State) (n : Nat) : Bool :=
  !s.isSet RIO_ST_ISID_EN [n] || ((stnSids s n).2 ≤ 262144 && (List.range 256).all (fun k =>
    k = n || !s.isSet RIO_ST_CFG_EN [k] || !s.isSet RIO_ST_ISID_EN [k] ||
      (stnSids s k).2 ≤ (stnSids s n).1 || (stnSids s n).2 ≤ (stnSids s k).1))

/-- The first failing check of a START (R275); 0 when it passes. -/
def rioErr (s : State) (p : Nat) : Nat :=
  let cyc := s.fld RIO_P_CYC_CYC [p]
  let d := s.fld RIO_P_BND_DBND [p]
  let r := s.fld RIO_P_BND_RBND [p]
  let pr := rioPred s p
  if !rioPlaced s then 1
  else if cyc < 5 || 20000 < cyc || cyc ≤ s.fld RIO_P_CYC_PH [p] then 2
  else if r ≤ d || 5 * cyc - 5 < r then 3
  else if d * 1000 < pr.1 then 4
  else if r * 1000 < pr.2 then 5
  else if !(List.range 64).any (fun i => stConfigured ≤ s.stnState (64 * p + i)) then 6
  else if (enabledStns s p).any (fun i => !sidsOk s (64 * p + i)) then 7
  else 0

/-- START (R275): the check; when it passes the port is RUNNING from its next cycle start. -/
def rioStart (p : Nat) (s : State) : State :=
  let pr := rioPred s p
  let s := (s.setFld RIO_P_PRED_DBND (ceilDiv pr.1 1000) [p]).setFld RIO_P_PRED_RBND (ceilDiv pr.2 1000) [p]
  let e := rioErr s p
  let s := (s.setFld RIO_P_STAT_ERR e [p]).setFld RIO_STAT_CFGERR (b2n (e = 1))
  if e ≠ 0 then s else s.modPort p (fun x => { x with start := true })

/-- Report the REMOTE action of a staged write once; the write stays for the images until its commit tick. -/
def settleWrite (n : Nat) (wid code : Nat) (s : State) : State :=
  match (s.stn n).writes.find? (fun w => w.wid = wid && !w.reported) with
  | none => s
  | some w =>
    let mark := fun (v : StagedWrite) => if v.wid = wid then { v with reported := true } else v
    let s := s.modStn n (fun x => { x with writes := (x.writes.map mark).filter (fun v => !v.reported || s.now < v.stamp) })
    rcpReport w.id code s

/-- Report the staged writes of station `n` that satisfy a test. -/
def settleWhere (n code : Nat) (p : StagedWrite → Bool) (s : State) : State :=
  ((s.stn n).writes.filter (fun w => !w.reported && p w)).foldl (fun s w => settleWrite n w.wid code s) s

/-- The staged writes of a port that starts no further cycle and has closed its last one: no cycle carries them (R283). -/
def portEnded (p : Nat) (s : State) : State :=
  if (s.rioPort p).open_.isEmpty && s.fld RIO_P_STAT_STATE [p] ≠ 3 && !(s.rioPort p).start then
    (List.range 64).foldl (fun s i => settleWhere (64 * p + i) codeNotDelivered (fun _ => true) s) s
  else s

/-- STOP (R275): a waiting START falls; the port ends after the close of the current cycle. -/
def rioStop (p : Nat) (s : State) : State :=
  let s := s.modPort p (fun x => { x with start := false })
  if s.fld RIO_P_STAT_STATE [p] ≠ 3 then portEnded p s
  else if (s.rioPort p).open_.isEmpty then portEnded p (s.setFld RIO_P_STAT_STATE 2 [p])
  else s.modPort p (fun x => { x with stop := true })

/-- R269, R275: discovery and START are accepted in Provision and Stop. -/
def rioMode (s : State) : Bool := s.effMode = .provision || s.effMode = .stop

/-- The rule of RIO_Pp_CTL: EN, STOP, then DISC, then START. Without EN the port is OFF; its open cycles still close. -/
def rioCtlAct : Act := fun _ ix w s =>
  let p := ix.headD 0
  let disc := RIO_P_CTL_DISC.on w
  let start := RIO_P_CTL_START.on w
  if (disc || start) && !rioMode s then .badMode s
  else if start && 2 ≤ p && islPorts s then .badState s
  else
    let s := s.store RIO_P_CTL ix w
    let s := if RIO_P_CTL_EN.on w then s
      else (s.setFld RIO_P_STAT_STATE 0 ix).modPort p (fun x => { x with start := false, stop := false, hello := [] })
    let s := if RIO_P_CTL_STOP.on w then rioStop p s else s
    let s := if disc then rioDisc p s else s
    let s := if start then rioStart p s else s
    .ok (portEnded p s)

/-- RIO_DISC: writing RIO_Pp_CTL.DISC with EN (R269). -/
def execRioDisc (m : Master) (p : Fin 4) (s : State) : Host.Outcome State Fault Refusal :=
  run [.rio] (regCmd rioCtlAct m RIO_P_CTL [p.val] 3) s

/-- RIO_START: writing START with EN (R275). -/
def execRioStart (m : Master) (p : Fin 4) (s : State) : Host.Outcome State Fault Refusal :=
  run [.rio] (regCmd rioCtlAct m RIO_P_CTL [p.val] 5) s

/-- RIO_STOP: writing STOP with EN (R275). -/
def execRioStop (m : Master) (p : Fin 4) (s : State) : Host.Outcome State Fault Refusal :=
  run [.rio] (regCmd rioCtlAct m RIO_P_CTL [p.val] 9) s

/-! ### Cycles -/

/-- The bytes of an image with a masked write of `width` bytes laid over it. -/
def overlay (img : List Byte) (ofs width value mask : Nat) : List Byte :=
  (List.range width).foldl (fun img j =>
    let m := BitVec.ofNat 8 (mask / 256 ^ j)
    let v := BitVec.ofNat 8 (value / 256 ^ j)
    modNth img (ofs + j) (fun b => (b &&& ~~~m) ||| (v &&& m))) img

/-- The record of a staged write (R268). -/
def swRecord (w : StagedWrite) : List Byte :=
  leBytes 4 w.wid ++ leBytes 12 (time96 w.stamp) ++ leBytes 2 w.ofs ++ leBytes 1 w.width ++ leBytes 1 0 ++
    leBytes 4 w.value ++ leBytes 4 w.mask ++ leBytes 4 0

/-- Whether the port sends substitute images (R284). -/
def rioSubst (s : State) : Bool := s.effMode = .stop || s.effMode = .safe

/-- Whether a port starts cycles: it runs and no STOP waits, or a START waits (R275). -/
def rioStarts (s : State) (p : Nat) : Bool :=
  (s.fld RIO_P_STAT_STATE [p] = 3 && !(s.rioPort p).stop) || (s.rioPort p).start

/-- Before Phase 1 of tick n, at which a cycle of port p starts: the output images of its stations are kept as they stand at
the end of tick n − 1 (R273). -/
def rioKeepImages (n : Nat) (s : State) : State :=
  (List.range 4).foldl (fun s p =>
    let cyc := max 1 (s.fld RIO_P_CYC_CYC [p])
    if rioStarts s p && (n + cyc - s.fld RIO_P_CYC_PH [p] % cyc) % cyc = 0 then
      let l := (enabledStns s p).map (fun i => (i, s.bytes (outImg s (64 * p + i)) (s.fld RIO_ST_LEN_OLEN [64 * p + i])))
      s.modPort p (fun x => { x with snapAt := some n, snap := l })
    else s) s

/-- The output image of station i of port p as it stands at the end of tick n − 1. -/
def imageBefore (s : State) (p i n : Nat) : List Byte :=
  let x := s.rioPort p
  let live := s.bytes (outImg s (64 * p + i)) (s.fld RIO_ST_LEN_OLEN [64 * p + i])
  if x.snapAt = some n then ((x.snap.find? (fun e => e.1 = i)).map (·.2)).getD live else live

/-- The OFR of station i in the cycle that starts at tick n (R267, R272 to R274). A write whose commit tick lies before n stands
in the image itself. -/
def ofrFrame (s : State) (p i n cseq xofs : Nat) : List Byte :=
  let st := 64 * p + i
  let x := s.stn st
  let dbnd := s.fld RIO_P_BND_DBND [p]
  let olen := s.fld RIO_ST_LEN_OLEN [st]
  let t := tickAt n
  let due := t + dbnd * 1000 * nsF
  let img := if rioSubst s then s.bytes (subImg s st) olen
    else (x.writes.filter (fun w => t ≤ w.stamp && w.stamp ≤ due)).foldl
      (fun im w => overlay im w.ofs w.width w.value w.mask) (imageBefore s p i n)
  let sw := if rioSubst s then [] else x.writes.filter (fun w => due ≤ w.stamp)
  let wdt := s.fld RIO_ST_CFG_WD [st] * s.fld RIO_P_CYC_CYC [p] * 5 + dbnd
  let body := leBytes 4 wdt ++ leBytes 4 (dbnd * 1000) ++ leBytes 2 olen ++ leBytes 1 sw.length ++ leBytes 1 0 ++ img ++
    sw.flatMap swRecord
  buoyFrame s p 0x01 i 0 (x.token.getD 0) cseq (time96 t) xofs body

/-- The start tick of the port's next cycle (R272). -/
def nextCycle (s : State) (p : Nat) : Nat :=
  let cyc := max 1 (s.fld RIO_P_CYC_CYC [p])
  let ph := s.fld RIO_P_CYC_PH [p]
  let n0 := if s.now = tickAt s.tick then s.tick else s.tick + 1
  let n1 := match (s.rioPort p).last with
    | some k => if n0 ≤ k && k ≤ n0 + 2 then k + 1 else n0
    | none => n0
  n1 + (ph + cyc - n1 % cyc) % cyc

/-- A cycle of port p starts at tick n (R272), with which a waiting START makes the port RUNNING: one OFR to each station from CONFIGURED on, back to back, then the CONFIGs
that HELLOs have asked for (R271). -/
def startCycle (p n : Nat) (s : State) : State :=
  let x := s.rioPort p
  let s := if x.start then (s.setFld RIO_P_STAT_STATE 3 [p]).modPort p (fun q => { q with start := false, stop := false })
    else s
  let dest := (List.range 64).filter (fun i => stConfigured ≤ s.stnState (64 * p + i))
  let r := dest.foldl (fun (a : Nat × State) i =>
    let f := ofrFrame a.2 p i n x.cseq (a.1 + a.2.fld TWIN_PORT_DSKEW_DSKEW [p])
    (a.1 + wireNs f.length, rioSend p 0x01 f a.2)) (0, s)
  let c : RioCycle := { cseq := x.cseq, tick := n, sent := dest, ret := [], deliv := [] }
  let s := r.2.modPort p (fun x =>
    { x with cseq := (x.cseq + 1) % 2 ^ 32, last := some n, open_ := x.open_ ++ [c], hello := [] })
  x.hello.foldl (fun s i => sendConfig p i s) s

/-- RIO_CYCLE_START (R272): port p starts its next cycle. -/
def execRioCycleStart (p : Fin 4) (s : State) : Host.Outcome State Fault Refusal :=
  run [.rio] (fun s =>
    let p := p.val
    if rioStarts s p then
      let n := nextCycle s p
      startCycle p n (advanceTo (tickAt n) s)
    else s) s

/-- A response of a station, by its cycle and token: in time it becomes an item, late it is counted (R272, R273). -/
def ifrTaken (p : Nat) (b : Buoy) (s : State) : State :=
  let n := 64 * p + b.sta
  if b.typ ≠ 0x02 then s
  else
    let rb := s.fld RIO_P_BND_RBND [p] * 1000 * nsF
    match (s.rioPort p).open_.find? (fun c => c.cseq = b.cseq && c.sent.contains b.sta &&
        (s.stn n).token = some b.token) with
    | some c =>
      if s.now < tickAt c.tick + rb then
        let nack := leAt b.body 4 1
        let acks := (List.range nack).map (fun k => leAt b.body (8 + 4 * k) 4)
        s.pushItem n s.now (.ifr n b.cseq (leAt b.body 2 2) acks
          ((b.body.drop (8 + 4 * nack)).take (leAt b.body 0 2)))
      else (s.incr RIO_P_LATE_COUNT [p]).raise RIO_STAT_LATEF
    | none => (s.incr RIO_P_LATE_COUNT [p]).raise RIO_STAT_LATEF

/-- IFR (R276): an input frame arrives; it is admitted as an item of its station, or discarded as late. -/
def execIfr (p : Fin 4) (fcs : Bool) (frame : List Byte) (s : State) : Host.Outcome State Fault Refusal :=
  run [.rio] (fun s => rioReceive p.val fcs frame s (ifrTaken p.val)) s

/-! ### Applying an IFR -/

/-- Write a station's input signals with a status at tick n (R276, R278). -/
def writeInputs (st n qual subst age : Nat) (s : State) : State :=
  if !s.isSet RIO_ST_ISID_EN [st] then s
  else
    let len := s.fld RIO_ST_LEN_ILEN [st]
    let sid := s.fld RIO_ST_ISID_SID [st]
    (List.range (ceilDiv len 4)).foldl (fun s w =>
      s.setSig (sid + w) (ofLE ((s.bytes (inImg s st) len).drop (4 * w) |>.take 4))
        (qual * 2 ^ 14 + subst * 2 ^ 12 + min 4095 age) n) s

/-- The genuine inputs of an IFR of the cycle that started at tick c, applied at tick n (R276). -/
def genuine (st c n : Nat) (img : List Byte) (s : State) : State :=
  let len := s.fld RIO_ST_LEN_ILEN [st]
  let s := s.setBytes (inImg s st) (img.take len)
  writeInputs st n 0 0 (n - c) (s.modStn st (fun x => { x with latch := c, img := img.take len }))

/-- IFR_APPLY: an IFR of station st in Phase 3 of tick n (R276, R281, R283). -/
def rioApply (st cseq sstat : Nat) (acks : List Nat) (img : List Byte) (n : Nat) (s : State) : State :=
  let p := st / 64
  let i := st % 64
  match (s.rioPort p).open_.find? (fun c => c.cseq = cseq) with
  | none => (s.incr RIO_P_LATE_COUNT [p]).raise RIO_STAT_LATEF
  | some c =>
    if c.ret.contains i then s
    else
      let upd := fun (f : RioCycle → RioCycle) (s : State) => s.modPort p (fun x =>
        { x with open_ := x.open_.map (fun c => if c.cseq = cseq then f c else c) })
      let s := upd (fun c => { c with ret := c.ret ++ [i] }) (s.setFld RIO_ST_STAT_SSTAT sstat [st])
      let s := acks.foldl (fun s a => if bit a 31 then s else settleWrite st (bits a 30 0) codeDone s) s
      let state := s.stnState st
      let s := if state = stOperational then s
        else if state = stConfigured || state = stMissing || state = stLost then
          (s.setStn st stRejoining).modStn st (fun x =>
            { x with good := if state = stMissing then max 1 x.good else 1, wasLost := state = stLost })
        else s.modStn st (fun x => { x with good := x.good + 1 })
      let s := if s.stnState st = stRejoining && s.fld RIO_ST_CFG_RECOV [st] ≤ (s.stn st).good then
          let lost := (s.stn st).wasLost
          let s := (s.setStn st stOperational).setFld RIO_ST_STAT_MISSRUN 0 [st]
          if lost then (s.modStn st (fun x => { x with wasLost := false })).emitUnit 3 .rio st RIO_ST_STAT [st] else s
        else s
      if s.stnState st = stOperational then
        genuine st c.tick n img (upd (fun c => { c with deliv := c.deliv ++ [i] }) s)
      else s

/-! ### Closing a cycle -/

/-- The close tick of a cycle (R277). -/
def closeTick (s : State) (p : Nat) (c : RioCycle) : Nat :=
  ceilDiv (c.tick * 10000 + s.fld RIO_P_BND_RBND [p] * 2000 + 1000) 10000

/-- Substitute values of a station at tick n (R278): zero, or the last genuine values. -/
def substitute (st n qual : Nat) (s : State) : State :=
  let len := s.fld RIO_ST_LEN_ILEN [st]
  let s := s.setBytes (inImg s st) (if s.isSet RIO_ST_CFG_SUBPOL [st] then List.replicate len 0 else (s.stn st).img)
  writeInputs st n qual 1 (n - (s.stn st).latch) s

/-- STATION_LOST (R278, R279). -/
def stationLost (st : Nat) (s : State) : State :=
  let s := s.setStn st stLost
  let s := s.setFld RIO_NEWLOST_LOST (s.fld RIO_NEWLOST_LOST [st / 32] ||| 2 ^ (st % 32)) [st / 32]
  let s := (s.raise RIO_STAT_LOSTF).emitUnit 5 .rio st RIO_ST_STAT [st]
  let s := s.rtCause 0
  settleWhere st codeTargetLost (fun _ => true) s

/-- A station whose IFR is missing at a close at tick n (R278, R281). After the close of a cycle that a takeover cut it needs
one good IFR only (17 R487). -/
def missing (cut : Bool) (st n : Nat) (s : State) : State :=
  let s := (s.incr RIO_ST_MISS_VALUE [st]).incrSat RIO_ST_STAT_MISSRUN [st]
  let state := s.stnState st
  if state = stOperational || state = stMissing then
    if s.fld RIO_ST_CFG_LOSTN [st] + 1 ≤ s.fld RIO_ST_STAT_MISSRUN [st] then substitute st n 2 (stationLost st s)
    else
      let grace := cut && state = stOperational
      substitute st n 1 ((s.setStn st stMissing).modStn st (fun x => { x with good := if grace then 255 else 0 }))
  else if state = stLost then substitute st n 2 s
  else s.modStn st (fun x => { x with good := 0 })

/-- The staged writes of a port that no cycle after the one of tick `tick` carries and no IFR has acknowledged (R283). -/
def expireWrites (p tick : Nat) (s : State) : State :=
  let next := tickAt (tick + s.fld RIO_P_CYC_CYC [p]) + s.fld RIO_P_BND_DBND [p] * 1000 * nsF
  (List.range 64).foldl (fun s i => settleWhere (64 * p + i) codeNotDelivered (fun w => w.stamp < next) s) s

/-- The base of the report ring. -/
def dringBase (s : State) : Nat := 0x10000000 + s.fld RIO_DRING_BASE * 0x10000

/-- A set of station indices as a number. -/
def bitSet (l : List Nat) : Nat := l.foldl (fun a i => a ||| 2 ^ i) 0

/-- Write one delivery report entry (R282). -/
def dringPut (p : Nat) (c : RioCycle) (x lost : Nat) (s : State) : State :=
  let wr := s.fld RIO_DRING_WR_INDEX
  let next := (wr + 1) % 2048
  let e := leBytes 4 c.cseq ++ leBytes 4 c.tick ++ leBytes 4 x ++ leBytes 1 p ++ leBytes 1 c.sent.length ++
    leBytes 1 c.ret.length ++ leBytes 1 lost ++ leBytes 8 (bitSet c.sent) ++ leBytes 8 (bitSet c.deliv)
  let s := s.setBytes (dringBase s + 32 * wr) e
  let s := if next = s.fld RIO_DRING_RD_INDEX then
      ((s.incr RIO_DRING_RD_INDEX).incr RIO_DROVR_COUNT).raise RIO_STAT_DROVRF else s
  (s.setFld RIO_DRING_WR_INDEX next).noteRing 2

/-- The oldest open cycle of port p closes at tick x (R277 to R283). -/
def closeCycle (p x : Nat) (s : State) : State :=
  match (s.rioPort p).open_ with
  | [] => s
  | c :: rest =>
    let s := s.modPort p (fun q => { q with open_ := rest })
    let miss := c.sent.filter (fun i => !c.ret.contains i)
    let s := ((s.incr RIO_P_SENT_COUNT [p] c.sent.length).incr RIO_P_RET_COUNT [p] (c.sent.length - miss.length)).incr
      RIO_P_LOST_COUNT [p] miss.length
    let cut := s.twin.tookAt.any (fun t => tickAt c.tick < t && t ≤ tickAt x)
    let s := miss.foldl (fun s i => missing cut (64 * p + i) x s) s
    let s := expireWrites p c.tick s
    let s := dringPut p c x miss.length (s.setReg RIO_P_CSEQ (BitVec.ofNat 32 c.cseq) [p])
    let s := if (s.rioPort p).stop && rest.isEmpty then
        (s.setFld RIO_P_STAT_STATE 2 [p]).modPort p (fun q => { q with stop := false })
      else s
    portEnded p s

/-- The cycles that close in Phase 3 of tick n. -/
def rioCloseDue (n : Nat) (s : State) : State :=
  (List.range 4).foldl (fun s p => match (s.rioPort p).open_ with
    | [] => s
    | c :: _ => if closeTick s p c ≤ n then closeCycle p n s else s) s

/-! ### Staged writes of the recipe engine -/

/-- Hand a REMOTE action over to its port (R138, R274): a failure code known now, or none. A port that starts no cycle carries
no write. DEDUCED: log 218. -/
def rioHandover (st ofs width value mask stamp id : Nat) (s : State) : Option Nat × State :=
  let p := st / 64
  if s.fld RIO_ST_LEN_OLEN [st] < ofs + width then (some codeArgument, s)
  else if s.stnState st = stLost then (some codeTargetLost, s)
  else if 4 ≤ (s.stn st).writes.length then (some codeBudget, s)
  else if !rioStarts s p && (s.rioPort p).open_.isEmpty then (some codeNotDelivered, s)
  else
    let w : StagedWrite := { wid := (s.rioPort p).wid, stamp := stamp, ofs := ofs, width := width, value := value,
                             mask := mask, id := id, reported := false }
    let s := s.modPort p (fun x => { x with wid := (x.wid + 1) % 2 ^ 31 })
    (none, s.modStn st (fun x => { x with writes := x.writes ++ [w] }))

/-- At Phase 1 of C the action's bytes enter the master's output image (R274); a settled write is done with. -/
def rioCommit (st ofs width value mask id : Nat) (s : State) : State :=
  let a := outImg s st
  let img := overlay (s.bytes (a + ofs) width) 0 width value mask
  let s := s.setBytes (a + ofs) img
  s.modStn st (fun x => { x with writes := x.writes.filter (fun w => !(w.id = id && w.reported)) })

/-! ### Registers and resets -/

/-- RIO_ETYPE: below 0x0600 refused. -/
def rioEtypeAct : Act := fun _ ix w s =>
  if RIO_ETYPE_ETYPE.of w < 0x600 then .badValue s else .ok (s.store RIO_ETYPE ix w)

/-- RIO_ST_s_CFG: WD below 2 and RECOV of 0 refused. -/
def rioStCfgAct : Act := fun _ ix w s =>
  if RIO_ST_CFG_WD.of w < 2 || RIO_ST_CFG_RECOV.of w = 0 then .badValue s else .ok (s.store RIO_ST_CFG ix w)

/-- RIO_ST_s_LEN: a length above 1,024 refused. -/
def rioStLenAct : Act := fun _ ix w s =>
  if 1024 < RIO_ST_LEN_OLEN.of w || 1024 < RIO_ST_LEN_ILEN.of w then .badValue s else .ok (s.store RIO_ST_LEN ix w)

/-- nRESET, POR, FEED and a soft reset: the ports stop and become OFF (R284), and what is in flight is reported RESTARTED (01
R49); their registers are reset by the event. -/
def rioClear (s : State) : State :=
  let s := (List.range 256).foldl (fun s n => settleWhere n codeRestarted (fun _ => true) s) s
  { s with rio := {} }

end Sys2Proof.Machine
end

