-- ==== Sys2Proof/Machine/Can.lean ====
section
/-!
DEFINITION. CAN FD controllers (12): reception, transmit requests and their outcomes, error confinement, signal mapping.
-/
namespace Sys2Proof.Machine

/-- Controller c beside its registers. -/
def State.canCtl (s : State) (c : Nat) : CanCtl := nth s.can c {}

/-- Change controller c. -/
def State.modCan (s : State) (c : Nat) (f : CanCtl → CanCtl) : State := { s with can := modNth s.can c f }

/-- The modes in which the pins are not held recessive (R340). -/
def canMode (s : State) : Bool :=
  match s.effMode with
  | .dark | .seed | .keeper => false
  | _ => true

/-- Whether the controller is on the bus and not bus-off (R338, R340). -/
def canOn (s : State) (c : Nat) : Bool :=
  s.powered .can && canMode s && s.isSet CAN_CTL_EN [c] && !s.isSet CAN_CTL_INIT [c] && s.fld CAN_ERR_STATE [c] < 2

/-- Restricted operation (R337). -/
def canRestricted (s : State) (c : Nat) : Bool := s.fld CAN_CTL_OPMODE [c] = 1

/-- Whether the device owns the group of controller c (17 R482). -/
def ownsCan (s : State) (c : Nat) : Bool := s.ownsGroup (bits (s.fld TWIN_OGP_CAN) (2 * c + 1) (2 * c))

/-- CAN_c_OWN follows the roles (R331). -/
def canOwn (c : Nat) (s : State) : State :=
  let role := fun b => s.fld CAN_MB_CFG_ROLE [c, b]
  let pend := fun b => s.isSet CAN_MB_STAT_TXPEND [c, b]
  let count := fun (p : Nat → Bool) => ((List.range 64).filter p).length
  ((s.setFld CAN_OWN_NFREE (count (fun b => role b = 0)) [c]).setFld CAN_OWN_NSW
      (count (fun b => role b = 2 && !pend b)) [c]).setFld CAN_OWN_NCTRL
    (count (fun b => role b = 1 || (role b = 2 && pend b))) [c]

/-- The counts of the eight controllers follow the roles, whatever wrote them. -/
def canCount (s : State) : State := (List.range 8).foldl (fun s c => canOwn c s) s

/-! ### Requests -/

/-- A request ends once, with its code and the tick of the outcome (R336). -/
def canEnd (c b code : Nat) (s : State) : State :=
  let s := s.modCan c (fun x => { x with pend := x.pend.filter (fun t => t.buf ≠ b) })
  let s := ((s.setFld CAN_MB_STAT_CODE code [c, b]).lower CAN_MB_STAT_TXPEND [c, b]).setReg CAN_MB_TICK
    (BitVec.ofNat 32 s.tick) [c, b]
  canOwn c (if code = codeDone then s.incr CAN_TXCNT_COUNT [c] else s)

/-- A request ends by what its controller's hardware finds (17 R475). -/
def canOutcome (c b code : Nat) (s : State) : State :=
  let t := s.outcome (.canTx c b code) (canEnd c b code)
  t.modCan c (fun x => { x with pend := x.pend.map (fun e => if e.buf = b then { e with ended := true } else e) })

/-- The bits that arbitration compares, first to last, as a number (lower wins): base identifier, then for a base frame a
dominant IDE, for an extended one a recessive SRR and IDE and the extension. -/
def canArb (s : State) (c b : Nat) : Nat :=
  let id := s.fld CAN_MB_ID_ID [c, b]
  if s.isSet CAN_MB_ID_IDE [c, b] then bits id 28 18 * 2 ^ 20 + 3 * 2 ^ 18 + bits id 17 0 else bits id 28 18 * 2 ^ 20

/-- Whether pending buffer x is offered before y: it would win arbitration, or has the same identifier and is lower. -/
def canBefore (s : State) (c x y : Nat) : Bool :=
  canArb s c x < canArb s c y || (canArb s c x = canArb s c y && x < y)

/-- Whether the transmission of pending buffer b may be the one in progress (R335): none that would win was waiting when
it began. -/
def canSending (s : State) (c b : Nat) : Bool :=
  let x := s.canCtl c
  canOn s c && ownsCan s c && s.fld CAN_CTL_OPMODE [c] = 0 && match x.pend.find? (fun t => t.buf = b) with
  | none => false
  | some t => !t.ended && x.pend.all (fun u => u.buf = b || u.ended || (u.ending.isNone && (max t.seq x.last < u.seq || canBefore s c b u.buf)))

/-- A pending request is to end with a code: at once, or, while its transmission is in progress, unless that succeeds
(R336). Whether a transmission is in progress depends on the bus, and is a free value. -/
def canStop (c b code : Nat) (s : State) : State :=
  if canSending s c b then
    let d := s.draw
    if d.1 % 2 = 1 then d.2.modCan c (fun x =>
      { x with pend := x.pend.map (fun t => if t.buf = b then { t with ending := some (t.ending.getD code) } else t) })
    else canEnd c b code d.2
  else canEnd c b code s

/-- The buffers of the pending requests. -/
def canPending (s : State) (c : Nat) : List Nat := (s.canCtl c).pend.map (·.buf)

/-- Register a transmit request (R335): pending, or ended MODE at once (R336, R340). -/
def canRequest (c b : Nat) (s : State) : State :=
  let x := s.canCtl c
  let s := (s.setFld CAN_MB_STAT_CODE 0 [c, b]).raise CAN_MB_STAT_TXPEND [c, b]
  let s := s.modCan c (fun y => { y with pend := y.pend ++ [{ buf := b, at_ := s.now, seq := x.seq }], seq := y.seq + 1 })
  if s.isSet CAN_CTL_INIT [c] || s.fld CAN_CTL_OPMODE [c] ≠ 0 || s.effMode = .stop || s.effMode = .safe then
    canEnd c b codeMode s
  else canOwn c s

/-- The rule of CAN_c_MB_b_STAT: OVR_CLR, TXREQ, then ABORT. A second request, or one of a buffer that is no transmit
buffer, is refused. -/
def mbStatAct : Act := fun _ ix w s =>
  let c := ix.headD 0
  let b := ix.getD 1 0
  let req := CAN_MB_STAT_TXREQ.on w
  if req && (s.isSet CAN_MB_STAT_TXPEND ix || s.fld CAN_MB_CFG_ROLE ix ≠ 2) then .badState s
  else
    let s := if CAN_MB_STAT_OVR_CLR.on w then s.lower CAN_MB_STAT_OVR ix else s
    let s := if req then canRequest c b s else s
    .ok (if CAN_MB_STAT_ABORT.on w && s.isSet CAN_MB_STAT_TXPEND ix then canStop c b codeAborted s else s)

/-- TXREQ: writing 1 to CAN_c_MB_b_STAT.TXREQ (R335). -/
def execTxreq (m : Master) (c : Fin 8) (b : Fin 64) (s : State) : Host.Outcome State Fault Refusal :=
  run [.can] (regCmd mbStatAct m CAN_MB_STAT [c.val, b.val] 1) s

/-- CAN_ABORT: writing 1 to CAN_c_MB_b_STAT.ABORT (R336). -/
def execCanAbort (m : Master) (c : Fin 8) (b : Fin 64) (s : State) : Host.Outcome State Fault Refusal :=
  run [.can] (regCmd mbStatAct m CAN_MB_STAT [c.val, b.val] 2) s

/-! ### Error confinement -/

/-- The controller is error passive (R338). -/
def canPassive (c : Nat) (s : State) : State :=
  ((s.setFld CAN_ERR_STATE 1 [c]).raise CAN_FLAGS_EPASS [c]).emitUnit 4 .can c CAN_ERR [c]

/-- The controller is bus-off (R338): pending requests end TARGET_FAULT. -/
def canBusOff (c : Nat) (s : State) : State :=
  let s := ((s.setFld CAN_ERR_STATE 2 [c]).raise CAN_FLAGS_BOFF [c]).raise CAN_FLAGS_BUSOFF [c]
  let s := (canPending s c).foldl (fun s b => canEnd c b codeTargetFault s) s
  (s.rtCause 7).emitUnit 5 .can c CAN_ERR [c]

/-- New values of TEC and REC (ISO 11898-1 as R338 takes it): error passive from 128, bus-off when TEC passes 255. -/
def canCounters (c tec rec_ : Nat) (s : State) : State :=
  let was := s.fld CAN_ERR_STATE [c]
  let s := (s.setFld CAN_ERR_TEC (min 255 tec) [c]).setFld CAN_ERR_REC (min 255 rec_) [c]
  if 255 < tec then s.outcome (.canErr c true) (canBusOff c)
  else if 128 ≤ tec || 128 ≤ rec_ then (if was = 0 then s.outcome (.canErr c false) (canPassive c) else s)
  else s.setFld CAN_ERR_STATE 0 [c]

/-- A receiver's counters after a frame received without error: one less, or between 119 and 127 when it was above 127,
which the standard leaves open. -/
def canRxGood (c : Nat) (s : State) : State :=
  let r := s.fld CAN_ERR_REC [c]
  let t := s.fld CAN_ERR_TEC [c]
  if canRestricted s c then s
  else if 127 < r then
    let d := s.draw
    canCounters c t (119 + d.1 % 9) d.2
  else canCounters c t (r - 1) s

/-- ERROR_PASSIVE (R338): errors on the bus have brought a counter to 128; `tx` names the transmit counter. Restricted
operation leaves the counters unchanged. -/
def execErrorPassive (c : Fin 8) (tx : Bool) (s : State) : Host.Outcome State Fault Refusal :=
  run [.can] (fun s =>
    let c := c.val
    if canOn s c && !canRestricted s c && s.fld CAN_ERR_STATE [c] = 0 then
      if tx then canCounters c (max 128 (s.fld CAN_ERR_TEC [c])) (s.fld CAN_ERR_REC [c]) s
      else canCounters c (s.fld CAN_ERR_TEC [c]) (max 128 (s.fld CAN_ERR_REC [c])) s
    else s) s

/-- BUS_OFF (R338): errors on the bus have brought TEC past 255. -/
def execBusOff (c : Fin 8) (s : State) : Host.Outcome State Fault Refusal :=
  run [.can] (fun s =>
    if canOn s c.val && !canRestricted s c.val then canCounters c.val 256 (s.fld CAN_ERR_REC [c.val]) s else s) s

/-- CAN_RECOVERY_DONE (R338): 128 occurrences of 11 consecutive recessive bits have been counted. -/
def execCanRecoveryDone (c : Fin 8) (s : State) : Host.Outcome State Fault Refusal :=
  run [.can] (fun s =>
    let c := c.val
    if s.powered .can && canMode s && s.fld CAN_ERR_STATE [c] = 3 then
      (s.setReg CAN_ERR 0 [c]).lower CAN_FLAGS_BUSOFF [c]
    else s) s

/-! ### Registers -/

/-- The rule of CAN_c_CTL: OPMODE 3 is refused, and RECOVER unless the controller is bus-off (R338). Receive silence
counts from the instant at which the controller begins to run. -/
def canCtlAct : Act := fun _ ix w s =>
  let c := ix.headD 0
  if CAN_CTL_OPMODE.of w = 3 then .badValue s
  else if CAN_CTL_RECOVER.on w && s.fld CAN_ERR_STATE [c] ≠ 2 then .badState s
  else
    let ran := s.isSet CAN_CTL_EN [c] && !s.isSet CAN_CTL_INIT [c]
    let s := s.store CAN_CTL ix w
    let s := if !ran && s.isSet CAN_CTL_EN [c] && !s.isSet CAN_CTL_INIT [c] then
        s.modCan c (fun x => { x with since := s.now, rx := [], quiet := [] })
      else s
    .ok (if CAN_CTL_RECOVER.on w then s.setFld CAN_ERR_STATE 3 [c] else s)

/-- RECOVER: writing 1 to CAN_c_CTL.RECOVER, the other fields as they are (R338). -/
def execRecover (m : Master) (c : Fin 8) (s : State) : Host.Outcome State Fault Refusal :=
  run [.can] (fun s =>
    regCmd canCtlAct m CAN_CTL [c.val] (BitVec.ofNat 32 ((s.reg CAN_CTL [c.val]).toNat ||| 64)) s) s

/-- CAN_c_NBT and CAN_c_DBT: written only while INIT is 1; NTSEG1 below 2 is refused (R330). -/
def canBitAct (r : Reg) : Act := fun _ ix w s =>
  if !s.isSet CAN_CTL_INIT [ix.headD 0] then .badState s
  else if r = CAN_NBT && CAN_NBT_NTSEG1.of w = 0 then .badValue s
  else .ok (s.store r ix w)

/-- A buffer's ID, MASK (R331: only while INIT is 1), CTRL and data: not while a request is pending (R335). -/
def mbAct (r : Reg) : Act := fun _ ix w s =>
  let cb := ix.take 2
  if s.isSet CAN_MB_STAT_TXPEND cb && r ≠ CAN_MB_MASK then .badState s
  else if (r = CAN_MB_ID || r = CAN_MB_MASK) && !s.isSet CAN_CTL_INIT (ix.take 1) then .badState s
  else .ok (s.store r ix w)

/-- The rule of CAN_c_MB_b_CFG: ROLE 3 refused, a change of ROLE only while INIT is 1 (R331, R335). -/
def mbCfgAct : Act := fun _ ix w s =>
  if s.isSet CAN_MB_STAT_TXPEND ix then .badState s
  else if CAN_MB_CFG_ROLE.of w = 3 then .badValue s
  else if CAN_MB_CFG_ROLE.of w ≠ s.fld CAN_MB_CFG_ROLE ix && !s.isSet CAN_CTL_INIT (ix.take 1) then .badState s
  else .ok (canOwn (ix.headD 0) (s.store CAN_MB_CFG ix w))

/-- Whether a map entry's two words go together (R339). -/
def canMapOk (a b : Nat) : Bool :=
  let fmt := bits a 21 20
  let start := bits b 25 16
  let len := bits b 5 0 + 1
  fmt ≠ 3 && len ≤ 32 && start < 512 && !(bit a 19 && (start % 8 ≠ 0 || len % 8 ≠ 0)) && !(fmt = 2 && len ≠ 32)

/-- The rule of CAN_MAP_m_A. -/
def canMapAAct : Act := fun _ ix w s =>
  if canMapOk w.toNat (s.reg CAN_MAP_B ix).toNat then .ok (s.store CAN_MAP_A ix w) else .badValue s

/-- The rule of CAN_MAP_m_B. -/
def canMapBAct : Act := fun _ ix w s =>
  if canMapOk (s.reg CAN_MAP_A ix).toNat w.toNat then .ok (s.store CAN_MAP_B ix w) else .badValue s

/-! ### Reception -/

/-- The number of data bytes of a frame (R329). -/
def canLen (fdf : Bool) (dlc : Nat) : Nat :=
  if dlc ≤ 8 then dlc
  else if !fdf then 8
  else nth [12, 16, 20, 24, 32, 48, 64] (dlc - 9) 64

/-- The receive buffer of a frame (R332). -/
def canMatch (s : State) (c : Nat) (ide : Bool) (id : Nat) : Option Nat :=
  (List.range 64).find? (fun b => s.fld CAN_MB_CFG_ROLE [c, b] = 1 && s.isSet CAN_MB_ID_IDE [c, b] = ide &&
    (id ^^^ s.fld CAN_MB_ID_ID [c, b]) &&& s.fld CAN_MB_MASK_MASK [c, b] = 0)

/-- A good frame: acknowledged unless listening, counted, and delivered to the buffer that it matches (R329, R332, R333). Its stamp has an
error of at most one nominal time quantum, of NBRP CK_CAN clocks of 12.5 ns: a free value. -/
def canFrameTaken (c : Nat) (ide rtr fdf brs esi : Bool) (id : BitVec 29) (dlc : BitVec 4) (data : List Byte) (s : State) : State :=
  let s := if s.fld CAN_CTL_OPMODE [c] = 2 then s else s.say (.send (16 + c) 0 [])
  let s := canRxGood c s
  let idn := if ide then id.toNat else bits id.toNat 28 18 * 2 ^ 18
  match (if rtr then none else canMatch s c ide idn) with
  | none => s.incr CAN_NOMATCH_COUNT [c]
  | some b =>
    if 32 ≤ s.waiting (256 + c) then (s.incr CAN_RXLOST_COUNT [c]).raise CAN_FLAGS_RXLOSTF [c]
    else
      let n := canLen fdf dlc.toNat
      let flags := b2n fdf * 2 ^ 31 + b2n (fdf && brs) * 2 ^ 30 + b2n (fdf && esi) * 2 ^ 29 + dlc.toNat
      let q := (s.fld CAN_NBT_NBRP [c] + 1) * 819200
      let d := s.draw
      d.2.pushItem (256 + c) (s.now + d.1 % (2 * q + 1) - q) (.can c b (b2n ide * 2 ^ 31 + idn) flags
        ((List.range n).map (fun i => nth data i 0)))

/-- CAN_FRAME_RX (R332, R333): a frame of another node ends now, its base identifier in bits [28:18]; without error, with
an error, or with a protocol exception (R329). The acknowledgement goes out as a frame of port 16 + c, kind 0. -/
def execCanFrameRx (c : Fin 8) (res : CanEnd) (ide rtr fdf brs esi : Bool) (id : BitVec 29) (dlc : BitVec 4)
    (data : List Byte) (s : State) : Host.Outcome State Fault Refusal :=
  run [.can] (fun s =>
    let c := c.val
    if !canOn s c then s
    else match res with
    | .exception => s.raise CAN_FLAGS_PXE [c]
    | .error => if canRestricted s c then s else canCounters c (s.fld CAN_ERR_TEC [c]) (s.fld CAN_ERR_REC [c] + 1) s
    | .good => canFrameTaken c ide rtr fdf brs esi id dlc data s) s

/-- The field of a map entry in the frame's data, LEN bits (R339). -/
def canField (data : List Byte) (a b : Nat) : Nat :=
  let start := bits b 25 16
  let len := bits b 5 0 + 1
  let raw := if bit a 19 then ofBE ((data.drop (start / 8)).take (len / 8)) else ofLE data / 2 ^ start % 2 ^ len
  if bits a 21 20 = 1 then ofInt 32 (sx len raw) else raw

/-- The map entries of a receive buffer, ascending (R339). -/
def canMaps (s : State) (c b : Nat) : List Nat :=
  (List.range 512).filter (fun m => s.isSet CAN_MAP_A_EN [m] && s.fld CAN_MAP_A_CTRL [m] = c && s.fld CAN_MAP_A_MB [m] = b)

/-- Step 3 of R333: the mapped signals at tick n. -/
def canSignals (c b : Nat) (data : List Byte) (stamp n : Nat) (s : State) : State :=
  (canMaps s c b).foldl (fun s m =>
    let a := (s.reg CAN_MAP_A [m]).toNat
    let f := (s.reg CAN_MAP_B [m]).toNat
    if 8 * data.length < bits f 25 16 + bits f 5 0 + 1 then s.raise CAN_FLAGS_MAPF [c]
    else s.setSig (bits a 17 0) (canField data a f) (min 4095 (ceilDiv (tickAt n - stamp) (5000 * nsF))) n) s

/-- CAN_RX_APPLY: a CAN item in Phase 3 of tick n (R333); in Provision it is discarded (R340). -/
def canApply (c b id flags : Nat) (data : List Byte) (stamp n : Nat) (s : State) : State :=
  if s.effMode = .provision then s
  else
    let s := (s.setReg CAN_MB_ID (BitVec.ofNat 32 id) [c, b]).setReg CAN_MB_CTRL (BitVec.ofNat 32 flags) [c, b]
    let s := (List.range 16).foldl (fun s w =>
      s.setReg CAN_MB_DATA (BitVec.ofNat 32 (ofLE ((data.drop (4 * w)).take 4))) [c, b, w]) s
    let s := s.setReg CAN_MB_TICK (BitVec.ofNat 32 n) [c, b]
    let nd := s.fld CAN_ND_ND [c, b / 32]
    let s := if bit nd (b % 32) then s.raise CAN_MB_STAT_OVR [c, b] else s
    let s := s.setFld CAN_ND_ND (nd ||| 2 ^ (b % 32)) [c, b / 32]
    let s := canSignals c b data stamp n s
    let s := s.modCan c (fun x => { x with rx := putKey x.rx b (tickAt n), quiet := x.quiet.filter (· ≠ b) })
    s.incr CAN_RXCNT_COUNT [c]

/-! ### Transmission outcomes -/

/-- The attempt of a buffer ends: sent, or failed with what its end, ONESHOT and the error counters say (R335, R336, R338). -/
def canAttemptEnds (c b : Nat) (res : CanTxEnd) (s : State) : State :=
  let end_ := ((s.canCtl c).pend.find? (fun t => t.buf = b)).bind (·.ending)
  let s := s.modCan c (fun x => { x with last := x.seq, seq := x.seq + 1 })
  match res with
  | .sent =>
    let fd := s.isSet CAN_MB_CTRL_FDF [c, b] && s.isSet CAN_CTL_FDEN [c]
    let n := canLen fd (s.fld CAN_MB_CTRL_DLC [c, b])
    let bytes := (List.range n).map (fun i => bits (s.fld CAN_MB_DATA_DATA [c, b, i / 4]) (8 * (i % 4) + 7) (8 * (i % 4)))
    let s := s.say (.send (16 + c) 1
      ((s.reg CAN_MB_ID [c, b]).toNat :: b2n fd :: b2n (fd && s.isSet CAN_MB_CTRL_BRS [c, b]) :: bytes))
    canCounters c (s.fld CAN_ERR_TEC [c] - 1) (s.fld CAN_ERR_REC [c]) (canOutcome c b codeDone s)
  | res =>
    let s := match end_ with
      | some code => canOutcome c b code s
      | none => if s.isSet CAN_CTL_ONESHOT [c] then canOutcome c b codeNotDelivered s else s
    if res = .error then canCounters c (s.fld CAN_ERR_TEC [c] + 8) (s.fld CAN_ERR_REC [c]) s else s

/-- CAN_TX_COMPLETE (R336): the transmission of pending buffer b ends: sent and acknowledged through the end of EOF, or it
lost arbitration, or met an error (TEC rises by 8, ISO 11898-1). Port 16 + c, kind 1 puts the frame out. -/
def execCanTxComplete (c : Fin 8) (b : Fin 64) (res : CanTxEnd) (s : State) : Host.Outcome State Fault Refusal :=
  run [.can] (fun s => if canSending s c.val b.val then canAttemptEnds c.val b.val res s else s) s

/-- The deadline of a request (R336). -/
def canDeadline (s : State) (c : Nat) (t : CanTx) : Option Nat :=
  let ms := s.fld CAN_MB_CFG_TMO [c, t.buf]
  if ms = 0 || t.ending.isSome then none else some (t.at_ + ms * 1000000 * nsF)

/-- CAN_TX_TIMEOUT (R336): TMO ms after its registration a request ends TIMEOUT. -/
def execCanTxTimeout (c : Fin 8) (b : Fin 64) (s : State) : Host.Outcome State Fault Refusal :=
  run [.can] (fun s =>
    match ((s.canCtl c.val).pend.find? (fun t => t.buf = b.val)).bind (canDeadline s c.val) with
    | some d => canStop c.val b.val codeTimeout (advanceTo d s)
    | none => s) s

/-- When a receive buffer's silence becomes a timeout (R339). -/
def canRxDeadline (s : State) (c b : Nat) : Option Nat :=
  let x := s.canCtl c
  let ms := s.fld CAN_MB_CFG_TMO [c, b]
  if s.fld CAN_MB_CFG_ROLE [c, b] ≠ 1 || ms = 0 || x.quiet.contains b || !s.isSet CAN_CTL_EN [c] ||
      s.isSet CAN_CTL_INIT [c] then none
  else some ((getKey x.rx b).getD x.since + ms * 1000000 * nsF)

/-- A receive timeout acts at tick n (R339). -/
def canRxTimeout (c b n : Nat) (s : State) : State :=
  let s := (canMaps s c b).foldl (fun s m =>
    let sid := s.fld CAN_MAP_A_SID [m]
    s.setSig sid (s.sigVal sid) (2 * 2 ^ 14 + 2 ^ 12 + bits (s.sigStat sid) 11 0) n) s
  (s.modCan c (fun x => { x with quiet := b :: x.quiet })).raise CAN_FLAGS_TMOF [c]

/-- CAN_RX_TIMEOUT (R339): the tick after TMO ms of silence of receive buffer b. -/
def execCanRxTimeout (c : Fin 8) (b : Fin 64) (s : State) : Host.Outcome State Fault Refusal :=
  run [.can] (fun s =>
    match canRxDeadline s c.val b.val with
    | some d =>
      let n := tickNo d + 1
      canRxTimeout c.val b.val n (advanceTo (tickAt n) s)
    | none => s) s

/-- The timeouts due in tick n. -/
def canDue (n : Nat) (s : State) : State :=
  (List.range 8).foldl (fun s c =>
    let late := (s.canCtl c).pend.filter (fun t => (canDeadline s c t).any (· < tickAt n))
    let s := late.foldl (fun s t => canStop c t.buf codeTimeout s) s
    if !s.isSet CAN_CTL_EN [c] || s.isSet CAN_CTL_INIT [c] then s
    else (List.range 64).foldl (fun s b => if (canRxDeadline s c b).any (· < tickAt n) then canRxTimeout c b n s else s) s) s

/-! ### Modes and resets -/

/-- Entry to Stop or Safe: every request that is not being transmitted ends ABORTED (R340). -/
def canStopAll (s : State) : State :=
  (List.range 8).foldl (fun s c => (canPending s c).foldl (fun s b => canStop c b codeAborted s) s) s

/-- nRESET: pending requests end RESTARTED; buffers and maps are kept (R340). -/
def canNreset (s : State) : State :=
  (List.range 8).foldl (fun s c => (canPending s c).foldl (fun s b => canEnd c b codeRestarted s) s) s

/-- POR, FEED (R340). -/
def canClear (s : State) : State := { s with can := List.replicate 8 {} }

end Sys2Proof.Machine
end

