-- ==== Sys2Proof/Machine/CoreOps.lean ====
section
/-!
DEFINITION. A core's registers, control registers and exceptions (14 R366 to R400).
-/
namespace Sys2Proof.Machine

/-- Core c: 0 to 15 the control cores, 16 the Keeper, 17 the safety island's pair. -/
def State.core (s : State) (c : Nat) : Core := nth s.cores c {}

/-- Change core c. -/
def State.modCore (s : State) (c : Nat) (f : Core → Core) : State := { s with cores := modNth s.cores c f }

/-- The master that core c is (02 R58). -/
def coreMaster (c : Nat) : Master :=
  if h : c < 16 then .core ⟨c, h⟩ else if c = 16 then .keeper else .island

/-- The content of general register r (R367: g0 reads 0). -/
def State.gr (s : State) (c r : Nat) : Word := if r = 0 then 0 else nth (s.core c).g r 0

/-- Write a general register; a write to g0 is discarded (R367). -/
def State.setGr (s : State) (c r : Nat) (v : Word) : State :=
  if r = 0 then s else s.modCore c (fun x => { x with g := modNth x.g r (fun _ => v) })

/-- PSR.PRIV (R369). -/
def Core.priv (x : Core) : Bool := x.psr.getLsbD 0
/-- PSR.IE. -/
def Core.ie (x : Core) : Bool := x.psr.getLsbD 1
/-- PSR.XACT. -/
def Core.xact (x : Core) : Bool := x.psr.getLsbD 2

/-- IPEND (R399): TIMER and DISP. -/
def Core.ipend (x : Core) : Nat := b2n x.timer + 2 * b2n x.hint

/-- CPU_C_c_STAT.STATE of a control core (R408). -/
def coreStateCode (x : Core) : Nat :=
  if x.run = .doublefault then 4
  else if x.halted then 3
  else match x.run with
    | .reset => 0 | .running => 1 | _ => 2

/-- CPU_C_c_STAT.STATE follows the core. -/
def coreStat (c : Nat) (s : State) : State :=
  if c < 16 then s.setFld CPU_C_STAT_STATE (coreStateCode (s.core c)) [c] else s

/-- A core starts to do something else. -/
def State.coreDo (s : State) (c : Nat) (r : CoreRun) : State := coreStat c (s.modCore c (fun x => { x with run := r }))

/-- The blocks on which a core's own instruction acts. -/
def spwBlocks (c : Nat) : List Block := if c < 16 then [.cpu] else if c = 16 then [.kpr] else []

/-- The blocks on which a token instruction of a core acts: the dispatcher serves the control cores alone (R366). -/
def tokenBlocks (c : Nat) : List Block := if c < 16 then [.disp, .cpu] else spwBlocks c

/-! ### Exceptions -/

/-- The vector of a cause (R395). -/
def vectorOf (x : Core) (cause : Nat) : Nat := (x.vbar.toNat / 4096 * 4096 + 64 * cause) % 2 ^ 32

/-- Exception entry (R395): PSR, EPC, EADDR and ECAUSE are saved, the core enters supervisor mode with interrupts off, and
continues at the vector. -/
def enterException (c cause info imp epc eaddr : Nat) (s : State) : State :=
  let s := s.modCore c (fun x =>
    { x with epsr := x.psr, epc := BitVec.ofNat 32 (epc / 4 * 4), eaddr := BitVec.ofNat 32 eaddr,
             ecause := BitVec.ofNat 32 (info % 2 ^ 16 * 2 ^ 16 + imp * 256 + cause), psr := 5,
             pc := vectorOf x cause, run := .running })
  coreStat c (if c < 16 then s.setFld CPU_C_STAT_LASTCAUSE cause [c] else s)

/-- A double fault (R398): the core stops; a control core is recorded and puts the device in Safe. -/
def doubleFault (c : Nat) (s : State) : State :=
  let s := s.coreDo c .doublefault
  if c < 16 then
    ((s.raise CPU_C_STAT_DFLT [c]).emitUnit 6 .cpu c CPU_C_STAT [c]).raiseSafe 5
  else s

/-- A precise exception (R395, R398). -/
def preciseException (c cause info epc eaddr : Nat) (s : State) : State :=
  if (s.core c).xact then doubleFault c s else enterException c cause info 0 epc eaddr s

/-- Whether an enabled interrupt may be taken (R399). -/
def interruptReady (x : Core) : Bool := x.ipend &&& x.imask.toNat ≠ 0 && x.ie && !x.xact

/-- Take an interrupt at the boundary before the instruction at PC (R394, R399). -/
def takeInterrupt (c : Nat) (s : State) : State :=
  let x := s.core c
  enterException c 12 (x.ipend &&& x.imask.toNat) 0 x.pc 0 s

/-- Take the imprecise BUSST that waits (R397). -/
def takeImprecise (c : Nat) (s : State) : State :=
  match (s.core c).imp with
  | none => s
  | some (a, r) => enterException c 6 r 1 (s.core c).pc a (s.modCore c (fun x => { x with imp := none }))

/-! ### Control registers -/

/-- Device time in ns modulo 2³² (R406). -/
def tnowExact (s : State) : Nat := s.now / nsF % 2 ^ 32

/-- Whether device time has reached a target in ns of TNOW (R393). -/
def tnowReached (s : State) (target : Nat) : Bool := (tnowExact s + 2 ^ 32 - target % 2 ^ 32) % 2 ^ 32 < 2 ^ 31

/-- IPEND.TIMER is set when TNOW reaches TCMP (R399). -/
def timerLook (c : Nat) (s : State) : State :=
  if tnowReached s (s.core c).tcmp.toNat then s.modCore c (fun x => { x with timer := true }) else s

/-- The instant at which device time reaches a target in ns of TNOW, or now. -/
def tnowInstant (s : State) (target : Nat) : Nat :=
  if tnowReached s target then s.now
  else (s.now / nsF + (target + 2 ^ 32 - tnowExact s) % 2 ^ 32) * nsF

/-- Numbers of the control registers whose guard is G1 for reads (R406). -/
def crG1 (n : Nat) : Bool := [1, 2, 3, 4, 5, 10, 12, 13, 14, 18].contains n

/-- Numbers of the control registers whose guard is G0 for writes (R406). -/
def crWriteG0 (n : Nat) : Bool := [6, 7, 8, 9, 11, 15, 16, 17].contains n

/-- The core's clocks are counted up to now: how many have passed is free. -/
def cyclesNow (c : Nat) (s : State) : Nat × State :=
  let d := s.draw
  let v := ((s.core c).cyc + d.1) % 2 ^ 64
  (v, d.2.modCore c (fun x => { x with cyc := v }))

/-- The local copy of device time in ns (R406): at most 20 ns behind device time (free), and never running backwards (01 R28)
but over a step of device time. -/
def tnowCopy (c : Nat) (s : State) : Nat × State :=
  let d := s.draw
  let t := s.now / nsF
  let v := if (s.core c).tnow ≤ t then max (s.core c).tnow (t - d.1 % 21) else t - d.1 % 21
  (v, d.2.modCore c (fun x => { x with tnow := v }))

/-- Read control register n of core c (R406). TNOW lags device time by at most 20 ns and the clock count moves with the
core's clock: the spec fixes neither value (free). A read of CYCLE_LO holds the high word for the next read of CYCLE_HI
(R406, 02 R69). -/
def crRead (c n : Nat) (s : State) : Word × State :=
  let x := s.core c
  match n with
  | 0 => (x.psr, s) | 1 => (x.epsr, s) | 2 => (x.epc, s) | 3 => (x.ecause, s) | 4 => (x.eaddr, s)
  | 5 => (x.vbar, s) | 6 => (x.satf, s) | 7 => (x.fpcr, s)
  | 8 => (BitVec.ofNat 32 c, s)
  | 9 =>
    let r := tnowCopy c s
    (BitVec.ofNat 32 r.1, r.2)
  | 10 => (x.tcmp, s)
  | 11 => (BitVec.ofNat 32 x.ipend, s)
  | 12 => (x.imask, s) | 13 => (x.scr0, s) | 14 => (x.scr1, s)
  | 15 =>
    let r := cyclesNow c s
    (BitVec.ofNat 32 r.1, r.2.modCore c (fun x => { x with cycHi := some (r.1 / 2 ^ 32) }))
  | 16 =>
    match x.cycHi with
    | some h => (BitVec.ofNat 32 h, s.modCore c (fun x => { x with cycHi := none }))
    | none =>
      let r := cyclesNow c s
      (BitVec.ofNat 32 (r.1 / 2 ^ 32), r.2)
  | 17 => (BitVec.ofNat 32 (match x.task with
    | some d => 2 ^ 31 + d
    | none => 0), s)
  | _ => (x.bkpt, s)

/-- The reserved bits of control register n (R406); they read 0. -/
def crReserved (n : Nat) : Nat :=
  match n with
  | 0 | 1 => 0xFFFFFFF8
  | 3 => 0xFEF0
  | 5 => 0xFFF
  | 6 => 0xFFFFFFE0
  | 7 => 0xFFE0E0F8
  | 11 | 12 => 0xFFFFFFFC
  | 17 => 0x7FFFF000
  | 18 => 2
  | _ => 0

/-- The block whose behaviour a reserved bit changed in a core's control registers leaves open (02 R66): they lie in no block
of R55, so the block that holds the core (DESIGN CHOICE: log 203). -/
def coreBlock (c : Nat) : Block := if c < 16 then .cpu else if c = 16 then .kpr else .safe

/-- 02 R66 for a write of control register n: a changed reserved bit is noted. The island is not affected. -/
def crNote (c n : Nat) (w : Word) (s : State) : State :=
  if w.toNat &&& crReserved n = 0 then s
  else
    let t := noteReserved (coreMaster c) (coreBlock c) (0xF0000000 + 4 * n) w s
    if c = 17 then { t with tainted := s.tainted } else t

/-- Write control register n of core c (R406): read-only fields keep their value, sticky flags clear where a 1 is written. -/
def crWrite (c n : Nat) (w : Word) (s : State) : State :=
  let s := crNote c n w s
  let put := fun (f : Core → Core) => s.modCore c f
  let keep := fun (mask : Nat) => BitVec.ofNat 32 (w.toNat &&& mask)
  match n with
  | 0 => put (fun x => { x with psr := keep 7 })
  | 1 => put (fun x => { x with epsr := keep 7 })
  | 2 => put (fun x => { x with epc := keep 0xFFFFFFFC })
  | 5 => put (fun x => { x with vbar := keep 0xFFFFF000 })
  | 6 => put (fun x => { x with satf := x.satf &&& ~~~w })
  | 7 => put (fun x =>
    let flags := x.fpcr.toNat &&& (0x1F0000 - (w.toNat &&& 0x1F0000))
    { x with fpcr := BitVec.ofNat 32 (flags ||| (w.toNat &&& 0x1F07)) })
  | 10 => timerLook c (put (fun x => { x with tcmp := w, timer := false }))
  | 12 => put (fun x => { x with imask := keep 3 })
  | 13 => put (fun x => { x with scr0 := w })
  | 14 => put (fun x => { x with scr1 := w })
  | 18 => put (fun x => { x with bkpt := keep 0xFFFFFFFD })
  | _ => s

/-- The CORE reset of core c (R400). -/
def coreClear (c : Nat) (s : State) : State := coreStat c (s.modCore c (fun _ => {}))

end Sys2Proof.Machine
end

