-- ==== Sys2Proof/Machine/Disp.lean ====
section
/-!
DEFINITION. The hardware dispatcher (15): descriptors, the matching store, delay lists, selection and prefetch, the start and
the end of tasks, commands, completion records.
-/
namespace Sys2Proof.Machine

/-- State codes of R409. -/
def dIdle : Nat := 1
/-- WAIT. -/
def dWait : Nat := 2
/-- DELAY. -/
def dDelay : Nat := 3
/-- READY. -/
def dReady : Nat := 4
/-- SLOT. -/
def dSlot : Nat := 5
/-- RUN. -/
def dRun : Nat := 6

/-- Descriptor d; none while it is FREE. -/
def State.tdesc (s : State) (d : Nat) : Option TaskDesc := getKey s.disp.descs d

/-- Core c as the dispatcher sees it. -/
def State.dcore (s : State) (c : Nat) : DispCore := nth s.disp.cores c {}

/-- Change what the dispatcher holds of core c. -/
def State.modDcore (s : State) (c : Nat) (f : DispCore → DispCore) : State :=
  { s with disp := { s.disp with cores := modNth s.disp.cores c f } }

/-- The modes in which the dispatcher runs (R427). -/
def dispMode (s : State) : Bool :=
  match s.effMode with
  | .dark | .seed | .keeper => false
  | _ => true

/-- R427: in Hold with DBGHOLD no task starts and no delay list releases. -/
def dispHeld (s : State) : Bool := s.effMode = .hold && s.isSet DISP_CTL_DBGHOLD

/-! ### Counts -/

/-- The state code of a descriptor that may be FREE. -/
def descSt (x : Option TaskDesc) : Nat := (x.map (·.st)).getD 0

/-- Add to the count of the descriptors in a state (R426). -/
def countState (st : Nat) (up : Bool) (s : State) : State :=
  let bump := fun (f : Fld) => if up then s.setFld f (s.fld f + 1) else s.setFld f (s.fld f - 1)
  match st with
  | 0 => bump DISP_NST_0_NFREE | 1 => bump DISP_NST_0_NIDLE | 2 => bump DISP_NST_1_NWAIT
  | 3 => bump DISP_NST_1_NDELAY | 4 => bump DISP_NST_2_NREADY | 5 => bump DISP_NST_2_NSLOT
  | _ => bump DISP_NST_3_NRUN

/-- Add to the ready depth of the descriptor's priority, and of its domain, or to its delay list's count (R425). -/
def countPlace (x : Option TaskDesc) (up : Bool) (s : State) : State :=
  match x with
  | none => s
  | some x =>
    let step := fun (n : Nat) => if up then n + 1 else n - 1
    if x.st = dReady then
      let n := step (s.fld DISP_RDY_COUNT [x.prio])
      let s := s.setFld DISP_RDY_COUNT n [x.prio]
      let s := if s.fld DISP_RDY_HWM [x.prio] < n then s.setFld DISP_RDY_HWM n [x.prio] else s
      match x.dom with
      | some m => s.setFld DISP_DOM_NREADY (step (s.fld DISP_DOM_NREADY [m])) [m]
      | none => s
    else if x.st = dDelay then
      match x.dly with
      | some (l, _) => s.setFld DISP_DL_COUNT (step (s.fld DISP_DL_COUNT [l])) [l]
      | none => s
    else s

/-- Whether a task of domain m is in SLOT or RUN (R417). -/
def domActive (s : State) (m : Nat) : Bool :=
  s.disp.descs.any (fun e => e.2.dom = some m && (e.2.st = dSlot || e.2.st = dRun))

/-- DISP_DOM_m.ACTIVE of a descriptor's domain. -/
def domLook (x : Option TaskDesc) (s : State) : State :=
  match x.bind (·.dom) with
  | some m => s.setFld DISP_DOM_ACTIVE (b2n (domActive s m)) [m]
  | none => s

/-- Replace descriptor d; its counts and DISP_D_d follow. -/
def setDesc (d : Nat) (x : Option TaskDesc) (s : State) : State :=
  let old := s.tdesc d
  let s := countPlace old false s
  let s := if descSt old = descSt x then s else countState (descSt x) true (countState (descSt old) false s)
  let s := { s with disp := { s.disp with descs := match x with
    | some v => putKey s.disp.descs d v
    | none => delKey s.disp.descs d } }
  let s := domLook x (domLook old (countPlace x true s))
  let w := match x with
    | none => 0
    | some v =>
      let filled := ((List.range 4).filter (fun i => (nth v.toks i none).isSome)).foldl (fun a i => a + 2 ^ i) 0
      v.st * 2 ^ 29 + filled * 2 ^ 24 + v.prio * 2 ^ 20 + (if v.st = dSlot || v.st = dRun then v.core else 0) * 2 ^ 16
  s.setReg DISP_D (BitVec.ofNat 32 w) [d]

/-- Change descriptor d, if it is not FREE. -/
def modDesc (d : Nat) (f : TaskDesc → TaskDesc) (s : State) : State :=
  match s.tdesc d with
  | some x => setDesc d (some (f x)) s
  | none => s

/-! ### Eligibility and rank -/

/-- The effective priority (R417): a task of a domain ranks with the highest PRIO of the READY tasks of its domain. -/
def effPrio (s : State) (x : TaskDesc) : Nat :=
  match x.dom with
  | none => x.prio
  | some m => s.disp.descs.foldl (fun a e => if e.2.st = dReady && e.2.dom = some m then max a e.2.prio else a) x.prio

/-- Whether task (d, x) is older in its domain than (e, y). -/
def older (d : Nat) (x : TaskDesc) (e : Nat) (y : TaskDesc) : Bool := x.rdy < y.rdy || (x.rdy = y.rdy && d < e)

/-- Whether a READY task is eligible (R417). -/
def eligible (s : State) (d : Nat) (x : TaskDesc) : Bool :=
  x.st = dReady && match x.dom with
  | none => true
  | some m =>
    s.disp.descs.all (fun e => e.1 = d || e.2.st ≠ dReady || e.2.dom ≠ some m || older d x e.1 e.2) &&
      !(s.isSet DISP_DOM_SERIAL [m] && domActive s m)

/-- Whether (d, x) outranks (e, y) (R419). -/
def outranks (s : State) (d : Nat) (x : TaskDesc) (e : Nat) (y : TaskDesc) : Bool :=
  let p := effPrio s x
  let q := effPrio s y
  q < p || (p = q && older d x e y)

/-- Whether core c takes tasks: a member that is neither leaving, halted nor stopped by a double fault (R421, R422). -/
def takesTasks (s : State) (c : Nat) : Bool :=
  (s.dcore c).member && !(s.dcore c).leaving && !(s.core c).halted && (s.core c).run ≠ .doublefault

/-- Whether member c is idle between tasks. -/
def memberIdle (s : State) (c : Nat) : Bool := (s.core c).task.isNone && (s.core c).run = .idle

/-! ### Slots -/

/-- DISP_CORE_c_SLOT and IPEND.DISP follow the slots (R423). -/
def slotRegs (c : Nat) (s : State) : State :=
  let k := s.dcore c
  let f := fun (o : Option Nat) => match o with
    | some d => 2 ^ 15 + d
    | none => 0
  let s := s.setReg DISP_CORE_SLOT (BitVec.ofNat 32 (f k.s1 * 2 ^ 16 + f k.s0)) [c]
  let hint := s.isSet DISP_CORE_CFG_HINT [c] && match (s.core c).task.bind s.tdesc, k.s0.bind s.tdesc with
    | some r, some h => effPrio s r < effPrio s h
    | _, _ => false
  s.modCore c (fun x => { x with hint := hint })

/-- A slot's task returns to READY, its readiness instant unchanged (R419). -/
def unslot (d : Nat) (s : State) : State := modDesc d (fun x => { x with st := dReady }) s

/-- Every slot of core c returns its task to READY. -/
def emptySlots (c : Nat) (s : State) : State :=
  let k := s.dcore c
  let s := (k.s0.toList ++ k.s1.toList).foldl (fun s d => unslot d s) s
  slotRegs c (s.modDcore c (fun k => { k with s0 := none, s1 := none }))

/-- Put task d into a slot of core c: slot 0 holds the better of the two (R419). -/
def intoSlot (d c : Nat) (s : State) : State :=
  let s := modDesc d (fun x => { x with st := dSlot, core := c }) s
  let l := (s.dcore c).s0.toList ++ (s.dcore c).s1.toList ++ [d]
  let better := fun (a b : Nat) => match s.tdesc a, s.tdesc b with
    | some x, some y => outranks s a x b y
    | _, _ => false
  let pair := match l with
    | [a, b] => if better b a then (some b, some a) else (some a, some b)
    | a :: _ => (some a, none)
    | [] => (none, none)
  slotRegs c (s.modDcore c (fun k => { k with s0 := pair.1, s1 := pair.2 }))

/-- Slot 0 of core c holds the better of its two tasks (R419), whatever a PRIO or a domain's head has changed. -/
def orderSlots (c : Nat) (s : State) : State :=
  match (s.dcore c).s0, (s.dcore c).s1 with
  | some a, some b => match s.tdesc a, s.tdesc b with
    | some x, some y => if outranks s b y a x then s.modDcore c (fun k => { k with s0 := some b, s1 := some a }) else s
    | _, _ => s
  | _, _ => s

/-- The core whose slot task the newly eligible task (d, x) displaces, with that task: the lowest-ranked of those that it
outranks, at equal ranks the lowest core. -/
def displaced (s : State) (d : Nat) (x : TaskDesc) (cs : List Nat) : Option (Nat × Nat) :=
  cs.foldl (fun a c => match (s.dcore c).s1.orElse (fun _ => (s.dcore c).s0) with
    | none => a
    | some e => match s.tdesc e with
      | none => a
      | some y =>
        if !outranks s d x e y then a
        else match a with
          | none => some (c, e)
          | some (_, e') => match s.tdesc e' with
            | some y' => if outranks s e' y' e y then some (c, e) else a
            | none => a) none

/-- Place one eligible task, if a slot is to be had (R419). -/
def placeTask (d : Nat) (x : TaskDesc) (s : State) : Option State :=
  let cs := (List.range 16).filter (fun c => bit x.cores c && takesTasks s c)
  match cs.find? (fun c => memberIdle s c && (s.dcore c).s0.isNone) with
  | some c => some (intoSlot d c s)
  | none => match cs.find? (fun c => (s.dcore c).s0.isNone) with
    | some c => some (intoSlot d c s)
    | none => match cs.find? (fun c => (s.dcore c).s1.isNone) with
      | some c => some (intoSlot d c s)
      | none => match displaced s d x cs with
        | some (c, e) =>
          let s := unslot e s
          some (intoSlot d c (s.modDcore c (fun k =>
            if k.s1 = some e then { k with s1 := none } else { k with s0 := k.s1, s1 := none })))
        | none => none

/-- Insertion of a task into a list ordered by rank. -/
def rankInsert (s : State) (e : Nat × TaskDesc) : List (Nat × TaskDesc) → List (Nat × TaskDesc)
  | [] => [e]
  | f :: t => if outranks s e.1 e.2 f.1 f.2 then e :: f :: t else f :: rankInsert s e t

/-- The eligible tasks, best first. -/
def eligibles (s : State) : List (Nat × TaskDesc) :=
  (s.disp.descs.filter (fun e => eligible s e.1 e.2)).foldl (fun l e => rankInsert s e l) []

/-- The first eligible task that can be placed is placed. -/
def fillOne (s : State) : Option State := (eligibles s).findSome? (fun e => placeTask e.1 e.2 s)

/-- SLOT_FILL: the slots hold the best-ranked eligible tasks (R419). -/
def fillLoop : Nat → State → State
  | 0, s => s
  | n + 1, s => match fillOne s with
    | some t => fillLoop n t
    | none => s

/-- Selection after an event (R419), with the registers of every core's slots. -/
def fillSlots (s : State) : State :=
  let order := fun (s : State) => (List.range 16).foldl (fun s c => orderSlots c s) s
  let s := order (fillLoop (64 + 2 * s.disp.descs.length) (order s))
  (List.range 16).foldl (fun s c => if (s.dcore c).member then slotRegs c s else s) s

/-! ### Readiness -/

/-- A task is ready at instant t (R414, R416). -/
def becomeReady (d t : Nat) (s : State) : State :=
  match s.tdesc d with
  | none => s
  | some x => match x.dly with
    | none => setDesc d (some { x with st := dReady, rdy := t }) s
    | some (_, us) =>
      if 2 ^ 31 < us then
        (setDesc d (some { x with st := dReady, rdy := t }) s).incr DISP_NXTERR_COUNT
      else setDesc d (some { x with st := dDelay, rdy := t, dead := t + us * 1000 * nsF }) s

/-- Whether every needed slot is filled. -/
def allFilled (x : TaskDesc) : Bool := (List.range x.ntok).all (fun i => (nth x.toks i none).isSome)

/-- A token is applied to its descriptor (R414): the code of R49. -/
def tokenApply (d slot v : Nat) (s : State) : Nat × State :=
  match s.tdesc d with
  | none => (codeArgument, s)
  | some x =>
    let put := fun (l : List (Option Nat)) => modNth l slot (fun _ => some v)
    if x.st = dIdle || x.ntok ≤ slot then (codeArgument, s)
    else if x.st = dWait then
      if (nth x.toks slot none).isSome then (codeNoResource, s)
      else
        let y := { x with toks := put x.toks }
        let s := setDesc d (some y) s
        (codeDone, if allFilled y then becomeReady d s.now s else s)
    else if x.st = dRun then
      if x.mode ≠ 1 || (nth x.next slot none).isSome then (codeNoResource, s)
      else (codeDone, setDesc d (some { x with next := put x.next }) s)
    else (if (nth x.toks slot none).isSome then codeNoResource else codeArgument, s)

/-- A failed successor post (R415). -/
def nxtError (from_ d code : Nat) (s : State) : State :=
  ((s.incr DISP_NXTERR_COUNT).raise DISP_STAT_NXTERRF).emit 4 0x0C .disp from_ 0xFF (DISP_NXTERR.addr []) (d * 256 + code)

/-- The oldest token on its way is applied: a TPOST's code goes to its register. -/
def applyPost (s : State) : State :=
  match s.disp.posts with
  | [] => s
  | p :: rest =>
    let s := { s with disp := { s.disp with posts := rest } }
    let r := tokenApply p.desc p.slot p.val s
    match p.src with
    | some (c, rd) => fillSlots (r.2.setGr c rd (BitVec.ofNat 32 r.1))
    | none => fillSlots (if r.1 = codeDone then r.2 else nxtError p.from_ p.desc r.1 r.2)

/-- Every token on its way is applied, in order (R413). -/
def flushPosts (s : State) : State := (List.range s.disp.posts.length).foldl (fun s _ => applyPost s) s

/-- TOKEN_MATCH (R414): the oldest token reaches the matching store. -/
def execTokenMatch (s : State) : Host.Outcome State Fault Refusal :=
  run [.disp] (fun s => if dispMode s then applyPost s else s) s

/-! ### Delay lists -/

/-- The delay tick at or after an instant (R416): the next whole microsecond. -/
def delayTick (t : Nat) : Nat := ceilDiv t (1000 * nsF) * (1000 * nsF)

/-- Insertion by deadline, then by number. -/
def deadInsert (e : Nat × TaskDesc) : List (Nat × TaskDesc) → List (Nat × TaskDesc)
  | [] => [e]
  | f :: t => if e.2.dead < f.2.dead || (e.2.dead = f.2.dead && e.1 < f.1) then e :: f :: t else f :: deadInsert e t

/-- Release what is due at delay tick t, in order of deadline (R416). -/
def delayRelease (t : Nat) (s : State) : State :=
  let due := (s.disp.descs.filter (fun e => e.2.st = dDelay && e.2.dead ≤ t)).foldl (fun l e => deadInsert e l) []
  fillSlots (due.foldl (fun s e => modDesc e.1 (fun x => { x with st := dReady, rdy := t }) s) s)

/-- The earliest deadline. -/
def nextDead (s : State) : Option Nat :=
  s.disp.descs.foldl (fun a e => if e.2.st = dDelay then some (min (a.getD e.2.dead) e.2.dead) else a) none

/-- DELAY_RELEASE (R416): the next delay tick at which an entry is due. -/
def execDelayRelease (s : State) : Host.Outcome State Fault Refusal :=
  run [.disp] (fun s =>
    if !dispMode s || dispHeld s then s
    else match nextDead s with
      | none => s
      | some t =>
        let s := advanceTo (delayTick t) s
        delayRelease (max (delayTick t) (s.now / (1000 * nsF) * (1000 * nsF))) s) s

/-- The delay ticks that have passed by now. -/
def delayDue (s : State) : State :=
  if !dispMode s || dispHeld s then s
  else match nextDead s with
    | some t => if delayTick t ≤ s.now then delayRelease (s.now / (1000 * nsF) * (1000 * nsF)) s else s
    | none => s

/-! ### Start and end of tasks -/

/-- DISP_CORE_c_RUN. -/
def runReg (c : Nat) (s : State) : State :=
  s.setReg DISP_CORE_RUN (BitVec.ofNat 32 (match (s.core c).task with
    | some d => 2 ^ 31 + (match s.tdesc d with
      | some x => effPrio s x * 2 ^ 16
      | none => 0) + d
    | none => 0)) [c]

/-- The bin of a waiting time in ns (R425). -/
def waitBin (ns : Nat) : Nat :=
  if ns < 64 then 0 else if 1048576 ≤ ns then 15 else Nat.log2 (ns / 64) + 1

/-- The start of the task in slot 0 of core c (R420). -/
def startTask (c : Nat) (s : State) : State :=
  match (s.dcore c).s0 with
  | none => s
  | some d => match s.tdesc d with
    | none => s
    | some x =>
      let p := effPrio s x
      let wait := (s.now - x.rdy) / nsF
      let s := setDesc d (some { x with st := dRun, core := c, start := s.now,
                                        toks := List.replicate 4 none, next := List.replicate 4 none }) s
      let s := s.modDcore c (fun k => { k with s0 := k.s1, s1 := none, starts := k.starts + 1 })
      let arg := fun i => BitVec.ofNat 32 (nth x.args i 0)
      let s := ((s.setGr c 1 (arg 0)).setGr c 2 (arg 1)).setGr c 3 (arg 2)
      let s := s.modCore c (fun k =>
        { k with pc := x.entry, psr := BitVec.ofNat 32 (b2n (!x.user) + 2), task := some d,
                 toks := (List.range x.ntok).map (fun i => (nth x.toks i none).getD 0) })
      let key := 16 * p + waitBin wait
      let n := (getKey s.disp.hist key).getD 0
      let s := { s with disp := { s.disp with
        hist := putKey s.disp.hist key ((n + 1) % 2 ^ 32),
        maxw := modNth s.disp.maxw p (fun w => min (2 ^ 32 - 1) (max w wait)) } }
      let s := (List.range 13).foldl (fun s t =>
        if (nth s.rt.tasks t {}).desc = some d then s.setFld RT_T_STAT_STATE 3 [t] else s) s
      fillSlots (runReg c ((s.coreDo c .running).incr DISP_STARTS_COUNT))

/-- TASK_DISPATCH (R420): core c, an idle member, starts the task in its slot 0. -/
def execTaskDispatch (c : Fin 16) (s : State) : Host.Outcome State Fault Refusal :=
  run [.disp, .cpu] (fun s =>
    if dispMode s && !dispHeld s && takesTasks s c.val && memberIdle s c.val then startTask c.val s else s) s

/-- The base of the completion ring. -/
def cringBase (s : State) : Nat := 0x10000000 + s.fld DISP_CRING_BASE * 0x10000

/-- Write a completion record (R424, R143). -/
def completionRecord (d code c rdy start end_ : Nat) (s : State) : State :=
  let wr := s.fld DISP_CRING_WR_INDEX
  let next := (wr + 1) % 4096
  let t := fun x => leBytes 4 (x / nsF)
  let s := s.setBytes (cringBase s + 16 * wr)
    (leBytes 2 d ++ leBytes 1 code ++ leBytes 1 c ++ t rdy ++ t start ++ t end_)
  let s := if next = s.fld DISP_CRING_RD_INDEX then
      ((s.incr DISP_CRING_RD_INDEX).incr DISP_RINGOVR_COUNT).raise DISP_STAT_RINGOVRF else s
  (s.setFld DISP_CRING_WR_INDEX next).noteRing 3

/-- A successor post goes on its way; the 65th finds its queue full (R415). -/
def successorPost (d code : Nat) (x : TaskDesc) (s : State) : State :=
  match x.nxt with
  | none => s
  | some (n, slot) =>
    if 64 ≤ (s.disp.posts.filter (fun p => p.src.isNone)).length then nxtError d n codeBusy s
    else { s with disp := { s.disp with
      posts := s.disp.posts ++ [{ src := none, from_ := d, desc := n, slot := slot, val := code }] } }

/-- Core c leaves the dispatcher and continues at LVPC in supervisor mode (R421). -/
def leaveNow (c : Nat) (s : State) : State :=
  let s := emptySlots c s
  let s := s.modDcore c (fun k => { k with member := false, leaving := false })
  let s := (s.lower DISP_CORE_CTL_MEMBER [c]).modCore c (fun x =>
    { x with pc := s.fld DISP_CORE_LVPC_ADDR [c] * 4, psr := x.psr ||| 1, task := none })
  fillSlots (runReg c (s.coreDo c .running))

/-- TASK_END (R418): the running task of core c ends with a completion code. -/
def taskEnd (c code : Nat) (s : State) : State :=
  match (s.core c).task with
  | none => s
  | some d => match s.tdesc d with
    | none => s
    | some x =>
      let s := successorPost d code x s
      let s := if x.ring then completionRecord d code c x.rdy x.start s.now s else s
      let s := s.modDcore c (fun k => { k with busy := (k.busy + (s.now - x.start) / nsF) % 2 ^ 64 })
      let s := (s.modCore c (fun k => { k with task := none, toks := [] })).coreDo c .idle
      let s := match x.mode with
        | 1 =>
          let y := { x with st := dWait, toks := x.next, next := List.replicate 4 none }
          let s := setDesc d (some y) s
          if allFilled y then becomeReady d s.now s else s
        | 2 => setDesc d none s
        | _ => setDesc d (some { x with st := dIdle, toks := List.replicate 4 none, next := List.replicate 4 none }) s
      let s := fillSlots (runReg c s)
      if (s.dcore c).leaving then leaveNow c s else s

/-! ### Commands -/

/-- The entry of descriptor d in the table, 32 bytes (R410). -/
def entryBytes (s : State) (d : Nat) : Nat := s.peek (0x10000000 + s.fld DISP_DTAB_BASE * 0x10000 + 32 * d) 32

/-- Whether the checks of R412 pass. -/
def entryOk (v : Nat) : Bool :=
  let entry := bits v 31 0
  let ntok := bits v 149 147
  entry % 4 = 0 && 0x10000000 ≤ entry && entry < 0x14000000 && bits v 143 128 ≠ 0 && ntok ≤ 4 && bits v 151 150 ≠ 3 &&
    !(bit v 161 && bits v 223 192 = 0) && bits v 167 167 = 0 && bits v 175 168 = 0 && bits v 191 190 = 0 &&
    bits v 255 224 = 0

/-- The static part that an entry gives (R410). -/
def entryDesc (v : Nat) : TaskDesc :=
  { entry := bits v 31 0, args := [bits v 63 32, bits v 95 64, bits v 127 96], cores := bits v 143 128,
    prio := bits v 146 144, ntok := bits v 149 147, mode := bits v 151 150,
    dom := if bit v 160 then some (bits v 159 152) else none,
    dly := if bit v 161 then some (bits v 163 162, bits v 223 192) else none,
    nxt := if bit v 164 then some (bits v 187 176, bits v 189 188) else none,
    ring := bit v 165, user := bit v 166 }

/-- ARM (R411 to R413): the code and the state. A misplaced table or ring makes every ARM fail (R424). -/
def armDesc (d : Nat) (s : State) : Nat × State :=
  match s.tdesc d with
  | none => (codeBusy, s)
  | some x =>
    let v := entryBytes s d
    if x.st ≠ dIdle then (codeBusy, s)
    else if s.isSet DISP_STAT_CFGERR || !entryOk v then (codeArgument, s)
    else
      let y := { entryDesc v with st := dWait }
      let s := setDesc d (some y) s
      (codeDone, if y.ntok = 0 then fillSlots (becomeReady d s.now s) else s)

/-- ALLOC: the lowest FREE descriptor becomes IDLE. -/
def allocDesc (s : State) : Option Nat × State :=
  match (List.range 4096).find? (fun d => (s.tdesc d).isNone) with
  | some d => (some d, setDesc d (some {}) s)
  | none => (none, s)

/-- A descriptor leaves its list, slot or domain queue and becomes IDLE (R411). -/
def cancelDesc (d : Nat) (x : TaskDesc) (s : State) : State :=
  let s := s.modDcore x.core (fun k =>
    if x.st ≠ dSlot then k
    else if k.s0 = some d then { k with s0 := k.s1, s1 := none } else { k with s1 := none })
  fillSlots (slotRegs x.core (setDesc d (some { x with st := dIdle, toks := List.replicate 4 none }) s))

/-- One command: its code, the descriptor that ALLOC returns, and the state (R411). -/
def dispCommand (op d slot val : Nat) (s : State) : Nat × Nat × State :=
  let x := s.tdesc d
  let st := descSt x
  match op with
  | 1 => match allocDesc s with
    | (some n, s) => (codeDone, n, s)
    | (none, s) => (codeNoResource, 0, s)
  | 2 => if st = dIdle then (codeDone, d, setDesc d none s) else (codeArgument, d, s)
  | 3 => let r := armDesc d s; (r.1, d, r.2)
  | 4 => match x with
    | none => (codeArgument, d, s)
    | some y =>
      if st = dRun then (codeBusy, d, s)
      else if st = dIdle then (codeArgument, d, s)
      else (codeDone, d, cancelDesc d y s)
  | 5 => let r := tokenApply d slot val s; (r.1, d, fillSlots r.2)
  | 6 => match x with
    | none => (codeArgument, d, s)
    | some _ => (codeDone, d, fillSlots (modDesc d (fun y => { y with prio := val % 8 }) s))
  | _ => (codeDone, d, s)

/-- The control core that a master is. -/
def masterCore : Master → Option Nat
  | .core n => some n.val
  | _ => none

/-- The rule of DISP_CMD (R411, R427): a core's command is carried out in its order after the tokens on their way. -/
def dispCmdAct : Act := fun m _ w s =>
  match masterCore m with
  | none => .no .guard false s
  | some c =>
    let op := DISP_CMD_OP.of w
    if !dispMode s then .badMode s
    else if op = 7 then .badValue s
    else if op = 0 then .ok s
    else
      let r := dispCommand op (DISP_CMD_DESC.of w) (DISP_CMD_SLOT.of w) (s.dcore c).val.toNat (flushPosts s)
      .ok (r.2.2.modDcore c (fun k => { k with res := BitVec.ofNat 32 (2 ^ 30 + r.1 * 2 ^ 16 + r.2.1) }))

/-- DISP_CMDVAL is held per core (R411). -/
def dispValAct : Act := fun m _ w s =>
  match masterCore m with
  | none => .no .guard false s
  | some c => .ok (s.modDcore c (fun k => { k with val := w }))

/-- A command written by core c. -/
def dispCmdBy (c : Fin 16) (op desc slot : Nat) (s : State) : State :=
  regCmd dispCmdAct (.core c) DISP_CMD [] (BitVec.ofNat 32 (op * 2 ^ 28 + slot * 2 ^ 16 + desc)) s

/-- ALLOC (R411). -/
def execAlloc (c : Fin 16) (s : State) : Host.Outcome State Fault Refusal :=
  run [.disp] (dispCmdBy c 1 0 0) s

/-- DISP_FREE: the FREE command (R411). -/
def execDispFree (c : Fin 16) (d : Fin 4096) (s : State) : Host.Outcome State Fault Refusal :=
  run [.disp] (dispCmdBy c 2 d.val 0) s

/-- DISP_ARM: the ARM command (R411, R412). -/
def execDispArm (c : Fin 16) (d : Fin 4096) (s : State) : Host.Outcome State Fault Refusal :=
  run [.disp] (dispCmdBy c 3 d.val 0) s

/-- CANCEL (R411). -/
def execCancel (c : Fin 16) (d : Fin 4096) (s : State) : Host.Outcome State Fault Refusal :=
  run [.disp] (dispCmdBy c 4 d.val 0) s

/-- POST (R411), of the value in the core's DISP_CMDVAL. -/
def execPost (c : Fin 16) (d : Fin 4096) (slot : Fin 4) (s : State) : Host.Outcome State Fault Refusal :=
  run [.disp] (dispCmdBy c 5 d.val slot.val) s

/-- PRIO (R411), to the priority in the core's DISP_CMDVAL. -/
def execPrio (c : Fin 16) (d : Fin 4096) (s : State) : Host.Outcome State Fault Refusal :=
  run [.disp] (dispCmdBy c 6 d.val 0) s

/-! ### Membership -/

/-- The rule of DISP_CORE_c_CTL (R421): JOIN by the core itself, which is no member; LEAVE ends the membership after the
running task. -/
def coreCtlAct : Act := fun m ix w s =>
  let c := ix.headD 0
  let join := DISP_CORE_CTL_JOIN.on w
  if join && (masterCore m ≠ some c || (s.dcore c).member) then .badState s
  else
    let s := if join then
        let s := s.modDcore c (fun k => { k with member := true, leaving := false, s0 := none, s1 := none })
        let s := (s.raise DISP_CORE_CTL_MEMBER [c]).modCore c (fun x => { x with task := none, toks := [] })
        fillSlots (runReg c (s.coreDo c .idle))
      else s
    .ok (if DISP_CORE_CTL_LEAVE.on w && (s.dcore c).member then
        let s := fillSlots (emptySlots c (s.modDcore c (fun k => { k with leaving := true })))
        if (s.core c).task.isNone then leaveNow c s else s
      else s)

/-- JOIN (R421): core c writes DISP_CORE_c_CTL.JOIN. -/
def execJoin (m : Master) (c : Fin 16) (s : State) : Host.Outcome State Fault Refusal :=
  run [.disp, .cpu] (regCmd coreCtlAct m DISP_CORE_CTL [c.val] 1) s

/-- LEAVE (R421): a master writes DISP_CORE_c_CTL.LEAVE. -/
def execLeave (m : Master) (c : Fin 16) (s : State) : Host.Outcome State Fault Refusal :=
  run [.disp, .cpu] (regCmd coreCtlAct m DISP_CORE_CTL [c.val] 2) s

/-- The slots and the task of a core that is reset (R422). -/
def dispCoreReset (c : Nat) (s : State) : State :=
  if (s.dcore c).member then
    let s := s.modDcore c (fun k => { k with leaving := false })
    let s := emptySlots c (taskEnd c 0xFE (s.modDcore c (fun k => { k with member := false })))
    fillSlots (s.lower DISP_CORE_CTL_MEMBER [c])
  else s

/-! ### Control, placement, snapshots, resets -/

/-- HWMCLR clears every high-water mark (R425): each is then the present depth. -/
def hwmClear (s : State) : State :=
  (List.range 8).foldl (fun s p => s.setFld DISP_RDY_HWM (s.fld DISP_RDY_COUNT [p]) [p]) s

/-- The rule of DISP_CTL (18 R525, R526). -/
def dispCtlAct : Act := holdAct DISP_CTL_DBGHOLD (fun _ _ w s =>
  let was := s.isSet DISP_CTL_DBGHOLD
  let s := s.setFld DISP_CTL_DBGHOLD (DISP_CTL_DBGHOLD.of w)
  let s := if DISP_CTL_HWMCLR.on w then hwmClear s else s
  .ok (if was && !s.isSet DISP_CTL_DBGHOLD then delayDue s else s))

/-- HWMCLR: writing 1 to DISP_CTL.HWMCLR, DBGHOLD as it is (R425). -/
def execHwmclr (m : Master) (s : State) : Host.Outcome State Fault Refusal :=
  run [.disp] (fun s => regCmd dispCtlAct m DISP_CTL [] (BitVec.ofNat 32 (256 + s.fld DISP_CTL_DBGHOLD)) s) s

/-- The placement of the table and of the ring is judged when the device leaves Provision (R424). -/
def dispCheckPlacement (s : State) : State :=
  let t := s.fld DISP_DTAB_BASE
  let r := s.fld DISP_CRING_BASE
  let pool := s.fld RCP_POOL_BASE
  let ring := s.fld RCP_RING_BASE
  let img := s.fld RIO_IMG_BASE
  let dr := s.fld RIO_DRING_BASE
  let area := s.fld RT_AREA_BASE
  let ret := s.fld RT_RETAIN_BASE
  let mot := s.fld MOT_RING_BASE
  let ok := fun u => u < 1024 && u ≠ 0 && !(32 ≤ u && u < 64) && unitOwner s u = .control &&
    !(pool ≤ u && u < pool + 64) && !(ring ≤ u && u < ring + 16) && !(img ≤ u && u < img + 12) && u ≠ dr &&
    !(area ≤ u && u < area + 128) && !(ret ≤ u && u < ret + s.fld RT_RETAIN_SIZE) && u ≠ mot
  s.setFld DISP_STAT_CFGERR (b2n (!(ok t && ok (t + 1) && ok r && r ≠ t && r ≠ t + 1)))

/-- SNAP fills the holding registers that have no live register (R425). -/
def dispSnapFill (s : State) : State :=
  let s := (List.range 8).foldl (fun s p =>
    let s := (List.range 16).foldl (fun s k =>
      s.setReg DISP_HIST_H (BitVec.ofNat 32 ((getKey s.disp.hist (16 * p + k)).getD 0)) [p, k]) s
    s.setReg DISP_MAXW_H (BitVec.ofNat 32 (nth s.disp.maxw p 0)) [p]) s
  let s := (List.range 16).foldl (fun s c =>
    let k := s.dcore c
    let more := match (s.core c).task.bind s.tdesc with
      | some x => (s.now - x.start) / nsF
      | none => 0
    let b := k.busy + more
    ((s.setReg DISP_BUSY_LO_H (BitVec.ofNat 32 b) [c]).setReg DISP_BUSY_HI_H (BitVec.ofNat 32 (b / 2 ^ 32)) [c]).setReg
      DISP_STARTS_C_H (BitVec.ofNat 32 k.starts) [c]) s
  { s with disp := { s.disp with maxw := List.replicate 8 0 } }

/-- nRESET, POR, FEED or a BLOCK reset (R427): descriptors FREE, slots empty, no member; a running task's core is idle no
more by the dispatcher's doing, and the cyclic program has no descriptor and no cycle left. -/
def dispClear (s : State) : State :=
  let s := s.disp.descs.foldl (fun s e => match e.2.dom with
    | some m => (s.setFld DISP_DOM_NREADY 0 [m]).lower DISP_DOM_ACTIVE [m]
    | none => s) s
  let s := { s with disp := {}, rt := { s.rt with tasks := s.rt.tasks.map (fun x =>
    { x with desc := none, busy := false, held := false }) } }
  (List.range 16).foldl (fun s c => s.modCore c (fun x => { x with task := none, toks := [], hint := false })) s

end Sys2Proof.Machine
end

