-- ==== Sys2Proof/Machine/RtImage.lean ====
section
/-!
DEFINITION. The program image of the cyclic program (13 R353 to R356): its sections and records, and the check of a loaded
image.
-/
namespace Sys2Proof.Machine

/-- The address of image area `a`, A 0 or B 1 (R356). -/
def areaAddr (s : State) (a : Nat) : Nat := 0x10000000 + s.fld RT_AREA_BASE * 0x10000 + a * 0x400000

/-- The active area. -/
def activeArea (s : State) : Nat := s.fld RT_STAT_ACTIVE

/-- The base of the retained area (R358). -/
def retBase (s : State) : Nat := 0x10000000 + s.fld RT_RETAIN_BASE * 0x10000
/-- Its size in bytes. -/
def retSize (s : State) : Nat := s.fld RT_RETAIN_SIZE * 0x10000

/-- Section k of the image at `img`: offset and size (R353). -/
def section_ (s : State) (img k : Nat) : Nat × Nat := (s.peek (img + 32 + 8 * k) 4, s.peek (img + 36 + 8 * k) 4)

/-- The addresses of the records of `n` bytes in section k. -/
def records (s : State) (img k n : Nat) : List Nat :=
  let x := section_ s img k
  (List.range (x.2 / n)).map (fun i => img + x.1 + n * i)

/-- The record of task t in the image at `img`. -/
def taskRec (s : State) (img t : Nat) : Option Nat := (records s img 3 64).find? (fun a => s.peek a 1 = t)

/-- A type record by TYPEID and TVER. -/
def typeRec (s : State) (img tid tver : Nat) : Option Nat :=
  (records s img 0 32).find? (fun a => s.peek a 4 = tid && s.peek (a + 4) 2 = tver)

/-- VSIZE of the type record at `a`. -/
def vSize (s : State) (a : Nat) : Nat := s.peek (a + 12) 4
/-- RSIZE. -/
def rSize (s : State) (a : Nat) : Nat := s.peek (a + 16) 4

/-- The var records of the type record at `a`. -/
def varRecs (s : State) (img a : Nat) : List Nat :=
  let x := section_ s img 1
  (List.range (s.peek (a + 24) 2)).map (fun i => img + x.1 + 16 * (s.peek (a + 20) 4 + i))

/-- Whether task t is present and of its kind in the running program. -/
def rtPresent (s : State) (t : Nat) : Bool := (taskRec s (areaAddr s (activeArea s)) t).isSome

/-! ### Placement -/

/-- Whether a span lies in control-plane Caldera (01 R19, R21). -/
def inControl (s : State) (a n : Nat) : Bool :=
  0x10000000 ≤ a && a + n ≤ 0x14000000 &&
    (List.range (n / 0x10000 + 2)).all (fun i =>
      let b := a / 0x10000 * 0x10000 + i * 0x10000
      a + n ≤ b || calderaOwner s b = .control)

/-- Whether two spans meet. -/
def meets (a n b m : Nat) : Bool := n ≠ 0 && m ≠ 0 && a < b + m && b < a + n

/-- Whether a span meets a region that R356 keeps instances out of. -/
def reservedSpan (s : State) (a n : Nat) : Bool :=
  meets a n 0x10000000 0x10000 || meets a n 0x10200000 0x200000 ||
    meets a n (0x10000000 + s.fld RCP_POOL_BASE * 0x10000) 0x400000 ||
    meets a n (0x10000000 + s.fld RCP_RING_BASE * 0x10000) 0x100000 ||
    meets a n (rioImg s) 0xC0000 || meets a n (dringBase s) 0x10000 ||
    meets a n (areaAddr s 0) 0x800000 || meets a n (retBase s) (retSize s)

/-! ### The check -/

/-- Whether a list has no repeats. -/
def distinct (l : List Nat) : Bool := !hasDup l

/-- The first element that fails a test, with its place. -/
def firstBad {α : Type} (l : List α) (bad : α → Bool) : Option Nat :=
  (l.zip (List.range l.length)).findSome? (fun e => if bad e.1 then some e.2 else none)

/-- ERR 5: a section outside LENGTH, overlapping or misaligned; records that do not fill their section. -/
def badSections (s : State) (img : Nat) : Option Nat :=
  let len := s.peek (img + 8) 4
  let sec := fun k => section_ s img k
  let unit := fun (k : Nat) => nth [32, 16, 32, 64, 16, 16, 1, 1, 1, 1] k 1
  firstBad (List.range 12) (fun k =>
    let x := sec k
    x.2 ≠ 0 && (10 ≤ k || x.1 % 16 ≠ 0 || x.2 % 16 ≠ 0 || len < x.1 + x.2 || x.2 % unit k ≠ 0 ||
      (List.range k).any (fun j => meets x.1 x.2 (sec j).1 (sec j).2)))

/-- ERR 6: an invalid type record. -/
def badType (s : State) (img : Nat) : Option Nat :=
  let ts := records s img 0 32
  let nvar := (section_ s img 1).2 / 16
  let key := fun a => s.peek a 6
  firstBad (ts.zip (List.range ts.length)) (fun e =>
    let a := e.1
    let vs := varRecs s img a
    nvar < s.peek (a + 20) 4 + s.peek (a + 24) 2 ||
      vs.any (fun v =>
        let sect := s.peek (v + 3) 1
        7 < s.peek (v + 2) 1 || 1 < sect ||
          (if sect = 0 then vSize s a else rSize s a) < s.peek (v + 4) 4 + s.peek (v + 8) 4) ||
      hasDup (vs.map (fun v => s.peek v 2)) || (ts.take e.2).any (fun b => key b = key a) ||
      (bit (s.peek (a + 6) 2) 0 && s.peek (a + 4) 2 ≠ 1))

/-- The 256-byte lines of the retained section of the instance at `a` of a type at `ty`. -/
def instLines (s : State) (a ty : Nat) : List Nat :=
  let r := s.peek (a + 16) 4
  let n := rSize s ty
  if n = 0 then [] else (List.range ((r + n - 1) / 256 + 1 - r / 256)).map (· + r / 256)

/-- The type record of the instance at `a`. -/
def instType (s : State) (img a : Nat) : Option Nat := typeRec s img (s.peek (a + 4) 4) (s.peek (a + 8) 2)

/-- ERR 7: an invalid instance. -/
def badInst (s : State) (img : Nat) : Option Nat :=
  let is := records s img 2 32
  firstBad (is.zip (List.range is.length)) (fun e =>
    let a := e.1
    let before := is.take e.2
    match instType s img a with
    | none => true
    | some ty =>
      let ls := instLines s a ty
      before.any (fun b => s.peek b 4 = s.peek a 4) || (taskRec s img (s.peek (a + 10) 1)).isNone ||
        (vSize s ty ≠ 0 && (!inControl s (s.peek (a + 12) 4) (vSize s ty) ||
          reservedSpan s (s.peek (a + 12) 4) (vSize s ty))) ||
        retSize s < s.peek (a + 16) 4 + rSize s ty ||
        before.any (fun b => s.peek (b + 10) 1 ≠ s.peek (a + 10) 1 && match instType s img b with
          | some tb => (instLines s b tb).any (fun l => ls.contains l)
          | none => false))

/-- ERR 8: an invalid task record; the index of the section's end when there is no cyclic task. -/
def badTask (s : State) (img : Nat) : Option Nat :=
  let ts := records s img 3 64
  match firstBad (ts.zip (List.range ts.length)) (fun e =>
    let a := e.1
    let t := s.peek a 1
    let cyc := s.peek (a + 4) 4
    let ofs := s.peek (a + 12) 4
    let kind := s.peek (a + 32) 1
    12 < t || 7 < s.peek (a + 1) 1 || 15 < s.peek (a + 2) 1 ||
      (ts.take e.2).any (fun b => s.peek b 1 = t) ||
      (if t < 4 then cyc < 50 || 200000 < cyc || cyc ≤ s.peek (a + 8) 4 || ofs = 0 || cyc < ofs
       else if t = 4 then ofs = 0 || 200 < ofs
       else ofs = 0 || 200000 < ofs || kind = 0 || 3 < kind)) with
  | some i => some i
  | none => if ts.any (fun a => s.peek a 1 < 4) then none else some ts.length

/-- A task's map records: section 4 for inputs, 5 for outputs. -/
def mapRecs (s : State) (img a k : Nat) : List Nat :=
  let first := s.peek (a + (if k = 4 then 20 else 28)) 4
  let n := s.peek (a + (if k = 4 then 24 else 26)) 2
  (List.range n).map (fun i => img + (section_ s img k).1 + 16 * (first + i))

/-- The memory that a map record names. -/
def mapSpan (s : State) (a : Nat) : Nat × Nat :=
  if s.peek a 1 = 1 then (0x10200000 + 8 * s.peek (a + 4) 4, 8 * s.peek (a + 2) 2) else (s.peek (a + 4) 4, s.peek (a + 12) 4)

/-- Whether a map record is invalid in itself. -/
def badMapRec (s : State) (a : Nat) (input : Bool) : Bool :=
  let x := mapSpan s a
  match s.peek a 1 with
  | 1 => 262144 < s.peek (a + 4) 4 + s.peek (a + 2) 2 || (input && s.peek (a + 8) 4 < 64)
  | 2 => !inControl s x.1 x.2 || meets x.1 x.2 (retBase s) (retSize s) || (input && s.peek (a + 8) 4 < 64)
  | _ => true

/-- ERR 9: an invalid map record. -/
def badMap (s : State) (img : Nat) : Option Nat :=
  let ts := records s img 3 64
  let ins := records s img 4 16
  let outs := records s img 5 16
  match firstBad ins (fun a => badMapRec s a true) with
  | some i => some i
  | none => match firstBad outs (fun a => badMapRec s a false) with
    | some i => some i
    | none => match firstBad ts (fun a => 4096 < ((mapRecs s img a 4).map (fun m =>
        if s.peek m 1 = 1 then s.peek (m + 2) 2 else 0)).foldl (· + ·) 0 ||
        ins.length < s.peek (a + 20) 4 + s.peek (a + 24) 2 || outs.length < s.peek (a + 28) 4 + s.peek (a + 26) 2) with
      | some i => some i
      | none => firstBad (ts.zip (List.range ts.length)) (fun e => (mapRecs s img e.1 5).any (fun m =>
          (ts.take e.2).any (fun b => (mapRecs s img b 5).any (fun k =>
            meets (mapSpan s m).1 (mapSpan s m).2 (mapSpan s k).1 (mapSpan s k).2))))

/-- ERR 10: an ENTRY outside CODE. -/
def badEntry (s : State) (img : Nat) : Option Nat :=
  let code := (section_ s img 6).2
  match firstBad (records s img 0 32) (fun a => !bit (s.peek (a + 6) 2) 0 && code ≤ s.peek (a + 8) 4) with
  | some i => some i
  | none => firstBad (records s img 3 64) (fun a => code ≤ s.peek (a + 16) 4)

/-- The context words that the LOOP section writes (R355). -/
def loopRestReg (r : Reg) : Bool :=
  [LOOP_W, LOOP_SPT, LOOP_MAN, LOOP_K, LOOP_S, LOOP_LUT0, LOOP_LUT1, LOOP_INB, LOOP_OUTB, LOOP_CFG].contains r

/-- The register of a loop context at offset `o`. -/
def loopCtxReg (n o : Nat) : Option (Reg × List Nat) := findIn loopRegs (0x44000000 + 1024 * n + o)

/-- The loop records of the section. -/
def loopRecs (s : State) (img : Nat) : List Nat :=
  let x := section_ s img 9
  (List.range ((x.2 - 80) / 1472)).map (fun i => img + x.1 + 80 + 1472 * i)

/-- ERR 14: an invalid LOOP section (R355). -/
def badLoop (s : State) (img : Nat) : Option Nat :=
  let x := section_ s img 9
  let a := img + x.1
  let f := s.peek a 4
  if x.2 = 0 then none
  else if x.2 < 80 || (x.2 - 80) % 1472 ≠ 0 || f = 0 || 60000 < f || s.peek (a + 4) 12 ≠ 0 ||
      (List.range 8).any (fun c =>
        let per := s.peek (a + 16 + 8 * c) 2
        let ofs := s.peek (a + 18 + 8 * c) 2
        per = 0 || 20000 < per || ofs = 0 || per < ofs || per ≤ s.peek (a + 20 + 8 * c) 2 || s.peek (a + 22 + 8 * c) 2 ≠ 0) then
    some 0
  else
    let rs := loopRecs s img
    firstBad (rs.zip (List.range rs.length)) (fun e =>
      let r := e.1
      let n := s.peek r 2
      let nops := s.peek (r + 16 + 0x3A0) 4 % 128
      1023 < n || (rs.take e.2).any (fun q => n ≤ s.peek q 2) || 1 < s.peek (r + 2) 1 || s.peek (r + 3) 13 ≠ 0 ||
        (List.range 236).any (fun i => s.peek (r + 16 + 4 * i) 4 ≠ 0 && match loopCtxReg n (4 * i) with
          | some (q, _) => !loopRestReg q
          | none => true) ||
        nops = 0 || 64 < nops || s.peek (r + 960 + 8 * nops) (8 * (64 - nops)) ≠ 0)

/-- The CRC-32 of a span of memory. -/
def crcSpan (s : State) (a n : Nat) : Nat := crc32 (s.bytes a n)

/-- The check of the image in area `x` (R356): ERR and BADREC. `len` is the length that was loaded. -/
def imageCheck (s : State) (x len : Nat) : Nat × Nat :=
  let img := areaAddr s x
  let h := s.bytes img 24 ++ List.replicate 4 0 ++ s.bytes (img + 28) 100
  if s.peek img 4 ≠ 0x4750564B || s.peek (img + 4) 2 ≠ 1 || s.peek (img + 24) 4 ≠ crc32 h || s.peek (img + 8) 4 ≠ len then (2, 0)
  else if s.peek (img + 20) 4 ≠ crcSpan s (img + 128) (len - 128) then (3, 0)
  else if s.peek (img + 16) 4 ≠ img then (4, 0)
  else match badSections s img with
  | some i => (5, i)
  | none => match badType s img with
    | some i => (6, i)
    | none => match badInst s img with
      | some i => (7, i)
      | none => match badTask s img with
        | some i => (8, i)
        | none => match badMap s img with
          | some i => (9, i)
          | none => match badEntry s img with
            | some i => (10, i)
            | none => match badLoop s img with
              | some i => (14, i)
              | none => (0, 0)

end Sys2Proof.Machine
end

