-- ==== Sys2Proof/Machine/RtOps.lean ====
section
/-!
DEFINITION. The cyclic program's runtime (13): starts, input copies and headers, ends and publications, the error task, event
tasks, loading, retention, restore, online exchange.
-/
namespace Sys2Proof.Machine

/-- Task t beside its registers. -/
def State.rtask (s : State) (t : Nat) : RtTask := nth s.rt.tasks t {}

/-- Change task t. -/
def State.modRtask (s : State) (t : Nat) (f : RtTask → RtTask) : State :=
  { s with rt := { s.rt with tasks := modNth s.rt.tasks t f } }

/-- States of a task (R365). -/
def rtIdle : Nat := 1
/-- READY. -/
def rtReady : Nat := 2
/-- ENDED. -/
def rtEnded : Nat := 4
/-- HELD. -/
def rtHeld : Nat := 5

/-- Set the state of task t. -/
def rtState (t st : Nat) (s : State) : State := s.setFld RT_T_STAT_STATE st [t]

/-- Whether the program runs in the present mode (R357). -/
def rtMode (s : State) : Bool :=
  match s.effMode with
  | .run | .trial | .hold | .follow => true
  | _ => false

/-- R357: in Hold with DBGHOLD no task starts. -/
def rtDebugHeld (s : State) : Bool := s.effMode = .hold && s.isSet RT_CTL_DBGHOLD

/-- The image that runs. -/
def rtImg (s : State) : Nat := areaAddr s (activeArea s)

/-! ### Writes to memory that the runtime tracks -/

/-- A span of the retained area was written: its lines are dirty (R359). -/
def markDirty (a n : Nat) (s : State) : State :=
  if meets a n (retBase s) (retSize s) then
    let lo := (a - retBase s) / 256
    let hi := (min (a + n) (retBase s + retSize s) - retBase s - 1) / 256
    let ls := (List.range (hi + 1 - lo)).map (· + lo)
    { s with rt := { s.rt with dirty := ls.foldl (fun d l => if d.contains l then d else d ++ [l]) s.rt.dirty } }
  else s

/-- Write bytes of Caldera by the runtime. -/
def rtWrite (a : Nat) (bs : List Byte) (s : State) : State := markDirty a bs.length (s.setBytes a bs)

/-! ### Release -/

/-- The descriptor table entry of a task (R354, R410): ENTRY in CODE, input image, output image and stack top as arguments,
its core, its priority, ONCE. -/
def rtEntry (s : State) (a prio : Nat) : List Byte :=
  let img := rtImg s
  let stack := (s.peek (a + 48) 4 + s.peek (a + 52) 4) % 2 ^ 32
  leBytes 4 (img + (section_ s img 6).1 + s.peek (a + 16) 4) ++ leBytes 4 (s.peek (a + 40) 4) ++
    leBytes 4 (s.peek (a + 44) 4) ++ leBytes 4 stack ++ leBytes 2 (2 ^ s.peek (a + 2) 1) ++ leBytes 1 prio ++
    List.replicate 13 0

/-- Release task t to the dispatcher (R343): its descriptor is allocated once and armed. -/
def rtRelease (t : Nat) (s : State) : State :=
  match taskRec s (rtImg s) t with
  | none => s
  | some a =>
    let r := match (s.rtask t).desc with
      | some d => (some d, s)
      | none => allocDesc s
    match r.1 with
    | none => r.2
    | some d =>
      let s := r.2.modRtask t (fun x => { x with desc := some d, held := false, rel := s.now })
      let prio := if t = 4 then 7 else s.peek (a + 1) 1
      let s := s.setBytes (0x10000000 + s.fld DISP_DTAB_BASE * 0x10000 + 32 * d) (rtEntry s a prio)
      (rtState t rtReady (armDesc d s).2)

/-! ### Start of a cycle -/

/-- One input map record: signals or a range of Caldera into the image (R346). -/
def copyIn (s : State) (m iimg : Nat) : State :=
  let x := mapSpan s m
  s.setBytes (iimg + s.peek (m + 8) 4) (s.bytes x.1 x.2)

/-- The task header (R351). CYCNO counts the cycle that starts. DEDUCED: log 232. -/
def rtHeader (s : State) (t n : Nat) (flags src causes : Nat) : List Byte :=
  leBytes 8 n ++ leBytes 4 (s.rtask t).cycno ++ leBytes 1 (s.fld SYS_MODE_CUR) ++ leBytes 1 flags ++ leBytes 2 src ++
    leBytes 4 causes ++ leBytes 4 (s.fld RT_PROGVER_PROGVER) ++ List.replicate 40 0

/-- A cycle of task t starts at tick n (R343, R351): inputs are copied and the header is written; the release follows at
once, or later when the cycle is held. -/
def rtStart (t n src causes : Nat) (hold : Bool) (s : State) : State :=
  match taskRec s (rtImg s) t with
  | none => s
  | some a =>
    let iimg := s.peek (a + 40) 4
    let s := (mapRecs s (rtImg s) a 4).foldl (fun s m => copyIn s m iimg) s
    let s := s.modRtask t (fun x => { x with cycno := (x.cycno + 1) % 2 ^ 32 })
    let s := s.setBytes iimg (rtHeader s t n (s.rtask t).flags src causes)
    let s := s.modRtask t (fun x => { x with stick := n, flags := 0, busy := true, held := hold, fault := false,
                                             stopped := false, last := some n })
    if hold then rtState t rtHeld s else rtRelease t s

/-- Whether starts wait for the end of a migration (R362). -/
def rtMoving (s : State) : Bool := s.rt.move.any (fun t => s.now < t)

/-- A start is prevented without a cause (R357, R362). -/
def rtSkip (s : State) : State := s.incr RT_SKIPTOT_COUNT

/-- Whether starts are prevented now: the exchange from W to X, or the debug hold. -/
def rtBarred (s : State) : Bool := s.fld RT_STAT_STATE = 3 || rtDebugHeld s

/-- Whether cyclic task t starts a cycle at tick n (R342). -/
def rtDueAt (s : State) (t n : Nat) : Bool :=
  match taskRec s (rtImg s) t with
  | none => false
  | some a =>
    let cyc := s.peek (a + 4) 4
    let ph := s.peek (a + 8) 4
    cyc ≠ 0 && ph ≤ n && (n - ph) % cyc = 0

/-- A start of cyclic task t at tick n: skipped as an overrun while its cycle runs (R345), otherwise a new cycle. -/
def rtCyclic (n t : Nat) (s : State) : State :=
  if (s.rtask t).last = some n then s
  else if (s.rtask t).busy then
    let s := ((s.raise RT_T_STAT_OVR [t]).raise RT_STAT_OVRF).incr RT_OVRTOT_COUNT
    (s.rtCause 1).modRtask t (fun x => { x with flags := x.flags ||| 32, last := some n })
  else rtStart t n 0 0 (s.rt.hold = some n || rtMoving s) s

/-- The error task is released first at a tick at which a cyclic task starts, with the pending causes (R348, R349); the cyclic
tasks of that tick alone are held. -/
def rtErrorTask (n : Nat) (s : State) : State :=
  let causes := s.fld RT_ERRCAUSE_PEND
  if causes = 0 || !rtPresent s 4 || (s.rtask 4).busy then s
  else
    let s := rtStart 4 n 0 causes (rtMoving s) (s.lower RT_ERRCAUSE_PEND)
    { s with rt := { s.rt with hold := some n } }

/-- The cyclic tasks of `ts` that start at tick n. -/
def rtStarts (n : Nat) (ts : List Nat) (s : State) : State :=
  let due := ts.filter (fun t => rtDueAt s t n && (s.rtask t).last ≠ some n)
  if due.isEmpty || !rtMode s || s.fld RT_STAT_STATE < 2 then s
  else if rtBarred s then
    due.foldl (fun s t => rtSkip (s.modRtask t (fun x => { x with last := some n }))) s
  else due.foldl (fun s t => rtCyclic n t s) (if due.any (fun t => !(s.rtask t).busy) then rtErrorTask n s else s)

/-- The first start tick of cyclic task t after the present tick, or the present one while its instant is still to come. -/
def rtNextStart (s : State) (t : Nat) : Option Nat :=
  match taskRec s (rtImg s) t with
  | none => none
  | some a =>
    let cyc := s.peek (a + 4) 4
    let ph := s.peek (a + 8) 4
    let n0 := if s.now = tickAt s.tick && (s.rtask t).last ≠ some s.tick then s.tick else s.tick + 1
    if cyc = 0 then none
    else if n0 ≤ ph then some ph
    else some (ph + ceilDiv (n0 - ph) cyc * cyc)

/-- CYCLIC_TASK_START (R343, R345, R348): the next start tick of cyclic task t. -/
def execCyclicTaskStart (t : Fin 4) (s : State) : Host.Outcome State Fault Refusal :=
  run [.cpu, .disp] (fun s =>
    match (if rtMode s && 2 ≤ s.fld RT_STAT_STATE then rtNextStart s t.val else none) with
    | some n => rtStarts n [t.val] (advanceTo (tickAt n) s)
    | none => s) s

/-- TASK_OVERRUN (R345): a cycle of task t still runs at S + CYC. -/
def execTaskOverrun (t : Fin 4) (s : State) : Host.Outcome State Fault Refusal :=
  run [.cpu, .disp] (fun s =>
    match (if rtMode s && 2 ≤ s.fld RT_STAT_STATE && !rtBarred s && (s.rtask t.val).busy then rtNextStart s t.val else none) with
    | some n => rtCyclic n t.val (advanceTo (tickAt n) s)
    | none => s) s

/-! ### Event tasks -/

/-- A trigger of event task t at tick n (R347): a start, one start kept, or lost. -/
def rtTrigger (t n src : Nat) (s : State) : State :=
  if !rtMode s || s.fld RT_STAT_STATE < 2 then s
  else if rtBarred s then rtSkip s
  else if !(s.rtask t).busy then rtStart t n src 0 (rtMoving s) s
  else if (s.rtask t).trig.isNone then s.modRtask t (fun x => { x with trig := some src })
  else (s.incr RT_EVLOST_COUNT).rtCause 4

/-- The event tasks that a trigger kind and argument start, ascending. -/
def rtListeners (s : State) (kind arg : Nat) : List Nat :=
  (List.range 8).map (· + 5) |>.filter (fun t => match taskRec s (rtImg s) t with
    | some a => s.peek (a + 32) 1 = kind && s.peek (a + 36) 4 = arg
    | none => false)

/-- EVENT_TASK_TRIGGER by an admitted item of source `src` in batch n. -/
def rtSource (src n : Nat) (s : State) : State :=
  (rtListeners s 1 src).foldl (fun s t => rtTrigger t n (src % 2 ^ 16) s) s

/-- EVENT_TASK_TRIGGER by a write to SID `sid` in Phase 3 of tick n. -/
def rtSidWrite (sid n : Nat) (s : State) : State :=
  (rtListeners s 2 sid).foldl (fun s t => rtTrigger t n (sid % 2 ^ 16) s) s

/-- The rule of RT_T_t_EVT (R347): refused below task 5. -/
def rtEvtAct : Act := fun _ ix w s =>
  let t := ix.headD 0
  if t < 5 then .badState s
  else if !RT_T_EVT_GO.on w then .ok s
  else match taskRec s (rtImg s) t with
    | some a => .ok (if s.peek (a + 32) 1 = 3 then rtTrigger t s.tick 0xFFFF s else s)
    | none => .ok s

/-- EVT_GO: writing 1 to RT_T_t_EVT.GO (R347). -/
def execEvtGo (m : Master) (t : Fin 13) (s : State) : Host.Outcome State Fault Refusal :=
  run [.cpu, .disp] (regCmd rtEvtAct m RT_T_EVT [t.val] 1) s

/-- Kept triggers start at the first tick after the cycle has ended. -/
def rtKept (n : Nat) (s : State) : State :=
  (List.range 8).foldl (fun s i =>
    let t := i + 5
    match (s.rtask t).trig with
    | some src => if (s.rtask t).busy then s else rtTrigger t n src (s.modRtask t (fun x => { x with trig := none }))
    | none => s) s

/-! ### Publication -/

/-- Publish one output map record from the image at `oimg` (R346). -/
def copyOut (n m oimg : Nat) (s : State) : State :=
  let src := oimg + s.peek (m + 8) 4
  if s.peek m 1 = 1 then
    (List.range (s.peek (m + 2) 2)).foldl (fun s i =>
      s.setSig (s.peek (m + 4) 4 + i) (s.peek (src + 8 * i) 4) (s.peek (src + 8 * i + 4) 2) n) s
  else rtWrite (s.peek (m + 4) 4) (s.bytes src (s.peek (m + 12) 4)) s

/-- The output image of task t: the bytes that each record of its output maps reads (R346). -/
def outputImage (s : State) (t : Nat) : List (Nat × List Byte) :=
  match taskRec s (rtImg s) t with
  | none => []
  | some a => (mapRecs s (rtImg s) a 5).map (fun m =>
      let src := s.peek (a + 44) 4 + s.peek (m + 8) 4
      (src, s.bytes src (if s.peek m 1 = 1 then 8 * s.peek (m + 2) 2 else s.peek (m + 12) 4)))

/-- Task t is no longer one whose image comes from the leader (17 R494). -/
def cutOver (t : Nat) (s : State) : State :=
  { s with twin := { s.twin with cutRun := s.twin.cutRun.filter (fun k => k ≠ t) } }

/-- The publication of task t that waits longest is made in Phase 1 of tick n, under the maps of its image (R344, R362). A
follower makes that of a cycle that ran at the cut when its image comes (17 R494). -/
def rtPublish (t n : Nat) (s : State) : State :=
  match (s.rtask t).pubs with
  | [] => s
  | (_, area) :: rest =>
    if s.follower && s.twin.cutRun.contains t then s
    else
    let img := areaAddr s area
    let s := s.modRtask t (fun x => { x with pubs := rest })
    let s := if s.fld RT_T_STAT_STATE [t] = rtEnded then rtState t rtIdle s else s
    match taskRec s img t with
    | none => s
    | some a => (mapRecs s img a 5).foldl (fun s m => copyOut n m (s.peek (a + 44) 4) s) s

/-- The publications due in Phase 1 of tick n, in ascending task order. -/
def rtPhase1 (n : Nat) (s : State) : State :=
  (List.range 13).foldl (fun s t =>
    ((s.rtask t).pubs.filter (fun p => p.1 ≤ n)).foldl (fun s _ => rtPublish t n s) s) s

/-- TASK_PUBLISH (R344): the publication of task t that waits is made at its tick. -/
def execTaskPublish (t : Fin 13) (s : State) : Host.Outcome State Fault Refusal :=
  run [.cpu] (fun s => match (s.rtask t.val).pubs with
    | [] => s
    | (n, _) :: _ =>
      let s := advanceTo (tickAt n) s
      rtPublish t.val (max n s.tick) s) s

/-! ### Retention -/

/-- The retained lines that the instances of task t own (R359). -/
def ownedLines (s : State) (t : Nat) : List Nat :=
  (records s (rtImg s) 2 32).flatMap (fun a => if s.peek (a + 10) 1 ≠ t then [] else
    match instType s (rtImg s) a with
    | some ty => instLines s a ty
    | none => [])

/-- The bytes of a retained line. -/
def lineBytes (s : State) (l : Nat) : List Byte := s.bytes (retBase s + 256 * l) 256

/-- RETENTION_SET_CAPTURE (R359, R360): the dirty lines of task t form its set; a set of the task that is not yet logged is
joined with it. -/
def rtCapture (t : Nat) (s : State) : State :=
  let own := ownedLines s t
  let ls := s.rt.dirty.filter (fun l => own.contains l)
  let set_ : RetSet := { task := t, cycno := (s.rtask t).cycno, lines := ls.map (fun l => (l, lineBytes s l)) }
  let s := { s with rt := { s.rt with dirty := s.rt.dirty.filter (fun l => !own.contains l) } }
  match s.rt.sets.find? (fun x => x.task = t) with
  | some old =>
    let kept := old.lines.filter (fun (e : Nat × List Byte) => !ls.contains e.1)
    let merged : RetSet := { set_ with lines := kept ++ set_.lines, part := old.part }
    let sets := s.rt.sets.map (fun (x : RetSet) => if x.task = t then merged else x)
    let s := { s with rt := { s.rt with sets := sets } }
    (s.incr RT_JCOAL_COUNT).raise RT_STAT_JCOALF
  | none => { s with rt := { s.rt with sets := s.rt.sets ++ [set_] } }

/-- 960 KiB in lines (R360). -/
def partLines : Nat := 3840

/-- Ascending order of a set's lines. -/
def lineInsert (e : Nat × List Byte) : List (Nat × List Byte) → List (Nat × List Byte)
  | [] => [e]
  | f :: t => if e.1 < f.1 then e :: f :: t else f :: lineInsert e t

/-- The oldest set is written to the redo log, or a part of it; whole, it is durable (R359, R360). -/
def logSet (s : State) : State :=
  match s.rt.sets with
  | [] => s
  | x :: rest =>
    let ls := x.lines.foldl (fun l e => lineInsert e l) []
    if partLines < ls.length then
      { s with rt := { s.rt with sets := { x with lines := ls.drop partLines, part := true } :: rest,
                                 redo := s.rt.redo ++ [{ x with lines := ls.take partLines }] } }
    else
      let s := { s with rt := { s.rt with sets := rest, redo := s.rt.redo ++ [{ x with lines := ls }],
                                          jseq := modNth s.rt.jseq x.task (fun _ => x.cycno) } }
      (s.setReg RT_T_JSEQ (BitVec.ofNat 32 x.cycno) [x.task]).incr RT_JSETS_COUNT

/-- RETENTION_SET_LOGGED (R359): the engine logs the oldest set. While an exchange is not durable, later sets are held
(R364). -/
def execRetentionSetLogged (s : State) : Host.Outcome State Fault Refusal :=
  run [.cpu, .nvm] (fun s => if s.rt.store.isSome then s else logSet s) s

/-- Every closed set is logged (R360: Brace). -/
def logAll (s : State) : State :=
  if s.rt.store.isSome then s
  else (List.range (s.rt.sets.length + (s.rt.sets.map (fun x => x.lines.length / partLines)).foldl (· + ·) 0)).foldl
    (fun s _ => logSet s) s

/-- The MRAM image of retained line l (R358). -/
def retImage (l : Nat) : Nat := 0x21A10000 + 256 * l

/-- The redo log is applied to the MRAM image (R359). -/
def applyRedo (s : State) : State :=
  let put := fun (s : State) (x : RetSet) => x.lines.foldl (fun s e => s.setBytes (retImage e.1) e.2) s
  let s := s.rt.redo.foldl put s
  { s with rt := { s.rt with redo := [] } }

/-- REDO_APPLY (R359). -/
def execRedoApply (s : State) : Host.Outcome State Fault Refusal := run [.cpu, .nvm] applyRedo s

/-! ### End of a cycle -/

/-- The task of the cyclic program that a descriptor belongs to. -/
def rtTaskOf (s : State) (d : Nat) : Option Nat := (List.range 13).find? (fun t => (s.rtask t).desc = some d)

/-- The publication that the end of a cycle of task t leaves to be made (R344, R347, R348). -/
def rtPublication (t : Nat) (s : State) : State :=
  let x := s.rtask t
  let ofs := match taskRec s (rtImg s) t with
    | some a => s.peek (a + 12) 4
    | none => 1
  let due := x.stick + ofs
  let put := fun (n : Nat) (s : State) => rtState t rtEnded (s.modRtask t (fun x => { x with pubs := x.pubs ++ [(n, activeArea s)] }))
  if t = 4 then put (s.tick + 1) s
  else if s.now < tickAt due then put due s
  else
    let s := ((s.raise RT_T_STAT_LATE [t]).raise RT_STAT_LATEF).incr RT_LATETOT_COUNT
    put (s.tick + 1) ((s.rtCause 2).modRtask t (fun x => { x with flags := x.flags ||| 16 }))

/-- The tasks that the error task holds are released (R348). -/
def rtUnhold (s : State) : State :=
  let s := { s with rt := { s.rt with hold := none } }
  if rtMoving s then s
  else (List.range 13).foldl (fun s t => if (s.rtask t).held then rtRelease t s else s) s

/-- A cycle of task t ends (R344, R350, R357, R359). The lines that a cycle ended by an exception has written wait for the task's
next set. -/
def rtEnd (t : Nat) (s : State) : State :=
  let x := s.rtask t
  let us := min 65535 ((s.now - x.rel) / (1000 * nsF))
  let run_ := s.fld RT_T_RUN_VALUE [t]
  let s := s.setReg RT_T_RUN (BitVec.ofNat 32 (max us (bits run_ 31 16) * 2 ^ 16 + us)) [t]
  let s := (s.incr RT_T_CYC_VALUE [t]).modRtask t (fun x => { x with busy := false })
  let s := rtState t rtIdle s
  let s := if x.fault || x.stopped then cutOver t s else rtPublication t s
  let s := if x.fault then s else rtCapture t s
  if t = 4 && s.rt.hold.isSome then rtUnhold s else s

/-- An exception ends the cycle that core c runs (R350): nothing of it will be published. -/
def rtException (c cause epc : Nat) (s : State) : State :=
  match (s.core c).task.bind (rtTaskOf s) with
  | none => s
  | some t =>
    if [8, 9, 12, 13].contains cause || (s.rtask t).fault then s
    else
      let s := (s.raise RT_T_STAT_FAULT [t]).modRtask t (fun x => { x with fault := true })
      let s := (s.rtCause 3).emit 5 0x0C .cpu t 0xFF (CPU_C_STAT.addr [c])
        ((s.reg CPU_C_STAT [c]).toNat + epc % 2 ^ 32 * 2 ^ 32)
      match taskRec s (rtImg s) t with
      | some a => if bit (s.peek (a + 3) 1) 0 then { s with mc := { s.mc with pendStop := true } } else s
      | none => s

/-- ERRMAX_EXPIRY (R348): the held tasks are released, the error task goes on at priority 0. -/
def execErrmaxExpiry (s : State) : Host.Outcome State Fault Refusal :=
  run [.cpu, .disp] (fun s => match s.rt.hold, taskRec s (rtImg s) 4 with
    | some n, some a =>
      let s := rtUnhold (advanceTo (tickAt (n + s.peek (a + 12) 4)) s)
      let s := match (s.rtask 4).desc with
        | some d => fillSlots (modDesc d (fun y => { y with prio := 0 }) s)
        | none => s
      s.emitUnit 5 .cpu 4 RT_T_STAT [4]
    | _, _ => s) s

/-! ### Loading -/

/-- LOAD completes within 5 ms + 2 ms per MiB (R356). -/
def loadBound (len : Nat) : Nat := 5000000 * nsF + ceilDiv (2000000 * nsF * len) 0x100000

/-- Whether the source and length of a LOAD are acceptable (ERR 1). -/
def loadSrcOk (src len : Nat) : Bool :=
  src % 64 = 0 && len ≠ 0 && len ≤ 0x400000 && 0x10000000 ≤ src && src + len ≤ 0x14000000

/-- A command ends with an ERR code and a record (R365). -/
def rtDone (err rec_ : Nat) (s : State) : State :=
  let s := { s with rt := { s.rt with cmd := none } }
  ((((s.lower RT_CMDSTAT_BUSY).raise RT_CMDSTAT_DONE).setFld RT_CMDSTAT_ERR err).setFld RT_CMDSTAT_BADREC rec_)

/-- PROGRAM_LOAD_DONE: the copy into the inactive area and its check (R356). -/
def loadFinish (s : State) : State :=
  match s.rt.cmd with
  | some (1, at_, _) =>
    let src := at_ / 2 ^ 32
    let len := at_ % 2 ^ 32
    if !loadSrcOk src len then rtDone 1 0 (s.lower RT_STAT_READY)
    else
      let x := 1 - activeArea s
      let s := s.setBytes (areaAddr s x) (s.bytes src len)
      let e := imageCheck s x len
      rtDone e.1 e.2 (s.setFld RT_STAT_READY (b2n (e.1 = 0)))
  | _ => s

/-- PROGRAM_LOAD_DONE (R356). -/
def execProgramLoadDone (s : State) : Host.Outcome State Fault Refusal := run [.cpu] loadFinish s

/-- Set both sections of the instance at `a` of type record `ty` to initial values, or the volatile one alone. -/
def instInit (img a ty : Nat) (retained : Bool) (s : State) : State :=
  let init := img + (section_ s img 8).1 + s.peek (ty + 28) 4
  let s := rtWrite (s.peek (a + 12) 4) (s.bytes init (vSize s ty)) s
  if retained then rtWrite (retBase s + s.peek (a + 16) 4) (s.bytes (init + vSize s ty) (rSize s ty)) s else s

/-- Every instance of the running image to its initial values. -/
def initAll (retained : Bool) (s : State) : State :=
  let img := rtImg s
  (records s img 2 32).foldl (fun s a => match instType s img a with
    | some ty => instInit img a ty retained s
    | none => s) s

/-- Set header flags of every task's next cycle. -/
def rtFlagAll (f : Nat) (s : State) : State :=
  { s with rt := { s.rt with tasks := s.rt.tasks.map (fun x => { x with flags := x.flags ||| f }) } }

/-- The modes from Provision on. -/
def fromProvision (s : State) : Bool :=
  match s.effMode with
  | .dark | .seed | .keeper => false
  | _ => true

/-! ### Exchange -/

/-- The new bytes of an instance's sections under R363, taken from the state before the exchange. -/
def migrateInst (s : State) (old img a ty : Nat) : List Byte × List Byte :=
  let init := img + (section_ s img 8).1 + s.peek (ty + 28) 4
  let v0 := s.bytes init (vSize s ty)
  let r0 := s.bytes (init + vSize s ty) (rSize s ty)
  match (records s old 2 32).find? (fun b => s.peek b 4 = s.peek a 4) with
  | none => (v0, r0)
  | some b => match instType s old b with
    | none => (v0, r0)
    | some tb =>
      let vb := s.bytes (s.peek (b + 12) 4) (vSize s tb)
      let rb := s.bytes (retBase s + s.peek (b + 16) 4) (rSize s tb)
      if s.peek tb 4 ≠ s.peek ty 4 then (v0, r0)
      else if s.peek (tb + 4) 2 = s.peek (ty + 4) 2 then (vb, rb)
      else
        let olds := varRecs s old tb
        let put := fun (dst src : List Byte) (v w : Nat) =>
          let n := s.peek (v + 8) 4
          let o := s.peek (v + 4) 4
          dst.take o ++ (src.drop (s.peek (w + 4) 4)).take n ++ dst.drop (o + n)
        (varRecs s img ty).foldl (fun acc v =>
          match olds.find? (fun w => s.peek w 4 = s.peek v 4 && s.peek (w + 8) 4 = s.peek (v + 8) 4) with
          | some w => if s.peek (v + 3) 1 = 0 then (put acc.1 vb v w, acc.2) else (acc.1, put acc.2 rb v w)
          | none => acc) (v0, r0)

/-- The retained lines that migration would write. -/
def migrateLines (s : State) (img : Nat) : Nat :=
  ((records s img 2 32).flatMap (fun a => match instType s img a with
    | some ty => instLines s a ty
    | none => [])).eraseDups.length

/-- R362: bytes of instance data in an image. -/
def instBytes (s : State) (img : Nat) : Nat :=
  ((records s img 2 32).map (fun a => match instType s img a with
    | some ty => vSize s ty + rSize s ty
    | none => 0)).foldl (· + ·) 0

/-- The tick W of an exchange (R362). -/
def exchangeW (s : State) (align : Nat) : Nat :=
  if s.effMode = .stop || s.effMode = .provision then s.tick
  else if rtDueAt s align s.tick && (s.rtask align).last ≠ some s.tick then s.tick
  else (rtNextStart s align).getD s.tick

/-- The rule of RT_CMD (R356, R357, R362). -/
def rtCmdAct : Act := fun _ ix w s =>
  let op := RT_CMD_OP.of w
  let align := RT_CMD_ALIGN.of w
  if s.isSet RT_CMDSTAT_BUSY then .badState s
  else if 4 < op then .badValue s
  else
    let s := s.store RT_CMD ix w
    if !RT_CMD_GO.on w || op = 0 then .ok s
    else
      let s := ((s.raise RT_CMDSTAT_BUSY).lower RT_CMDSTAT_DONE).setFld RT_CMDSTAT_ERR 0
      .ok (match op with
        | 1 =>
          if fromProvision s then
            let len := s.fld RT_LOAD_LEN_LEN
            { s.lower RT_STAT_READY with
              rt := { s.rt with cmd := some (1, s.fld RT_LOAD_SRC_ADDR * 2 ^ 32 + len, s.now + loadBound len) } }
          else rtDone 13 0 s
        | 2 =>
          let busy := s.effMode = .run || s.effMode = .trial || s.effMode = .hold
          if !(busy || s.effMode = .stop || s.effMode = .provision) || s.mode = .brace then rtDone 13 0 s
          else if !s.isSet RT_STAT_READY then rtDone 11 0 s
          else if busy && 3072 < migrateLines s (areaAddr s (1 - activeArea s)) then rtDone 12 0 s
          else { s with rt := { s.rt with cmd := some (2, align, 0), freeze := some (exchangeW s align) } }
        | 3 =>
          if s.effMode = .provision || s.effMode = .stop then rtDone 0 0 (rtFlagAll 8 (initAll true s)) else rtDone 13 0 s
        | _ => rtDone 0 0 (s.lower RT_STAT_READY))

/-- A command of the runtime written with GO. -/
def rtCmdBy (m : Master) (op align : Nat) (s : State) : State :=
  regCmd rtCmdAct m RT_CMD [] (BitVec.ofNat 32 (2 ^ 31 + align * 2 ^ 16 + op)) s

/-- PROGRAM_LOAD: RT_CMD LOAD (R356). -/
def execProgramLoad (m : Master) (s : State) : Host.Outcome State Fault Refusal := run [.cpu] (rtCmdBy m 1 0) s

/-- EXCHANGE: RT_CMD EXCHANGE (R362). -/
def execExchange (m : Master) (align : Fin 4) (s : State) : Host.Outcome State Fault Refusal :=
  run [.cpu] (rtCmdBy m 2 align.val) s

/-- COLD: RT_CMD COLD (R357). -/
def execCold (m : Master) (s : State) : Host.Outcome State Fault Refusal := run [.cpu] (rtCmdBy m 3 0) s

/-- DISCARD: RT_CMD DISCARD (R356). -/
def execDiscard (m : Master) (s : State) : Host.Outcome State Fault Refusal := run [.cpu] (rtCmdBy m 4 0) s

/-- From W no task starts (R362). -/
def exchangeFreeze (s : State) : State :=
  { s.setFld RT_STAT_STATE 3 with rt := { s.rt with freeze := none } }

/-- EXCHANGE_FREEZE (R362): tick W. -/
def execExchangeFreeze (s : State) : Host.Outcome State Fault Refusal :=
  run [.cpu] (fun s => match s.rt.freeze with
    | some w => exchangeFreeze (advanceTo (tickAt w) s)
    | none => s) s

/-- Whether an exchange may migrate: W has come and no task cycle runs (R362). -/
def exchangeReady (s : State) : Bool := s.fld RT_STAT_STATE = 3 && s.rt.tasks.all (fun x => !x.busy)

/-- At X the instances are migrated and the areas change places (R362, R363); the retained lines that migration writes form
the set that makes the exchange durable (R364). The sets that closed before X go to the log before it. DEDUCED: log 233. -/
def exchangeMigrate (s : State) : State :=
  let s := logAll s
  let old := rtImg s
  let new := 1 - activeArea s
  let img := areaAddr s new
  let news := (records s img 2 32).filterMap (fun a => (instType s img a).map (fun ty => (a, ty, migrateInst s old img a ty)))
  let s := news.foldl (fun s e =>
    rtWrite (retBase s + s.peek (e.1 + 16) 4) e.2.2.2 (rtWrite (s.peek (e.1 + 12) 4) e.2.2.1 s)) s
  let n := instBytes s img
  let len := s.peek (img + 8) 4
  let own := (news.flatMap (fun e => instLines s e.1 e.2.1)).eraseDups
  let s := { s with rt := { s.rt with moved := own.map (fun l => (l, lineBytes s l)),
                                      dirty := s.rt.dirty.filter (fun l => !own.contains l) } }
  let s := (s.setFld RT_STAT_ACTIVE new).setFld RT_STAT_STATE (if rtMode s then 2 else 1)
  let s := ((s.lower RT_STAT_READY).lower RT_STAT_DURABLE).setReg RT_PROGVER (BitVec.ofNat 32 (s.peek (img + 12) 4))
  let s := rtFlagAll 5 (s.rtCause 6)
  let s := { s with rt := { s.rt with
    move := some (s.now + (20000 + n) * nsF),
    store := some (s.now + 5000000 * nsF + ceilDiv (1000000 * nsF * len) 0x100000) } }
  let s := (List.range 13).foldl (fun s t =>
    if rtPresent s t then (if s.fld RT_T_STAT_STATE [t] = 0 then rtState t rtIdle s else s) else rtState t 0 s) s
  rtDone 0 0 s

/-- W and X of an exchange at tick n, before the starts of the tick: from W no task starts, and at X, once no task cycle runs,
the new program takes over (R362). -/
def rtExchange (n : Nat) (s : State) : State :=
  let s := if s.rt.freeze.any (· ≤ n) then exchangeFreeze s else s
  if exchangeReady s then exchangeMigrate s else s

/-- The exchange at X, the first tick from the present instant, and the starts of X under the new task table (R362). -/
def exchangeAt (s : State) : State :=
  let n := if s.now = tickAt s.tick then s.tick else s.tick + 1
  rtKept n (rtStarts n [0, 1, 2, 3] (exchangeMigrate (advanceTo (tickAt n) s)))

/-- EXCHANGE_MIGRATE (R362, R363): X. -/
def execExchangeMigrate (s : State) : Host.Outcome State Fault Refusal :=
  run [.cpu, .disp] (fun s => if exchangeReady s then exchangeAt s else s) s

/-- The tasks held by a migration are released, but for the cyclic tasks that the error task holds (R348). -/
def migrationDone (s : State) : State :=
  (List.range 13).foldl (fun s t =>
    let x := s.rtask t
    if x.held && !(t < 4 && s.rt.hold = some x.stick) then rtRelease t s else s) { s with rt := { s.rt with move := none } }

/-- MIGRATION_DONE (R362). -/
def execMigrationDone (s : State) : Host.Outcome State Fault Refusal :=
  run [.cpu, .disp] (fun s => match s.rt.move with
    | some t => migrationDone (advanceTo t s)
    | none => s) s

/-- The program store of an image area (R358, 18 R521). -/
def storeAddr (a : Nat) : Nat := 0x21200000 + a * 0x400000

/-- The exchange is durable: the image in its slot, the migrated lines and the header switch logged (R364). -/
def exchangeDurable (s : State) : State :=
  let a := activeArea s
  let img := rtImg s
  let s := s.setBytes (storeAddr a) (s.bytes img (s.peek (img + 8) 4))
  let x : RetSet := { task := 0, cycno := 0, lines := s.rt.moved }
  { s.raise RT_STAT_DURABLE with rt := { s.rt with store := none, slot := a, icrc := s.peek (img + 20) 4, moved := [],
                                                   redo := s.rt.redo ++ [x] } }

/-- EXCHANGE_DURABLE (R364). -/
def execExchangeDurable (s : State) : Host.Outcome State Fault Refusal :=
  run [.cpu, .nvm] (fun s => if s.rt.store.isSome then exchangeDurable s else s) s

/-! ### Modes, restore, resets -/

/-- A mode takes effect: tasks begin to run with FIRST and count their cycles anew (R351), or cycles in progress will publish
nothing (R357). -/
def rtEnter (s : State) : State :=
  let st := s.fld RT_STAT_STATE
  if st = 0 then s
  else if rtMode s then
    let s := if st = 1 then s.setFld RT_STAT_STATE 2 else s
    if s.rt.runs then s
    else
      let s := rtFlagAll 1 s
      { s with rt := { s.rt with runs := true, tasks := s.rt.tasks.map (fun x => { x with cycno := 0 }) } }
  else
    let s := if st = 2 then s.setFld RT_STAT_STATE 1 else s
    let tasks := s.rt.tasks.map (fun x => if x.busy then { x with stopped := true } else x)
    { s with rt := { s.rt with runs := false, tasks := tasks } }

/-- Restore the loops from the LOOP section of the image at `img` (R355, R361). -/
def restoreLoops (img : Nat) (s : State) : State :=
  let x := section_ s img 9
  let a := img + x.1
  if x.2 = 0 then s
  else
    let s := s.setReg LOOP_FRAME (BitVec.ofNat 32 (s.peek a 4))
    let s := (List.range 8).foldl (fun s c =>
      let f := fun o => s.peek (a + 16 + 8 * c + o) 2
      ((s.setFld LOOP_CLS_PER_PER (f 0) [c]).setFld LOOP_CLS_OFS_OFS (f 2) [c]).setFld LOOP_CLS_PH_PH (f 4) [c]) s
    (loopRecs s img).foldl (fun s r =>
      let n := s.peek r 2
      let s := (List.range 236).foldl (fun s i => match loopCtxReg n (4 * i) with
        | some (q, ix) => if loopRestReg q then s.setReg q (BitVec.ofNat 32 (s.peek (r + 16 + 4 * i) 4)) ix else s
        | none => s) s
      let s := (List.range 128).foldl (fun s i => s.setReg LOOP_OP (BitVec.ofNat 32 (s.peek (r + 960 + 4 * i) 4)) [n, i]) s
      let s := s.lower LOOP_CFG_BOUND [n]
      let e := loopCheck s n
      if e.err ≠ 0 then s.emit 5 0x0C .loop n 0xFF (LOOP_CHK.addr []) (e.err)
      else
        let s := worstWords e.worst (bindLoop n s)
        s.setLoopBit LOOP_AUTO_AUTO n (bit (s.peek (r + 2) 1) 0)) s

/-- PROGRAM_RESTORE (R361): `power` after a POR or FEED reset. -/
def programRestore (power : Bool) (s : State) : State :=
  let a := s.rt.slot
  let len := s.peek (storeAddr a + 8) 4
  let s := s.setFld RT_STAT_ACTIVE a
  let img := areaAddr s a
  let torn := s.rt.sets.filter (·.part)
  let jseq := s.rt.jseq
  let s := { s with rt := { slot := a, icrc := s.rt.icrc, redo := s.rt.redo, jseq := jseq } }
  let ok := 128 ≤ len && len ≤ 0x400000
  let s := if ok then s.setBytes img (s.bytes (storeAddr a) len) else s
  if !ok || (imageCheck s a len).1 ≠ 0 || s.peek (img + 20) 4 ≠ s.rt.icrc then
    (s.setFld RT_STAT_STATE 0).emitUnit 6 .cpu 0xFFFF RT_STAT []
  else
    let s := if power then restoreLoops img s else s
    let s := applyRedo s
    let s := s.setBytes (retBase s) (s.bytes 0x21A10000 (retSize s))
    let s := initAll false s
    let s := { s with rt := { s.rt with dirty := [] } }
    let s := (s.setFld RT_STAT_STATE 1).setReg RT_PROGVER (BitVec.ofNat 32 (s.peek (img + 12) 4))
    let s := torn.foldl (fun s (x : RetSet) => s.raise RT_T_STAT_TORN [x.task]) s
    let s := (List.range 13).foldl (fun s t =>
      let s := s.setReg RT_T_JSEQ (BitVec.ofNat 32 (nth jseq t 0)) [t]
      if rtPresent s t then rtState t rtIdle s else s) s
    rtFlagAll 3 (s.rtCause 5)

/-- Phase 3 of tick n, after the last item: kept triggers, cyclic starts (R343, R347). -/
def rtPhase3 (n : Nat) (s : State) : State := rtKept n (rtStarts n [0, 1, 2, 3] s)

/-- A program without an error task records its causes in the event log, each once (R348). -/
def rtTell (s : State) : State :=
  let causes := s.fld RT_ERRCAUSE_PEND
  let fresh := causes &&& (0xFFFF - s.rt.told % 2 ^ 16)
  let s := { s with rt := { s.rt with told := causes } }
  if fresh = 0 || s.fld RT_STAT_STATE = 0 || rtPresent s 4 then s
  else s.emitUnit Config.rtCauseSeverity .cpu 0xFFFF RT_ERRCAUSE []

/-- What an exchange or a command does by its own time at tick n (R356, R362, R364). -/
def rtDue (n : Nat) (s : State) : State :=
  let s := rtTell s
  let s := match s.rt.cmd with
    | some (1, _, t) => if t ≤ s.now then loadFinish s else s
    | _ => s
  let s := if s.rt.move.any (· ≤ s.now) then migrationDone s else s
  let s := if s.rt.store.any (· ≤ s.now) then exchangeDurable s else s
  match s.rt.hold, taskRec s (rtImg s) 4 with
  | some k, some a => if k + s.peek (a + 12) 4 ≤ n then
      let s := rtUnhold s
      let s := match (s.rtask 4).desc with
        | some d => fillSlots (modDesc d (fun y => { y with prio := 0 }) s)
        | none => s
      s.emitUnit 5 .cpu 4 RT_T_STAT [4]
    else s
  | _, _ => s

/-- Placement of the image areas and of the retained area (R365): outside control-plane Caldera, over the flag page, the
signal table, or each other, they are refused. -/
def rtPlaceOk (s : State) (area base size : Nat) : Bool :=
  let ok := fun (b n : Nat) => n = 0 || (inControl s (0x10000000 + b * 0x10000) (n * 0x10000) && b ≠ 0 &&
    !(b < 64 && 32 < b + n))
  ok area 128 && ok base size && (size = 0 || base + size ≤ area || area + 128 ≤ base)

/-- The rule of RT_AREA. -/
def rtAreaAct : Act := fun _ ix w s =>
  if rtPlaceOk s (RT_AREA_BASE.of w) (s.fld RT_RETAIN_BASE) (s.fld RT_RETAIN_SIZE) then .ok (s.store RT_AREA ix w)
  else .badValue s

/-- The rule of RT_RETAIN; the image areas are judged with it once they are placed. -/
def rtRetainAct : Act := fun _ ix w s =>
  let area := if s.fld RT_AREA_BASE = 0 then 1024 else s.fld RT_AREA_BASE
  let base := RT_RETAIN_BASE.of w
  let size := RT_RETAIN_SIZE.of w
  if size = 0 || (inControl s (0x10000000 + base * 0x10000) (size * 0x10000) && base ≠ 0 && !(base < 64 && 32 < base + size) &&
      (base + size ≤ area || area + 128 ≤ base)) then .ok (s.store RT_RETAIN ix w)
  else .badValue s

/-- The rule of RT_CTL (18 R525, R526). -/
def rtCtlAct : Act := holdAct RT_CTL_DBGHOLD (plainAct RT_CTL)

/-- nRESET: cycles and publications in progress are gone; what is durable stays (R361 follows). -/
def rtNreset (s : State) : State :=
  { s with rt := { slot := s.rt.slot, icrc := s.rt.icrc, redo := s.rt.redo, jseq := s.rt.jseq,
                   sets := s.rt.sets.filter (·.part) } }

end Sys2Proof.Machine
end

