-- ==== Sys2Proof/Machine/CpuCtl.lean ====
section
/-!
DEFINITION. Core control in the CPU block (14 R407, R408), interrupts, waiting cores and imprecise exceptions (R389, R393,
R397, R399).
-/
namespace Sys2Proof.Machine

/-- The modes in which HALT, STEP and RESET are accepted (R407). -/
def debugMode (s : State) : Bool := s.effMode = .hold || s.effMode = .stop || s.effMode = .provision

/-- A core stops at its instruction boundary (R408, 15 R422). -/
def haltCore (c : Nat) (s : State) : State :=
  let s := s.modCore c (fun x => { x with halted := true, once := false })
  let s := s.setReg CPU_C_PC (BitVec.ofNat 32 (s.core c).pc) [c]
  coreStat c (fillSlots (emptySlots c s))

/-- A halted core continues (R408). -/
def resumeCore (c : Nat) (s : State) : State :=
  fillSlots (coreStat c (s.modCore c (fun x => { x with halted := false, once := false })))

/-- The CORE reset of a control core by the CPU block (R400, R408, 15 R422): it starts again at address 0. A cycle of the cyclic
program that it ran ends with its task and publishes nothing. DEDUCED: log 234. -/
def resetCore (c : Nat) (s : State) : State :=
  let t := (s.core c).task.bind (rtTaskOf s)
  let s := (coreClear c (dispCoreReset c s)).coreDo c .running
  match t with
  | some t => rtEnd t (s.modRtask t (fun x => { x with stopped := true }))
  | none => s

/-- The rule of CPU_C_c_CTL (R407, R408): RESET, then HALT, RESUME, and STEP of a halted core. -/
def cpuCtlAct : Act := fun _ ix w s =>
  let c := ix.headD 0
  let halt := CPU_C_CTL_HALT.on w
  let step := CPU_C_CTL_STEP.on w
  let reset := CPU_C_CTL_RESET.on w
  if (halt || step || reset) && !debugMode s then .badMode s
  else
    let s := if reset then resetCore c s else s
    let live := fun (s : State) => (s.core c).run ≠ .reset && (s.core c).run ≠ .doublefault
    let s := if halt && live s then haltCore c s else s
    let s := if CPU_C_CTL_RESUME.on w && (s.core c).halted then resumeCore c s else s
    .ok (if step && (s.core c).halted && live s then
        coreStat c (s.modCore c (fun x => { x with halted := false, once := true }))
      else s)

/-- HALT (R408). -/
def execHalt (m : Master) (c : Fin 16) (s : State) : Host.Outcome State Fault Refusal :=
  run [.cpu, .disp] (regCmd cpuCtlAct m CPU_C_CTL [c.val] 1) s

/-- RESUME (R408). -/
def execResume (m : Master) (c : Fin 16) (s : State) : Host.Outcome State Fault Refusal :=
  run [.cpu, .disp] (regCmd cpuCtlAct m CPU_C_CTL [c.val] 2) s

/-- CORE_STEP: writing STEP (R408); the core executes its next instruction and halts again. -/
def execCoreStep (m : Master) (c : Fin 16) (s : State) : Host.Outcome State Fault Refusal :=
  run [.cpu, .disp] (regCmd cpuCtlAct m CPU_C_CTL [c.val] 4) s

/-- CORE_RESET: writing RESET (R408). -/
def execCoreReset (m : Master) (c : Fin 16) (s : State) : Host.Outcome State Fault Refusal :=
  run [.cpu, .disp] (regCmd cpuCtlAct m CPU_C_CTL [c.val] 8) s

/-- The rule of CPU_C_c_G_r: only of a halted core (R408). -/
def cpuGAct : Act := fun _ ix w s =>
  let c := ix.headD 0
  if (s.core c).halted then .ok (s.setGr c (ix.getD 1 0) w) else .badState s

/-- The rule of CPU_C_c_STAT: DFLT_CLR. -/
def cpuStatAct : Act := fun _ ix w s =>
  .ok (if CPU_C_STAT_DFLT_CLR.on w then s.lower CPU_C_STAT_DFLT ix else s)

/-- What a core executing one instruction does at its end. -/
def endStep (c : Nat) (s : State) : State := if (s.core c).once then haltCore c s else s

/-- Whether core c reaches instruction boundaries now. -/
def coreLive (x : Core) : Bool :=
  !x.halted && match x.run with
  | .running | .waiti | .twait _ => true
  | _ => false

/-- INTERRUPT (R399): an enabled pending interrupt is taken at the boundary. -/
def execInterrupt (c : Fin 18) (s : State) : Host.Outcome State Fault Refusal :=
  run (spwBlocks c.val) (fun s =>
    let x := s.core c.val
    if coreLive x && interruptReady x && x.imp.isNone then endStep c.val (takeInterrupt c.val s) else s) s

/-- IMPRECISE_BUSST (R397): the error response of a posted store is reported at a boundary, once XACT is 0. -/
def execImpreciseBusst (c : Fin 18) (s : State) : Host.Outcome State Fault Refusal :=
  run (spwBlocks c.val) (fun s =>
    let x := s.core c.val
    if coreLive x && x.imp.isSome && !x.xact then endStep c.val (rtException c.val 6 x.pc (takeImprecise c.val s)) else s) s

/-- TIMER_COMPARE (R399): TNOW reaches TCMP. -/
def execTimerCompare (c : Fin 18) (s : State) : Host.Outcome State Fault Refusal :=
  run (spwBlocks c.val) (fun s =>
    if (s.core c.val).run = .reset || (s.core c.val).timer then s
    else timerLook c.val (advanceTo (tnowInstant s (s.core c.val).tcmp.toNat) s)) s

/-- WAITI_WAKE (R389): IPEND AND IMASK is not 0, and the core continues. -/
def execWaitiWake (c : Fin 18) (s : State) : Host.Outcome State Fault Refusal :=
  run (spwBlocks c.val) (fun s =>
    let x := s.core c.val
    if x.run = .waiti && !x.halted && x.ipend &&& x.imask.toNat ≠ 0 then endStep c.val (s.coreDo c.val .running) else s) s

/-- The TWAIT of core c is over. -/
def twaitEnd (c : Nat) (s : State) : State :=
  endStep c ((s.modCore c (fun x => { x with pc := (x.pc + 4) % 2 ^ 32 })).coreDo c .running)

/-- TWAIT_EXPIRY (R393): TNOW reaches the target. -/
def execTwaitExpiry (c : Fin 18) (s : State) : Host.Outcome State Fault Refusal :=
  run (spwBlocks c.val) (fun s => match (s.core c.val).run with
    | .twait t => if (s.core c.val).halted then s else twaitEnd c.val (advanceTo (tnowInstant s t) s)
    | _ => s) s

/-- Timers and waits that are due now. -/
def coresDue (s : State) : State :=
  (List.range 18).foldl (fun s c =>
    let s := if (s.core c).run = .reset then s else timerLook c s
    match (s.core c).run with
    | .twait t => if tnowReached s t && !(s.core c).halted then twaitEnd c s else s
    | _ => s) s

end Sys2Proof.Machine
end

