-- ==== Sys2Proof/Machine/LoopRun.lean ====
section
/-!
DEFINITION. Executions and releases of loops (05 R160 to R168): what a lane runs, what an execution leaves, what a release
writes, and an execution that misses its deadline.
-/
namespace Sys2Proof.Machine

/-- Whether one execution goes before another (R160). -/
def execBefore (a b : Exec) : Bool :=
  a.rel < b.rel || (a.rel = b.rel && (a.cls < b.cls || (a.cls = b.cls && a.loop < b.loop)))

/-- The execution that a lane free at slot t starts among those eligible. -/
def pickExec (t : Nat) (q : List Exec) : Option Exec :=
  (q.filter (fun j => eligibleAt j.start ≤ t)).foldl (fun b j => match b with
    | none => some j
    | some k => if execBefore j k then some j else some k) none

/-- The slot at which a lane starts its next execution. -/
def laneNext (l : Lane) : Option Nat :=
  (l.queue.foldl (fun (b : Option Nat) j => some (min (b.getD (eligibleAt j.start)) (eligibleAt j.start))) none).map (max l.free)

/-- The words of a context that an execution writes, unless a live write was made since its latch (R169). -/
def ctxWords (e : Exec) (c : LoopCtx) (dly : Option Int) : List (Reg × List Nat × Nat) :=
  let n := e.loop
  let f := fun (r : Reg) (l : List Int) => l.zipIdx.map (fun (p : Int × Nat) => (r, [n, p.2], ofInt 32 p.1))
  f LOOP_W c.w ++ f LOOP_OS c.os ++
    c.st.zipIdx.flatMap (fun (p : Int × Nat) =>
      let v := ofInt 64 p.1
      [(LOOP_S, [n, 2 * p.2], v % 2 ^ 32), (LOOP_S, [n, 2 * p.2 + 1], v / 2 ^ 32)]) ++
    (match dly with
      | some a => f LOOP_DLY ((a :: c.dly).take 16)
      | none => []) ++
    [(LOOP_SP, [n], ofInt 32 c.sp), (LOOP_MAN, [n], ofInt 32 c.man)]

/-- The flags of an execution join the loop's history (R177, 06 R197). -/
def noteFlags (n flags : Nat) (s : State) : State :=
  let w := (s.reg LOOP_SATF [n]).toNat
  let w := putBits (w ||| flags) 12 8 (bits w 12 8 ||| flags)
  let s := s.setReg LOOP_SATF (BitVec.ofNat 32 w) [n]
  s.setLoopBit LOOP_SATS_SATS n (bits w 4 0 ≠ 0)

/-- LOOP_EXECUTION: an execution is complete with its slot `last`: its words, flags and staged outputs stand (R160, R169; 06
R185 to R191). The ramp count and RST that a setpoint write or a ramp set meanwhile stand over its own, and SS that a ramp
cleared. Under the debug hold it does not execute (R181). -/
def runExec (e : Exec) (last : Nat) (s : State) : State :=
  if !e.en || loopHeld s then s
  else
    let n := e.loop
    let d := s.loopDyn n
    let pvs := s.fld LOOP_CFG_PVSLOT [n]
    let pv := if bits (nth e.ctx.ist pvs 0) 15 14 ≤ 1 then some (sx 32 (nth e.ctx.iv pvs 0)) else none
    let st := setpointStage e.ctx e.init e.auto e.aedge pv (nth e.ctx.k 15 0)
    let autoe := e.auto && !e.init
    let x := loopProgram { c := st.c, auto := autoe, init := e.init } (loopProg s n)
    let s := (ctxWords e x.c x.dlyIn).foldl (fun s (w : Reg × List Nat × Nat) =>
      if d.dirty.contains (w.1.addr w.2.1) then s else s.setReg w.1 (BitVec.ofNat 32 w.2.2) w.2.1) s
    let s := s.setReg LOOP_RSTEP (BitVec.ofNat 32 (ofInt 32 st.rstep)) [n]
    let s := s.setLoopDyn n { d with r := if d.newR then d.r else x.c.r, rst := if d.newR then d.rst else x.c.rst,
                                     ss := if d.newSS then d.ss else x.c.ss }
    let s := if st.done && !d.newR then
        match d.ramp with
        | some id => rcpReportAt e.start id codeDone (s.setLoopDyn n { s.loopDyn n with ramp := none })
        | none => s
      else s
    let s := (s.incr LOOP_EXECCNT_COUNT [n]).incr LOOP_EXECTOT_COUNT
    let s := noteFlags n x.flags (s.setFld LOOP_SATF_LAST 0 [n])
    let en := (List.range 16).filter (fun i => s.isSet LOOP_INB_EN [n, i])
    let g : Staged := { loop := n, start := e.start, rel := e.rel, due := e.due, last := last,
                        outs := x.c.os.map (ofInt 32), ist := en.map (fun i => nth e.ctx.ist i 0), flags := x.flags,
                        trace := x.trace,
                        word1 := x.flags + b2n autoe * 32 + b2n e.init * 64 + b2n x.c.ss * 128 + b2n (0 < x.c.r) * 256 }
    { s with le := { s.le with staged := s.le.staged ++ [g] } }

/-- The executions of lane l whose last slot lies before `lim` are complete, in order. -/
def laneDone (lim l : Nat) (s : State) : State :=
  let x := nth s.le.lanes l {}
  let s := { s with le := { s.le with lanes := modNth s.le.lanes l (fun y =>
    { y with runs := y.runs.filter (fun p => lim ≤ p.2) }) } }
  (x.runs.filter (fun p => p.2 < lim)).foldl (fun s p => runExec p.1 p.2 s) s

/-- Lane l starts executions in the slots before `lim`. -/
def laneGo (lim l : Nat) : Nat → State → State
  | 0, s => s
  | fuel + 1, s =>
    let x := nth s.le.lanes l {}
    match laneNext x with
    | none => s
    | some t =>
      if lim ≤ t then s
      else match pickExec t x.queue with
        | none => s
        | some e =>
          let s := { s with le := { s.le with lanes := modNth s.le.lanes l (fun y =>
                       { y with free := t + e.cost, queue := y.queue.erase e, runs := y.runs ++ [(e, t + e.cost - 1)] }) } }
          laneGo lim l fuel s

/-- The executions that start in the windows before tick n, and the completion of those that end in them. -/
def lanesTo (n : Nat) (s : State) : State :=
  (List.range 4).foldl (fun s l =>
    laneDone (n * 2900) l (laneGo (n * 2900) l (nth s.le.lanes l {}).queue.length s)) s

/-- The instant at which a slot ends. -/
def slotEnd (a : Nat) : Nat := tickAt (a / 2900) + (a % 2900 + 1) * 5000 * nsF / 2900

/-- The last slot of the execution that a lane has in progress, or of the one that it starts next. -/
def laneEnd (l : Lane) : Option Nat :=
  match l.runs.head? with
  | some r => some r.2
  | none => (laneNext l).bind (fun t => (pickExec t l.queue).map (fun e => t + e.cost - 1))

/-- The lane whose execution ends first, with its last slot. -/
def nextEnd (s : State) : Option (Nat × Nat) :=
  (List.range 4).foldl (fun (b : Option (Nat × Nat)) l => match laneEnd (nth s.le.lanes l {}) with
    | none => b
    | some t => match b with
      | some p => if p.1 ≤ t then b else some (t, l)
      | none => some (t, l)) none

/-- Lane l carries an execution to its end in slot t. -/
def laneFinish (t l : Nat) (s : State) : State :=
  let s := if (nth s.le.lanes l {}).runs.isEmpty then laneGo (t + 1) l 1 s else s
  laneDone (t + 1) l (advanceTo (slotEnd t) s)

/-- LOOP_EXECUTION: time passes to the end of the next execution of a lane (R160). -/
def execLoopExecution (s : State) : Host.Outcome State Fault Refusal :=
  run [.loop] (fun s => match nextEnd s with
    | none => s
    | some p => laneFinish p.1 p.2 s) s

/-- The status word of a release at tick R (R168). -/
def releaseStatus (g : Staged) (r : Nat) : Nat :=
  let qual := g.ist.foldl (fun q w => max q (bits w 15 14)) 0
  let age := if g.ist.isEmpty then r - g.start
    else g.ist.foldl (fun a w => max a (bits w 11 0 + (r + 65536 - bits w 31 16 % 65536) % 65536)) 0
  qual * 2 ^ 14 + b2n (bits g.flags 3 0 ≠ 0) * 2 ^ 13 + b2n (g.ist.any (fun w => bit w 12)) * 2 ^ 12 + min 4095 age

/-- Release one output slot at tick R (R166, R167). -/
def releaseSlot (g : Staged) (r : Nat) (s : State) (j : Nat) : State :=
  let v := nth g.outs j 0
  let tgt := s.fld LOOP_OUTB_TARGET [g.loop, j]
  let put := s.setReg LOOP_OR (BitVec.ofNat 32 v) [g.loop, j]
  match s.fld LOOP_OUTB_KIND [g.loop, j] with
  | 1 => put.setSig tgt v (releaseStatus g r) r
  | 2 => if s.effMode = .safe && s.isSet SAR_DAC_CFG_SAFEACT [tgt] then put else dacPut tgt (v % 65536) 40 false put
  | 3 => pwmLoopRelease tgt (sx 32 v) put
  | _ => s

/-- LOOP_RELEASE: the outputs of an execution are released at tick R, late or not (R161). -/
def releaseExec (late : Bool) (r : Nat) (s : State) (g : Staged) : State :=
  let s := (List.range 4).foldl (releaseSlot g r) s
  let s := if late then
      let s := (s.setLoopBit LOOP_LATE_LATE g.loop true).raise LOOP_STAT_LATEF
      noteFlags g.loop 16 ((s.incr LOOP_LATECNT_COUNT [g.loop]).incr LOOP_LATETOT_COUNT)
    else s
  lensRelease g.loop g.start (g.word1 + b2n late * 16) g.trace s

/-- R163: a hardware fault: an execution is incomplete at the end of its period. -/
def deadlineFault (s : State) (n : Nat) : State := (s.emitUnit 6 .loop n LOOP_SATF [n]).raiseSafe 4

/-- LOOP_DEADLINE_FAULT: executions incomplete at T(R), the end of their period, release nothing (R163); under the debug hold
none is to be complete (R181). -/
def deadlines (r : Nat) (s : State) : State :=
  let bad := (s.le.staged.filter (fun g => g.due ≤ r && r ≤ g.last / 2900)).map (·.loop) ++
    s.le.lanes.flatMap (fun l => ((l.queue ++ l.runs.map (·.1)).filter (fun e => e.en && e.due ≤ r)).map (·.loop))
  let bad := if loopHeld s then [] else bad
  let s := { s with le := { s.le with
    staged := s.le.staged.filter (fun g => !(g.due ≤ r && r ≤ g.last / 2900)),
    lanes := s.le.lanes.map (fun l => { l with queue := l.queue.filter (fun e => r < e.due),
                                               runs := l.runs.filter (fun p => r < p.1.due) }) } }
  bad.foldl deadlineFault s

/-- The releases due in Phase 1 of tick R: ready executions at S + O, the others late at S + P (R161, R163); under the debug
hold nothing is released or recorded, and what was due is not released later (R181, 06 R198). -/
def loopReleases (r : Nat) (s : State) : State :=
  let go := s.le.staged.filter (fun g => (g.rel = r || (g.rel < r && g.due ≤ r)) && g.last / 2900 < r)
  let s := { s with le := { s.le with staged := s.le.staged.filter (fun g => !go.contains g) } }
  deadlines r (if loopHeld s then s else go.foldl (fun s g => releaseExec (g.rel ≠ r) r s g) s)

/-- The tick at which a staged execution is released: S + O when it is ready for it, S + P otherwise. -/
def releaseTick (g : Staged) : Nat := if g.last / 2900 < g.rel then g.rel else g.due

/-- LOOP_RELEASE: time passes to the next release, and its outputs are released (R161). -/
def execLoopRelease (s : State) : Host.Outcome State Fault Refusal :=
  run [.loop] (fun s =>
    match s.le.staged.foldl (fun (b : Option Nat) g => some (min (b.getD (releaseTick g)) (releaseTick g))) none with
    | none => s
    | some r => loopReleases r (advanceTo (tickAt r) s)) s

/-- LOOP_DEADLINE_FAULT: time passes to the end of the earliest period whose execution will not be complete (R163). -/
def execLoopDeadlineFault (s : State) : Host.Outcome State Fault Refusal :=
  run [.loop] (fun s =>
    let late := (s.le.staged.filter (fun g => g.due ≤ g.last / 2900)).map (·.due) ++
      s.le.lanes.flatMap (fun l => (l.runs.filter (fun p => p.1.en && p.1.due * 2900 ≤ p.2)).map (·.1.due) ++
        (l.queue.filter (fun e => e.en && e.due * 2900 ≤ max l.free (eligibleAt e.start))).map (·.due))
    match late.foldl (fun (b : Option Nat) d => some (min (b.getD d) d)) none with
    | none => s
    | some r => deadlines r (advanceTo (tickAt r) s)) s

end Sys2Proof.Machine
end

