-- ==== Sys2Proof/Machine/Planner.lean ====
section
/-!
DEFINITION. The jerk-limited planner of 11 R314 to R318: segments of whole base ticks, the values lowered so that a move
ends on its target. Velocities are in counts per tick, accelerations in counts per tick², jerks in counts per tick³.
-/
namespace Sys2Proof.Machine

/-- A rational number rounded up to a natural number. -/
def ratCeil (q : Rat) : Nat := q.ceil.toNat

/-- A rational number rounded to nearest. -/
def ratRound (q : Rat) : Int := (q + 1 / 2).floor

/-- The absolute value of a rational number. -/
def ratAbs (q : Rat) : Rat := if q < 0 then -q else q

/-- A rational square root from below, to 2⁻³². -/
def ratSqrt (q : Rat) : Rat := if q ≤ 0 then 0 else (isqrt 160 (q * 2 ^ 64).floor.toNat : Rat) / 2 ^ 32

/-- The state of motion (p, v, a) after `t` ticks of jerk `j`. -/
def moveBy (t : Nat) (j : Rat) (x : Rat × Rat × Rat) : Rat × Rat × Rat :=
  let T : Rat := t
  (x.1 + x.2.1 * T + x.2.2 * T * T / 2 + j * T * T * T / 6, x.2.1 + x.2.2 * T + j * T * T / 2, x.2.2 + j * T)

/-- The state of motion after `n` ticks of segments; beyond their end the velocity holds. -/
def runSegs : List (Nat × Rat) → Nat → Rat × Rat × Rat → Rat × Rat × Rat
  | [], n, x => moveBy n 0 (x.1, x.2.1, 0)
  | (t, j) :: r, n, x => if n ≤ t then moveBy n j x else runSegs r (n - t) (moveBy t j x)

/-- The ticks of segments. -/
def segTicks (l : List (Nat × Rat)) : Nat := l.foldl (fun a e => a + e.1) 0

/-- The least whole number of ticks in which acceleration rises from `b` at jerk `j` to at least √x. -/
def riseTicks (x b j : Rat) : Nat :=
  let g := ((ratSqrt x - b) / j).floor.toNat
  let ok := fun (t : Nat) => 0 ≤ b + j * t && x ≤ (b + j * t) * (b + j * t)
  if ok g then g else if ok (g + 1) then g + 1 else g + 2

/-- The durations (rise, hold, fall) of a change of velocity from `w0` at acceleration `b0` up to `w1`, each rounded up to
whole ticks. -/
def velTimes (w0 b0 w1 amax j : Rat) : Nat × Nat × Nat :=
  let x := j * (w1 - w0) + b0 * b0 / 2
  let t := if amax * amax < x then
      (ratCeil (ratAbs (amax - b0) / j), ratCeil ((w1 - w0 - (2 * amax * amax - b0 * b0) / (2 * j)) / amax),
       ratCeil (amax / j))
    else (riseTicks x b0 j, 0, riseTicks x 0 j)
  (if b0 = 0 then t.1 else max 1 t.1, t.2.1, t.2.2)

/-- The segments of such a change with given durations: they reach `w1` with acceleration 0 exactly. -/
def velSegs (w0 b0 w1 : Rat) (t : Nat × Nat × Nat) : List (Nat × Rat) :=
  let k : Rat := (t.1 : Rat) / 2 + t.2.1 + (t.2.2 : Rat) / 2
  let a := if k = 0 then 0 else (w1 - w0 - b0 * t.1 / 2) / k
  [(t.1, if t.1 = 0 then 0 else (a - b0) / t.1), (t.2.1, 0), (t.2.2, if t.2.2 = 0 then 0 else -a / t.2.2)]

/-- A change of velocity from (v0, a0) to v1 (R314, R318): `up` limits acceleration, `down` deceleration, in the positive
direction. -/
def velChange (v0 a0 v1 up down j : Rat) : List (Nat × Rat) :=
  if v0 = v1 && a0 = 0 then []
  else
    let vz := v0 + a0 * ratAbs a0 / (2 * j)
    if vz ≤ v1 then velSegs v0 a0 v1 (velTimes v0 a0 v1 up j)
    else (velSegs (-v0) (-a0) (-v1) (velTimes (-v0) (-a0) (-v1) down j)).map (fun e => (e.1, -e.2))

/-- The segments that bring an axis from (v, a) to standstill with the deceleration limit `dmax` (R318). -/
def stopSegs (v a dmax j : Rat) : List (Nat × Rat) := velChange v a 0 dmax dmax j

/-- The distance that segments cover from (v, a). -/
def segDist (l : List (Nat × Rat)) (v a : Rat) : Rat := (runSegs l (segTicks l) (0, v, a)).1

/-- A profile in tick units: VMAX, AMAX, DMAX, JMAX. -/
structure Prof where
  v : Rat
  a : Rat
  d : Rat
  j : Rat
  deriving DecidableEq, Repr

/-- The largest of `2^n` equal parts of `top` that satisfies a test which holds up to some point. -/
def bisect (n : Nat) (top : Rat) (ok : Rat → Bool) : Rat :=
  let part := fun (i : Nat) => top * i / 2 ^ n
  part ((List.range n).foldl (fun i k =>
    let m := i + 2 ^ (n - 1 - k)
    if ok (part m) then m else i) 0)

/-- The segments of a positive move over distance `d` from (v0, a0) to the velocity `ve`, with the tick at which it begins
to decelerate (R314); none when the distance is too short for it. -/
def forward (pr : Prof) (v0 a0 ve d : Rat) : Option (List (Nat × Rat) × Nat) :=
  let acc := fun (vc : Rat) => velChange v0 a0 vc pr.a pr.d pr.j
  let dec := fun (vc : Rat) => velChange vc 0 ve pr.a pr.d pr.j
  let dist := fun (vc : Rat) => segDist (acc vc) v0 a0 + segDist (dec vc) vc 0
  let vc := if dist pr.v ≤ d then pr.v else bisect 40 pr.v (fun x => dist (max x ve) ≤ d)
  let vc := max vc ve
  if d < dist vc then none
  else
    let tv := if dist pr.v ≤ d && 0 < pr.v then ratCeil ((d - dist pr.v) / pr.v) else 0
    -- with the durations fixed, the distance is linear in the cruise velocity
    let ta := (acc vc).map (·.1)
    let td := (dec vc).map (·.1)
    let trip := fun (l : List Nat) => (l.headD 0, (l.drop 1).headD 0, (l.drop 2).headD 0)
    let segs := fun (x : Rat) => velSegs v0 a0 x (trip ta) ++ [(tv, 0)] ++ velSegs x 0 ve (trip td)
    let g := fun (x : Rat) => segDist (segs x) v0 a0
    let g0 := g 0
    let g1 := g 1
    let x := if g1 = g0 then vc else (d - g0) / (g1 - g0)
    some (segs x, segTicks (velSegs v0 a0 x (trip ta)) + tv)

/-- The plan of a move of signed distance `d` from (v0, a0), ending at speed `ve` in its direction (R314, R317). An axis
that cannot end there in its present direction stops first and comes back. -/
def planMove (pr : Prof) (v0 a0 ve d : Rat) : List (Nat × Rat) × Nat :=
  let st := stopSegs v0 a0 pr.d pr.j
  let ds := segDist st v0 a0
  let s : Rat := if 0 ≤ d - ds then 1 else -1
  let mir := fun (l : List (Nat × Rat)) => l.map (fun e => (e.1, s * e.2))
  match (if s * v0 < 0 then none else forward pr (s * v0) (s * a0) ve (s * d)) with
  | some r => (mir r.1, r.2)
  | none =>
    match forward pr 0 0 0 (s * (d - ds)) with
    | some r => (st ++ mir r.1, segTicks st + r.2)
    | none => (st, 0)

end Sys2Proof.Machine
end

