-- ==== Sys2Proof/Machine/Motion.lean ====
section
/-!
DEFINITION. Motion axes (11): moves and their queue, samples, stops and faults, steps, integrated drives, servo feedback,
reports of pushed moves.
-/
namespace Sys2Proof.Machine

/-- Axis k beside its registers. -/
def State.axis (s : State) (k : Nat) : Axis := nth s.axes k {}

/-- Change axis k. -/
def State.modAxis (s : State) (k : Nat) (f : Axis → Axis) : State := { s with axes := modNth s.axes k f }

/-- The kinds of axis, R309. -/
def kindStep : Nat := 1
/-- INTEGRATED. -/
def kindInt : Nat := 2
/-- SERVO. -/
def kindServo : Nat := 3

/-- KIND of axis k. -/
def axisKind (s : State) (k : Nat) : Nat := s.fld MOT_AX_CFG_KIND [k]

/-- The modes in which axes move or may be stopping (R327). -/
def motionMode (s : State) : Bool :=
  match s.effMode with
  | .run | .trial | .follow | .brace | .hold | .stop | .safe => true
  | _ => false

/-- Whether axis k is enabled (R309). -/
def axisOn (s : State) (k : Nat) : Bool := s.isSet MOT_AX_CFG_EN [k] && axisKind s k ≠ 0

/-- Whether a fault bit of axis k is set. -/
def axisFault (s : State) (k : Nat) : Bool := s.isSet MOT_AX_STAT_FAULT [k]

/-- Whether the axis stands still: no velocity, no acceleration, no plan in progress. -/
def standing (x : Axis) : Bool := x.v = 0 && x.a = 0 && segTicks x.plan.segs ≤ x.plan.t && x.stop.isNone

/-- The position in counts of a value in units of 2⁻³². -/
def counts (p : Int) : Rat := (p : Rat) / 2 ^ 32

/-- MOT_AX_k_STAT, POS and VEL follow the axis. -/
def axisStatus (k : Nat) (s : State) : State :=
  let x := s.axis k
  let st := if !axisOn s k then 0
    else if axisFault s k && standing x then 4
    else if x.stop.isSome then 3
    else if standing x && x.cur.isNone then 1
    else 2
  let s := s.setFld MOT_AX_STAT_STATE st [k]
  let s := s.setFld MOT_AX_STAT_QLEN (min 63 (x.queue.length + b2n x.cur.isSome)) [k]
  let s := s.setReg MOT_AX_POS (BitVec.ofInt 32 (ratRound (counts x.pos))) [k]
  s.setReg MOT_AX_VEL (BitVec.ofInt 32 (ratRound (x.v * 200000))) [k]

/-- Whether axis k is in safe torque off: its gate line is low, or has been and FCLR has not come (R325). -/
def axisSto (s : State) (k : Nat) : Bool := s.isSet MOT_AX_STAT_STO [k] || !(s.axis k).gate

/-- AX_EN[k] as its ball shows it (R309, R325). -/
def axisEnPin (k : Nat) (s : State) : State :=
  let on := axisOn s k && !axisSto s k && motionMode s
  s.ball .winding (1024 + k) (b2n (on != s.isSet MOT_AX_CFG_POLEN [k]))

/-! ### Reports -/

/-- Write one entry to the motion report ring (R326). -/
def motRingPut (k : Nat) (m : Move) (code : Nat) (s : State) : State :=
  let wr := s.fld MOT_RING_WR_INDEX
  let next := (wr + 1) % 4096
  let e := leBytes 1 k ++ leBytes 1 m.kind ++ leBytes 1 code ++ leBytes 1 0 ++ leBytes 2 m.tag ++ leBytes 2 0 ++
    leBytes 4 m.atick ++ leBytes 4 s.tick
  let s := s.setBytes (0x10000000 + s.fld MOT_RING_BASE * 0x10000 + 16 * wr) e
  let s := if next = s.fld MOT_RING_RD_INDEX then
      ((s.incr MOT_RING_RD_INDEX).incr MOT_RINGOVR_COUNT).raise MOT_STAT_RINGOVRF else s
  (s.setFld MOT_RING_WR_INDEX next).noteRing 1

/-- Report a move once: a recipe move in the recipe ring, a pushed one in the motion ring. -/
def reportMove (k : Nat) (m : Move) (code : Nat) (s : State) : State :=
  if m.told then s
  else match m.act with
  | some id => rcpReport id code s
  | none => motRingPut k m code s

/-- Report moves. -/
def reportMoves (k : Nat) (l : List (Move × Nat)) (s : State) : State :=
  l.foldl (fun s e => reportMove k e.1 e.2 s) s

/-! ### Acceptance -/

/-- A profile in tick units; on a STEPDIR axis VMAX is limited to the step limit (R312, R314). -/
def profOf (s : State) (k r : Nat) : Prof :=
  let f := fun (x : Reg) => ((s.reg x [r]).toNat : Rat)
  let lim : Rat := min 8000000 (1000000000 / ((2 * max 1 (s.fld MOT_AX_IO_STEPW [k] % 2 ^ 14) : Nat) : Rat))
  let v := if axisKind s k = kindStep then min (f MOT_PF_VMAX) lim else f MOT_PF_VMAX
  { v := v / 200000, a := f MOT_PF_AMAX / 200000 ^ 2, d := f MOT_PF_DMAX / 200000 ^ 2,
    j := f MOT_PF_JMAX * 16 / 200000 ^ 3 }

/-- The target of a move in units of 2⁻³² counts as far as it is known when it is accepted (R315). -/
def moveTarget (x : Axis) (m : Move) : Option Int :=
  match m.kind with
  | 0 => some (m.p0 * 2 ^ 32)
  | 1 =>
    match (x.queue.getLast?).or x.cur with
    | none => some (x.pos + m.p0 * 2 ^ 32)
    | some q => if q.kind < 2 then q.target.map (· + m.p0 * 2 ^ 32) else none
  | _ => none

/-- Whether a target lies within the signed 32-bit range (R310). -/
def targetOk (t : Int) : Bool := -(2 ^ 63) ≤ t && t ≤ (2 ^ 31 - 1) * 2 ^ 32

/-- Whether a target lies within the soft limits, where they apply (R316). -/
def limitsOk (s : State) (k : Nat) (t : Int) : Bool :=
  !s.isSet MOT_AX_CFG_LIMEN [k] || (sx 32 (s.reg MOT_AX_LIMLO [k]).toNat * 2 ^ 32 ≤ t &&
    t ≤ sx 32 (s.reg MOT_AX_LIMHI [k]).toNat * 2 ^ 32)

/-- The code with which a move is refused at acceptance (R310, R316, R319); none when it is accepted. -/
def moveRefused (s : State) (k : Nat) (m : Move) : Option Nat :=
  let x := s.axis k
  if 32 ≤ x.queue.length + b2n x.cur.isSome then some codeNoResource
  else if !x.gate then some codeSafetyVeto
  else if bit (s.fld MOT_AX_STAT_FAULT [k]) 5 then some codeSafetyVeto
  else if !axisOn s k || !motionMode s || axisFault s k || (m.kind = 0 && s.isSet MOT_AX_STAT_UNREF [k]) then
    some codeTargetFault
  else match moveTarget x m with
  | some t => if targetOk t && limitsOk s k t then none else some codeTargetFault
  | none => none

/-- Append a move to the queue of axis k, or report it refused (R316). -/
def pushMove (k : Nat) (m : Move) (s : State) : State :=
  match moveRefused s k m with
  | some code => reportMove k m code s
  | none =>
    let t := moveTarget (s.axis k) m
    axisStatus k ((s.incr MOT_MOVETOT_COUNT).modAxis k (fun x => { x with queue := x.queue ++ [{ m with target := t }] }))

/-- The rule of MOT_AX_k_MVC: PUSH is refused in Stop and Safe (R327). -/
def mvcAct : Act := fun _ ix w s =>
  let k := ix.headD 0
  if !MOT_AX_MVC_PUSH.on w then .ok (s.store MOT_AX_MVC ix w)
  else if s.effMode = .stop || s.effMode = .safe then .badMode s
  else
    let s := s.store MOT_AX_MVC ix w
    let m : Move := { kind := MOT_AX_MVC_KIND.of w, p0 := sx 32 (s.reg MOT_AX_MVP ix).toNat, prof := MOT_AX_MVC_PROF.of w,
                      tag := MOT_AX_MVC_TAG.of w, act := none, atick := s.tick, target := none, told := false }
    .ok (pushMove k m s)

/-- MOVE_PUSH: writing MOT_AX_k_MVC with PUSH (R316). -/
def execMovePush (m : Master) (k : Fin 64) (kind : Fin 4) (prof : Fin 16) (tag : BitVec 16) (s : State) :
    Host.Outcome State Fault Refusal :=
  run [.mot] (regCmd mvcAct m MOT_AX_MVC [k.val]
    (BitVec.ofNat 32 (2 ^ 31 + prof.val * 2 ^ 24 + kind.val * 2 ^ 16 + tag.toNat))) s

/-! ### Stopping -/

/-- The profile of the current move, or of the last planned one. -/
def curProf (s : State) (k : Nat) : Prof :=
  profOf s k (match (s.axis k).cur with
    | some m => m.prof
    | none => 0)

/-- Replace the plan of axis k by segments from its present sample. -/
def setPlan (k : Nat) (segs : List (Nat × Rat)) (dec : Nat) (s : State) : State :=
  s.modAxis k (fun x => { x with plan := { p := counts x.pos, v := x.v, a := x.a, segs := segs, t := 0, dec := dec } })

/-- Decelerate axis k from its present sample and report moves at standstill (R318). -/
def beginStop (k : Nat) (l : List (Move × Nat)) (s : State) : State :=
  let x := s.axis k
  let pr := curProf s k
  let s := setPlan k (stopSegs x.v x.a pr.d pr.j) 0 s
  s.modAxis k (fun x => { x with cur := none, stop := some ((x.stop.getD []) ++ l) })

/-- A stop request (R318): at standstill the queue empties at once; otherwise the axis decelerates, and the current and
every queued move, and those that wait for their feedback, are reported with `code` at standstill. `keep` leaves the waiting moves (DBGHOLD). -/
def stopRequest (k code : Nat) (keep : Bool) (s : State) : State :=
  let x := s.axis k
  let all := ((if keep then [] else x.servo.map (·.2)) ++ x.cur.toList ++ (if keep then [] else x.queue)).map (fun m => (m, code))
  let s := if keep then s else s.modAxis k (fun x => { x with queue := [], servo := [] })
  let s := if standing x then reportMoves k all (s.modAxis k (fun x => { x with cur := none }))
    else if x.stop.isSome then
      s.modAxis k (fun x => { x with stop := some ((x.stop.getD []).map (fun e => (e.1, code)) ++ all) })
    else beginStop k all s
  axisStatus k s

/-- Entry to Stop or Safe, and a safe-stop request: every axis stops (R318, R327). -/
def motStopAll (s : State) : State := (List.range 64).foldl (fun s k => stopRequest k codeAborted false s) s

/-- The distance that a move covers from the present sample to its target, in counts. -/
def toTarget (x : Axis) (m : Move) : Rat := counts ((m.target.getD x.pos) - x.pos)

/-- The move into which the current one was to blend is gone: the current move ends on its target with v = 0 after all. DEDUCED:
log 231. -/
def unblend (k : Nat) (s : State) : State :=
  let x := s.axis k
  match (if s.isSet MOT_AX_STAT_BLEND [k] then x.cur else none) with
  | none => s
  | some c =>
    let r := planMove (profOf s k c.prof) x.v x.a 0 (toTarget x c)
    (setPlan k r.1 (segTicks r.1 + 1) s).lower MOT_AX_STAT_BLEND [k]

/-- A recipe abort cancels the MOVE action with an identifier (R142): the axis decelerates and it is reported ABORTED. -/
def abortMove (id : Nat) (s : State) : State :=
  (List.range 64).foldl (fun s k =>
    let x := s.axis k
    let own := fun (m : Move) => m.act = some id
    if x.cur.any own then stopRequest k codeAborted false s
    else match (x.queue ++ x.servo.map (·.2)).find? own with
    | some m =>
      let s := if x.queue.head?.any own then unblend k s else s
      axisStatus k (reportMove k m codeAborted (s.modAxis k (fun x =>
        { x with queue := x.queue.filter (fun m => !own m), servo := x.servo.filter (fun e => !own e.2) })))
    | none => s) s

/-! ### Faults -/

/-- The axis stands still at once at its present position (R319). -/
def freeze (k : Nat) (s : State) : State :=
  s.modAxis k (fun x => { x with v := 0, a := 0, plan := {}, cur := none, queue := [], stop := none, since := s.now,
                                 servo := [] })

/-- Every move of axis k ends with a code, at once. -/
def endMoves (k code : Nat) (s : State) : State :=
  let x := s.axis k
  let l := (x.cur.toList ++ x.queue ++ (x.stop.getD []).map (·.1) ++ x.servo.map (·.2)).map (fun m => (m, code))
  reportMoves k l (freeze k s)

/-- The severity of fault bit b (R319). -/
def faultSev (b : Nat) : Nat := if b < 3 then 4 else 5

/-- A fault cause of axis k is detected (R319): it is recorded, and acts in Phase 4 of the next tick. -/
def detectFaultAt (tick k b : Nat) (s : State) : State :=
  if bit (s.fld MOT_AX_STAT_FAULT [k]) b || (s.axis k).faults.any (fun e => e.1 = b) then s
  else
    let s := s.setFld MOT_AX_STAT_FAULT (s.fld MOT_AX_STAT_FAULT [k] ||| 2 ^ b) [k]
    let s := ((s.raise MOT_STAT_FAULTF).incr MOT_FAULTTOT_COUNT).emitUnit (faultSev b) .mot k MOT_AX_STAT [k]
    s.modAxis k (fun x => { x with faults := x.faults ++ [(b, tick)] })

/-- A fault is detected now. -/
def detectFault (k b : Nat) (s : State) : State := detectFaultAt s.tick k b s

/-- A fault that arises in the device's own output hardware: a stall, DRIVE, SAFETY (17 R475). -/
def hwFault (k b : Nat) (s : State) : State := s.outcome (.axisFault k b) (detectFault k b)

/-- The four pairs of integrated axis k meet the forces on them. -/
def windings (k : Nat) (s : State) : State := (List.range 4).foldl (fun s i => pairRefresh (4 * k + i) s) s

/-- A fault takes the windings of axis k off (R319). -/
def windingsOff (k : Nat) (s : State) : State := windings k (s.modAxis k (fun x => { x with off := true }))

/-- The action of fault bit b of axis k (R319). -/
def actFault (k b : Nat) (s : State) : State :=
  if b = 3 && s.isSet MOT_AX_CFG_STALLACT [k] || b = 4 then
    (endMoves k codeTargetFault (windingsOff k s)).raise MOT_AX_STAT_UNREF [k]
  else if b = 5 then endMoves k codeSafetyVeto s
  else stopRequest k codeTargetFault false s

/-- The faults of axis k detected before tick n act (R319). -/
def actFaults (k n : Nat) (s : State) : State :=
  let due := (s.axis k).faults.filter (fun e => e.2 < n)
  let s := s.modAxis k (fun x => { x with faults := x.faults.filter (fun e => n ≤ e.2) })
  due.foldl (fun s e => actFault k e.1 s) s

/-- AXIS_FAULT (R319): the fault causes of axis k that have been detected act, as in Phase 4 of the tick after their
detection. -/
def execAxisFault (k : Fin 64) (s : State) : Host.Outcome State Fault Refusal :=
  run [.mot] (fun s => if (s.axis k.val).faults.isEmpty then s
    else
      let n := s.tick + 1
      axisStatus k.val (actFaults k.val n (advanceTo (tickAt n) s))) s

/-- The gate line of axis k (01 R33, R319, R325): low puts it in safe torque off at once; high ends it, unless the SAFETY fault
stands. -/
def setAxisGate (k : Nat) (high : Bool) (s : State) : State :=
  let was := (s.axis k).gate
  let s := s.modAxis k (fun x => { x with gate := high })
  if high then
    if was || bit (s.fld MOT_AX_STAT_FAULT [k]) 5 then s
    else
      let s := s.lower MOT_AX_STAT_STO [k]
      axisEnPin k (axisStatus k (if axisKind s k = kindInt then windings k s else s))
  else if !was then s
  else
    let s := s.raise MOT_AX_STAT_STO [k]
    let s := if axisOn s k then
        let s := hwFault k 5 s
        let s := s.modAxis k (fun x => { x with faults := x.faults.filter (fun e => e.1 ≠ 5) })
        (endMoves k codeSafetyVeto s).raise MOT_AX_STAT_UNREF [k]
      else s
    let s := if axisKind s k = kindInt then windings k s else s
    axisEnPin k (axisStatus k s)

/-- SAFETY on every enabled axis whose gate line is low, also one that has been low since the axis was enabled (R319, R325). -/
def gateFaults (s : State) : State :=
  (List.range 64).foldl (fun s k =>
    if axisOn s k && !(s.axis k).gate && motionMode s && !bit (s.fld MOT_AX_STAT_FAULT [k]) 5 then
      hwFault k 5 (s.raise MOT_AX_STAT_STO [k])
    else s) s

/-- A pair has latched off: DRIVE on its integrated axis (R319). -/
def driveFaults (s : State) : State :=
  (List.range 12).foldl (fun s j =>
    if axisKind s j = kindInt && axisOn s j && (List.range 4).any (fun i => s.isSet PWM_PR_STAT_LATCHOFF [4 * j + i])
    then hwFault j 4 s else s) s

/-! ### Servo feedback -/

/-- The following error of a SERVO axis (R324). -/
def followErr (s : State) (k : Nat) : Int :=
  sx 32 (s.sigVal (s.fld MOT_AX_IO_STEPW [k])) - ratRound (counts (s.axis k).pos)

/-- QUAL of the feedback signal. -/
def fbQual (s : State) (k : Nat) : Nat := s.sigQual (s.fld MOT_AX_IO_STEPW [k])

/-- Whether the feedback lies within INPOS of a target (R315). -/
def fbNear (s : State) (k : Nat) (t : Int) : Bool :=
  decide ((sx 32 (s.sigVal (s.fld MOT_AX_IO_STEPW [k])) - ratRound (counts t)).natAbs ≤ s.fld MOT_AX_FERR_INPOS [k])

/-- Look at the feedback of a SERVO axis in tick n: LOAD, faults, and moves that end in position (R315, R319, R324). -/
def servoLook (k n : Nat) (s : State) : State :=
  let e := followErr s k
  let s := s.setFld MOT_AX_LOAD_VALUE (ofInt 16 (max (-32767) (min 32767 e))) [k]
  let s := if fbQual s k = 2 then detectFault k 2 s else s
  let s := if s.fld MOT_AX_FERR_LIM [k] < e.natAbs then detectFault k 1 s else s
  let near := fun (m : Move) => m.target.all (fbNear s k)
  let done := (s.axis k).servo.filter (fun e => e.1 ≤ n && near e.2)
  let s := s.modAxis k (fun x => { x with servo := x.servo.filter (fun e => !(e.1 ≤ n && near e.2)) })
  let s := s.setFld MOT_AX_STAT_INPOS (b2n ((s.axis k).goal.any (fbNear s k))) [k]
  reportMoves k (done.map (fun e => (e.2, codeDone))) s

/-! ### Integrated drives -/

/-- θ of an integrated axis in units of π × 2⁻⁶⁰, from its output position (R321). -/
def axisTheta (s : State) (k : Nat) : Int :=
  let x := s.axis k
  let frac : Int := (((s.now - tickAt s.tick) * 2 ^ 32 / (5000 * nsF) : Nat) : Int)
  let p := x.prev + (x.pos - x.prev) * frac / 2 ^ 32
  (p % (1024 * 2 ^ 32)) * 2 * 2 ^ 60 / (1024 * 2 ^ 32)

/-- One winding's control step (R321, R322): current target and measured current in A, period in s. -/
def windingStep (s : State) (k : Nat) (target i per : Rat) (x : Winding) : Winding :=
  let r : Rat := (s.fld MOT_ID_RL_R [k] : Rat) / 1000
  let l : Rat := (s.fld MOT_ID_RL_L [k] : Rat) / 1000000
  let vb : Rat := (s.fld MOT_ID_VBUS_VBUS [k] : Rat) / 1000
  let e := x.d * vb - r * i - l * (i - x.i) / per
  let u := r * target + l * (target - i) / per + x.e
  let p : Rat := s.fld PWM_PR_PER_VALUE [4 * k]
  let top := (p - minOff s (4 * k)) / p
  let d := if vb = 0 then 0 else max (-top) (min top (u / vb))
  { i := i, d := d, e := e, sum := x.sum + e }

/-- Give a pair of the drive its duty, which its next reload puts into force (R321). -/
def setDuty (k : Nat) (d : Rat) (s : State) : State :=
  s.modPair k (fun x => { x with duty := some (ratRound (d * pairPer s k)).toNat })

/-- One PWM period of an integrated drive: both windings are regulated and their duties set (R321, R322). The pairs' outputs meet
the gates and the forces of 10 R306. -/
def drivePeriod (k : Nat) (per : Rat) (ia ib : Int) (s : State) : State :=
  let th := axisTheta s k
  let rest := (s.effMode = .stop || s.effMode = .safe) && standing (s.axis k)
  let amp : Rat := ((if s.isSet MOT_AX_STAT_HOLDCUR [k] || rest then s.fld MOT_ID_CUR_IHOLD [k]
    else s.fld MOT_ID_CUR_IRUN [k]) : Rat) / 1000
  let cur := fun (c : Int) => (max (-2048) (min 2047 c) : Rat) / 2048 * (s.fld MOT_ID_SNS_SCALE [k] : Rat) / 1000
  let cosv : Rat := (fxCosPi th : Rat) / 2 ^ 60
  let sinv : Rat := (fxCosPi (th - 2 ^ 59) : Rat) / 2 ^ 60
  let x := s.axis k
  let wa := windingStep s k (amp * cosv) (cur ia) per x.wa
  let wb := windingStep s k (amp * sinv) (cur ib) per x.wb
  let s := s.modAxis k (fun x => { x with wa := wa, wb := wb, nper := x.nper + 1 })
  let s := setDuty (4 * k) ((1 + wa.d) / 2) (setDuty (4 * k + 1) ((1 - wa.d) / 2) s)
  setDuty (4 * k + 2) ((1 + wb.d) / 2) (setDuty (4 * k + 3) ((1 - wb.d) / 2) s)

/-- DRIVE_PERIOD (R320 to R322): a period of integrated axis j; `ia` and `ib` are the codes of the current converters. -/
def execDrivePeriod (j : Fin 12) (ia ib : Int) (s : State) : Host.Outcome State Fault Refusal :=
  run [.mot] (fun s =>
    let k := j.val
    let per : Rat := (s.fld PWM_PR_PER_VALUE [4 * k] : Rat) * 15625 / 100000000000000
    if !(axisKind s k = kindInt && axisOn s k) || per = 0 then s else drivePeriod k per ia ib s) s

/-- Whether N ticks in a row have met the stall condition (R323). -/
def stallDue (s : State) (k : Nat) : Bool :=
  let n := s.fld MOT_ID_STALL_N [k]
  n ≠ 0 && n ≤ (s.axis k).stallN

/-- A stall (R323): the stall line asserts, STALLF is set, and the fault acts at the next tick. -/
def stall (k : Nat) (s : State) : State :=
  setSource (48 + k) true (hwFault k 3 (s.raise MOT_STAT_STALLF))

/-- STALL_DETECT (R323). -/
def execStallDetect (j : Fin 12) (s : State) : Host.Outcome State Fault Refusal :=
  run [.mot] (fun s => if stallDue s j.val then stall j.val s else s) s

/-- The estimates of the base tick that ends: load angle, against the output position at its end, and stall condition (R322,
R323). DEDUCED: log 222. -/
def driveLook (k : Nat) (s : State) : State :=
  let x := s.axis k
  if x.nper = 0 then s
  else
    let ea := x.wa.sum / x.nper
    let eb := x.wb.sum / x.nper
    let fx := fun (q : Rat) => ratRound (q * 2 ^ 40)
    let te := fxArg (fx ea) (fx eb)
    let sign : Int := if x.v < 0 then -1 else if x.v = 0 then 0 else 1
    let dir : Int := if x.v < 0 then -1 else 1
    let tr := te - sign * 2 ^ 59
    let th := (x.prev % (1024 * 2 ^ 32)) * 2 * 2 ^ 60 / (1024 * 2 ^ 32)
    let w := dir * (th - tr)
    let delta := 2 ^ 60 - (2 ^ 60 - w) % 2 ^ 61
    let mag := ea * ea + eb * eb
    let emin : Rat := (s.fld MOT_ID_VBUS_EMIN [k] : Rat) / 1000
    let s := s.setFld MOT_AX_LOAD_VALUE (ofInt 16 (max (-32768) (min 32767 (delta / 2 ^ 45)))) [k]
    let fast := (s.fld MOT_ID_STALL_MINSPD [k] : Rat) ≤ ratAbs x.v * 200000 / 256
    let bad := (s.fld MOT_ID_STALL_ANG [k] : Int) * 2 ^ 60 ≤ delta * 180 || mag < emin * emin
    let s := s.modAxis k (fun x => { x with nper := 0, wa := { x.wa with sum := 0 }, wb := { x.wb with sum := 0 },
                                            stallN := if fast && bad then x.stallN + 1 else 0 })
    if stallDue s k then stall k s else s

/-- IHOLD after 100 ms at standstill (R321). -/
def holdCurrent (k : Nat) (s : State) : State :=
  if axisKind s k = kindInt && axisOn s k && standing (s.axis k) && (s.axis k).since + 100000000 * nsF ≤ s.now then
    s.raise MOT_AX_STAT_HOLDCUR [k]
  else s

/-- HOLD_CURRENT (R321): integrated axis j reaches 100 ms at standstill. -/
def execHoldCurrent (j : Fin 12) (s : State) : Host.Outcome State Fault Refusal :=
  run [.mot] (fun s =>
    let k := j.val
    if axisKind s k = kindInt && axisOn s k && standing (s.axis k) then
      holdCurrent k (advanceTo ((s.axis k).since + 100000000 * nsF) s)
    else s) s

/-! ### Samples -/

/-- The segments of a VEL from (v0, a0) to `v` (R314, R315): a change of direction passes through standstill (R312). -/
def velMove (pr : Prof) (v0 a0 v : Rat) : List (Nat × Rat) :=
  let go := fun (v0 a0 v : Rat) =>
    let d : Rat := if v < 0 || (v = 0 && v0 < 0) then -1 else 1
    (velChange (d * v0) (d * a0) (d * v) pr.a pr.d pr.j).map (fun e => (e.1, d * e.2))
  if v0 * v < 0 then stopSegs v0 a0 pr.d pr.j ++ go 0 0 v else go v0 a0 v

/-- A move becomes current and is planned from the present sample (R314, R316). A REL whose target is not known takes it
from here; outside the range or the limits it fails TARGET_FAULT, and what the axis does goes on. -/
def makeCurrent (k : Nat) (m : Move) (s : State) : State :=
  let x := s.axis k
  let open_ := m.kind = 1 && m.target.isNone
  let m := if open_ then { m with target := some (x.pos + m.p0 * 2 ^ 32) } else m
  let pr := profOf s k m.prof
  if open_ && !(m.target.any (fun t => targetOk t && limitsOk s k t)) then reportMove k m codeTargetFault s
  else
    let s := match x.cur with
      | some c => reportMove k c codeSuperseded s
      | none => s
    if m.kind < 2 then
      let r := planMove pr x.v x.a 0 (toTarget x m)
      (setPlan k r.1 r.2 s).modAxis k (fun x => { x with cur := some m, goal := m.target })
    else
      let v : Rat := max (-pr.v) (min pr.v ((m.p0 : Rat) / 200000))
      (setPlan k (velMove pr x.v x.a v) 0 s).modAxis k (fun x => { x with cur := some m })

/-- A STOP that waits in the queue acts (R315): the interrupted and every other waiting move are SUPERSEDED. -/
def stopMove (k n : Nat) (s : State) : State :=
  let x := s.axis k
  match x.queue.find? (fun m => m.kind = 3) with
  | none => s
  | some st =>
    let others := x.queue.filter (fun m => m ≠ st)
    let s := s.modAxis k (fun x => { x with queue := [] })
    if standing x then
      let s := reportMoves k ((x.cur.toList ++ others).map (fun m => (m, codeSuperseded))) s
      s.modAxis k (fun x => { x with cur := none, due := x.due ++ [(n + 1, st, codeDone)] })
    else
      let s := reportMoves k (others.map (fun m => (m, codeSuperseded))) s
      if x.stop.isSome then s.modAxis k (fun x => { x with stop := some ((x.stop.getD []) ++ [(st, codeDone)]) })
      else beginStop k (x.cur.toList.map (fun m => (m, codeSuperseded)) ++ [(st, codeDone)]) s

/-- Whether waiting moves are held (R327: Hold with DBGHOLD). -/
def movesHeld (s : State) : Bool := s.effMode = .hold && s.isSet MOT_CTL_DBGHOLD

/-- The next move becomes current when none is, or behind a VEL (R316). -/
def nextMove (k : Nat) (s : State) : State :=
  let x := s.axis k
  if x.stop.isSome || movesHeld s then s
  else match x.queue with
  | [] => s
  | m :: rest =>
    if x.cur.all (fun c => c.kind = 2) then makeCurrent k m (s.modAxis k (fun x => { x with queue := rest })) else s

/-- The largest velocity from which a distance suffices to stop (R317). -/
def stopVelocity (pr : Prof) (d : Rat) : Rat :=
  bisect 40 pr.v (fun v => segDist (stopSegs v 0 pr.d pr.j) v 0 ≤ d)

/-- Blending (R317): at the tick at which the current plan would begin to decelerate. A blend that would pass a soft limit is a
LIMIT fault (R319). -/
def blend (k : Nat) (s : State) : State :=
  let x := s.axis k
  match x.cur, x.queue with
  | some c, m :: _ =>
    let dir : Rat := if x.v < 0 then -1 else 1
    let dist := dir * counts ((m.target.getD 0) - (c.target.getD 0))
    if c.kind < 2 && m.kind < 2 && m.target.isSome && s.isSet MOT_PF_CFG_BLEND [c.prof] && x.plan.t = x.plan.dec &&
        x.v ≠ 0 && x.stop.isNone && 0 < dist && !movesHeld s then
      if !limitsOk s k (m.target.getD 0) then detectFault k 0 s else
      let pn := profOf s k m.prof
      let vj := min (ratAbs x.v) (min pn.v (stopVelocity pn dist))
      let r := planMove (profOf s k c.prof) x.v x.a vj (toTarget x c)
      (setPlan k r.1 (segTicks r.1 + 1) s).raise MOT_AX_STAT_BLEND [k]
    else s
  | _, _ => s

/-- LIMIT (R319): a VEL that could no longer stop before a soft limit. -/
def limitLook (k : Nat) (s : State) : State :=
  let x := s.axis k
  if s.isSet MOT_AX_CFG_LIMEN [k] && x.stop.isNone && x.cur.any (fun m => m.kind = 2) && x.v ≠ 0 then
    let pr := curProf s k
    let st := stopSegs x.v x.a pr.d pr.j
    let stand := counts x.pos + 2 * x.v + segDist st x.v x.a
    let hi : Rat := sx 32 (s.reg MOT_AX_LIMHI [k]).toNat
    let lo : Rat := sx 32 (s.reg MOT_AX_LIMLO [k]).toNat
    if (0 < x.v && hi < stand) || (x.v < 0 && stand < lo) then detectFault k 0 s else s
  else s

/-- The plan has run out: a stop stands still, a move has its final sample, a VEL its speed (R315, R318). Reports follow at
tick `m + 1`. -/
def planEnd (k m : Nat) (s : State) : State :=
  let x := s.axis k
  match x.stop with
  | some l =>
    s.modAxis k (fun x => { x with stop := none, since := s.now, due := x.due ++ l.map (fun e => (m + 1, e.1, e.2)) })
  | none =>
    match x.cur with
    | none => s
    | some c =>
      if c.kind < 2 then
        let s := s.lower MOT_AX_STAT_BLEND [k]
        let s := s.modAxis k (fun x => { x with cur := none, since := s.now })
        let s := if axisKind s k = kindServo then s.modAxis k (fun x => { x with servo := x.servo ++ [(m + 1, c)] })
          else s.modAxis k (fun x => { x with due := x.due ++ [(m + 1, c, codeDone)] })
        nextMove k s
      else if c.told then s
      else s.modAxis k (fun x =>
        { x with due := x.due ++ [(m + 1, c, codeDone)],
                 cur := if x.v = 0 then none else some { c with told := true } })

/-- Phase 4 of tick n for axis k: faults and stops act, moves become current, and sample s(n + 1) is computed (R311). -/
def motCompute (k n : Nat) (s : State) : State :=
  if !axisOn s k || !motionMode s then s.modAxis k (fun x => { x with prev := x.pos })
  else
    let s := actFaults k n s
    let s := if movesHeld s && !standing (s.axis k) && (s.axis k).stop.isNone then stopRequest k codeAborted true s else s
    let s := blend k (nextMove k (stopMove k n s))
    let x := s.axis k
    let t := x.plan.t + 1
    let y := runSegs x.plan.segs t (x.plan.p, x.plan.v, x.plan.a)
    let tot := segTicks x.plan.segs
    let busy := x.cur.isSome || x.stop.isSome
    let s := if busy then
        s.modAxis k (fun x => { x with prev := x.pos, pos := ratRound (y.1 * 2 ^ 32), v := y.2.1, a := y.2.2,
                                       plan := { x.plan with t := t } })
      else s.modAxis k (fun x => { x with prev := x.pos })
    let s := if busy && tot ≤ t then planEnd k (n + 1) s else s
    let s := if standing (s.axis k) then s else s.lower MOT_AX_STAT_HOLDCUR [k]
    axisStatus k (holdCurrent k (limitLook k s))

/-- AX_DIR of a STEPDIR axis changes at T(n) when the output, which then stands at the sample with v = 0, starts the other way
(R312). -/
def dirLook (k n : Nat) (s : State) : State :=
  let x := s.axis k
  let neg := decide (x.pos < x.prev)
  if axisKind s k ≠ kindStep || x.pos = x.prev || neg = x.neg then s
  else (s.ball .dirOut k (b2n (neg != !s.isSet MOT_AX_CFG_POLDIR [k]))).modAxis k (fun x => { x with neg := neg, dirAt := tickAt n })

/-- Phase 3 of tick n for axis k, after the last item: signals, reports due, feedback (R313, R315, R324). -/
def motPublish (k n : Nat) (s : State) : State :=
  let due := (s.axis k).due.filter (fun e => e.1 ≤ n)
  let s := s.modAxis k (fun x => { x with due := x.due.filter (fun e => n < e.1) })
  let s := reportMoves k (due.map (fun e => (e.2.1, e.2.2))) s
  if !axisOn s k then s
  else
    let s := if axisKind s k = kindServo then servoLook k n s
      else if axisKind s k = kindInt then driveLook k s else dirLook k n s
    if s.isSet MOT_AX_SID_EN [k] then
      let b := s.fld MOT_AX_SID_BASE [k]
      let x := s.axis k
      ((s.setSig b (ofInt 32 (ratRound (counts x.pos))) 0 n).setSig (b + 1) (ofInt 32 (ratRound (x.v * 200000))) 0 n).setSig
        (b + 2) (s.fld MOT_AX_LOAD_VALUE [k]) 0 n
    else s

/-- Every axis in Phase 3 of tick n. -/
def motPhase3 (n : Nat) (s : State) : State :=
  (List.range 64).foldl (fun s k => motPublish k n s) (gateFaults (driveFaults s))

/-- Every axis in Phase 4 of tick n. -/
def motPhase4 (n : Nat) (s : State) : State := (List.range 64).foldl (fun s k => motCompute k n s) s

/-! ### Steps -/

/-- The next step of a STEPDIR axis, at the instant at which its position crosses half a count, on an edge of CK_PWM, and not less
than DIRSU after a change of AX_DIR (R312). The pulse shows as its two edges. -/
def issueStep (k : Nat) (s : State) : State :=
  let s := dirLook k s.tick s
  let x := s.axis k
  let one : Int := if x.pos < x.prev then -1 else 1
  let half := (2 * x.steps + one) * 2 ^ 31
  let at_ := tickAt s.tick + ((half - x.prev) * (5000 * nsF : Nat) / (x.pos - x.prev)).toNat
  let s := advanceTo (clkUp (max at_ (x.dirAt + s.fld MOT_AX_IO_DIRSU [k] * 10 * nsF))) s
  let act := !s.isSet MOT_AX_CFG_POLSTEP [k]
  ((s.ball .stepOut k (b2n act)).ball .stepOut k (b2n !act)).modAxis k (fun x => { x with steps := x.steps + one })

/-- STEP_ISSUE (R311, R312): the output of STEPDIR axis k crosses its next half count in this base tick. -/
def execStepIssue (k : Fin 64) (s : State) : Host.Outcome State Fault Refusal :=
  run [.mot] (fun s =>
    let k := k.val
    let x := s.axis k
    if axisKind s k ≠ kindStep || !axisOn s k || axisSto s k || ratRound (counts x.pos) = x.steps ||
      x.pos = x.prev then s
    else issueStep k s) s

/-! ### Registers -/

/-- The four pairs of an integrated axis start or stop: in MODE 4 they run from the next edge of CK_PWM on (R320). -/
def restartPairs (k : Nat) (s : State) : State :=
  let from' := if (s.axis k).modes.isSome then some (clkUp s.now) else none
  (List.range 4).foldl (fun s i =>
    let p := 4 * k + i
    pairRefresh p ((s.lower PWM_PR_STAT_RUN [p]).modPair p (fun x =>
      { x with run := false, first := from', commits := [], duty := none, restart := none }))) s

/-- An integrated axis takes its four pairs into MODE 4, or gives them back (R320). -/
def takePairs (k : Nat) (s : State) : State :=
  let want := axisKind s k = kindInt && axisOn s k
  match (s.axis k).modes with
  | none =>
    if want then
      let old := (List.range 4).map (fun i => s.fld PWM_PR_CFG_MODE [4 * k + i])
      let s := (List.range 4).foldl (fun s i => s.setFld PWM_PR_CFG_MODE 4 [4 * k + i]) s
      restartPairs k (s.modAxis k (fun x => { x with modes := some old }))
    else s
  | some old =>
    if want then s
    else
      let s := (List.range 4).foldl (fun s i => s.setFld PWM_PR_CFG_MODE (nth old i 0) [4 * k + i]) s
      restartPairs k (s.modAxis k (fun x => { x with modes := none, off := false }))

/-- After the settings have been loaded, and at the end of a reset: every integrated axis takes its pairs or gives them back, those
that it holds start, and AX_EN shows. -/
def axesConfigured (s : State) : State :=
  let s := (List.range 12).foldl (fun s k =>
    let s := takePairs k s
    if (s.axis k).modes.isSome then restartPairs k s else s) s
  (List.range 64).foldl (fun s k => axisEnPin k s) s

/-- The rule of MOT_AX_k_CFG (R309). Disabling an axis ends its moves. -/
def axCfgAct : Act := fun _ ix w s =>
  let k := ix.headD 0
  if MOT_AX_CFG_KIND.of w = 2 && 12 ≤ k then .badValue s
  else
    let was := axisOn s k
    let old := s
    let s := s.store MOT_AX_CFG ix w
    let s := if was && !axisOn s k then endMoves k codeTargetFault s else s
    let pol := fun (f : Fld) (s : State) => s.isSet f ix
    let s := if pol MOT_AX_CFG_POLSTEP s = pol MOT_AX_CFG_POLSTEP old then s
      else s.ball .stepOut k (b2n (pol MOT_AX_CFG_POLSTEP s))
    let s := if pol MOT_AX_CFG_POLDIR s = pol MOT_AX_CFG_POLDIR old then s
      else s.ball .dirOut k (b2n ((s.axis k).neg != !pol MOT_AX_CFG_POLDIR s))
    .ok (axisEnPin k (axisStatus k (takePairs k s)))

/-- The rule of MOT_AX_k_IO: STEPW outside 20 to 10,000 is refused except on a SERVO axis. -/
def axIoAct : Act := fun _ ix w s =>
  let wd := bits w.toNat 13 0
  if axisKind s (ix.headD 0) ≠ kindServo && (wd < 20 || 10000 < wd) then .badValue s else .ok (s.store MOT_AX_IO ix w)

/-- Whether the cause of fault bit b has gone (R319). -/
def causeGone (s : State) (k b : Nat) : Bool :=
  match b with
  | 1 => (followErr s k).natAbs ≤ s.fld MOT_AX_FERR_LIM [k]
  | 2 => fbQual s k ≠ 2
  | 4 => (List.range 4).all (fun i => !s.isSet PWM_PR_STAT_LATCHOFF [4 * k + i])
  | 5 => (s.axis k).gate
  | _ => true

/-- FCLR at standstill (R319, R323, R325). -/
def faultClear (k : Nat) (s : State) : State :=
  if !standing (s.axis k) then s
  else
    let f := s.fld MOT_AX_STAT_FAULT [k]
    let left := (List.range 6).filter (fun b => bit f b && !causeGone s k b)
    let s := s.setFld MOT_AX_STAT_FAULT (left.foldl (fun a b => a + 2 ^ b) 0) [k]
    let s := if bit f 3 then setSource (48 + k) false (s.modAxis k (fun x => { x with stallN := 0 })) else s
    let s := if (s.axis k).gate then s.lower MOT_AX_STAT_STO [k] else s
    let s := s.modAxis k (fun x => { x with off := x.off && left.any (fun b => b = 3 || b = 4) })
    let s := if axisKind s k = kindInt then windings k s else s
    axisEnPin k (axisStatus k s)

/-- The rule of MOT_AX_k_CMD: STOP, FCLR, then SETPOS, which is refused unless the axis stands still with an empty
queue (R318, R319, R327). -/
def axCmdAct : Act := fun _ ix w s =>
  let k := ix.headD 0
  let x := s.axis k
  if MOT_AX_CMD_SETPOS.on w && !(standing x && x.cur.isNone && x.queue.isEmpty) then .badState s
  else
    let s := if MOT_AX_CMD_STOP.on w then stopRequest k codeAborted false s else s
    let s := if MOT_AX_CMD_FCLR.on w then faultClear k s else s
    .ok (if MOT_AX_CMD_SETPOS.on w then
      let p := sx 32 (s.reg MOT_AX_SETPOS ix).toNat
      axisStatus k ((s.lower MOT_AX_STAT_UNREF ix).modAxis k (fun x =>
        { x with pos := p * 2 ^ 32, prev := p * 2 ^ 32, steps := p, plan := {} }))
      else s)

/-- AXIS_STOP: writing MOT_AX_k_CMD.STOP (R318). -/
def execAxisStop (m : Master) (k : Fin 64) (s : State) : Host.Outcome State Fault Refusal :=
  run [.mot] (regCmd axCmdAct m MOT_AX_CMD [k.val] 1) s

/-- FCLR: writing MOT_AX_k_CMD.FCLR (R319). -/
def execFclr (m : Master) (k : Fin 64) (s : State) : Host.Outcome State Fault Refusal :=
  run [.mot] (regCmd axCmdAct m MOT_AX_CMD [k.val] 2) s

/-- SETPOS: writing MOT_AX_k_CMD.SETPOS (R327). -/
def execSetpos (m : Master) (k : Fin 64) (s : State) : Host.Outcome State Fault Refusal :=
  run [.mot] (regCmd axCmdAct m MOT_AX_CMD [k.val] 4) s

/-- A profile limit of 0 is refused (R328). -/
def profAct (r : Reg) : Act := fun _ ix w s => if w = 0 then .badValue s else .ok (s.store r ix w)

/-- A drive limit field of 0 is refused: the fields of MOT_ID_j (R328); N is 1 to 255 and ANG 1 to 180. -/
def driveAct (r : Reg) : Act := fun _ ix w s =>
  let lo := bits w.toNat 15 0
  let hi := bits w.toNat 31 16
  if lo = 0 || (hi = 0 && r ≠ MOT_ID_SNS) then .badValue s
  else if r = MOT_ID_STALL && (MOT_ID_STALL_N.of w = 0 || MOT_ID_STALL_ANG.of w = 0 || 180 < MOT_ID_STALL_ANG.of w) then
    .badValue s
  else .ok (s.store r ix w)

/-- nRESET (R327): steps stop, positions survive, UNREF is set on axes that were moving; the moves in flight that were
pushed are reported RESTARTED at the first tick. -/
def motNreset (s : State) : State :=
  (List.range 64).foldl (fun s k =>
    let x := s.axis k
    let l := x.cur.toList ++ x.queue ++ (x.stop.getD []).map (·.1) ++ x.servo.map (·.2)
    let moved := !standing x
    let s := s.modAxis k (fun x =>
      { pos := x.pos, prev := x.pos, steps := x.steps, neg := x.neg, gate := x.gate, modes := x.modes, off := x.off,
        due := (x.due.filter (fun e => e.2.1.act.isNone)).map (fun e => (0, e.2)) ++
          (l.filter (fun m => m.act.isNone && !m.told)).map (fun m => (0, m, codeRestarted)) })
    if moved then s.raise MOT_AX_STAT_UNREF [k] else s) s

/-- POR, FEED (R327): positions 0, nothing in the queues; UNREF is the reset value. The gate lines stay. -/
def motClear (s : State) : State := { s with axes := (motNreset s).axes.map (fun x => { gate := x.gate, due := x.due }) }

end Sys2Proof.Machine
end

