-- ==== Sys2Proof/Machine/RcpEngine.lean ====
section
/-!
DEFINITION. The recipe engine at work (04): transitions, commits of action groups, aborts, evaluation, the journal and the
resume, behaviour in the modes.
-/
namespace Sys2Proof.Machine

/-! ### Thread registers -/

/-- Put a thread into a state. -/
def State.setThr (s : State) (n st : Nat) : State := s.setFld RCP_THR_STATE_STATE st [n]

/-- LEAD of thread n. -/
def leadOf (s : State) (n : Nat) : Nat := s.fld RCP_THR_OPT_LEAD [n]

/-- TIS of a thread at tick n (R129, R146, R149). -/
def tisAt (t : Thread) (n : Nat) : Nat := min 0xFFFFFFFF (((((n - t.commit) / 2 : Nat) : Int) + t.ofs).toNat)

/-- The thread cannot continue (R130, R149). -/
def thrFault (n : Nat) (s : State) : State :=
  let s := (s.setThr n thrFaulted).modThread n (fun t => { t with dec := none, causes := [] })
  (s.setFld RCP_THR_STEP_STEP 0xFFFF [n]).emitUnit 5 .rcp n RCP_THR_STATE [n]

/-- An abort cause becomes pending (R118, R141). -/
def addCause (n c : Nat) (s : State) : State :=
  if s.thrState n ≠ thrRunning && s.thrState n ≠ thrPending then s
  else if (c = 1 || c = 8) && s.isSet RCP_THR_STATE_INABORT [n] then s
  else s.modThread n (fun t => { t with causes := t.causes ++ [c] })

/-! ### Transitions (R130) -/

/-- The records of step k of thread n. -/
def stepRecs (s : State) (n k : Nat) : List Nat :=
  let a := stepAddr s n k
  (List.range (hRecords (recAt s a 0))).map (recAt s a)

/-- The action records of a step's records. -/
def actRecs (recs : List Nat) : List Nat :=
  let h := nth recs 0 0
  (recs.drop (1 + hNcond h)).take (hNact h)

/-- The branch records of a step's records. -/
def brRecs (recs : List Nat) : List Nat :=
  let h := nth recs 0 0
  (recs.drop (1 + hNcond h + hNact h)).take (hNbr h)

/-- The actions that a resume re-commits (R149). -/
def recommits (r : Nat) : Bool := [1, 2, 3, 4, 6, 9].contains (aClass r)

/-- Whether an entry issues an action. -/
def entryIssues (e : Entry) (r : Nat) : Bool :=
  match e with
  | .resume _ _ _ => recommits r
  | _ => true

/-- The step instance count that an entry gives. -/
def entrySeq (s : State) (n : Nat) (e : Entry) : Nat :=
  let q := (s.reg RCP_THR_SEQ [n]).toNat
  match e with
  | .resume _ _ _ => q
  | _ => (q + 1) % 2 ^ 32

/-- Hand a decided group's REMOTE actions to the port (R138): each gets its slot, and its outcome when it is known. -/
def handRemote (n k tick : Nat) (e : Entry) (s : State) (p : Nat × Nat) : State :=
  let r := p.1
  if aClass r ≠ 2 || !entryIssues e r then s
  else
    let st := rParam r
    let port := st / 64
    let id := s.rcp.nextId
    let fast := leadOf s n * 5000 < 5000 + periodNs s port + s.fld RIO_P_BND_DBND [port] * 1000
    let h := if fast then (some codeBudget, s)
      else rioHandover st (bits (rW0 r) 9 0) (bits (rW0 r) 11 10 + 1) (rW1 r) (rW2 r) (tickAt tick) id s
    let a : ActSlot := { id := id, thread := n, act := p.2, step := k, seq := entrySeq s n e, cls := 2, sub := 0, tgt := st,
                         ctick := tick, failAbort := aFailAbort r, res := e ≠ .normal, committed := false, early := h.1 }
    { h.2 with rcp := { h.2.rcp with nextId := id + 1, slots := h.2.rcp.slots ++ [a] } }

/-- A transition to a fetched step, or to the end of the thread, is decided at tick n (R130). -/
def decided (thr n : Nat) (tgt : Option Nat) (e : Entry) (ab : Bool) (s : State) : State :=
  let c := n + leadOf s thr
  let recs := match tgt with
    | some k => stepRecs s thr k
    | none => []
  let s := (s.setThr thr thrPending).modThread thr (fun t =>
    { t with dec := some { target := tgt, at_ := c, entry := e, abort := ab, recs := recs } })
  let s := s.setFld RCP_THR_STEP_NEXT (tgt.getD 0) [thr]
  match tgt with
  | some k => (actRecs recs).zipIdx.foldl (handRemote thr k c e) s
  | none => s

/-- The abort branch of a step whose header is given (R140). -/
def abortBranch (thr n cause head : Nat) (s : State) : State :=
  let s := (s.setFld RCP_THR_STATE_CAUSE cause [thr]).raise RCP_THR_STATE_INABORT [thr]
  let s := if cause = 2 then s.setFld RCP_THR_STATE_FAILACT (s.thread thr).failed [thr] else s
  let s := s.modThread thr (fun t => { t with causes := [] })
  if hAend head then decided thr n none .normal true s
  else if fetchable s thr (hAbort head) then decided thr n (some (hAbort head)) .normal true s
  else thrFault thr (s.setFld RCP_THR_STATE_CAUSE 5 [thr])

/-- A transition to a target; a target that cannot be fetched takes the abort branch with cause CHECK (R130). -/
def transition (thr n : Nat) (tgt : Option Nat) (e : Entry) (s : State) : State :=
  match tgt with
  | none => decided thr n none e false s
  | some k =>
    if fetchable s thr k then decided thr n (some k) e false s
    else abortBranch thr n 5 (nth (s.thread thr).recs 0 0) s

/-- One command acts on a thread at even tick n (R118). -/
def obey (n thr : Nat) (s : State) (c : Nat × Nat) : State :=
  match c.1 with
  | 1 =>
    if !(s.thrState thr = thrIdle || s.thrState thr = thrEnded) || !(s.effMode = .run || s.effMode = .trial) then s
    else
      let s := ((s.lower RCP_THR_STATE_INABORT [thr]).lower RCP_THR_STATE_CAUSE [thr]).lower RCP_THR_STATE_FAILACT [thr]
      let s := s.modThread thr (fun t =>
        { t with causes := [], dec := none, recs := [], outs := [], dets := [] })
      let s := s.clearLctr thr
      if fetchable s thr c.2 then decided thr n (some c.2) .normal false s
      else thrFault thr (s.setFld RCP_THR_STATE_CAUSE 5 [thr])
  | 2 => addCause thr 1 s
  | _ => if s.thrState thr = thrEnded || s.thrState thr = thrFaulted then s.setThr thr thrIdle else s

/-- The commands that wait for a thread act at an even tick, in the order of their acceptance (R118). -/
def actCommand (n : Nat) (s : State) (thr : Nat) : State :=
  (s.thread thr).cmds.foldl (obey n thr) (s.modThread thr (fun t => { t with cmds := [] }))

/-! ### Actions (R137) -/

/-- A LOOP action (06 R190 to R194). -/
def actLoop (r id : Nat) (s : State) : Option Nat × State :=
  let n := rParam r
  if !s.loopBound n then (some codeTargetFault, s)
  else match aSub r with
  | 0 => (some 0, liveApply s (LOOP_SPT.addr [n], 0xFFFFFFFF, rW0 r))
  | 1 =>
    let s := liveApply s (LOOP_SPT.addr [n], 0xFFFFFFFF, rW0 r)
    let d := s.loopDyn n
    let p := max 1 (s.fld LOOP_CLS_PER_PER [loopClass s n])
    (none, s.setLoopDyn n { d with r := max 1 (ceilDiv (2 * rW1 r) p), rst := true, ss := false, newSS := true, ramp := some id })
  | 2 => (some 0, s.setLoopBit LOOP_EN_EN n true)
  | 3 => (some 0, s.setLoopBit LOOP_EN_EN n false)
  | 4 => (some 0, (liveApply s (LOOP_MAN.addr [n], 0xFFFFFFFF, rW0 r)).setLoopBit LOOP_AUTO_AUTO n false)
  | _ => (some 0, s.setLoopBit LOOP_AUTO_AUTO n true)

/-- A LOCAL action: every masked output lies in static level mode, behind a high gate line (R137). -/
def actLocal (r : Nat) (s : State) : Option Nat × State :=
  let g := rParam r
  let ks := (List.range 16).filter (fun i => bits (rW2 r) (2 * i + 1) (2 * i) ≠ 0)
  if ks.any (fun i => pairMode s (16 * g + i) ≠ 3) then (some codeArgument, s)
  else if ks.any (fun i => !bit s.pwm.gate (16 * g + i)) then (some codeSafetyVeto, s)
  else (some 0, setLevels g (rW2 r) (rW1 r) s)

/-- A BEACON action `id`: the first edge falls P0 ns after T(C) (R124, 03 R104); it takes the Beacon from other actions and
stays in flight until that edge (R137). -/
def actBeacon (r id n : Nat) (s : State) : Option Nat × State :=
  let b := rParam r
  let per := rW1 r * nsF
  let wid := rW2 r % 65536 * nsF
  if beaconBad per wid then (some codeArgument, s)
  else (none, beaconArm b (tickAt n + rW0 r * nsF, per, wid) (beaconOthers b id codeSuperseded s))

/-- A THREAD action. -/
def actThread (r : Nat) (s : State) : Option Nat × State :=
  let t := rParam r
  if aSub r = 0 then
    if startable s t then (some 0, s.queueCmd t (1, bits (rW0 r) 12 0))
    else (some codeBusy, s)
  else (some 0, addCause t 8 s)

/-- The bytes of a REMOTE action `id` enter the master's output image, whatever its report, but for a write that runs past the
station's image (09 R274, R283). DEDUCED: log 218. -/
def remoteBytes (r id : Nat) (s : State) : State :=
  if (s.rcp.slots.find? (fun a => a.id = id)).bind (·.early) = some codeArgument then s
  else rioCommit (rParam r) (bits (rW0 r) 9 0) (bits (rW0 r) 11 10 + 1) (rW1 r) (rW2 r) id s

/-- Issue an action with identifier `id` in Phase 1 of tick n: the code known at once, or none while it is in flight. -/
def actIssue (r id n : Nat) (s : State) : Option Nat × State :=
  match aClass r with
  | 1 => actLoop r id s
  | 2 => ((s.rcp.slots.find? (fun a => a.id = id)).bind (·.early), remoteBytes r id s)
  | 3 => actLocal r s
  | 4 => pwmAction (rParam r) (rW0 r) (rW1 r) id s
  | 5 =>
    let m : Move := { kind := aSub r, p0 := sx 32 (rW0 r), prof := bits (rW1 r) 3 0, tag := 0, act := some id, atick := n,
                      target := none, told := false }
    match moveRefused s (rParam r) m with
    | some code => (some code, s)
    | none => (none, pushMove (rParam r) m s)
  | 6 => (some 0, dacPut (rParam r) (rW0 r % 65536) 40 false s)
  | 7 => if s.hasCredit 24 then (none, s.sendToken 24 (.arm (rParam r) id))
         else (some codeNoResource, s.sendToken 24 (.arm (rParam r) id))
  | 8 => actBeacon r id n s
  | 9 => (some 0, s.setSig (bits (rW0 r) 17 0) (rW1 r) (rW2 r % 65536) n)
  | _ => actThread r s

/-- Commit one action of a group (R136, R137): `sup` when a higher thread overrides every element that it keys. -/
def commitAct (thr k seq n : Nat) (res sup : Bool) (s : State) (p : Nat × Nat) : State :=
  let r := p.1
  let old := s.rcp.slots.find? (fun a => a.thread = thr && a.act = p.2 && a.seq = seq && !a.committed)
  let id := match old with
    | some a => a.id
    | none => s.rcp.nextId
  let a : ActSlot := { id := id, thread := thr, act := p.2, step := k, seq := seq, cls := aClass r, sub := aSub r,
                       tgt := rParam r, ctick := n, failAbort := aFailAbort r, res := res, committed := true,
                       early := old.bind (·.early) }
  let full := 4096 ≤ (s.rcp.slots.filter (·.committed)).length
  let s := { s with rcp := { s.rcp with nextId := max s.rcp.nextId (id + 1),
                                        slots := s.rcp.slots.filter (fun (x : ActSlot) => x.id ≠ id) ++ [a] } }
  let s := syncInflight ((s.incr RCP_ISSUED_COUNT).incr RCP_THR_INFL_COUNT [thr])
  let s := if aClass r = 2 && (full || sup) then remoteBytes r id s else s
  if full then reportSlot a codeNoResource s
  else if sup then reportSlot a codeSuperseded s
  else
    let x := actIssue r id n s
    match x.1 with
    | none => x.2
    | some code => if code = codeSafetyVeto then rcpOutcome id code x.2 else rcpReport id code x.2

/-- The mask that the actions of higher threads' groups put on a key. -/
def keyMask (acts : List Nat) (k : Nat × Nat) : Nat :=
  acts.foldl (fun m r => match actKey r with
    | some (k', m') => if k' = k then m ||| m' else m
    | none => m) 0

/-- Whether higher threads' actions override every element of an action (R136). -/
def overridden (higher : List Nat) (r : Nat) : Bool :=
  match actKey r with
  | some (k, m) => m ≠ 0 && (m &&& keyMask higher k) = m
  | none => false

/-! ### Aborts (R142) -/

/-- A cancelled ramp holds its present setpoint (R142, 06 R192). -/
def cancelRamp (n : Nat) (s : State) : State :=
  let d := s.loopDyn n
  let s := s.setReg LOOP_SPT (s.reg LOOP_SP [n]) [n]
  s.setLoopDyn n { d with r := 0, rst := false, ramp := none, newR := true, dirty := LOOP_SPT.addr [n] :: d.dirty }

/-- Cancel one action in flight (R142): a MOVE is reported at standstill, the others now; a REMOTE write goes on. -/
def cancelSlot (s : State) (a : ActSlot) : State :=
  match a.cls with
  | 1 => reportSlot a codeAborted (cancelRamp a.tgt s)
  | 5 => abortMove a.id s
  | 7 => reportSlot a codeAborted (acqDisarm a.tgt s)
  | 8 => reportSlot a codeAborted (beaconDisarm a.tgt s)
  | _ => s

/-- ABORT_CANCEL: a thread's in-flight actions when its abort branch commits (R142). -/
def abortCancel (thr : Nat) (s : State) : State := (slotsWhere s (fun a => a.thread = thr)).foldl cancelSlot s

/-! ### Commit (R136) -/

/-- A thread enters the step of its decision, or ends. -/
def enterStep (thr n : Nat) (d : Decision) (s : State) : State :=
  let s := if d.abort then abortCancel thr s else s
  match d.target with
  | none =>
    let s := (s.setThr thr thrEnded).modThread thr (fun t => { t with dec := none, causes := [], recs := [], commit := n })
    s.setFld RCP_THR_STEP_STEP 0xFFFF [thr]
  | some k =>
    let seq := entrySeq s thr d.entry
    let s := (s.setThr thr thrRunning).modThread thr (fun t =>
      let t := { t with dec := none, recs := d.recs, commit := n, ofs := 0, dets := [], outs := [] }
      match d.entry with
      | .resume tis dets outs => { t with ofs := tis, dets := dets, outs := outs }
      | _ => t)
    let s := (s.setFld RCP_THR_STEP_STEP k [thr]).setReg RCP_THR_SEQ (BitVec.ofNat 32 seq) [thr]
    s.setReg RCP_THR_TIS (BitVec.ofNat 32 (tisAt (s.thread thr) n)) [thr]

/-- A ramp that a resume re-commits keeps its remaining duration (R149). -/
def rampRest (e : Entry) (r : Nat) : Nat :=
  match e with
  | .resume tis _ _ => if aClass r = 1 && aSub r = 1 then putBits r 95 64 (max 1 (rW1 r - tis)) else r
  | _ => r

/-- The groups that commit at tick n, in ascending thread order (R136). -/
def dueGroups (n : Nat) (s : State) : List (Nat × Decision) :=
  (List.range 64).filterMap (fun thr =>
    if s.thrState thr ≠ thrPending then none
    else match (s.thread thr).dec with
    | some d => if d.at_ ≤ n then some (thr, d) else none
    | none => none)

/-- One group commits; `higher` are the actions of the groups of higher threads. -/
def commitOne (n thr : Nat) (d : Decision) (higher : List Nat) (s : State) : State :=
  let s := enterStep thr n d s
  match d.target with
  | none => s
  | some k =>
    let seq := (s.reg RCP_THR_SEQ [thr]).toNat
    (actRecs d.recs).zipIdx.foldl (fun s p =>
      if entryIssues d.entry p.1 then
        commitAct thr k seq n (d.entry ≠ .normal) (overridden higher p.1) s (rampRest d.entry p.1, p.2)
      else s) s

/-- STEP_COMMIT: the groups due at tick n commit (R136). -/
def commitDue (n : Nat) (gs : List (Nat × Decision)) (s : State) : State :=
  match gs with
  | [] => s
  | g :: rest =>
    let higher := rest.flatMap (fun h => (actRecs h.2.recs).filter (entryIssues h.2.entry))
    commitDue n rest (commitOne n g.1 g.2 higher s)

/-! ### The journal (R147, R148) -/

/-- Where the journal slots of thread n lie (18 R521). -/
def journalAt (n k : Nat) : Nat := 0x21A00000 + 256 * n + 128 * k

/-- Whether a slot holds a valid record. -/
def journalOk (s : State) (n k : Nat) : Bool :=
  let a := journalAt n k
  s.peek a 4 = 0x4A52564B && s.peek (a + 124) 4 = crc32 (s.bytes a 124)

/-- The slot of the valid record with the greater JSEQ. -/
def journalBest (s : State) (n : Nat) : Option Nat :=
  match journalOk s n 0, journalOk s n 1 with
  | true, true => some (if s.peek (journalAt n 0 + 4) 4 < s.peek (journalAt n 1 + 4) 4 then 1 else 0)
  | true, false => some 0
  | false, true => some 1
  | false, false => none

/-- A detector as the journal holds it. -/
def detWord (r : Nat) (d : Detector) : Nat :=
  match cKind r with
  | 5 => b2n d.armed * 2 ^ 63 + min 65535 d.count
  | 6 => ofInt 64 d.sum
  | _ => 0

/-- The endpoint detectors of a step, in condition order. -/
def detConds (recs : List Nat) : List (Nat × Nat) :=
  let h := nth recs 0 0
  (((recs.drop 1).take (hNcond h)).zipIdx.filter (fun p => [4, 5, 6].contains (cKind p.1)))

/-- OPEN: the actions of the step instance that are not reported. -/
def openMask (t : Thread) : Nat :=
  (List.range (hNact (nth t.recs 0 0))).foldl (fun m i => if t.outs.any (fun o => o.1 = i) then m else m + 2 ^ i) 0

/-- The record of thread n at tick `tick`, and its address (R148). -/
def journalRecord (s : State) (n tick : Nat) : Nat × List Byte :=
  let t := s.thread n
  let best := journalBest s n
  let k := match best with
    | some b => 1 - b
    | none => 0
  let seq := match best with
    | some b => s.peek (journalAt n b + 4) 4 + 1
    | none => 1
  let tis := if s.thrState n = thrRunning then tisAt t tick else (s.reg RCP_THR_TIS [n]).toNat
  let dets := ((detConds t.recs).take 4).map (fun p => detWord p.1 (nth t.dets p.2 {}))
  let body := leBytes 4 0x4A52564B ++ leBytes 4 seq ++ leBytes 1 n ++
    leBytes 1 (s.thrState n + 8 * s.fld RCP_THR_STATE_INABORT [n]) ++ leBytes 2 (stepValue s n) ++
    leBytes 4 (s.reg RCP_THR_SEQ [n]).toNat ++ leBytes 12 (time96 (tickAt t.commit)) ++ leBytes 12 (time96 (tickAt tick)) ++
    leBytes 4 tis ++ (List.range 8).flatMap (fun j => leBytes 2 (s.lctr n j)) ++
    (List.range 4).flatMap (fun j => leBytes 8 (nth dets j 0)) ++ leBytes 8 (openMask t) ++ leBytes 4 t.rcrc ++ leBytes 20 0
  (journalAt n k, body ++ leBytes 4 (crc32 body))

/-- The threads that the journal follows. -/
def journalled (s : State) : List Nat := (List.range 64).filter (fun n => s.thrState n ≠ thrIdle)

/-- Capture the records of some threads at tick n (R147): the set joins one of the same tick, and is skipped when an
earlier one is not written yet. -/
def journalCapture (ts : List Nat) (n : Nat) (s : State) : State :=
  if ts.isEmpty then s
  else match s.rcp.jset with
  | some l =>
    if s.rcp.lastJ = n then
      let new := ts.map (fun t => journalRecord s t n)
      { s with rcp := { s.rcp with jset := some (l.filter (fun e => !new.any (fun x => x.1 = e.1)) ++ new) } }
    else (s.incr RCP_JSKIP_COUNT).raise RCP_STAT_JSKIPF
  | none => { s with rcp := { s.rcp with jset := some (ts.map (fun t => journalRecord s t n)), lastJ := n } }

/-- A journal record reaches its slot, unless a later one of the same number stands there (R147, 19 R532). -/
def putJournal (r : Nat × List Byte) (s : State) : State :=
  if s.peek (r.1 + 4) 4 = ofLE ((r.2.drop 4).take 4) && ofTime96 (ofLE ((r.2.drop 28).take 12)) < ofTime96 (s.peek (r.1 + 28) 12) then s
  else s.setBytes r.1 r.2

/-- The captured records reach the MRAM. -/
def journalWrite (s : State) : State :=
  match s.rcp.jset with
  | none => s
  | some l =>
    let s := { s with rcp := { s.rcp with jset := none,
                                          wrote := l.foldl (fun w (e : Nat × List Byte) =>
                                            let n := (e.1 - 0x21A00000) / 256
                                            if w.contains n then w else n :: w) s.rcp.wrote } }
    if s.domOn 2 then l.foldl (fun s e => putJournal e s) s else s

/-- The retention commit journals every non-IDLE thread at once (R147, 19 R532). -/
def journalNow (s : State) : State :=
  let s := journalWrite s
  let s := (journalCapture (journalled s) s.tick s)
  journalWrite s

/-- JOURNAL_WRITE: the records captured at a commit tick or at a tick divisible by 200 are written (R147). -/
def execJournalWrite (s : State) : Host.Outcome State Fault Refusal := run [.rcp, .nvm] journalWrite s

/-- Whether the engine evaluates and commits in the present mode (R146). -/
def rcpRuns (s : State) : Bool :=
  match s.effMode with
  | .run | .trial | .hold => true
  | _ => false

/-- Phase 1 of tick n: the writes of a set 100 µs old are complete; groups commit and are journalled (R136, R147). -/
def rcpPhase1 (n : Nat) (s : State) : State :=
  let s := if s.rcp.lastJ + 20 ≤ n then journalWrite s else s
  if !rcpRuns s then s
  else
    let gs := dueGroups n s
    let s := commitDue n gs s
    let s := journalCapture ((gs.map (·.1)).filter (fun t => s.thrState t ≠ thrIdle)) n s
    if n % 200 = 0 then journalCapture (journalled s) n s else s

/-- STEP_COMMIT: time passes to the next commit tick, and the groups due commit (R136). -/
def execStepCommit (s : State) : Host.Outcome State Fault Refusal :=
  run [.rcp] (fun s =>
    if !rcpRuns s then s
    else
      let ds := (List.range 64).filterMap (fun thr => if s.thrState thr = thrPending then (s.thread thr).dec.map (·.at_) else none)
      match ds.foldl (fun (b : Option Nat) d => some (min (b.getD d) d)) none with
      | none => s
      | some c => rcpPhase1 c (advanceTo (tickAt c) s)) s

/-! ### Evaluation (R128, R129) -/

/-- Take the first branch whose test holds (R129): `none` when none is taken. -/
def takeBranch (thr n c head : Nat) (s : State) : List Nat → Option State × State
  | [] => (none, s)
  | r :: rest =>
    if !branchTest r c then takeBranch thr n c head s rest
    else
      let lim := bits r 59 48
      let k := bits r 62 60
      let v := s.lctr thr k
      if bit r 63 && lim ≤ v then takeBranch thr n c head (s.setLctr thr k 0) rest
      else
        let s := if bit r 63 then s.setLctr thr k (v + 1) else s
        (some (if bit r 5 then abortBranch thr n 4 head s
               else if bit r 6 then transition thr n none .normal s
               else transition thr n (some (bits r 44 32)) .normal s), s)

/-- Evaluate a RUNNING thread at even tick n (R129); `s0` is the state at the start of Phase 4. Of several pending causes the
earliest is taken and recorded (DESIGN CHOICE: log 230). -/
def evalThread (s0 : State) (n : Nat) (s : State) (thr : Nat) : State :=
  let t := s0.thread thr
  let tis := tisAt t n
  let e := evalConds s0 t tis
  let s := (s.modThread thr (fun t => { t with dets := e.2 })).setReg RCP_THR_TIS (BitVec.ofNat 32 tis) [thr]
  let head := nth t.recs 0 0
  match (s.thread thr).causes with
  | c :: _ => abortBranch thr n c head s
  | [] =>
    let b := takeBranch thr n e.1 head s (brRecs t.recs)
    match b.1 with
    | some s => s
    | none =>
      let s := b.2
      if hTomode head ≠ 0 && hTmax head ≤ tis then
        if hTomode head = 1 then transition thr n (some (hTotgt head)) .normal s else abortBranch thr n 3 head s
      else s

/-! ### Resume (R149) -/

/-- Whether a thread's range is wholly validated (R116). -/
def rangeValid (s : State) (n : Nat) : Bool :=
  (List.range (s.fld RCP_THR_CFG_SIZE [n])).all (fun i => s.rcp.valid.contains (s.fld RCP_THR_CFG_FIRST [n] + i))

/-- Whether the gap of thread n is known. -/
def gapKnown (s : State) (n : Nat) : Bool := s.rcp.known || s.rcp.wrote.contains n

/-- The threads that a resume acts on: the IDLE ones, unless their valid record shows IDLE or ENDED. One without a valid
record is acted on too, and becomes FAULTED (R149, step 1). -/
def resumeThreads (s : State) : List Nat :=
  (List.range 64).filter (fun n => s.thrState n = thrIdle && match journalBest s n with
    | some k => let st := s.peek (journalAt n k + 9) 1 % 8; st ≠ thrIdle && st ≠ thrEnded
    | none => true)

/-- A resume is requested (R149). -/
def resumeRequest (s : State) : State :=
  let ts := resumeThreads s
  if ts.isEmpty then s
  else { s.raise RCP_RESUME_BUSY with rcp := { s.rcp with resume := some { threads := ts, tick := s.tick, from_ := s.now } } }

/-- The rule of RCP_RESUME: TWAIT 0 is refused; GO requests a resume in Run (R149). -/
def resumeAct : Act := fun _ ix w s =>
  if RCP_RESUME_TWAIT.of w = 0 then .badValue s
  else if RCP_RESUME_GO.on w && s.effMode ≠ .run then .badMode s
  else if RCP_RESUME_GO.on w && s.rcp.resume.isSome then .badState s
  else
    let s := s.store RCP_RESUME ix w
    .ok (if RCP_RESUME_GO.on w then resumeRequest s else s)

/-- RCP_RESUME_GO: writing RCP_RESUME.GO (R149). -/
def execRcpResumeGo (m : Master) (s : State) : Host.Outcome State Fault Refusal :=
  run [.rcp] (fun s => regCmd resumeAct m RCP_RESUME [] (BitVec.ofNat 32
    (s.fld RCP_RESUME_TWAIT * 256 + s.fld RCP_RESUME_AUTO * 2 + 1)) s) s

/-- The actions unreported at the reset are reported RESTARTED (R149); they count as issued (R145). -/
def restartOpen (n open_ step seq ctick : Nat) (s : State) : State :=
  (List.range 64).foldl (fun s i =>
    if !bit open_ i then s
    else
      let r := if fetchable s n step then nth (actRecs (stepRecs s n step)) i 0 else 0
      let a : ActSlot := { id := 0, thread := n, act := i, step := step, seq := seq, cls := aClass r, sub := aSub r,
                           tgt := rParam r, ctick := ctick, failAbort := false, res := false, committed := true, early := none }
      let s := (s.incr RCP_ISSUED_COUNT).incr RCP_THR_INFL_COUNT [n]
      reportSlot a codeRestarted s) (s.setFld RCP_THR_INFL_COUNT 0 [n])

/-- The CROSS and INTEGRAL state of a record; SLOPE restarts empty. -/
def journalDets (recs : List Nat) (a : Nat) (s : State) : List Detector :=
  let ds := (detConds recs).take 4
  (List.range (hNcond (nth recs 0 0))).map (fun i =>
    match ds.findIdx? (fun p => p.2 = i) with
    | none => {}
    | some j =>
      let r := nth recs (1 + i) 0
      let v := s.peek (a + 60 + 8 * j) 8
      match cKind r with
      | 5 => { armed := bit v 63, count := v % 65536, latched := bit v 63 && rParam r ≤ v % 65536 }
      | 6 => { sum := sx 64 v }
      | _ => {})

/-- Outcomes of the actions that a resume does not re-issue: RESTARTED for one that was open; of the others only that
they were reported is known, and the outcome is a free value. -/
def journalOuts (recs : List Nat) (open_ : Nat) (s : State) : List (Nat × Nat) × State :=
  ((actRecs recs).zipIdx.filter (fun p => !recommits p.1)).foldl (fun (acc : List (Nat × Nat) × State) p =>
    if bit open_ p.2 then (acc.1 ++ [(p.2, codeRestarted)], acc.2)
    else
      let d := acc.2.draw
      (acc.1 ++ [(p.2, d.1 % 17)], d.2)) ([], s)

/-- RESUME_DECISION for thread n at tick D (R149). -/
def resumeDecide (n d : Nat) (s : State) : State :=
  match journalBest s n with
  | none => thrFault n (s.setFld RCP_THR_STATE_RES 6 [n])
  | some k =>
    let a := journalAt n k
    let step := s.peek (a + 10) 2
    let seq := s.peek (a + 12) 4
    let open_ := s.peek (a + 92) 8
    let s := restartOpen n open_ step seq (tickNo (ofTime96 (s.peek (a + 16) 12))) s
    if !rangeValid s n || s.peek (a + 100) 4 ≠ crc32 (rangeBytes s n) || !fetchable s n step then
      thrFault n (s.setFld RCP_THR_STATE_RES 7 [n])
    else
      let recs := stepRecs s n step
      let head := nth recs 0 0
      let s := (List.range 8).foldl (fun s j => s.setLctr n j (s.peek (a + 44 + 2 * j) 2 % 4096)) s
      let s := (s.setReg RCP_THR_SEQ (BitVec.ofNat 32 seq) [n]).setFld RCP_THR_STATE_INABORT (bits (s.peek (a + 9) 1) 3 3) [n]
      let s := (s.setFld RCP_THR_STEP_STEP step [n]).modThread n (fun t => { t with recs := recs, causes := [] })
      let jt := ofTime96 (s.peek (a + 28) 12)
      let near := gapKnown s n && tickAt d ≤ jt + hGapmax head * 1000000 * nsF
      if hPolicy head = 2 then abortBranch n d 6 head (s.setFld RCP_THR_STATE_RES 3 [n])
      else if !near then abortBranch n d 7 head (s.setFld RCP_THR_STATE_RES (if gapKnown s n then 4 else 5) [n])
      else if hPolicy head = 1 then transition n d (some step) .again (s.setFld RCP_THR_STATE_RES 2 [n])
      else
        let o := journalOuts recs open_ (s.setFld RCP_THR_STATE_RES 1 [n])
        transition n d (some step) (.resume (s.peek (a + 40) 4) (journalDets recs a s) o.1) o.2

/-- Whether TWAIT seconds have passed since the request. -/
def resumeLate (s : State) (q : ResumeReq) : Bool := q.from_ + s.fld RCP_RESUME_TWAIT * secF ≤ s.now

/-- The decisions of a resume that fall at even tick d (R149). -/
def resumeDue (d : Nat) (s : State) : State :=
  match s.rcp.resume with
  | none => s
  | some q =>
    let late := resumeLate s q
    let live := q.threads.filter (fun n => s.thrState n = thrIdle)
    let now := live.filter (fun n => late || (rangeValid s n && (gapKnown s n || (journalBest s n).isNone)))
    let rest := live.filter (fun n => !now.contains n)
    let s := { s with rcp := { s.rcp with resume := if rest.isEmpty then none else some { q with threads := rest } } }
    let s := now.foldl (fun s n => resumeDecide n d s) s
    if rest.isEmpty then s.lower RCP_RESUME_BUSY else s

/-- The next even tick at or after an instant. -/
def evenTick (t : Nat) : Nat := let n := ceilDiv t (tickAt 1); n + n % 2

/-- RESUME_DECISION: time passes to the next even tick, where the threads that can be decided are decided (R149). -/
def execResumeDecision (s : State) : Host.Outcome State Fault Refusal :=
  run [.rcp] (fun s =>
    if s.rcp.resume.isNone || !rcpRuns s then s
    else
      let d := evenTick s.now
      resumeDue d (advanceTo (tickAt d) s)) s

/-- RESUME_TWAIT_EXPIRY: TWAIT seconds after the request the rest is decided (R149). -/
def execResumeTwaitExpiry (s : State) : Host.Outcome State Fault Refusal :=
  run [.rcp] (fun s => match s.rcp.resume with
    | none => s
    | some q =>
      if !rcpRuns s then s
      else
        let d := evenTick (q.from_ + s.fld RCP_RESUME_TWAIT * secF)
        resumeDue d (advanceTo (tickAt d) s)) s

/-- Phase 4 of tick n (R128, R146). -/
def rcpPhase4 (n : Nat) (s : State) : State :=
  if n % 2 = 1 then s
  else if s.effMode = .stop || s.effMode = .safe then (List.range 64).foldl (actCommand n) s
  else if !rcpRuns s then s
  else
    let s0 := s
    let due := (List.range 64).filter (fun t => s0.thrState t = thrRunning)
    let s := resumeDue n ((List.range 64).foldl (actCommand n) s)
    if s.effMode = .hold && s.isSet RCP_CTL_DBGHOLD then
      due.foldl (fun s t => s.modThread t (fun x => { x with ofs := x.ofs - 1 })) s
    else due.foldl (evalThread s0 n) s

/-- STEP_TIMEOUT: time passes to the evaluation at which TIS of thread n reaches TMAX (R129). -/
def execStepTimeout (n : Fin 64) (s : State) : Host.Outcome State Fault Refusal :=
  run [.rcp] (fun s =>
    let t := s.thread n.val
    let head := nth t.recs 0 0
    if s.thrState n.val ≠ thrRunning || hTomode head = 0 || !rcpRuns s ||
        (s.effMode = .hold && s.isSet RCP_CTL_DBGHOLD) then s
    else
      let k := t.commit + 2 * ((hTmax head : Int) - t.ofs).toNat
      let s := advanceTo (tickAt k) s
      let k := max k (s.tick + s.tick % 2)
      evalThread s k s n.val) s

/-! ### Modes and resets (R146) -/

/-- Entry to Stop or Safe (R146): decided groups that have not committed and actions in flight are reported ABORTED, every
thread that was started goes to ENDED with CAUSE 0, and its record is written behind any that still waits. A thread that is
IDLE was never started and has nothing to end, and R147 journals none (DEDUCED, log 210). MOVEs follow in `motStopAll`. -/
def rcpStop (n : Nat) (s : State) : State :=
  let s := (slotsWhere s (fun _ => true)).foldl (fun s a => match a.cls with
    | 1 => if aSubRamp a then reportSlot a codeAborted (cancelRamp a.tgt s) else s
    | 2 => s
    | 7 => reportSlot a codeAborted (acqDisarm a.tgt s)
    | 8 => reportSlot a codeAborted (beaconDisarm a.tgt s)
    | 5 => s
    | _ => reportSlot a codeAborted s) s
  let s := (List.range 64).foldl (fun s thr =>
    match (s.thread thr).dec with
    | none => s
    | some d =>
      let seq := entrySeq s thr d.entry
      (actRecs d.recs).zipIdx.foldl (fun s p =>
        if !entryIssues d.entry p.1 then s
        else
          let old := s.rcp.slots.find? (fun a => a.thread = thr && a.act = p.2 && !a.committed)
          if aClass p.1 = 2 && old.any (fun a => a.early.isNone || a.early = some 0) then
            commitKeep thr d seq p old s
          else
            let a : ActSlot := { id := (old.map (·.id)).getD 0, thread := thr, act := p.2, step := d.target.getD 0, seq := seq,
                                 cls := aClass p.1, sub := aSub p.1, tgt := rParam p.1, ctick := d.at_, failAbort := false,
                                 res := d.entry ≠ .normal, committed := true, early := none }
            reportSlot a codeAborted ((s.incr RCP_ISSUED_COUNT).incr RCP_THR_INFL_COUNT [thr])) s) s
  let s := (List.range 64).foldl (fun s thr =>
    let s := s.modThread thr (fun t => { t with cmds := [], dec := none, causes := [] })
    if s.thrState thr ≠ thrIdle then
      let s := ((s.setThr thr thrEnded).setFld RCP_THR_STATE_CAUSE 0 [thr]).setFld RCP_THR_STEP_STEP 0xFFFF [thr]
      s.modThread thr (fun t => { t with recs := [] })
    else s) s
  let s := { s.lower RCP_RESUME_BUSY with rcp := { s.rcp with resume := none } }
  let s := journalWrite s
  journalCapture (journalled s) n s
where
  /-- Whether a LOOP action in flight is a ramp. -/
  aSubRamp (a : ActSlot) : Bool := a.sub = 1
  /-- A REMOTE write already handed to its port stays in flight and is reported through its delivery. -/
  commitKeep (thr : Nat) (d : Decision) (seq : Nat) (p : Nat × Nat) (old : Option ActSlot) (s : State) : State :=
    match old with
    | none => s
    | some o =>
      let a : ActSlot := { o with committed := true, seq := seq, ctick := d.at_, act := p.2 }
      let s := (s.incr RCP_ISSUED_COUNT).incr RCP_THR_INFL_COUNT [thr]
      match o.early with
      | some code => reportSlot a code s
      | none => syncInflight { s with rcp := { s.rcp with slots := s.rcp.slots.map (fun x => if x.id = a.id then a else x) } }

/-- A reset of the block: threads, actions in flight, loads and resumes are gone, and BUSY reads 0 (R151); `power` loses the pool's validated bits
and what is known of the time since the journal (R116, R149). -/
def rcpReset (power : Bool) (s : State) : State :=
  let crcs := s.rcp.threads.map (·.rcrc)
  let fresh : Rcp := { nextId := s.rcp.nextId, known := s.rcp.known && !power,
                       valid := if power then [] else s.rcp.valid, wrote := if power then [] else s.rcp.wrote,
                       threads := crcs.map (fun c => { rcrc := if power then 0 else c }) }
  { s.lower RCP_RESUME_BUSY with rcp := fresh }

end Sys2Proof.Machine
end

