-- ==== Sys2Proof/Machine/Trig.lean ====
section
/-!
DEFINITION. Trigger inputs and TBUS (03 R107 to R110).
-/
namespace Sys2Proof.Machine

/-- TRIG_ACCEPT: the filter's time has run (R107). -/
def execTrigAccept (n : Fin 12) (s : State) : Host.Outcome State Fault Refusal :=
  run [.time] (fun s =>
    let s := tbusSettle s.now s
    match (s.trig n.val).filt with
    | none => s
    | some f => trigAccept n.val (advanceTo (f.2.1 + trigFilt s n.val) s)) s

/-- TRIG_EDGE: the level that the outside gives trigger input n (8 to 11: TBUS) changes, `q` quarters of a nanosecond after the
CK_TB edge that device time stands at (R107); a TBUS line that the device drives is low (R109). -/
def trigEdge (n : Nat) (level : Bool) (q : Nat) (s : State) : State :=
  let s := (tbusSettle s.now s).modTrig n (fun x => { x with ext := level })
  let own := 8 ≤ n && tbusOwn s (n - 8)
  trigLevel n (s.now + q * (nsF / 4)) (level && !own) own s

/-- TRIG_EDGE (R107). -/
def execTrigEdge (n : Fin 12) (edge : BallEdge) (s : State) : Host.Outcome State Fault Refusal :=
  run [.time] (trigEdge n.val edge.level edge.quarter.val) s

/-- The rule of TIME_TRIG_n: enabling an input or changing INV takes the level then present as accepted, without an edge
(DESIGN CHOICE: log 22); the fast cut matrix follows INV at once. -/
def trigAct : Act := fun _ ix w s =>
  let n := ix.headD 0
  let fresh := (TIME_TRIG_EN.on w && !s.isSet TIME_TRIG_EN [n]) || TIME_TRIG_INV.on w != s.isSet TIME_TRIG_INV [n]
  let s := s.store TIME_TRIG ix w
  let x := trigSeen s n
  let s := setSource (20 + n) x s
  .ok (if fresh || !TIME_TRIG_EN.on w then s.modTrig n (fun t => { t with filt := none, level := x }) else s)

/-- The rule of TIME_TBUSDRV_m: the line is driven or released as the source stands (R109). -/
def tbusdrvAct : Act := fun _ ix w s =>
  let m := ix.headD 0
  let old := tbusOwn s m
  let s := (tbusSettle s.now s).store TIME_TBUSDRV ix w
  let now' := tbusOwn s m
  .ok (if old = now' then s else tbusDrive m now' s)

end Sys2Proof.Machine
end

