-- ==== Sys2Proof/Machine/HostBase.lean ====
section
/-!
DEFINITION. Sessions, responses and notices of the host transport and the management port, and the streams of the
recorder (20, 21 R593). Sessions 64 to 67 are those of the management port.
-/
namespace Sys2Proof.Machine

/-! ### Sessions -/

/-- Session n. -/
def State.sess (s : State) (n : Nat) : Session := nth s.sessions n {}

/-- Change session n. -/
def State.modSess (s : State) (n : Nat) (f : Session → Session) : State := { s with sessions := modNth s.sessions n f }

/-- The registers follow the sessions: OUTST, EVSUB, the number of open sessions, the management port's. -/
def sessSync (s : State) : State :=
  let s := (List.range 64).foldl (fun s n =>
    let x := s.sess n
    (s.setFld HOST_S_STAT_OUTST x.reqs.length [n]).setFld HOST_S_STAT_EVSUB (b2n (x.evsub < 8)) [n]) s
  let s := s.setFld HOST_STAT_NSESS ((s.sessions.take 64).filter (·.isOpen)).length
  s.setFld KPR_MG_STAT_SESS ((List.range 4).foldl (fun a i => a + b2n (s.sess (64 + i)).isOpen * 2 ^ i) 0)

/-- The port number that a packet of session n leaves by, in what the device puts out: 32 and 33 are the host ports, 34 the
management port. -/
def sessPort (s : State) (n : Nat) : Nat := if n < 64 then 32 + (s.sess n).port else 34

/-- Whether a host port's link is up. -/
def portUp (s : State) (p : Nat) : Bool := s.isSet HOST_P_STAT_LINK [p]

/-! ### Event records (21 R578) -/

/-- The first 48 bytes of a record (R578). -/
def recHead (r : EvRec) : List Byte :=
  leBytes 4 r.seq ++ leBytes 1 r.sev ++ leBytes 1 (b2n r.keel + 2 * b2n r.summary) ++ leBytes 1 r.kind ++ leBytes 1 r.blk ++
    leBytes 2 r.inst ++ leBytes 1 r.mst ++ leBytes 1 r.mode ++ leBytes 4 r.tick ++ leBytes 12 (time96 r.first) ++ leBytes 4 r.d0 ++
    leBytes 12 (time96 r.last) ++ leBytes 2 r.rep ++ leBytes 2 0

/-- MARK: the CRC of bytes 0 to 31 and 48 to 59 (R578). -/
def recMark (head : List Byte) (d1 : List Byte) : Nat := crc32 (head.take 32 ++ d1)

/-- The 64 bytes of a record. -/
def recBytes (r : EvRec) : List Byte :=
  let d1 := leBytes 12 r.d1
  recHead r ++ d1 ++ leBytes 4 (recMark (recHead r) d1)

/-! ### Packets (R546) -/

/-- OP (R550). -/
def ReqOp.code : ReqOp → Nat
  | .close => 2 | .ping => 3 | .read .. => 0x10 | .write .. => 0x11 | .mbxread .. => 0x12 | .sigread .. => 0x20
  | .sigwrite .. => 0x21 | .mode _ => 0x30 | .ringread .. => 0x40 | .stropen _ => 0x50 | .strclose _ => 0x51 | .evsub _ => 0x60
  | .unknown op => op

/-- What the header of a packet says beside MAGIC, VER and TYPE: DEV (00 R11), SESS, FLAGS, COOKIE, SEQ and OPST (R546). -/
def pktHead (s : State) (sess flags cookie seq opst : Nat) : List Nat :=
  [s.fld SYS_DEVNUM_DEVNUM, sess, flags, cookie, seq, opst]

/-- The number in its own space of session n. -/
def sessNo (n : Nat) : Nat := if n < 64 then n else n - 64

/-- A session's next EVENT packet, and the state without its records: the records lost since the last one, then at most 16
(R554). -/
def takeEvents (n : Nat) (s : State) : List Nat × State :=
  let x := s.sess n
  let head := pktHead s (sessNo n) 0 x.cookie x.evSeq 0
  (head ++ [x.evLost, 0] ++ (x.evq.take 16).flatMap (fun r => (recBytes r).map (fun b => b.toNat)),
    s.modSess n (fun y => { y with evq := y.evq.drop 16, evLost := 0, evSeq := (y.evSeq + 1) % 2 ^ 32 }))

/-- Whether a session's next EVENT packet holds a record of severity 5 or more, when it has one to send (R565, 21 R594). -/
def eventClass (x : Session) : Option Bool :=
  if !x.isOpen || x.evq.isEmpty then none else some ((x.evq.take 16).any (fun r => 5 ≤ r.sev))

/-- The bytes on the line of an EVENT packet of `n` records, with preamble and gap. -/
def eventBytes (n : Nat) : Nat := 94 + 64 * n

/-- The transmitter of port p: 0 and 1 are the host ports, 2 the management port. -/
def State.txPort (s : State) (p : Nat) : MgPort := if p < 2 then (nth s.host.ports p {}).tx else s.kpr.mg

/-- Change the transmitter of port p. -/
def State.modTx (s : State) (p : Nat) (f : MgPort → MgPort) : State :=
  if p < 2 then { s with host := { s.host with ports := modNth s.host.ports p (fun x => { x with tx := f x.tx }) } }
  else { s with kpr := { s.kpr with mg := f s.kpr.mg } }

/-- The sessions of port p. -/
def portSess (s : State) (p : Nat) : List Nat :=
  if p < 2 then (List.range 64).filter (fun n => (s.sess n).port = p) else [64, 65, 66, 67]

/-- Whether port p sends at all. -/
def txUp (s : State) (p : Nat) : Bool := 2 ≤ p || portUp s p

/-- How long `n` bytes take on the line of port p: 25 or 10 Gb/s, or 100 Mb/s (20 R544, 21 R593). -/
def lineTime (s : State) (p n : Nat) : Nat :=
  if 2 ≤ p then n * 80 * nsF else if s.fld HOST_P_STAT_SPEED [p] = 2 then n * 8 * nsF / 25 else n * 8 * nsF / 10

/-- How long the shaping of port p holds the response after one of `n` bytes: 70 Mb/s on the management port (21 R594). -/
def rspTime (p n : Nat) : Nat := if 2 ≤ p then n * 800 * nsF / 7 else 0

/-- The packet that port p sends next, whether it is a response, and the state without it: NOTICE and EVENT packets with a
record of severity 5 or more, then responses as the shaping lets them, then other EVENT packets (20 R565, 21 R594). -/
def txNext (p : Nat) (s : State) : Option ((MgPkt × Bool) × State) :=
  let m := s.txPort p
  let event := fun (alarm : Bool) => ((portSess s p).find? (fun n => eventClass (s.sess n) = some alarm)).map (fun n =>
    let y := takeEvents n s
    (({ typ := 6, data := y.1, bytes := eventBytes (min 16 (s.sess n).evq.length), at_ := s.now : MgPkt }, false), y.2))
  let others := match m.rsps with
    | q :: t => if m.rspAt ≤ s.now || !s.tb.started then some ((q, true), s.modTx p (fun m => { m with rsps := t })) else event false
    | [] => event false
  match m.notices with
  | q :: t => some ((q, false), s.modTx p (fun m => { m with notices := t }))
  | [] => match event true with
    | some x => some x
    | none => others

/-- Port p sends while its line is free. -/
def txServe (p : Nat) : Nat → State → State
  | 0, s => s
  | k + 1, s =>
    if s.tb.started && s.now < (s.txPort p).free then s
    else match txNext p s with
      | none => s
      | some ((q, rsp), t) =>
        let m := t.txPort p
        let start := max (max m.free q.at_) (if rsp then m.rspAt else 0)
        let t := t.modTx p (fun m => { m with
          free := start + lineTime s p q.bytes
          rspAt := if rsp then start + rspTime p q.bytes else m.rspAt })
        let t := if p < 2 then t.incr HOST_P_TXPKT_COUNT [p] else t
        txServe p k (t.say (.send (32 + p) q.typ q.data))

/-- Port p sends what it can. -/
def txGo (p : Nat) (s : State) : State :=
  if txUp s p then txServe p ((s.txPort p).notices.length + (s.txPort p).rsps.length + 64) s else s

/-- A packet of a port: its TYPE, what its header says, and the body. A NOTICE or a response waits in its class; DATA and GAP
packets leave as STREAM_PACKET_SEND says. -/
def sendPacket (port typ : Nat) (head body : List Nat) (s : State) : State :=
  let p := port - 32
  let q : MgPkt := { typ := typ, data := head ++ body, bytes := max 84 (86 + 4 * body.length), at_ := s.now }
  if typ = 7 then txGo p (s.modTx p (fun m => { m with notices := m.notices ++ [q] }))
  else if typ = 2 then txGo p (s.modTx p (fun m => { m with rsps := m.rsps ++ [q] }))
  else (s.incr HOST_P_TXPKT_COUNT [p]).say (.send port typ (head ++ body))

/-- A packet to the endpoint of session n. -/
def sessSend (n typ flags seq opst : Nat) (body : List Nat) (s : State) : State :=
  sendPacket (sessPort s n) typ (pktHead s (sessNo n) flags (s.sess n).cookie seq opst) body s

/-- NOTICE (R555): 1 MOVED, 2 CLOSING, 3 STREAMEND. -/
def sessNotice (n code stream reason : Nat) (s : State) : State := sessSend n 7 0 0 0 [code, stream, reason, 0] s

/-- A CTRL message of a leader to its in-step follower (20 R555). -/
def State.ctrl (s : State) (ws : List Nat) : State :=
  if s.fld TWIN_STAT_ROLE = 1 && s.isSet TWIN_STAT_INSTEP then s.say (.send 24 5 ws) else s

/-- Whether a failed request's response carries data: a WRITE's, the number of words performed (R550). -/
def ReqOp.failData : ReqOp → Bool
  | .write .. => true
  | _ => false

/-- The response to a request ends it (R547, R551): CODE, and the data of a success or of a WRITE that fails. -/
def respond (n seq : Nat) (op : ReqOp) (code : Nat) (data : List Nat) (s : State) : State :=
  let data := if code = 0 || op.failData then data else []
  let d : DoneReq := { seq := seq, op := op, code := code, data := data, at_ := s.now }
  let s := s.modSess n (fun x => { x with reqs := x.reqs.filter (fun r => r.seq ≠ seq),
                                          done := (x.done ++ [d]).drop (x.done.length - 255) })
  let s := if n < 64 then (s.incr HOST_S_CNT_DONE [n]).setFld HOST_S_STAT_OUTST (s.sess n).reqs.length [n] else s
  let s := if n < 64 && code = codeBusy then s.incrSat HOST_S_CNT_BUSY [n] else s
  let s := if n < 64 then s.ctrl [13, n, seq, code] else s
  sessSend n 2 0 seq op.code (code :: data) s

/-- A SESSION event (21 R579, kind 0x0F): subject, role, path, reason, endpoint. INST of a management session is 64 to 67
(DESIGN CHOICE: log 229). -/
def sessionEvent (sev what : Nat) (role : Role) (path reason peer inst : Nat) (s : State) : State :=
  s.emit sev 0x0F .kpr inst 16 (what + role.code * 256 + path * 2 ^ 16 + reason * 2 ^ 24) peer

/-- The severity of an opening, a closing or a login. -/
def sessSev : Nat := Config.sessionSeverity % 8

/-- The path number of session n in a SESSION event. -/
def sessPath (s : State) (n : Nat) : Nat := if n < 64 then (s.sess n).port else 2

/-- A session role change on its way through the Keeper's control port (01 R31, 21 R592). It has no SESSION record of subject 5
of its own beside that of the opening or closing (DESIGN CHOICE: log 229). -/
def roleItem (n : Nat) (role : Nat) (s : State) : State := s.pushItem 376 s.now (.roleChange n role)

/-! ### Streams -/

/-- Stream k. -/
def State.stream (s : State) (k : Nat) : Stream := nth s.host.streams k {}

/-- Change stream k. -/
def State.modStream (s : State) (k : Nat) (f : Stream → Stream) : State :=
  { s with host := { s.host with streams := modNth s.host.streams k f } }

/-- STATE of a stream is OPEN. -/
def streamOpen (s : State) (k : Nat) : Bool := s.fld REC_ST_CFG_STATE [k] = 1

/-- Whether a stream's rows carry status words; whether it is compressed; whether it is reliable (R556). -/
def streamOpt (s : State) (k i : Nat) : Bool := bit (s.fld REC_ST_CFG_OPT [k]) i

/-- Bytes of a row: NSID × (4 + 2 × STATUS). -/
def rowBytes (s : State) (k : Nat) : Nat := (s.stream k).sids.length * (4 + 2 * b2n (streamOpt s k 0))

/-- The rows that the stream's buffer holds at most (R558). -/
def streamCap (s : State) (k : Nat) : Nat := (s.stream k).buf * 65536 / max 1 (rowBytes s k)

/-- The raw rate of a stream in units of bit/s ÷ D: numerator (R557). -/
def rawRate (nsid status : Nat) : Nat := nsid * (4 + 2 * status) * 8 * 200000

/-- A set of open streams' raw rates on a port, as a rational number of bit/s. -/
def portRate (s : State) (p : Nat) : ℚ :=
  ((List.range 64).filter (fun k => streamOpen s k && s.fld REC_ST_CFG_PORT [k] = p)).foldl (fun a k =>
    a + (rawRate (s.stream k).sids.length (b2n (streamOpt s k 0)) : ℚ) / (max 1 (s.fld REC_ST_DEC_D [k]) : ℚ)) 0

/-- REC_STAT.NSIDS and REC_BUDGET follow the open streams. -/
def recSync (s : State) : State :=
  let n := ((List.range 64).filter (streamOpen s)).foldl (fun a k => a + (s.stream k).sids.length) 0
  let mb := fun (p : Nat) => (⌈portRate s p / (1000000 : ℚ)⌉).toNat
  ((s.setFld REC_STAT_NSIDS n).setFld REC_BUDGET_P0 (mb 0)).setFld REC_BUDGET_P1 (mb 1)

/-- A row of tick n is dropped (R558, R561): it lengthens the run of dropped rows at the end of the stream's order. -/
def dropRow (k n reason : Nat) (s : State) : State :=
  let s := (s.incr REC_ST_DROP_COUNT [k]).raise REC_STAT_DROPF
  s.modStream k (fun x => { x with fifo := match x.fifo.getLast? with
    | some (.gap t c r) => if r = reason then x.fifo.dropLast ++ [.gap t (c + 1) r] else x.fifo ++ [.gap n 1 reason]
    | _ => x.fifo ++ [.gap n 1 reason] })

/-- The next packet of stream k takes a SEQ and leaves by the stream's port. -/
def streamSend (k typ rows : Nat) (body : List Nat) (s : State) : State :=
  let seq := (s.reg REC_ST_SEQ [k]).toNat
  let s := s.incr REC_ST_SEQ_COUNT [k]
  let n := s.fld REC_ST_CFG_SESS [k]
  let s := if streamOpt s k 2 then
      s.modStream k (fun x => { x with sent := x.sent ++ [{ seq := seq, rows := rows, gap := typ = 5, body := body,
                                                            at_ := s.now }] })
    else s
  sendPacket (32 + s.fld REC_ST_CFG_PORT [k]) typ (pktHead s n 0 (s.sess n).cookie seq k) body s

/-- A GAP packet (R561). -/
def sendGap (k tick count reason : Nat) (s : State) : State :=
  streamSend k 5 0 [tick % 2 ^ 32, tick / 2 ^ 32, count, reason] s

/-- Stream k ends (R563): rows still in the buffer are dropped with reason CLOSE, each run of dropped rows is reported, and
the session's endpoint gets NOTICE STREAMEND unless the end is an nRESET's. -/
def streamEnd (k reason : Nat) (quiet : Bool) (s : State) : State :=
  if !streamOpen s k then s
  else
    let pend := (s.reg REC_ST_PEND [k]).toNat
    let s := (s.incr REC_ST_DROP_COUNT [k] pend).setFld REC_ST_PEND_COUNT 0 [k]
    let s := if pend = 0 then s else s.raise REC_STAT_DROPF
    let unacked := ((s.stream k).sent.find? (fun q => !q.gap)).map (fun q => nth q.body 0 0 + nth q.body 1 0 * 2 ^ 32)
    let first := unacked.orElse (fun _ => (s.stream k).fifo.findSome? (fun r => match r with
      | .row t _ _ => some t
      | .gap _ _ _ => none))
    let gaps := (s.stream k).fifo.filterMap (fun r => match r with
      | .gap t c why => some (t, c, why)
      | .row _ _ _ => none)
    let gaps := gaps ++ (if pend = 0 then [] else [(first.getD s.tick, pend, 5)])
    let s := if quiet then s else gaps.foldl (fun s (g : Nat × Nat × Nat) => sendGap k g.1 g.2.1 g.2.2 s) s
    let s := s.modStream k (fun x => { x with fifo := [], sent := [] })
    let s := recSync (s.setFld REC_ST_CFG_STATE 2 [k])
    if quiet then s else sessNotice (s.fld REC_ST_CFG_SESS [k]) 3 k reason s

/-- Every open stream ends. -/
def streamsEnd (reason : Nat) (quiet : Bool) (s : State) : State :=
  (List.range 64).foldl (fun s k => streamEnd k reason quiet s) s

/-! ### Closing -/

/-- The identifier that an admitted item carries for a request: the session's cookie and SEQ. -/
def itemReq (s : State) (n seq : Nat) : Nat := (s.sess n).cookie * 2 ^ 32 + seq

/-- A session closes (R549): requests that wait elsewhere end ABORTED, admitted ones complete with their responses
discarded, its streams end; `notice` sends NOTICE CLOSING. The closing is recorded (00 R4), and the role change goes to the
control plane (21 R592). -/
def sessClose (n : Nat) (notice : Bool) (s : State) : State :=
  if !(s.sess n).isOpen then s
  else
    let x := s.sess n
    let s := (x.reqs.filter (fun r => !r.adm)).foldl (fun s r => respond n r.seq r.op codeAborted [] s) s
    let s := (List.range 64).foldl (fun s k => if n < 64 && s.fld REC_ST_CFG_SESS [k] = n then streamEnd k 5 false s else s) s
    let s := if notice then sessNotice n 2 0 0 s else s
    let s := sessionEvent sessSev 2 x.role (sessPath s n) 0 x.peer n s
    let s := roleItem n 0xFF s
    let s := s.modSess n (fun _ => {})
    sessSync (if n < 64 then (s.setReg HOST_S_STAT 0 [n]).ctrl [11, n] else s)

/-- Sessions are lost without notice (R567). -/
def sessionsLost (ns : List Nat) (s : State) : State :=
  ns.foldl (fun s n =>
    if (s.sess n).isOpen then
      let x := s.sess n
      let s := roleItem n 0xFF (sessionEvent sessSev 2 x.role (sessPath s n) 0 x.peer n s)
      let s := s.modSess n (fun _ => {})
      sessSync (if n < 64 then (s.setReg HOST_S_STAT 0 [n]).ctrl [11, n] else s)
    else s) s

/-- The host ports are down, and every host session is lost (R567). -/
def hostDown (s : State) : State :=
  let s := (List.range 2).foldl (fun s p =>
    ((s.lower HOST_P_STAT_LINK [p]).setFld HOST_P_STAT_SPEED 0 [p]).setFld HOST_P_STAT_FEC 0 [p]) s
  let s := { s with host := { s.host with ports := [{}, {}] } }
  sessionsLost (List.range 64) s

/-- An event record is offered to every subscribed session and the monitor (R554, 21 R588). -/
def offerRecord (r : EvRec) (s : State) : State :=
  [0, 1, 2].foldl (fun s p => txGo p s) <| (List.range 68).foldl (fun s n =>
    let x := s.sess n
    if x.isOpen && x.evsub < 8 && x.evsub ≤ r.sev then
      if x.evq.length < 256 then s.modSess n (fun x => { x with evq := x.evq ++ [r] })
      else s.modSess n (fun x => { x with evLost := x.evLost + 1 })
    else s) s

end Sys2Proof.Machine
end

