-- ==== Sys2Proof/Machine/Evl.lean ====
section
/-!
DEFINITION. The event log (21 R578 to R589): repeats, the Fumarole, slots and the Keel, the writes to MRAM, the recount of a
Seed.
-/
namespace Sys2Proof.Machine

/-! ### Records -/

/-- Change the event log's own state. -/
def State.modEvl (s : State) (f : Evl → Evl) : State := { s with evl := f s.evl }

/-- The address of a slot: 0 to 65,535 in the log, then the Keel's (R578). -/
def slotAddr (i : Nat) : Nat := if i < 65536 then 0x22A00000 + 64 * i else 0x22F11000 + 64 * (i - 65536)

/-- Whether a slot holds a valid record (R580); an erased slot holds none. -/
def slotValid (s : State) (i : Nat) : Bool :=
  let a := slotAddr i
  s.peek a 4 ≠ 0 && s.peek (a + 60) 4 = recMark (s.bytes a 48) (s.bytes (a + 48) 12)

/-- The record in a slot of MRAM. -/
def slotRec (s : State) (i : Nat) : EvRec :=
  let a := slotAddr i
  let f := fun o n => s.peek (a + o) n
  { seq := f 0 4, sev := f 4 1 % 8, keel := bit (f 5 1) 0, summary := bit (f 5 1) 1, kind := f 6 1, blk := f 7 1, inst := f 8 2,
    mst := f 10 1, mode := f 11 1, tick := f 12 4, first := ofTime96 (f 16 12), d0 := f 28 4, last := ofTime96 (f 32 12),
    rep := f 44 2, d1 := f 48 12 }

/-! ### Slots (R585) -/

/-- The lowest number from `i` that an ascending list of numbers leaves out. -/
def firstGap (i : Nat) : List Nat → Nat
  | [] => i
  | k :: t => if k < i then firstGap i t else if k = i then firstGap (i + 1) t else i

/-- The slot of the oldest record among some. -/
def oldestOf (l : List (Nat × (Nat × Nat))) : Option Nat :=
  (l.foldl (fun (b : Option (Nat × Nat)) (e : Nat × (Nat × Nat)) => match b with
    | some (slot, seq) => if e.2.1 < seq then some (e.1, e.2.1) else some (slot, seq)
    | none => some (e.1, e.2.1)) none).map (·.1)

/-- The slot that a record of severity `sev` takes (R585). -/
def chooseSlot (s : State) (sev : Nat) : Option Nat :=
  let log := s.evl.idx.filter (fun (e : Nat × (Nat × Nat)) => e.1 < 65536)
  let free := firstGap 0 (log.map (·.1))
  if free < 65536 then some free
  else match oldestOf (log.filter (fun (e : Nat × (Nat × Nat)) => e.2.2 < sev)) with
  | some i => some i
  | none =>
    let same := if sev ≤ 3 then oldestOf (log.filter (fun (e : Nat × (Nat × Nat)) => e.2.2 = sev)) else none
    match same with
    | some i => some i
    | none =>
      let k := firstGap 65536 ((s.evl.idx.filter (fun (e : Nat × (Nat × Nat)) => 65536 ≤ e.1)).map (·.1))
      if k < 65536 + 256 then some k else none

/-- EVL_KEEL and the counts per severity follow the slots. -/
def evlSync (s : State) : State :=
  let keel := (s.evl.idx.filter (fun (e : Nat × (Nat × Nat)) => 65536 ≤ e.1)).map (·.1)
  let s := (s.setFld EVL_KEEL_USED keel.length).setFld EVL_KEEL_NEXT (min 256 (firstGap 65536 keel - 65536))
  (List.range 8).foldl (fun s v =>
    s.setFld EVL_NSEV_COUNT (s.evl.idx.filter (fun (e : Nat × (Nat × Nat)) => e.2.2 = v)).length [v]) s

/-- The registers of the Fumarole follow its table. -/
def fumSync (s : State) : State :=
  (s.setFld EVL_KEYS_USED s.evl.keys.length).setFld EVL_KEYS_OPEN (s.evl.keys.filter (·.win.isSome)).length

/-- RECORD_CREATE (R585): the record takes the next SEQ and a slot, displacing another or none, or is dropped; it is offered
to the subscribers (R588). What it became, with its slot. -/
def createRecord (r : EvRec) (s : State) : (Option Nat × EvRec) × State :=
  let s := s.incr EVL_WRITTEN_COUNT
  let r := { r with seq := (s.reg EVL_WRITTEN).toNat }
  match chooseSlot s r.sev with
  | none =>
    let s := (s.incr EVL_DROP_COUNT).raise EVL_STAT_DROPF
    ((none, r), offerRecord r s)
  | some i =>
    let r := { r with keel := 65536 ≤ i }
    let old := getKey s.evl.idx i
    let s := if old.isSome then s.incr EVL_OVWR_COUNT else s.incr EVL_STORED_COUNT
    let s := s.modEvl (fun e => { e with idx := putKey e.idx i (r.seq, r.sev),
                                         queue := e.queue.filter (fun (q : Nat × EvRec) => q.1 ≠ i) ++ [(i, r)],
                                         held := e.held.filter (fun (q : Nat × EvRec) => q.1 ≠ i) })
    let s := if r.keel then s.raise EVL_STAT_KEELF else s
    let s := (s.setFld EVL_LAST_SLOT (i % 65536)).setFld EVL_LAST_KEEL (b2n r.keel)
    ((some i, r), offerRecord r (evlSync s))

/-! ### Repeats and the Fumarole -/

/-- Whether a key is the key of an occurrence (R581). -/
def FumKey.of (k : FumKey) (e : Event) : Bool :=
  k.sev = e.sev && k.kind = e.kind && k.blk = e.blk && k.inst = e.inst && k.mst = e.mst

/-- The credits of a key at an instant (R582). -/
def refill (s : State) (k : FumKey) (t : Nat) : FumKey :=
  let hi := 5 ≤ k.sev
  let rate := if hi then s.fld EVL_FUM_RATEH else s.fld EVL_FUM_RATEL
  let burst := if hi then s.fld EVL_FUM_BURSTH else s.fld EVL_FUM_BURSTL
  { k with cred := min (burst * secF) (k.cred + (t - k.at_) * rate), at_ := max t k.at_ }

/-- A key as it enters the table, with its full burst. -/
def newKey (s : State) (e : Event) : FumKey :=
  let burst := if 5 ≤ e.sev then s.fld EVL_FUM_BURSTH else s.fld EVL_FUM_BURSTL
  { sev := e.sev, kind := e.kind, blk := e.blk, inst := e.inst, mst := e.mst, cred := burst * secF, at_ := e.first, seen := e.first }

/-- The slot and record that an occurrence repeats (R581). -/
def repeats (s : State) (k : FumKey) (e : Event) : Option (Nat × EvRec) :=
  k.last.filter (fun p => p.2.d0 = e.d0 && p.2.d1 = e.d1 && (getKey s.evl.idx p.1).map (·.1) = some p.2.seq &&
    p.2.rep < 65535 && e.first ≤ p.2.last + secF)

/-- Change the entry of an occurrence's key. -/
def modKey (e : Event) (f : FumKey → FumKey) (s : State) : State :=
  s.modEvl (fun x => { x with keys := x.keys.map (fun k => if k.of e then f k else k) })

/-- The record of a new occurrence. -/
def freshRecord (e : Event) : EvRec :=
  { seq := 0, sev := e.sev, keel := false, summary := false, kind := e.kind, blk := e.blk, inst := e.inst, mst := e.mst,
    mode := e.mode, tick := e.tick, first := e.first, last := e.first, rep := 0, d0 := e.d0, d1 := e.d1 }

/-- A new occurrence at a key of the table (R583): a credit makes a record, none suppresses it and opens the window. -/
def passKey (e : Event) (k : FumKey) (s : State) : State :=
  let k := refill s k e.first
  if secF ≤ k.cred then
    let x := createRecord (freshRecord e) s
    modKey e (fun _ => { k with cred := k.cred - secF, seen := e.first, last := x.1.1.map (fun i => (i, x.1.2)) }) x.2
  else
    let s := (s.incr EVL_SUPP_COUNT).raise EVL_STAT_SUPPF
    modKey e (fun _ => { k with seen := e.first, supp := k.supp + 1, sfirst := if k.win.isNone then e.first else k.sfirst,
                                slast := e.first, sd1 := e.d1, win := some (k.win.getD e.first) }) s

/-- The summary of a key whose window closes (R583). -/
def summaryOf (s : State) (k : FumKey) : EvRec :=
  { seq := 0, sev := k.sev, keel := false, summary := true, kind := k.kind, blk := k.blk, inst := k.inst, mst := k.mst,
    mode := s.fld SYS_MODE_CUR, tick := s.tick % 2 ^ 32, first := k.sfirst, last := k.slast, rep := 0, d0 := k.supp % 2 ^ 32,
    d1 := k.sd1 }

/-- FUMAROLE_WINDOW_CLOSE (R583, R584): the window that opened first closes after 1 s with a summary; the OVERFLOW key's
summary is created 1 s after its first count. -/
def fumClose (s : State) : State :=
  let best := s.evl.keys.foldl (fun (b : Option (Nat × FumKey)) (k : FumKey) => match k.win, b with
    | some w, some (t, _) => if w < t then some (w, k) else b
    | some w, none => some (w, k)
    | none, b => b) none
  match best, s.evl.oflow with
  | some (t, k), o =>
    if o.any (fun x => x.2 < t) then overflowClose s
    else
      let s := advanceTo (t + secF) s
      let s := s.modEvl (fun x => { x with keys := x.keys.map (fun (j : FumKey) =>
        if j.sev = k.sev && j.kind = k.kind && j.blk = k.blk && j.inst = k.inst && j.mst = k.mst then
          { j with win := none, supp := 0 } else j) })
      fumSync (createRecord (summaryOf s k) s).2
  | none, some _ => overflowClose s
  | none, none => s
where
  /-- The OVERFLOW key's summary (R584). -/
  overflowClose (s : State) : State := match s.evl.oflow with
    | none => s
    | some (c, t) =>
      let s := advanceTo (t + secF) s
      let s := s.modEvl (fun x => { x with oflow := none })
      let r : EvRec := { seq := 0, sev := 7, keel := false, summary := true, kind := 0x12, blk := 0x14, inst := 0xFFFF, mst := 0xFF,
                         mode := s.fld SYS_MODE_CUR, tick := s.tick % 2 ^ 32, first := t, last := t, rep := 0,
                         d0 := c % 2 ^ 32, d1 := 0 }
      (createRecord r s).2

/-- When a window of the table opened first, or the OVERFLOW key began to count. -/
def fumFirst (s : State) : Option Nat :=
  (s.evl.keys.filterMap (·.win) ++ (s.evl.oflow.map (·.2)).toList).foldl (fun (b : Option Nat) t =>
    some (min (b.getD t) t)) none

/-- What is due in the table at instant `t`: windows open for 1 s close, and idle keys leave it (R583, R584). -/
def fumDue (t : Nat) : Nat → State → State
  | 0, s => s.modEvl (fun x => { x with keys := x.keys.filter (fun k => k.win.isSome || t < k.seen + 10 * secF) })
  | n + 1, s => if (fumFirst s).any (fun w => w + secF ≤ t) then fumDue t n (fumClose s) else fumDue t 0 s

/-- An occurrence (R581 to R584), once what is due before it has happened: a repeat of its key's last record, or a new
occurrence. -/
def occurrence (e : Event) (s : State) : State :=
  let e := { e with d0 := e.d0 % 2 ^ 32 }
  let s := fumDue e.first (s.evl.keys.length + 1) s
  fumSync (match s.evl.keys.find? (fun k => k.of e) with
    | some k =>
      match repeats s k e with
      | some (i, r) =>
        let r := { r with rep := r.rep + 1, last := e.first }
        let s := modKey e (fun k => { k with seen := e.first, last := some (i, r) }) (s.incr EVL_REPEATS_COUNT)
        if s.evl.queue.any (fun (q : Nat × EvRec) => q.1 = i) then
          s.modEvl (fun x => { x with queue := x.queue.map (fun (q : Nat × EvRec) => if q.1 = i then (i, r) else q) })
        else s.modEvl (fun x => { x with held := x.held.filter (fun (q : Nat × EvRec) => q.1 ≠ i) ++ [(i, r)] })
      | none => passKey e k s
    | none =>
      if s.evl.keys.length < 1024 then
        let k := newKey s e
        passKey e k (s.modEvl (fun x => { x with keys := x.keys ++ [k] }))
      else s.modEvl (fun x => { x with oflow := match x.oflow with
        | some (c, t) => some (c + 1, t)
        | none => some (1, e.first) }))

/-- Take the oldest event token of the fabric into class E when it is empty (01 R25, R570): the queues in order. -/
def pullEvent (s : State) : State :=
  if s.evq ≠ [] then s
  else match (List.range 24).find? (fun q => match (s.fab[q]?).map (·.tokens) with
      | some (.event _ :: _) => true
      | _ => false) with
  | some q => match s.popToken q with
    | some (.event e, s') => kprSync (enterClassE e s')
    | _ => s
  | none => s

/-- EVENT_OCCURRENCE (R581): the Keeper takes the next item of class E. -/
def execEventOccurrence (s : State) : Host.Outcome State Fault Refusal :=
  run [.evl, .kpr] (fun s =>
    let s := pullEvent s
    match s.evq with
    | [] => s
    | e :: t => kprSync (occurrence e { s with evq := t })) s

/-- FUMAROLE_WINDOW_CLOSE (R583). -/
def execFumaroleWindowClose (s : State) : Host.Outcome State Fault Refusal := run [.evl] fumClose s

/-- FUMAROLE_KEY_EXPIRY (R584): the key idle longest leaves the table when 10 s have passed without an occurrence and it has
no open window. -/
def execFumaroleKeyExpiry (s : State) : Host.Outcome State Fault Refusal :=
  run [.evl] (fun s =>
    let idle := s.evl.keys.filter (fun k => k.win.isNone)
    match idle.foldl (fun (b : Option Nat) k => some (min (b.getD k.seen) k.seen)) none with
    | none => s
    | some t =>
      let s := advanceTo (t + 10 * secF) s
      fumSync (s.modEvl (fun x => { x with keys := x.keys.filter (fun k => k.win.isSome || s.now < k.seen + 10 * secF) }))) s

/-! ### MRAM (R580) -/

/-- A record reaches its slot whole, in four units. -/
def putRecord (i : Nat) (r : EvRec) (s : State) : State := s.setBytes (slotAddr i) (recBytes r)

/-- The oldest record of the write queue is written. -/
def writeNext (s : State) : State :=
  match s.evl.queue with
  | [] => s
  | (i, r) :: t => if s.domOn 2 then putRecord i r (s.modEvl (fun x => { x with queue := t })) else s

/-- EVENT_RECORD_WRITE (R580, R586). -/
def execEventRecordWrite (s : State) : Host.Outcome State Fault Refusal := run [.evl, .nvm] writeNext s

/-- The held repeats are written: the unit at bytes 32 to 47, and each record is offered again (R580, R588). -/
def writeBack (s : State) : State :=
  let l := s.evl.held
  let s := s.modEvl (fun x => { x with held := [], wbAt := s.now })
  l.foldl (fun s (q : Nat × EvRec) =>
    offerRecord q.2 (s.setBytes (slotAddr q.1 + 32) (((recBytes q.2).drop 32).take 16))) s

/-- REPEAT_WRITEBACK (R580): at most once every 10 ms. -/
def execRepeatWriteback (s : State) : Host.Outcome State Fault Refusal :=
  run [.evl, .nvm] (fun s =>
    if s.evl.held.isEmpty then s else writeBack (advanceTo (s.evl.wbAt + 10000000 * nsF) s)) s

/-! ### Seeds and erases -/

/-- The slots of a memory that any listed byte lies in. -/
def listedSlots (s : State) : List Nat :=
  (s.mem.foldl (fun (l : List Nat) (c : Host.Cell) =>
    let i := if 0x22A00000 ≤ c.1 && c.1 < 0x22E00000 then some ((c.1 - 0x22A00000) / 64)
      else if 0x22F11000 ≤ c.1 && c.1 < 0x22F15000 then some (65536 + (c.1 - 0x22F11000) / 64) else none
    match i, l with
    | some i, j :: _ => if i = j then l else i :: l
    | some i, [] => [i]
    | none, l => l) []).reverse

/-- EVENT_RECOUNT (R587): the counts become what the slots hold; a record counted stored that is not found is counted
dropped, and one that it had displaced and that is still valid is stored again. -/
def evlRecount (s : State) : State :=
  let valid := (listedSlots s).filter (slotValid s)
  let now' := valid.map (fun i => (i, ((slotRec s i).seq, (slotRec s i).sev)))
  let lost := s.evl.idx.filter (fun (e : Nat × (Nat × Nat)) => (getKey now' e.1).map (·.1) ≠ some e.2.1)
  let back := lost.filter (fun (e : Nat × (Nat × Nat)) => (getKey now' e.1).isSome)
  let sub := fun (s : State) (f : Fld) (n : Nat) => s.setFld f ((s.fld f + (2 ^ 32 - n % 2 ^ 32)) % 2 ^ 32)
  let s := (sub s EVL_STORED_COUNT lost.length).incr EVL_DROP_COUNT [] lost.length
  let s := (sub s EVL_OVWR_COUNT back.length).incr EVL_STORED_COUNT [] back.length
  evlSync (s.modEvl (fun x => { x with idx := now' }))

/-- A POR or FEED reset clears the key table, and what waits in the write queue is lost (R584, R586). -/
def evlPower (s : State) : State :=
  fumSync (s.modEvl (fun x => { x with keys := [], oflow := none, queue := [], held := [], wbAt := 0 }))

/-- ERASE_LOG: the log, the Keel and the RETAINED counts together (R586, 22 R610). -/
def evlErase (s : State) : State :=
  let s := { s with mem := s.mem.filter (fun c => !(0x22A00000 ≤ c.1 && c.1 < 0x22E00000) &&
    !(0x22F11000 ≤ c.1 && c.1 < 0x22F15000)) }
  let clear := evlRegs.filter (fun r => r.rdom = .retained)
  let s := { s with regs := s.regs.filter (fun e => !clear.any (fun r => (r.at? e.1).isSome)) }
  let forget := fun (k : FumKey) => { k with last := none }
  s.modEvl (fun x => { x with queue := [], held := [], idx := [], keys := x.keys.map forget })

/-- EVL_FUM: a field written 0 is refused; the credits so far refilled at the rates that were in force (R582). -/
def fumAct : Act := fun _ ix w s =>
  if EVL_FUM_BURSTH.of w = 0 || EVL_FUM_RATEH.of w = 0 || EVL_FUM_BURSTL.of w = 0 || EVL_FUM_RATEL.of w = 0 then .badValue s
  else
    let t := s.now
    let settled := fun (k : FumKey) => refill s k t
    .ok ((s.modEvl (fun x => { x with keys := x.keys.map settled })).store EVL_FUM ix w)

/-- The words of a mailbox item of the event log (R589), or the error code. -/
def evlMailbox (s : State) (item index : Nat) : Nat × List Word :=
  let keel := 16 < item
  let i := if keel then 65536 + index else index
  let a := slotAddr i
  let ws := fun (o n : Nat) => (List.range n).map (fun k =>
    if slotValid s i then BitVec.ofNat 32 (s.peek (a + o + 4 * k) 4) else 0)
  match (if 32 ≤ item then 0 else item % 16) with
  | 1 => if keel && 255 < index then (2, []) else (0, ws 16 3)
  | 2 => if keel && 255 < index then (2, []) else (0, ws 32 3)
  | 3 => if keel && 255 < index then (2, []) else (0, ws 0 12)
  | 4 => if keel && 255 < index then (2, []) else (0, ws 48 4)
  | _ => (1, [])

end Sys2Proof.Machine
end

