-- ==== Sys2Proof/Machine/Island.lean ====
section
/-!
DEFINITION. The safety island (16): its tick, states, inputs, functions, outputs, axis monitoring, safe telegrams, its status
to the control plane and to the Keeper.
-/
namespace Sys2Proof.Machine

/-- Island states (R435). -/
def islStart : Nat := 1
/-- COMMISSION. -/
def islComm : Nat := 2
/-- RUN. -/
def islRun : Nat := 3
/-- SAFE. -/
def islSafe : Nat := 4

/-- Change the island. -/
def State.modIsl (s : State) (f : Island → Island) : State := { s with isl := f s.isl }

/-- Safe input i, output o, axis a, connection c. -/
def State.sin (s : State) (i : Nat) : SafeIn := nth s.isl.ins i {}
/-- Safe output o. -/
def State.sout (s : State) (o : Nat) : SafeOut := nth s.isl.outs o {}
/-- Monitored axis a. -/
def State.sax (s : State) (a : Nat) : SafeAxis := nth s.isl.axes a {}
/-- Safe connection c. -/
def State.conn (s : State) (c : Nat) : SafeConn := nth s.isl.conns c {}
/-- Change safe input i. -/
def State.modSin (s : State) (i : Nat) (f : SafeIn → SafeIn) : State := s.modIsl (fun x => { x with ins := modNth x.ins i f })
/-- Change safe output o. -/
def State.modSout (s : State) (o : Nat) (f : SafeOut → SafeOut) : State :=
  s.modIsl (fun x => { x with outs := modNth x.outs o f })
/-- Change monitored axis a. -/
def State.modSax (s : State) (a : Nat) (f : SafeAxis → SafeAxis) : State :=
  s.modIsl (fun x => { x with axes := modNth x.axes a f })
/-- Change connection c. -/
def State.modConn (s : State) (c : Nat) (f : SafeConn → SafeConn) : State :=
  s.modIsl (fun x => { x with conns := modNth x.conns c f })

/-- The numbers below `n` that satisfy a test, as a bit set. -/
def mapOf (n : Nat) (p : Nat → Bool) : Nat := (List.range n).foldl (fun a i => if p i then a + 2 ^ i else a) 0

/-- Whether inputs, tests and telegrams are evaluated (R435). -/
def islEvaluates (s : State) : Bool := s.isl.on && 2 ≤ s.isl.st && !s.isl.held

/-! ### Gate lines and output balls -/

/-- GATE_LINE_LOW and its return: the gates take the values given (R33, R450). -/
def driveGates (grp pwm ax : Nat) (s : State) : State :=
  let s := (List.range 64).foldl (fun s k =>
    let s := if bit s.pwm.gate k = bit pwm k then s else setPairGate k (bit pwm k) s
    if (s.axis k).gate = bit ax k then s else setAxisGate k (bit ax k) s) s
  let old := s.isl.grp
  let s := s.modIsl (fun x => { x with grp := grp % 2 ^ 16 })
  (List.range 16).foldl (fun s g =>
    if bit old g = bit grp g then s
    else match islEn s 4 g with
      | none => s
      | some a => (List.range 16).foldl (fun s i =>
        let s := if bit (recN s a 4 2) i then dacShow i s else s
        if bit (recN s a 8 2) i then beaconPin i (nth s.beacons i {}).pulse.isSome s else s) s) s

/-- The safe outputs take the values given: both balls of an output change, an off command is counted (R451). -/
def driveOuts (m : Nat) (s : State) : State :=
  (List.range 16).foldl (fun s o =>
    let x := s.sout o
    let on := bit m o
    if x.on = on then s
    else
      let s := s.modSout o (fun x => { x with on := on, at_ := s.isl.tick,
                                              cnt := if on then x.cnt else min (2 ^ 32 - 1) (x.cnt + 1) })
      (s.ball .safeOut o (b2n on)).ball .safeOut (16 + o) (b2n on)) s

/-- Every gate low and every safe output open. -/
def allLow (s : State) : State :=
  let s := s.modIsl (fun x => { x with nout := 0, ngrp := 0, npwm := 0, nax := 0 })
  driveOuts 0 (driveGates 0 0 0 s)

/-! ### The mirror -/

/-- Words w0 to w7 of the status item (R462). -/
def statusWords (s : State) : List Nat :=
  let x := s.isl
  let w1 := x.st + x.cause * 16
  if x.held then [x.tick % 2 ^ 32, w1, 0, 0, 0, 0, 0, 0]
  else
    [x.tick % 2 ^ 32, w1, mapOf 32 (fun i => (s.sin i).dmd || (s.sin i).flt ≠ 0 && (islEn s 1 i).isSome),
     mapOf 32 (fun i => (s.sin i).flt ≠ 0),
     mapOf 16 (fun o => (s.sout o).on) + mapOf 16 (fun o => (s.sout o).flt) * 2 ^ 16,
     x.grp, x.ss1 % 2 ^ 32, x.ss1 / 2 ^ 32]

/-- SAFE_NET_c. -/
def connWord (x : SafeConn) : Nat := x.rxcnt % 2 ^ 16 * 2 ^ 16 + min 255 x.seqerr * 256 + x.cause * 16 + x.st

/-- The island rewrites the mirror as one set (R465). -/
def mirror (s : State) : State :=
  let x := s.isl
  let put := fun (r : Reg) (v : Nat) (ix : List Nat) (s : State) => s.setReg r (BitVec.ofNat 32 v) ix
  let live := fun (v : Nat) => if x.held then 0 else v
  let w := statusWords s
  let s := put SAFE_STAT (x.st + x.cause * 16 + live (x.acks % 256 * 256 + b2n x.stuck * 2 ^ 16 +
    b2n (x.outs.any (fun o => x.tick < o.tend)) * 2 ^ 17)) [] s
  let s := put SAFE_STRAP (live (x.strap + x.eq * 2 ^ 16)) [] s
  let s := put SAFE_CFG (live (x.cfgerr * 2 ^ 28 + (if x.cfgerr = 0 then cfgHdr s 6 2 % 2 ^ 14 else 0))) [] s
  let s := put SAFE_CRC (live x.crc) [] s
  let s := put SAFE_TICK x.tick [] s
  let s := put SAFE_TDEV (live (match x.dev with
    | some d => 2 ^ 16 + ofInt 16 d
    | none => 0)) [] s
  let s := put SAFE_SIDBASE (live (if x.cfgerr = 0 then cfgHdr s 20 4 % 2 ^ 18 else 0)) [] s
  let s := put SAFE_IN_DMD (nth w 2 0) [] (put SAFE_IN_FLT (nth w 3 0) [] s)
  let s := put SAFE_IN_A (live (mapOf 32 (fun i => (s.sin i).fa))) [] s
  let s := put SAFE_IN_B (live (mapOf 32 (fun i => (s.sin i).fb))) [] s
  let s := put SAFE_OUT (nth w 4 0) [] (put SAFE_OUT_RB (live x.rb) [] (put SAFE_GRP (live x.grp) [] s))
  let pair := fun (r : Reg) (v : Nat) (s : State) => put r (live v) [0] (put r (live (v / 2 ^ 32)) [1] s)
  let s := pair SAFE_GPWM s.pwm.gate s
  let s := pair SAFE_GAX (mapOf 64 (fun a => (s.axis a).gate)) s
  let s := pair SAFE_FN x.active (pair SAFE_SS1 x.ss1 (pair SAFE_AXF (mapOf 64 (fun a => (s.sax a).flt)) s))
  let s := (List.range 8).foldl (fun s c => put SAFE_NET (live (connWord (s.conn c))) [c] s) s
  (List.range 16).foldl (fun s o => put SAFE_SWCNT (live (s.sout o).cnt) [o] s) s

/-! ### States of the island -/

/-- Entry to SAFE at the next tick (R436): the states computed for it are all off. -/
def islEnterSafe (cause : Nat) (s : State) : State :=
  s.modIsl (fun x => { x with st := islSafe, cause := cause, nout := 0, ngrp := 0, npwm := 0, nax := 0 })

/-- The hardware action of R430: every gate low, every output open, SAFE, the cores held in reset. -/
def islHard (cause : Nat) (s : State) : State :=
  if !s.isl.on then s
  else mirror (allLow (s.modIsl (fun x => { x with st := islSafe, cause := cause, held := true, active := 0, ss1 := 0 })))

/-- LOCKSTEP_MISMATCH (R430). -/
def execLockstepMismatch (s : State) : Host.Outcome State Fault Refusal := run [.safe] (islHard 1) s

/-- START (R436): gates low, outputs open, states of the elements begun anew, ticks counted from 0. -/
def islBegin (s : State) : State :=
  let s := s.modIsl (fun x =>
    { x with st := islStart, tick := 0, held := false, stood := 0, press := none, stuck := false, latch := 0, active := 0,
             ss1 := 0, winAt := none, dev := none,
             ins := List.replicate 32 {}, conns := List.replicate 8 {},
             axes := (List.range 64).map (fun a => { src := (s.axis a).steps }),
             outs := x.outs.map (fun o => { on := o.on, cnt := o.cnt }) })
  mirror (allLow s)

/-- D1 powers up (R436, R538). -/
def islPowerUp (s : State) : State :=
  let s := s.setFld PWR_DOMSTAT_ON (s.fld PWR_DOMSTAT_ON ||| 2)
  let s := s.modIsl (fun x =>
    { on := true, outs := x.outs.map (fun o => { cnt := o.cnt }), grp := x.grp })
  (islBegin s).modCore 17 (fun _ => { run := .running })

/-- ISLAND_POWER_UP (R436): D1 powered while the island is OFF; after SUPPLY that waits for a POR or FEED reset. -/
def execIslandPowerUp (s : State) : Host.Outcome State Fault Refusal :=
  run [.safe] (fun s => if s.isl.on || s.isl.cause = 8 then s else islPowerUp s) s

/-- The configuration is read and checked (R442). -/
def islReadCfg (s : State) : State :=
  let e := cfgCheck s s.isl.strap
  s.modIsl (fun x => { x with cfgerr := e, crc := cfgHdr s 16 4 })

/-- Every connection enabled now waits for its first telegram, and one that is not is OFF (R457, R465). -/
def connsBegin (s : State) : State :=
  (List.range 8).foldl (fun s c =>
    if (islEn s 6 c).isNone then s.modConn c (fun _ => {})
    else s.modConn c (fun x => if x.st = 0 then { x with st := 1 } else x)) s

/-- The enabled test pulse outputs are driven high between their pulses (R446). -/
def pulsesHigh (s : State) : State :=
  (List.range 16).foldl (fun s j => if (islEn s 2 j).isSome then s.ball .testOut j 1 else s) s

/-- The functions with MANUAL, latched at entry to RUN (R437). -/
def manualMask (s : State) : Nat :=
  mapOf 64 (fun f => match islEn s 7 f with
    | some a => bit (recN s a 2 1) 1
    | none => false)

/-- The start-up ends: the configuration and the straps select the state, and enabled connections begin (R429, R431, R434). -/
def islStarted (pass : Bool) (s : State) : State :=
  let s := islReadCfg (s.modIsl (fun x => { x with strap0 := x.strap }))
  let mode := bits s.isl.strap 15 14
  let s := if !pass then islEnterSafe 9 s
    else if s.isl.eq ≠ 0 || s.isl.stood < 8 || mode = 0 || mode = 3 || bits s.isl.strap 13 12 = 3 then islEnterSafe 4 s
    else if mode = 2 then s.modIsl (fun x => { x with st := islComm })
    else if s.isl.cfgerr ≠ 0 then islEnterSafe 6 s
    else s.modIsl (fun x => { x with st := islRun, latch := manualMask s })
  mirror (pulsesHigh (connsBegin s))

/-- ISLAND_START_DONE (R436): `pass` is the result of the self-test; straps and configuration decide. -/
def execIslandStartDone (pass : Bool) (s : State) : Host.Outcome State Fault Refusal :=
  run [.safe] (fun s => if s.isl.on && s.isl.st = islStart then islStarted pass s else s) s

/-- CONFIG_WRITE_DONE (R436): in COMMISSION a completed write of the region is checked again. -/
def execConfigWriteDone (s : State) : Host.Outcome State Fault Refusal :=
  run [.safe] (fun s => if s.isl.on && s.isl.st = islComm then mirror (pulsesHigh (connsBegin (islReadCfg s))) else s) s

/-! ### Inputs -/

/-- One channel's raw sample: the filtered level, the last raw level and how many samples it has stood. -/
def filterStep (filt : Nat) (f r : Bool) (n : Nat) (raw : Bool) : Bool × Bool × Nat :=
  let n := if raw = r then min 10000 (n + 1) else 1
  (if filt * 25 ≤ n then raw else f, raw, n)

/-- Each enabled safe input takes one sample of its two channels through their filters (R438). -/
def sampleInputs (a b : BitVec 32) (s : State) : State :=
  (List.range 32).foldl (fun s i => match islEn s 1 i with
  | none => s
  | some r =>
    let x := s.sin i
    let fa := filterStep (recN s r 4 2) x.fa x.ra x.na (a.getLsbD i)
    let fb := filterStep (recN s r 4 2) x.fb x.rb x.nb (b.getLsbD i)
    s.modSin i (fun x => { x with fa := fa.1, ra := fa.2.1, na := fa.2.2, fb := fb.1, rb := fb.2.1, nb := fb.2.2 })) s

/-- SAFE_INPUT_SAMPLE (R443): the raw levels of every channel. -/
def execSafeInputSample (a b : BitVec 32) (s : State) : Host.Outcome State Fault Refusal :=
  run [.safe] (fun s => if islEvaluates s then sampleInputs a b s else s) s

/-- The check of one channel against pulse j at its check point (R446): `tp` is its own pulse output, `lo`, `pre` and `post`
its raw levels at the check point, before and after. The TEST and CROSS results. -/
def pulseCheck (tp j : Nat) (pre chk post : Bool) : Bool × Bool :=
  (tp = j && chk, tp ≠ j && !chk && pre && post)

/-- A pulse on test output j and what every enabled input saw of it (R439, R440). -/
def testPulse (j : Nat) (preA preB chkA chkB postA postB : BitVec 32) (s : State) : State :=
  let s := (s.ball .testOut j 0).ball .testOut j 1
  (List.range 32).foldl (fun s i => match islEn s 1 i with
    | none => s
    | some r =>
      let ta := recN s r 8 1
      let tb := recN s r 9 1
      let ca := pulseCheck ta j (preA.getLsbD i) (chkA.getLsbD i) (postA.getLsbD i)
      let cb := pulseCheck tb j (preB.getLsbD i) (chkB.getLsbD i) (postB.getLsbD i)
      s.modSin i (fun x =>
        let t := if ta = j then putBits x.tbad 0 0 (b2n ca.1) else x.tbad
        let t := if tb = j then putBits t 1 1 (b2n cb.1) else t
        let c := putBits (putBits x.xbad j j (b2n ca.2)) (16 + j) (16 + j) (b2n cb.2)
        let f := x.flt ||| (if ca.1 || cb.1 then 2 else 0) ||| (if ca.2 || cb.2 then 4 else 0)
        { x with tbad := t, xbad := c, flt := f })) s

/-- TEST_PULSE (R446): pulse j runs; the raw levels of the channels 20 µs before it, at its check point and 20 µs after. -/
def execTestPulse (j : Fin 16) (preA preB chkA chkB postA postB : BitVec 32) (s : State) :
    Host.Outcome State Fault Refusal :=
  run [.safe] (fun s =>
    if !islEvaluates s || (islEn s 2 j.val).isNone then s else testPulse j.val preA preB chkA chkB postA postB s) s

/-- The channels of input i in demand (R443). -/
def inDemand (s : State) (r : Nat) (x : SafeIn) : Bool × Bool :=
  (!x.fa, if bit (recN s r 2 1) 1 then x.fb else !x.fb)

/-- The sample of input i at a tick (R444, R445). -/
def sampleInput (i : Nat) (s : State) : State :=
  match islEn s 1 i with
  | none => s.modSin i (fun _ => { dmd := false })
  | some r =>
    let n := recN s r 6 2
    s.modSin i (fun x =>
      let d := inDemand s r x
      let disc := if d.1 = d.2 then 0 else min 5000 (x.disc + 1)
      let any := d.1 || d.2
      let both := if d.1 && d.2 then true else if x.dmd then x.both else false
      let dmd := any || (x.dmd && !both)
      let flt := if disc = n + 1 then x.flt ||| 1 else x.flt
      let x := { x with disc := disc, dmd := dmd, both := if dmd then both else false, flt := flt }
      { x with gone := if disc = 0 && x.tbad = 0 && x.xbad = 0 then x.gone + 1 else 0 })

/-- Whether the causes of the faults of input x have gone. -/
def inputClear (x : SafeIn) : Bool := x.disc = 0 && x.tbad = 0 && x.xbad = 0

/-! ### Functions -/

/-- Whether an input counts as demanded (R447). -/
def inputActive (s : State) (i : Nat) : Bool := (s.sin i).dmd || (s.sin i).flt ≠ 0

/-- A connection's received data bit (R448, R458): 0 while it is faulted. -/
def netBit (s : State) (c b : Nat) : Bool := (s.conn c).st ≠ 4 && bit (s.conn c).data b

/-- Whether function f is demanded now, its latch apart (R448). -/
def fnDemand (s : State) (a : Nat) : Bool :=
  (List.range 32).any (fun i => bit (recN s a 6 4) i && inputActive s i) ||
    (bit (recN s a 2 1) 3 && !netBit s (recN s a 4 2 % 8) (bits (recN s a 4 2) 9 3))

/-- The functions active at this tick, and the latches (R448, R449). -/
def functions (s : State) : State :=
  let demand := mapOf 64 (fun f => match islEn s 7 f with
    | some a => fnDemand s a
    | none => false)
  let active := mapOf 64 (fun f => (islEn s 7 f).isSome && (bit demand f || bit s.isl.latch f))
  let latch := mapOf 64 (fun f => bit s.isl.latch f || match islEn s 7 f with
    | some a => bit (recN s a 2 1) 1 && bit active f
    | none => false)
  s.modIsl (fun x => { x with active := active, latch := latch })

/-- The active functions with LIMIT as given that satisfy a test on their record. -/
def fnSelects (s : State) (limit : Bool) (p : Nat → Bool) : Bool :=
  (List.range 64).any (fun f => bit s.isl.active f && match islEn s 7 f with
    | some a => bit (recN s a 2 1) 2 = limit && p a
    | none => false)

/-! ### Axis monitoring -/

/-- Whether axis a is stopped by an active STOP function. -/
def axisStopped (s : State) (a : Nat) : Bool := fnSelects s false (fun r => bit (recN s r 24 8) a)

/-- A rational velocity in counts per tick as counts/s. -/
def cps (v : Rat) : Int := ratRound (v * 200000)

/-- The island's look at axis a at a tick (R452): violations latch an axis fault; the monitored speed is returned. Without a
record it is the commanded speed. A back-EMF speed estimate is a value that the spec does not state (free). -/
def axisMonitor (a : Nat) (s : State) : Nat × State :=
  let y := s.axis a
  let cmd := ratRound (counts y.pos)
  match islRec s 5 a with
  | none => ((cps y.v).natAbs, s)
  | some r =>
    let x := s.sax a
    let src := bits (recN s r 3 1) 1 0
    let conn := bits (recN s r 3 1) 4 2
    let word := bits (recN s r 3 1) 6 5
    let d := s.draw
    let s := if src = 2 then d.2 else s
    let raw : Int := match src with
      | 1 => y.steps
      | 3 => if (s.conn conn).st = 4 then 0 else sx 32 ((s.conn conn).data / 2 ^ (32 * word))
      | _ => cmd
    let unref := s.isSet MOT_AX_STAT_UNREF [a]
    let ofs := if x.unref && !unref then cmd - raw else x.ofs
    let srcPos := raw + (if src = 1 then ofs else 0)
    let vc := cps y.v
    let vs : Int := match src with
      | 0 => vc
      | 2 => sx 32 d.1
      | _ => (raw - x.src) * 4000
    let speed := max vc.natAbs vs.natAbs
    let tol := recN s r 16 4
    let dis := if tol < (vc - vs).natAbs then x.dis + 1 else 0
    let f := recN s r 2 1
    let force := bit f 4 || fnSelects s true (fun q => bit (recN s q 24 8) a)
    let sls := bit f 0 && force && recN s r 4 4 < speed
    let lo := sx 32 (recN s r 8 4)
    let hi := sx 32 (recN s r 12 4)
    let out := fun (p : Int) => p < lo || hi < p
    let slp := bit f 1 && force && (unref || out cmd || (src ≠ 2 && out srcPos))
    let ref := if bit f 2 && force then some (x.ref.getD (cmd, srcPos)) else none
    let ptol : Int := (recN s r 26 2 : Int)
    let against := fun (p q : Int) => if bit f 5 then ptol < p - q else p - q < -ptol
    let sdi := match ref with
      | some (c0, p0) => against cmd c0 || (src ≠ 2 && against srcPos p0)
      | none => false
    let bad := sls || slp || sdi || 2 ≤ dis
    (speed, s.modSax a (fun x => { x with src := raw, cmd := cmd, ofs := ofs, unref := unref, dis := dis, ref := ref,
                                          bad := bad, flt := x.flt || bad }))

/-- The axis gate of axis a for the next tick, and its safe-stop request (R450, R452). -/
def axisStop (a : Nat) (speed : Nat) (s : State) : State :=
  let x := s.sax a
  if !(axisStopped s a || x.flt) then s.modSax a (fun x => { x with req := none, low := false })
  else
    let r := islRec s 5 a
    let cat1 := match r with
      | some r => bit (recN s r 2 1) 3
      | none => false
    if !cat1 then s.modSax a (fun x => { x with low := true })
    else match r with
      | none => s
      | some r => match x.req with
        | none => s.modSax a (fun x => { x with req := some (s.isl.tick, (speed : Int)) })
        | some (t, v) =>
          let low := speed ≤ recN s r 20 4 || t + recN s r 24 2 ≤ s.isl.tick || v + (recN s r 16 4 : Int) < (speed : Int)
          s.modSax a (fun x => { x with low := x.low || low })

/-! ### Acknowledge -/

/-- The ACK input. -/
def ackInput (s : State) : Option Nat :=
  (List.range 32).find? (fun i => match islEn s 1 i with
    | some a => bit (recN s a 2 1) 2
    | none => false)

/-- Whether the cause of the present SAFE has gone (R436). -/
def safeGone (s : State) : Bool :=
  match s.isl.cause with
  | 4 => s.isl.eq = 0 && bits s.isl.strap 15 14 ≠ 0 && bits s.isl.strap 15 14 ≠ 3 && bits s.isl.strap 13 12 ≠ 3
  | 5 => s.isl.strap = s.isl.strap0
  | 6 => cfgCheck s s.isl.strap = 0
  | 7 => (s.isl.dev.getD 0).natAbs ≤ 100
  | 9 => true
  | _ => false

/-- ACKNOWLEDGE (R447): every latch whose cause has gone clears. -/
def acknowledge (s : State) : State :=
  let s := s.modIsl (fun x => { x with acks := x.acks + 1, stuck := false })
  let s := (List.range 32).foldl (fun s i => s.modSin i (fun x => if inputClear x then { x with flt := 0 } else x)) s
  let s := (List.range 8).foldl (fun s c => s.modConn c (fun x =>
    if x.st = 4 && x.good then { x with st := 2, cause := 0, lone := 0, seqn := 0 } else x)) s
  let s := (List.range 16).foldl (fun s o => s.modSout o (fun x =>
    if x.flt && !bit s.isl.rb o && !bit s.isl.rb (16 + o) then { x with flt := false } else x)) s
  let s := (List.range 64).foldl (fun s a => s.modSax a (fun x => if x.bad then x else { x with flt := false })) s
  let latch := mapOf 64 (fun f => bit s.isl.latch f && match islEn s 7 f with
    | some a => fnDemand s a
    | none => false)
  let s := s.modIsl (fun x => { x with latch := latch })
  if s.isl.st = islSafe && safeGone s then islBegin s else s

/-- The ACK input at a tick: a press begins, goes on too long, or ends (R447). -/
def ackLook (s : State) : State :=
  match ackInput s with
  | none => s
  | some i => match islEn s 1 i with
    | none => s
    | some r =>
      let d := inDemand s r (s.sin i)
      let s := if 4000 ≤ (s.sin i).gone then s.modSin i (fun x => { x with flt := 0 }) else s
      let k := s.isl.tick
      match s.isl.press with
      | none => if !d.1 && !d.2 then s.modIsl (fun x => { x with press := some k }) else s
      | some t =>
        if !d.1 && !d.2 then (if 20000 < k - t then s.modIsl (fun x => { x with stuck := true }) else s)
        else
          let s := s.modIsl (fun x => { x with press := none })
          if 1000 ≤ k - t && k - t ≤ 20000 then acknowledge s else s

/-! ### Connections -/

/-- A connection faults (R456 to R458): the fault latches and its data read 0 from the next tick. -/
def connFault (c cause : Nat) (s : State) : State :=
  if (s.conn c).st = 4 then s
  else s.modConn c (fun x => { x with st := 4, cause := cause, good := false, next := 0 })

/-- Received data of the copies accepted since the last tick, and timeouts (R456, R457). -/
def connTick (c : Nat) (s : State) : State :=
  match islEn s 6 c with
  | none => s
  | some r =>
    let s := s.modConn c (fun x => { x with data := if x.st = 4 then 0 else x.next,
                                            good := x.good && s.isl.tick < x.acc + recN s r 6 2 })
    let x := s.conn c
    if x.rxseq.isSome && x.st ≠ 4 && x.acc + recN s r 6 2 ≤ s.isl.tick then connFault c 1 s else s

/-- CONNECTION_TIMEOUT (R457): WD ticks pass without an accepted copy. -/
def execConnectionTimeout (c : Fin 8) (s : State) : Host.Outcome State Fault Refusal :=
  run [.safe] (fun s => match islEn s 6 c.val with
    | none => s
    | some r =>
      let x := s.conn c.val
      if islEvaluates s && x.rxseq.isSome && x.st ≠ 4 then
        mirror (connFault c.val 1 (s.modIsl (fun y => { y with tick := max y.tick (x.acc + recN s r 6 2) })))
      else s) s

/-- The bytes of the telegram of connection c on network `net` (R454, R455). -/
def telegram (s : State) (c r : Nat) (net : Bool) : List Byte :=
  let x := s.conn c
  let data := mapOf 32 (fun i => !inputActive s i) + mapOf 16 (fun o => (s.sout o).on) * 2 ^ 32 +
    mapOf 64 (fun f => !bit s.isl.active f) * 2 ^ 48
  let b := leBytes 2 (recN s r 20 2) ++ leBytes 1 1 ++ leBytes 1 (b2n net + 2 * b2n (x.st = 4)) ++ leBytes 4 x.txseq ++
    leBytes 4 (x.rxseq.getD 0) ++ leBytes 4 s.isl.tick ++ leBytes 16 data
  b ++ leBytes 4 (crc32c (recN s r 8 4) b)

/-- A telegram put out on a network (R453): NETSEL 1 a UDP datagram of host port 0 or 1 (port 32 or 33, with source address,
destination address and UDP port before the payload), NETSEL 2 an Ethernet frame of remote port 2 or 3. -/
def sendTelegram (c r : Nat) (net : Bool) (s : State) : State :=
  let p := telegram s c r net
  if bits s.isl.strap 13 12 = 1 then
    let src := cfgHdr s (if net then 32 else 28) 4
    let dst := recN s r (if net then 16 else 12) 4
    s.say (.send (32 + b2n net) 0x5A (src :: dst :: cfgHdr s 26 2 :: p.map (·.toNat)))
  else
    let dev := s.fld SYS_DEVNUM_DEVNUM
    let f := beBytes 6 0x034B5600005A ++ beBytes 3 0x024B56 ++ beBytes 2 dev ++ beBytes 1 (if net then 0xA3 else 0xA2) ++
      beBytes 2 (cfgHdr s 24 2) ++ p
    let f := f ++ List.replicate (60 - f.length) 0
    s.say (.send (2 + b2n net) 0x5A ((f ++ leBytes 4 (crc32 f)).map (·.toNat)))

/-- Connection c sends its telegram of the next sequence number on both networks. -/
def telegramSent (c : Nat) (r : Nat) (s : State) : State :=
  let s := s.modConn c (fun x => { x with txseq := (x.txseq + 1) % 2 ^ 32, sent := some s.isl.tick })
  sendTelegram c r true (sendTelegram c r false s)

/-- TELEGRAM_SEND (R455): connection c sends its next telegram, PER ticks after the last. -/
def execTelegramSend (c : Fin 8) (s : State) : Host.Outcome State Fault Refusal :=
  run [.safe] (fun s =>
    let c := c.val
    match islEn s 6 c with
    | none => s
    | some r =>
      if !islEvaluates s || (s.conn c).sent.any (fun t => s.isl.tick < t + recN s r 4 2) then s
      else
        telegramSent c r s) s

/-- A valid copy of connection c is accepted (R456, R457). -/
def acceptCopy (c r : Nat) (net : Bool) (bs : List Byte) (s : State) : State :=
  let x := s.conn c
  let lone := if x.rxseq.isSome && !x.pair then x.lone + 1 else 0
  let s := s.modConn c (fun x => { x with rxseq := some (leAtB bs 4 4), net := net, copy := bs, pair := false, lone := lone,
                                          acc := s.isl.tick, seqn := 0, good := x.good && lone = 0, rxcnt := x.rxcnt + 1, next := leAtB bs 16 16,
                                          st := if x.st = 4 then 4 else if lone = 0 then 2 else 3 })
  if (leAtB bs 3 1) / 2 % 2 = 1 then connFault c 5 s
  else if recN s r 3 1 < lone then connFault c 3 s
  else s
where
  /-- A little-endian number within a list of bytes. -/
  leAtB (bs : List Byte) (i n : Nat) : Nat := ofLE ((bs.drop i).take n)

/-- The bytes in which the two copies of a telegram are compared (R456). -/
def copyKey (bs : List Byte) : List Nat :=
  (bs.drop 2).head?.toList.map (·.toNat) ++ [(ofLE ((bs.drop 3).take 1)) / 2 % 2] ++ ((bs.drop 4).take 28).map (·.toNat)

/-- A valid telegram of connection c: a new one is accepted, the other copy of the last one is compared, any other sequence is an error. -/
def telegramTaken (c : Nat) (r : Nat) (net : Bool) (bs : List Byte) (num : Nat → Nat → Nat) (s : State) : State :=
  let x := s.conn c
  let seq := num 4 4
  let gap := (seq + 2 ^ 32 - x.rxseq.getD 0) % 2 ^ 32
  if x.rxseq.isNone || (1 ≤ gap && gap ≤ 4) then acceptCopy c r net bs s
  else if gap = 0 && net ≠ x.net then
    if copyKey bs ≠ copyKey x.copy then connFault c 2 s
    else s.modConn c (fun x => { x with pair := true, lone := 0, good := true, seqn := 0,
                                        st := if x.st = 4 then 4 else 2 })
  else
    let s := s.modConn c (fun x => { x with seqn := x.seqn + 1, seqerr := min 255 (x.seqerr + 1) })
    if 2 ≤ (s.conn c).seqn then connFault c 4 s else s

/-- The enabled connection whose partner sends with number n. -/
def connOf (s : State) (n : Nat) : Option Nat :=
  (List.range 8).find? (fun c => match islEn s 6 c with
    | some r => recN s r 20 2 = n
    | none => false)

/-- TELEGRAM (R456): a frame's payload arrives on a network. -/
def execTelegram (net : Bool) (bs : List Byte) (s : State) : Host.Outcome State Fault Refusal :=
  run [.safe] (fun s =>
    let num := fun i n => ofLE ((bs.drop i).take n)
    match connOf s (num 0 2) with
    | none => s
    | some c => match islEn s 6 c with
      | none => s
      | some r =>
        let ok := bs.length = 36 && num 2 1 = 1 && (num 3 1 % 2 = 1) = net &&
          num 32 4 = crc32c (recN s r 8 4) (bs.take 32)
        if !islEvaluates s || !ok then s
        else
          telegramTaken c r net bs num s) s

/-! ### Outputs -/

/-- The readbacks of output o at a tick (R451): both switches must show the commanded state once RBT has passed. -/
def readback (o : Nat) (s : State) : State :=
  match islEn s 3 o with
  | none => s
  | some r =>
    let x := s.sout o
    let due := recN s r 6 2 ≤ (s.isl.tick - x.at_) * 250
    let ok := bit s.isl.rb o = x.on && bit s.isl.rb (16 + o) = x.on
    if due && !ok && !x.flt && x.tend ≤ s.isl.tick then s.modSout o (fun x => { x with flt := true }) else s

/-- The switches of output o are closed and opened once each, one after the other, at the end of its test period p; a readback
that does not follow within the readback time `rbt` is a fault. The four movements take four readback times, during which
TESTRUN reads 1 and the readbacks of the output are the test's. -/
def switchTested (o p rbt : Nat) (ok : Bool) (s : State) : State :=
  let s := s.modIsl (fun y => { y with tick := max y.tick ((s.sout o).test + p * 4000) })
  let s := (s.ball .safeOut o 1).ball .safeOut o 0
  let s := (s.ball .safeOut (16 + o) 1).ball .safeOut (16 + o) 0
  mirror (s.modSout o (fun x => { x with test := s.isl.tick, tend := s.isl.tick + ceilDiv (4 * rbt) 250, flt := x.flt || !ok }))

/-- SWITCH_TEST (R451): the switches of an output that is off are tested in turn; the readbacks seen: HS closed, HS open
again, LS closed, LS open again. -/
def execSwitchTest (o : Fin 16) (hsClosed hsOpen lsClosed lsOpen : Bool) (s : State) : Host.Outcome State Fault Refusal :=
  run [.safe] (fun s =>
    let o := o.val
    match islEn s 3 o with
    | none => s
    | some r =>
      let x := s.sout o
      if !islEvaluates s || recN s r 8 2 = 0 || x.on || bit s.isl.rb o || bit s.isl.rb (16 + o) then s
      else
      switchTested o (recN s r 8 2) (recN s r 6 2) (hsClosed && hsOpen && lsClosed && lsOpen) s) s

/-! ### The tick -/

/-- The strap word at a tick (R438): pairs that read equal keep their last bit. -/
def sampleStraps (a b : Nat) (s : State) : Nat × State :=
  let eq := 0xFFFF - (a ^^^ b)
  let word := (a &&& (0xFFFF - eq)) ||| (s.isl.strap &&& eq)
  let again := s.isl.eq &&& eq
  (again, s.modIsl (fun x => { x with eq := eq, strap := word,
                                      stood := if eq = 0 && (word = x.strap || x.stood = 0) then x.stood + 1
                                               else if eq = 0 then 1 else 0 }))

/-- What the straps, the supply and the tick window make of the island's state (R436, R438, R439). -/
def islStates (again : Nat) (s : State) : State :=
  let x := s.isl
  if x.st = islRun then
    if again ≠ 0 then islEnterSafe 4 s
    else if x.strap ≠ x.strap0 && 2 ≤ x.stood then islEnterSafe 5 s
    else if x.supply then islEnterSafe 8 s
    else s
  else if x.st = islComm then
    if again ≠ 0 then islEnterSafe 4 s
    else if x.strap ≠ x.strap0 && 2 ≤ x.stood then islBegin s
    else s
  else s

/-- The targets for the next tick (R450). -/
def targets (s : State) : State :=
  if s.isl.st ≠ islRun then s.modIsl (fun x => { x with nout := 0, ngrp := 0, npwm := 0, nax := 0 })
  else
    let sel := fun (o b : Nat) => fnSelects s false (fun r => bit (recN s r o 8) b)
    let nout := mapOf 16 (fun o => (islEn s 3 o).isSome && !(s.sout o).flt && !sel 10 o)
    let ngrp := mapOf 16 (fun g => !sel 12 g)
    let npwm := mapOf 64 (fun p => !sel 16 p)
    let nax := mapOf 64 (fun a => !(s.sax a).low)
    s.modIsl (fun x => { x with nout := nout, ngrp := ngrp, npwm := npwm, nax := nax })

/-- The evaluation at a tick: inputs, connections, functions, axes, outputs, acknowledge, targets. -/
def evaluate (s : State) : State :=
  let s := (List.range 32).foldl (fun s i => sampleInput i s) s
  let s := (List.range 8).foldl (fun s c => connTick c s) s
  let s := functions (ackLook s)
  if s.isl.st = islStart then s
  else
    let s := (List.range 64).foldl (fun s a => let m := axisMonitor a s; axisStop a m.1 m.2) s
    let s := (List.range 16).foldl (fun s o => readback o s) s
    let ss1 := mapOf 64 (fun a => (s.sax a).req.isSome)
    targets (s.modIsl (fun x => { x with ss1 := ss1 }))

/-- STATUS_ITEM (R462): the status item of source 377 completes at most 1 µs after the start of the tick, at an instant that
the spec leaves open. -/
def statusItem (s : State) : State :=
  let d := s.draw
  let s := advanceTo (d.2.now + d.1 % (1000 * nsF + 1)) d.2
  s.pushItem 377 s.now (.island (statusWords s))

/-- A reading of the mirror is due: it enters class S, which keeps four (21 R570). -/
def readingDue (s : State) : State := kprSync (s.modKpr (fun k => { k with qS := min 4 (k.qS + 1) }))

/-- One island tick: outputs, readback, straps, the state machine, the evaluation of the logic; the Keeper's reading of the
mirror is due (21 R570). -/
def islandTick (sealA sealB rbh rbl : BitVec 16) (s : State) : State :=
  let s := s.modIsl (fun x => { x with tick := (x.tick + 1) % 2 ^ 32 })
  if s.isl.held then readingDue (mirror (statusItem s))
  else
    let x := s.isl
    let s := statusItem (driveOuts x.nout (driveGates x.ngrp x.npwm x.nax s))
    let s := s.modIsl (fun x => { x with rb := rbh.toNat + rbl.toNat * 2 ^ 16 })
    let r := sampleStraps sealA.toNat sealB.toNat s
    let s := islStates r.1 r.2
    readingDue (mirror (if 2 ≤ s.isl.st then evaluate s else s))

/-- ISLAND_TICK (R433): the straps (SEAL_A, SEAL_B) and the readbacks (SO_RBH, SO_RBL) as sampled at this tick. -/
def execIslandTick (sealA sealB rbh rbl : BitVec 16) (s : State) : Host.Outcome State Fault Refusal :=
  run [.safe] (fun s =>
    if !s.isl.on then s
    else
      islandTick sealA sealB rbh rbl s) s

/-- A second of the tick generator's ticks has been counted: a deviation over 1 % brings the island to SAFE. -/
def tickWindowEnds (ticks : Nat) (s : State) : State :=
  let s := match s.isl.winAt with
    | some t => advanceTo (t + secF) s
    | none => s
  let stepped := s.isl.step
  let s := s.modIsl (fun x => { x with winAt := some s.now, step := false })
  if stepped then s
  else
    let dev : Int := (((ticks : Int) - 4000) * 10000) / 4000
    let s := s.modIsl (fun x => { x with dev := some dev })
    mirror (if 100 < dev.natAbs && (s.isl.st = islRun || s.isl.st = islComm) then islEnterSafe 7 s else s)

/-- TICK_WINDOW (R434): the island has counted `ticks` ticks in 1 s of device time. A window with a step is discarded. -/
def execTickWindow (ticks : BitVec 16) (s : State) : Host.Outcome State Fault Refusal :=
  run [.safe] (fun s =>
    if !s.isl.on || s.isl.held || s.isl.st = 0 then s
    else tickWindowEnds ticks.toNat s) s

/-- The modes that apply items of source 377 (R462). -/
def islApplies (s : State) : Bool :=
  match s.mode with
  | .provision | .stop | .safe | .run | .hold | .trial | .brace | .follow => true
  | _ => false

/-- The modes in which the island's state puts the device in Safe (R507). -/
def islGuards (s : State) : Bool :=
  match s.effMode with
  | .run | .hold | .trial => true
  | _ => false

/-- The first of the eight status signals: SIDBASE of the configuration in effect (R440, R462). -/
def sidBase (s : State) : Nat := if s.isl.cfgerr = 0 then cfgHdr s 20 4 % 2 ^ 18 else 0

/-- ISLAND_ITEM_APPLY (R462, R507): the item's words in Phase 3 of tick n. -/
def islApply (ws : List Nat) (stamp n : Nat) (s : State) : State :=
  if !islApplies s then s
  else
    let base := sidBase s
    let age := min 4095 (ceilDiv (tickAt n - stamp) (5000 * nsF))
    let s := (List.range 8).foldl (fun s w => s.setSig (base + w) (nth ws w 0) age n) s
    let ss1 := nth ws 6 0 + nth ws 7 0 * 2 ^ 32
    let s := (List.range 64).foldl (fun s a =>
      if bit ss1 a && !bit s.islv.ss1 a then stopRequest a codeAborted false s else s) s
    let st := nth ws 1 0 % 8
    let s := { s with islv := { s.islv with tick := some n, at_ := tickAt n, ss1 := ss1, st := st, silent := false } }
    if st ≠ islRun && islGuards s then s.raiseSafe 6 else s

/-- From when silence is measured. -/
def islSilenceFrom (s : State) : Nat := max s.islv.since (if s.islv.tick.isSome then s.islv.at_ else 0)

/-- The eight signals are rewritten once at tick n (R462). -/
def islSilence (n : Nat) (s : State) : State :=
  let base := sidBase s
  let age := match s.islv.tick with
    | some k => if s.islv.since ≤ s.islv.at_ then min 4095 (n - k) else 4095
    | none => 4095
  let s := (List.range 8).foldl (fun s w => s.setSig (base + w) (s.sigVal (base + w)) (2 * 2 ^ 14 + 2 ^ 12 + age) n) s
  let s := { s with islv := { s.islv with silent := true } }
  if islGuards s then s.raiseSafe 6 else s

/-- The silence rule at tick n. -/
def islSilenceDue (n : Nat) (s : State) : State :=
  if islApplies s && !s.islv.silent && islSilenceFrom s + 1250000 * nsF ≤ tickAt n then islSilence n s else s

/-- ISLAND_SILENCE (R462): 1,250 µs without an applied item. -/
def execIslandSilence (s : State) : Host.Outcome State Fault Refusal :=
  run [.safe, .mot] (fun s =>
    if !islApplies s || s.islv.silent then s
    else
      let n := ceilDiv (islSilenceFrom s + 1250000 * nsF) (5000 * nsF)
      let s := advanceTo (tickAt n) s
      islSilence (max n s.tick) s) s

/-! ### The Keeper's look at the mirror -/

/-- What the Keeper watches of the mirror: acknowledges, state, and the fault bits of inputs, outputs, axes, connections. -/
def mirrorView (s : State) : List Nat :=
  [s.fld SAFE_STAT_ACKCNT, s.fld SAFE_STAT_STATE, s.fld SAFE_IN_FLT_MAP, s.fld SAFE_OUT_FAULT,
   s.fld SAFE_AXF_MAP [0] + s.fld SAFE_AXF_MAP [1] * 2 ^ 32, mapOf 8 (fun c => s.fld SAFE_NET_STATE [c] = 4)]

/-- A SAFETY event (21 R579). -/
def safetyEvent (sev kind num cause : Nat) (s : State) : State :=
  s.emit sev 0x0D .safe num 0xFF (kind + num * 2 ^ 8 + cause * 2 ^ 16) 0

/-- Events for the bits that are new. -/
def newBits (kind old new n : Nat) (cause : Nat → Nat) (s : State) : State :=
  (List.range n).foldl (fun s i => if bit new i && !bit old i then safetyEvent 5 kind i (cause i) s else s) s

/-- SAFE_MIRROR_READ (R463): the Keeper takes a reading out of class S and records what is new. -/
def mirrorRead (s : State) : State :=
  let s := kprSync (s.modKpr (fun k => { k with qS := k.qS - 1 }))
  let old := s.isl.seen
  let new := mirrorView s
  let s := s.modIsl (fun x => { x with seen := new })
  let o := fun i => nth old i 0
  let w := fun i => nth new i 0
  let s := newBits 0 (o 2) (w 2) 32 (fun _ => 0) s
  let s := newBits 1 (o 3) (w 3) 16 (fun _ => 0) s
  let s := newBits 2 (o 4) (w 4) 64 (fun _ => 0) s
  let s := newBits 3 (o 5) (w 5) 8 (fun c => s.fld SAFE_NET_FCAUSE [c]) s
  let s := (List.range ((w 0 + 256 - o 0) % 256)).foldl (fun s _ => safetyEvent 5 4 0 0 s) s
  if w 1 = 4 && o 1 ≠ 4 then safetyEvent 6 5 0 (s.fld SAFE_STAT_CAUSE) s else s

/-- SAFE_MIRROR_READ (R463). -/
def execSafeMirrorRead (s : State) : Host.Outcome State Fault Refusal := run [.safe, .kpr] mirrorRead s

/-- POR or FEED (R436): D1 is off; gates low, the switching counts kept. -/
def islClear (s : State) : State :=
  let cnt := s.isl.outs.map (·.cnt)
  let s := driveGates 0 0 0 s
  let outs := cnt.map (fun n => ({ cnt := n } : SafeOut))
  let s := { s with isl := { outs := outs }, islv := {} }
  s.modCore 17 (fun _ => {})

end Sys2Proof.Machine
end

