-- ==== Sys2Proof/Machine/Sha.lean ====
section
/-!
DEFINITION. SHA-256, SHA-384 and HMAC-SHA-256 (FIPS 180-4 and 198-1), which 17 R476, 21 R591 and 22 R597 use by name.
-/
namespace Sys2Proof.Machine

/-- What sets one hash of the family apart: word size, round constants, initial value, the rotations of the functions
Σ0, Σ1, σ0, σ1 (the last of a σ is a shift). -/
structure Sha2 where
  w  : Nat
  k  : List Nat
  h  : List Nat
  b0 : Nat × Nat × Nat
  b1 : Nat × Nat × Nat
  s0 : Nat × Nat × Nat
  s1 : Nat × Nat × Nat

/-- The first twenty round constants: the first 64 bits of the fractional parts of the cube roots of the primes. -/
def shaK0 : List Nat :=
  [0x428A2F98D728AE22, 0x7137449123EF65CD, 0xB5C0FBCFEC4D3B2F, 0xE9B5DBA58189DBBC,
   0x3956C25BF348B538, 0x59F111F1B605D019, 0x923F82A4AF194F9B, 0xAB1C5ED5DA6D8118,
   0xD807AA98A3030242, 0x12835B0145706FBE, 0x243185BE4EE4B28C, 0x550C7DC3D5FFB4E2,
   0x72BE5D74F27B896F, 0x80DEB1FE3B1696B1, 0x9BDC06A725C71235, 0xC19BF174CF692694,
   0xE49B69C19EF14AD2, 0xEFBE4786384F25E3, 0xFC19DC68B8CD5B5, 0x240CA1CC77AC9C65]

/-- The next twenty round constants. -/
def shaK1 : List Nat :=
  [0x2DE92C6F592B0275, 0x4A7484AA6EA6E483, 0x5CB0A9DCBD41FBD4, 0x76F988DA831153B5,
   0x983E5152EE66DFAB, 0xA831C66D2DB43210, 0xB00327C898FB213F, 0xBF597FC7BEEF0EE4,
   0xC6E00BF33DA88FC2, 0xD5A79147930AA725, 0x6CA6351E003826F, 0x142929670A0E6E70,
   0x27B70A8546D22FFC, 0x2E1B21385C26C926, 0x4D2C6DFC5AC42AED, 0x53380D139D95B3DF,
   0x650A73548BAF63DE, 0x766A0ABB3C77B2A8, 0x81C2C92E47EDAEE6, 0x92722C851482353B]

/-- The next twenty round constants. -/
def shaK2 : List Nat :=
  [0xA2BFE8A14CF10364, 0xA81A664BBC423001, 0xC24B8B70D0F89791, 0xC76C51A30654BE30,
   0xD192E819D6EF5218, 0xD69906245565A910, 0xF40E35855771202A, 0x106AA07032BBD1B8,
   0x19A4C116B8D2D0C8, 0x1E376C085141AB53, 0x2748774CDF8EEB99, 0x34B0BCB5E19B48A8,
   0x391C0CB3C5C95A63, 0x4ED8AA4AE3418ACB, 0x5B9CCA4F7763E373, 0x682E6FF3D6B2B8A3,
   0x748F82EE5DEFB2FC, 0x78A5636F43172F60, 0x84C87814A1F0AB72, 0x8CC702081A6439EC]

/-- The last twenty round constants. -/
def shaK3 : List Nat :=
  [0x90BEFFFA23631E28, 0xA4506CEBDE82BDE9, 0xBEF9A3F7B2C67915, 0xC67178F2E372532B,
   0xCA273ECEEA26619C, 0xD186B8C721C0C207, 0xEADA7DD6CDE0EB1E, 0xF57D4F7FEE6ED178,
   0x6F067AA72176FBA, 0xA637DC5A2C898A6, 0x113F9804BEF90DAE, 0x1B710B35131C471B,
   0x28DB77F523047D84, 0x32CAAB7B40C72493, 0x3C9EBE0A15C9BEBC, 0x431D67C49C100D4C,
   0x4CC5D4BECB3E42B6, 0x597F299CFC657E2A, 0x5FCB6FAB3AD6FAEC, 0x6C44198C4A475817]

/-- The eighty round constants. -/
def shaK : List Nat := shaK0 ++ shaK1 ++ shaK2 ++ shaK3

/-- SHA-256: its constants are the high halves of the first 64. -/
def sha256Par : Sha2 where
  w := 32
  k := (shaK.take 64).map (· >>> 32)
  h := [0x6A09E667, 0xBB67AE85, 0x3C6EF372, 0xA54FF53A,
   0x510E527F, 0x9B05688C, 0x1F83D9AB, 0x5BE0CD19]
  b0 := (2, 13, 22)
  b1 := (6, 11, 25)
  s0 := (7, 18, 3)
  s1 := (17, 19, 10)

/-- SHA-384. -/
def sha384Par : Sha2 where
  w := 64
  k := shaK
  h := [0xCBBB9D5DC1059ED8, 0x629A292A367CD507, 0x9159015A3070DD17, 0x152FECD8F70E5939,
   0x67332667FFC00B31, 0x8EB44A8768581511, 0xDB0C2E0D64F98FA7, 0x47B5481DBEFA4FA4]
  b0 := (28, 34, 39)
  b1 := (14, 18, 41)
  s0 := (1, 8, 7)
  s1 := (19, 61, 6)

/-- Rotate a word right. -/
def rotr (w x n : Nat) : Nat := (x >>> n ||| x <<< (w - n)) % 2 ^ w

/-- The functions Σ. -/
def shaBig (w x : Nat) (r : Nat × Nat × Nat) : Nat := rotr w x r.1 ^^^ rotr w x r.2.1 ^^^ rotr w x r.2.2

/-- The functions σ. -/
def shaSmall (w x : Nat) (r : Nat × Nat × Nat) : Nat := rotr w x r.1 ^^^ rotr w x r.2.1 ^^^ (x >>> r.2.2)

/-- Extend the message schedule by `n` words. -/
def shaExtend (p : Sha2) : Nat → List Nat → List Nat
  | 0, ws => ws
  | n + 1, ws =>
    let t := ws.length
    let x := shaSmall p.w (nth ws (t - 2) 0) p.s1 + nth ws (t - 7) 0 + shaSmall p.w (nth ws (t - 15) 0) p.s0 +
      nth ws (t - 16) 0
    shaExtend p n (ws ++ [x % 2 ^ p.w])

/-- One round on the working variables a to h. -/
def shaRound (p : Sha2) (v : List Nat) (kw : Nat × Nat) : List Nat :=
  match v with
  | [a, b, c, d, e, f, g, h] =>
    let t1 := h + shaBig p.w e p.b1 + ((e &&& f) ^^^ ((2 ^ p.w - 1 - e) &&& g)) + kw.1 + kw.2
    let t2 := shaBig p.w a p.b0 + ((a &&& b) ^^^ (a &&& c) ^^^ (b &&& c))
    [(t1 + t2) % 2 ^ p.w, a, b, c, (d + t1) % 2 ^ p.w, e, f, g]
  | v => v

/-- The words of a block of bytes, most significant byte first. -/
def shaWords (n : Nat) : Nat → List Byte → List Nat
  | 0, _ => []
  | k + 1, bs => ofBE (bs.take n) :: shaWords n k (bs.drop n)

/-- One block of sixteen words. -/
def shaBlock (p : Sha2) (h : List Nat) (bs : List Byte) : List Nat :=
  let ws := shaExtend p (p.k.length - 16) (shaWords (p.w / 8) 16 bs)
  let v := (p.k.zip ws).foldl (shaRound p) h
  (h.zip v).map (fun x => (x.1 + x.2) % 2 ^ p.w)

/-- All blocks of a padded message. -/
def shaBlocks (p : Sha2) : Nat → List Nat → List Byte → List Nat
  | 0, h, _ => h
  | n + 1, h, bs => shaBlocks p n (shaBlock p h (bs.take (2 * p.w))) (bs.drop (2 * p.w))

/-- The padded message. -/
def shaPad (p : Sha2) (bs : List Byte) : List Byte :=
  let b := 2 * p.w
  let l := p.w / 4
  let z := (2 * b - 1 - l - bs.length % b) % b
  bs ++ [0x80] ++ List.replicate z 0 ++ beBytes l (8 * bs.length)

/-- The hash of a message, as words. -/
def sha2 (p : Sha2) (bs : List Byte) : List Nat :=
  let m := shaPad p bs
  shaBlocks p (m.length / (2 * p.w)) p.h m

/-- SHA-256, 32 bytes. -/
def sha256 (bs : List Byte) : List Byte := (sha2 sha256Par bs).flatMap (beBytes 4)

/-- SHA-384, 48 bytes. -/
def sha384 (bs : List Byte) : List Byte := ((sha2 sha384Par bs).take 6).flatMap (beBytes 8)

/-- HMAC-SHA-256 with a key of at most 64 bytes. -/
def hmac256 (key msg : List Byte) : List Byte :=
  let k := key ++ List.replicate (64 - key.length) 0
  sha256 (k.map (· ^^^ 0x5C) ++ sha256 (k.map (· ^^^ 0x36) ++ msg))

end Sys2Proof.Machine
end

