-- ==== Sys2Proof/Machine/Keeper.lean ====
section
/-!
DEFINITION. The Keeper (21): its queues, the watchdog's kick, temperatures, ageing, roles and credentials.
-/
namespace Sys2Proof.Machine

/-! ### Queues (R570, R571) -/

/-- KPR_QUEUE as it reads now. -/
def kprQueue (s : State) : Word :=
  BitVec.ofNat 32 (s.evq.length * 2 ^ 21 + s.kpr.qQ.length * 2 ^ 14 + s.kpr.qM.length * 2 ^ 9 + s.kpr.qS * 2 ^ 6)

/-- A query is answered BUSY (R571). -/
def queryBusy (s : State) : State := s.incr KPR_BUSYTOT_COUNT

/-- A mode request enters class M, or finds it full (R570): whether it was taken. -/
def pushModeReq (r : ModeReq) (s : State) : Bool × State :=
  if 16 ≤ s.kpr.qM.length then (false, queryBusy s)
  else (true, kprSync (s.modKpr (fun k => { k with qM := k.qM ++ [r] })))

/-- The Keeper builds class M into items of source 376 (R571, 18 R501). -/
def serveM (s : State) : State :=
  let l := s.kpr.qM
  l.foldl (fun s (r : ModeReq) => s.pushItem 376 s.now (.modeReq r.target r.role.code r.id (r.path + 128 * r.seq)))
    (kprSync (s.modKpr (fun k => { k with qM := [] })))

/-- A new mode request with the next identifier. -/
def newModeReq (target : Nat) (role : Role) (path seq : Nat) (s : State) : ModeReq × State :=
  let id := (s.kpr.reqId + 1) % 2 ^ 32
  ({ target := target, role := role, id := id, path := path, seq := seq }, s.modKpr (fun k => { k with reqId := id }))

/-- A query is served or no longer waits. -/
def dropQuery (path seq : Nat) (s : State) : State :=
  kprSync (s.modKpr (fun k => { k with qQ := k.qQ.filter (fun (q : Nat × Nat × Nat) => !(q.1 = path && q.2.1 = seq)) }))

/-! ### Watchdog (R572) -/

/-- The rule of KPR_WDT: the Keeper alone writes it; PER of 0 is refused; KICK restarts the period. -/
def wdtAct : Act := fun m ix w s =>
  if m ≠ .keeper then .no .guard false s
  else if KPR_WDT_PER.of w = 0 then .badValue s
  else
    let s := s.store KPR_WDT ix (w &&& 0x7FFFFFFF#32)
    .ok (if KPR_WDT_KICK.on w then s.modKpr (fun k => { k with kickAt := s.now }) else s)

/-- KICK: writing 1 to KPR_WDT.KICK (R572). -/
def execKick (m : Master) (s : State) : Host.Outcome State Fault Refusal :=
  run [.kpr] (fun s => regCmd wdtAct m KPR_WDT [] (s.reg KPR_WDT ||| 0x80000000#32) s) s

/-! ### Temperature (R573 to R575) -/

/-- A reading of sensor i: failed, or judged against WARN and CRIT with 3 °C of hysteresis (R574). -/
def takeTemp (s : State) (p : BitVec 16 × Nat) : State :=
  let i := p.2
  let raw := p.1.toNat
  let s := s.setFld KPR_TEMP_NOW raw [i]
  if raw = 0x8000 then
    let s := s.raise KPR_STAT_SENSF
    if bit s.kpr.bad i then s
    else (s.modKpr (fun k => { k with bad := putBits k.bad i i 1 })).emit 5 0x0A .kpr i 0xFF (raw + 2 * 2 ^ 16)
  else
    let v := sx 16 raw
    let s := if sx 16 (s.fld KPR_TEMP_MAX [i]) < v then s.setFld KPR_TEMP_MAX raw [i] else s
    let warn := 16 * sx 16 (s.fld KPR_TLIM_WARN)
    let crit := 16 * sx 16 (s.fld KPR_TLIM_CRIT)
    let wOn := warn < v && !bit s.kpr.warn i
    let cOn := crit < v && !bit s.kpr.crit i
    let s := s.modKpr (fun k => { k with
      bad := putBits k.bad i i 0
      warn := if warn < v then putBits k.warn i i 1 else if v ≤ warn - 48 then putBits k.warn i i 0 else k.warn
      crit := if crit < v then putBits k.crit i i 1 else if v ≤ crit - 48 then putBits k.crit i i 0 else k.crit })
    let s := if wOn then s.emit 5 0x0A .kpr i 0xFF raw else s
    let s := if crit < v then s.raise KPR_STAT_HOTF else s
    if cOn then s.emit 6 0x0A .kpr i 0xFF (raw + 2 ^ 16) else s

/-- TEMP_SAMPLE: the 24 sensors are read (R573); 0x8000 is a sensor that fails its self-check. -/
def execTempSample (t : List (BitVec 16)) (s : State) : Host.Outcome State Fault Refusal :=
  run [.kpr] (fun s => (t.take 24).zipIdx.foldl takeTemp s) s

/-- The junction temperature: the highest reading of the sensors that have not failed (R573, R574). -/
def junction (s : State) : Option Int :=
  ((List.range 24).filter (fun i => s.fld KPR_TEMP_NOW [i] ≠ 0x8000)).foldl (fun (m : Option Int) i =>
    let v := sx 16 (s.fld KPR_TEMP_NOW [i])
    some (match m with
      | some x => max x v
      | none => v)) none

/-- TAVG_UPDATE (R575): one second more at the junction temperature. -/
def execTavgUpdate (s : State) : Host.Outcome State Fault Refusal :=
  run [.kpr] (fun s => match junction s with
    | none => s
    | some t =>
      let s := s.modKpr (fun k => { k with tsum := k.tsum + t, tsecs := k.tsecs + 1 })
      let s := s.setFld KPR_TAVG_AVG (ofInt 16 (s.kpr.tsum / (s.kpr.tsecs : Int)))
      s.setFld KPR_TAVG_HOURS (min 0xFFFF (s.kpr.tsecs / (3600 * 16)))) s

/-- KPR_TLIM: a WARN not below CRIT is refused. -/
def tlimAct : Act := fun _ ix w s =>
  if sx 16 (KPR_TLIM_CRIT.of w) ≤ sx 16 (KPR_TLIM_WARN.of w) then .badValue s else .ok (s.store KPR_TLIM ix w)

/-! ### Ageing (R576, R577) -/

/-- One day of device time in units of 2⁻¹⁶ ns. -/
def dayF : Nat := 86400 * secF

/-- An indicator: its type (0 ring oscillator, 1 electromigration, 2 MRAM, 3 switching), its number, its uncertainty in
hundredths, and u in units of 2⁻¹⁶ (R576). -/
def indicators (s : State) (ro em : List (BitVec 16)) (mw : List Nat) : List (Nat × Nat × Nat × Nat) :=
  (ro.take 12).zipIdx.map (fun (p : BitVec 16 × Nat) => (0, p.2, 10, p.1.toNat)) ++
  (em.take 2).zipIdx.map (fun (p : BitVec 16 × Nat) => (1, p.2, 15, p.1.toNat)) ++
  (mw.take 11).zipIdx.map (fun (p : Nat × Nat) => (2, p.2, 2, p.1 * 0x10000 / 10 ^ 12)) ++
  ((List.range 16).filter (fun o => (s.reg KPR_SWRATE [o]).toNat ≠ 0)).map (fun o =>
    (3, o, 20, (nth s.isl.outs o {}).cnt * 0x10000 / (s.reg KPR_SWRATE [o]).toNat))

/-- The key of an indicator in the history. -/
def indKey (x : Nat × Nat × Nat × Nat) : Nat := x.1 * 16 + x.2.1

/-- A rate r in units of 2⁻¹⁶ of life per day (R577): over the last 30 days, or the maker's model rate, which the spec does
not give. -/
def indRate (s : State) (x : Nat × Nat × Nat × Nat) : ℚ × State :=
  let old := s.kpr.hist.filter (fun (h : Nat × List Nat) => h.1 + 30 * dayF ≤ s.now)
  match old.getLast? with
  | some h => (((x.2.2.2 - nth h.2 (indKey x) 0 : Nat) : ℚ) / 30, s)
  | none => let d := s.draw; (((d.1 % 65536 : Nat) : ℚ) / 65536, d.2)

/-- The days t_i = (1 − u_i) ÷ r_i of an indicator with its rate (R577). -/
def lifeTime (e : (Nat × Nat × Nat × Nat) × ℚ) : ℚ := ((65536 - min 65536 e.1.2.2.2 : Nat) : ℚ) / e.2

/-- 1.28 × σ of an indicator. -/
def spread (e : (Nat × Nat × Nat × Nat) × ℚ) : ℚ := (128 * e.1.2.2.1 : Nat) / 10000

/-- The least of some values with the indicator that gives it, the first of equal ones. -/
def leastBy (f : (Nat × Nat × Nat × Nat) × ℚ → ℚ) (l : List ((Nat × Nat × Nat × Nat) × ℚ)) :
    Option (ℚ × (Nat × Nat × Nat × Nat)) :=
  l.foldl (fun b e => match b with
    | some (t, _) => if f e < t then some (f e, e.1) else b
    | none => some (f e, e.1)) none

/-- A time as a field shows it: in whole days, saturating; without an indicator that ages, saturated. -/
def wholeDays (t : Option (ℚ × (Nat × Nat × Nat × Nat))) : Nat :=
  match t with
  | some x => min 65535 ⌊x.1⌋.toNat
  | none => 65535

/-- AGEING_UPDATE (R576, R577): the measurements are written, the prediction follows. -/
def ageing (ro em : List (BitVec 16)) (mw : List Nat) (s : State) : State :=
  let ind := indicators s ro em mw
  let x := ind.foldl (fun (p : List ((Nat × Nat × Nat × Nat) × ℚ) × State) i =>
    let r := indRate p.2 i
    (p.1 ++ [(i, r.1)], r.2)) ([], s)
  let put := fun (s : State) (e : (Nat × Nat × Nat × Nat) × ℚ) =>
    let u := min 0xFFFF e.1.2.2.2
    let r := min 0xFFFF ⌊e.2 * 65536⌋.toNat
    match e.1.1 with
    | 0 => (s.setFld KPR_RO_USED u [e.1.2.1]).setFld KPR_RO_RATE r [e.1.2.1]
    | 1 => (s.setFld KPR_EM_USED u [e.1.2.1]).setFld KPR_EM_RATE r [e.1.2.1]
    | 2 => (s.setFld KPR_MW_USED u [e.1.2.1]).setFld KPR_MW_RATE r [e.1.2.1]
    | _ => s
  let s := x.1.foldl put x.2
  let live := x.1.filter (fun e => 0 < e.2)
  let best := leastBy lifeTime live
  let low := leastBy (fun e => lifeTime e / (1 + spread e)) live
  let high := leastBy (fun e => lifeTime e / max (1 / 10) (1 - spread e)) live
  let src := (best.map (fun b => b.2.1 * 2 ^ 14 + b.2.2.1)).getD 0
  let lo := (wholeDays low, (low.map (fun b => indKey b.2)).getD 0)
  let s := ((s.setFld KPR_EOL_P50 (wholeDays best)).setFld KPR_EOL_SRC src).setFld KPR_EOLB_LO lo.1
  let s := s.setFld KPR_EOLB_HI (wholeDays high)
  let uOf := fun (k : Nat) => ((ind.find? (fun i => indKey i = k)).map (·.2.2.2)).getD 0
  let data := fun (k : Nat) => (k / 16 + k % 16 * 256 + min 0xFFFF (uOf k) * 2 ^ 16, lo.1)
  let s := if lo.1 < 365 && !s.kpr.lo365 then
      (s.modKpr (fun k => { k with lo365 := true })).emit 5 0x0B .kpr 0xFFFF 16 (data lo.2).1 (data lo.2).2 else s
  let s := if lo.1 < 90 && !s.kpr.lo90 then
      (s.modKpr (fun k => { k with lo90 := true })).emit 6 0x0B .kpr 0xFFFF 16 (data lo.2).1 (data lo.2).2 else s
  let s := ind.foldl (fun s i =>
    if (if i.1 < 2 then 0xFFFF else 0x10000) ≤ i.2.2.2 && !s.kpr.eol.contains (indKey i) then
      (s.modKpr (fun k => { k with eol := indKey i :: k.eol })).emit 6 0x0B .kpr 0xFFFF 16 (data (indKey i)).1 (data (indKey i)).2
    else s) s
  let us := (List.range 64).map uOf
  let old := fun (h : Nat × List Nat) => h.1 + 30 * dayF ≤ s.now
  s.modKpr (fun k => { k with
    hist := (k.hist.filter old).getLast?.toList ++ k.hist.filter (fun h => !old h) ++ [(s.now, us)] })

/-- AGEING_UPDATE: consumed fractions of the ring oscillators and feeds in units of 2⁻¹⁶, and writes to the most-written
unit of each MRAM region (R576). -/
def execAgeingUpdate (ro em : List (BitVec 16)) (mw : List Nat) (s : State) : Host.Outcome State Fault Refusal :=
  run [.kpr] (ageing ro em mw) s

/-! ### Roles and credentials (R590 to R592) -/

/-- The address of a role's credential in the current settings copy (22 R606). -/
def keyAddr (r : Role) : Nat := if r = .operator then 0x21000040 else 0x21000060

/-- A role's key. -/
def roleKey (s : State) (r : Role) : List Byte := s.bytes (keyAddr r) 32

/-- Whether a role's key is set. -/
def keySet (s : State) (r : Role) : Bool := (roleKey s r).any (· ≠ 0)

/-- The bytes of ASCII text. -/
def ascii (t : String) : List Byte := t.toList.map (fun c => BitVec.ofNat 8 c.toNat)

/-- DEV, with the die identity after it for the maker (R591). -/
def proofDev (s : State) (r : Role) : List Byte :=
  leBytes 2 (s.fld SYS_DEVNUM_DEVNUM) ++
    (if r = .maker then (List.range 4).flatMap (fun i => leBytes 4 (Config.dieIdentity i).toNat) else [])

/-- Whether a response matches a message under a role's credential (R591). -/
def proofMatches (s : State) (r : Role) (msg resp : List Byte) : Bool :=
  if r = .maker then resp.length = 96 && Config.makerSigned msg resp
  else keySet s r && resp = hmac256 (roleKey s r) msg

/-- Whether an endpoint on a path is locked out (R592). -/
def lockedOut (s : State) (path peer : Nat) : Bool :=
  s.kpr.locks.any (fun l => l.1 = (path, peer) && s.now < l.2)

/-- FAILED_PROOF (R592): recorded, and counted toward the lockout of its endpoint on its path. -/
def failedProof (role : Role) (path peer : Nat) (judged : Bool) (s : State) : State :=
  let s := sessionEvent 4 4 role path codeGuard peer 0xFFFF s
  if !judged then s
  else
    let s := s.incr KPR_LOGINF_COUNT
    let fresh := (s.kpr.fails.filter (fun f => s.now < f.2 + 60 * secF)) ++ [((path, peer), s.now)]
    if 5 ≤ (fresh.filter (fun f => f.1 = (path, peer))).length then
      s.modKpr (fun k => { k with fails := fresh.filter (fun f => f.1 ≠ (path, peer)),
                                  locks := k.locks.filter (fun l => l.1 ≠ (path, peer)) ++ [((path, peer), s.now + 60 * secF)] })
    else s.modKpr (fun k => { k with fails := fresh })

/-- Judge a proof in time form (R591): 0, GUARD or BUSY. A judged nonce counts as seen. -/
def judgeTime (role : Role) (path peer : Nat) (proof : List Byte) (s : State) : Nat × State :=
  if lockedOut s path peer then (codeGuard, failedProof role path peer false s)
  else
    let fresh := s.kpr.nonces.filter (fun n => s.now < n.2 + 60 * secF)
    if 4096 ≤ fresh.length then (codeBusy, s)
    else
      let t := ofLE (proof.take 8)
      let nonce := ofLE ((proof.drop 8).take 16)
      let sec := s.now / secF
      let tag := if role = .maker then ascii "KVMK" else ascii "KVOP"
      let msg := tag ++ proofDev s role ++ leBytes 1 role.code ++ proof.take 24
      let len := if role = .maker then 120 else 56
      let ok := proof.length = len && t ≤ sec + 30 && sec ≤ t + 30 && !fresh.any (fun n => n.1 = nonce) &&
        proofMatches s role msg (proof.drop 24)
      let s := s.modKpr (fun k => { k with nonces := fresh ++ [(nonce, s.now)] })
      if ok then (0, s) else (codeGuard, failedProof role path peer true s)

/-- LOCKOUT_EXPIRY (R592): the lockout that ends first ends. -/
def execLockoutExpiry (s : State) : Host.Outcome State Fault Refusal :=
  run [.kpr] (fun s => match s.kpr.locks.foldl (fun (b : Option Nat) l => some (min (b.getD l.2) l.2)) none with
    | none => s
    | some t =>
      let s := advanceTo t s
      s.modKpr (fun k => { k with locks := k.locks.filter (fun l => s.now < l.2) })) s

/-! ### Settings copies (22 R606) -/

/-- The address of the current (0) or previous (1) settings copy. -/
def copyAddr (k : Nat) : Nat := 0x21000000 + 0x100000 * k

/-- The CRC of a settings copy with its CRC field taken as 0. -/
def copyCrc (s : State) (k : Nat) : Nat :=
  let a := copyAddr k
  crc32 (s.bytes a 16 ++ [0, 0, 0, 0] ++ s.bytes (a + 20) (s.peek (a + 8) 4 - 20))

/-- Whether a settings copy is valid: MAGIC, LENGTH and CRC. -/
def copyValid (s : State) (k : Nat) : Bool :=
  let a := copyAddr k
  let n := s.peek (a + 8) 4
  s.bytes a 4 = ascii "KVST" && 192 ≤ n && n ≤ 0x100000 && s.peek (a + 16) 4 = copyCrc s k

/-- KEYSET follows the stored keys. -/
def keySetSync (s : State) : State :=
  s.setFld KPR_CRED_KEYSET (b2n (keySet s .operator) + 2 * b2n (keySet s .installer))

/-- The monitor login ends (22 R614), and is recorded. -/
def monLogout (s : State) : State :=
  match s.kpr.login with
  | none => s
  | some (r, _) => roleItem 68 0xFF (sessionEvent sessSev 2 r 3 0 0 0xFFFF (s.modKpr (fun k => { k with login := none })))

/-- The staged key becomes role `r`'s credential (R590): that role's sessions and logins close. The record's path is 0, whatever
path the write came by (DESIGN CHOICE: log 229). -/
def credStore (r : Role) (s : State) : State :=
  let key := (List.range 8).flatMap (fun k => leBytes 4 (s.reg KPR_CREDK [k]).toNat)
  let valid := copyValid s 0
  let s := s.setBytes (keyAddr r) key
  let s := if valid then s.poke (copyAddr 0 + 16) 4 (copyCrc s 0) else s
  let s := (List.range 8).foldl (fun s k => s.setReg KPR_CREDK 0 [k]) s
  let s := (List.range 68).foldl (fun s n => if (s.sess n).isOpen && (s.sess n).role = r then sessClose n true s else s) s
  let s := if s.kpr.login.any (fun l => l.1 = r) then monLogout s else s
  keySetSync (sessionEvent 5 6 r 0 0 0 0xFFFF s)

/-- The rule of KPR_CRED (R590). -/
def credAct : Act := fun _ ix w s =>
  let set_ := KPR_CRED_SET.on w
  let r := KPR_CRED_ROLE.of w
  if set_ && s.mode ≠ .provision then .badMode s
  else if set_ && 2 ≤ r then .badValue s
  else
    let s := s.store KPR_CRED ix (w &&& 0x7FFFFFFF#32)
    .ok (if set_ then credStore (Role.ofCode r) s else s)

/-- CRED_SET: writing KPR_CRED with ROLE and SET (R590). -/
def execCredSet (m : Master) (role : Fin 4) (s : State) : Host.Outcome State Fault Refusal :=
  run [.kpr] (fun s => regCmd credAct m KPR_CRED [] (BitVec.ofNat 32 (2 ^ 31 + s.fld KPR_CRED_KEYSET * 16 + role.val)) s) s

/-- The management port stops: its sessions are lost, and what waits at it (R593, R594). -/
def mgDown (s : State) : State := (sessionsLost [64, 65, 66, 67] s).modKpr (fun k => { k with mg := {} })

/-- KPR_MG_CFG: LINK follows EN, the PHY's link being up (DESIGN CHOICE: log 24); without EN the sessions are lost. -/
def mgCfgAct : Act := fun _ ix w s =>
  let s := s.store KPR_MG_CFG ix w
  let s := s.setFld KPR_MG_STAT_LINK (KPR_MG_CFG_EN.of w)
  .ok (if KPR_MG_CFG_EN.on w then s else mgDown s)

/-- QUERY_TIMEOUT: a query that has waited 100 ms unstarted is answered BUSY and has no effect (R571). -/
def execQueryTimeout (s : State) : Host.Outcome State Fault Refusal :=
  run [.kpr] (fun s => match s.kpr.qQ with
    | [] => s
    | (path, seq, t) :: rest =>
      let s := advanceTo (t + 100000000 * nsF) s
      let s := queryBusy (s.modKpr (fun k => { k with qQ := rest }))
      let s := kprSync s
      if path < 68 then
        match (s.sess path).reqs.find? (fun r => r.seq = seq) with
        | some r => respond path seq r.op codeBusy [] s
        | none => s
      else if path = 68 then s.say (.line [1, codeBusy])
      else sendPacket (32 + (path - 72)) 2 (pktHead s 0xFF 0 0 seq 1) [codeBusy] s) s

end Sys2Proof.Machine
end

