-- ==== Sys2Proof/Machine/Upd.lean ====
section
/-!
DEFINITION. Firmware update and settings (22 R597 to R612): the image header, the UPD and NVM commands, slots and trials, and
the settings copies.
-/
namespace Sys2Proof.Machine

/-- Change the update's own state. -/
def State.modUpd (s : State) (f : Upd → Upd) : State := { s with upd := f s.upd }

/-! ### Images (R597, R598) -/

/-- The base of firmware slot k (18 R521). -/
def slotBase (k : Nat) : Nat := 0x20000000 + 0x800000 * k

/-- The slot that is not active. -/
def spareSlot (s : State) : Nat := 1 - s.fld UPD_SLOT_ACTIVE

/-- Whether a trial is pending. -/
def trialPending (s : State) : Bool := s.isSet UPD_SLOT_TRIAL

/-- KIND of a header. -/
def hKind (h : List Byte) : Nat := leAt h 6 1
/-- LENGTH of a header. -/
def hLen (h : List Byte) : Nat := leAt h 20 4
/-- VBUILD of a header. -/
def hBuild (h : List Byte) : Nat := leAt h 12 4
/-- SETVER of a header. -/
def hSetver (h : List Byte) : Nat := leAt h 26 2
/-- DIGEST of a header. -/
def hDigest (h : List Byte) : List Byte := (h.drop 32).take 48
/-- SIG of a header. -/
def hSig (h : List Byte) : List Byte := (h.drop 96).take 96
/-- VMAJ, VMIN, VPATCH and VBUILD as bytes 4 to 11 of an UPDATE event. -/
def hVersion (h : List Byte) : Nat := leAt h 8 4 + hBuild h * 2 ^ 32

/-- Whether bytes `lo` to `hi` of a header are 0. -/
def hZero (h : List Byte) (lo hi : Nat) : Bool := ((h.drop lo).take (hi + 1 - lo)).all (· = 0)

/-- Checks 2 to 7 of R598: the ERR of the first that fails and its code. -/
def headerCheck (s : State) (h : List Byte) : Nat × Nat :=
  let fw := hKind h = 1
  if h.take 4 ≠ ascii "KVIM" || leAt h 4 2 ≠ 1 then (2, codeArgument)
  else if !fw && hKind h ≠ 2 then (3, codeArgument)
  else if leAt h 16 2 ≠ s.fld SYS_ID_PART || !(leAt h 18 1 = 0 || leAt h 18 1 = s.fld SYS_ID_STEP) then (4, codeArgument)
  else if !(if fw then within (hLen h) 1 8388352 else within (hLen h) 64 65536) then (5, codeArgument)
  else if !(hZero h 7 7 && hZero h 19 19 && hZero h 28 31 && hZero h 80 95 && hZero h 192 255 &&
      (fw || (hZero h 26 27 && hZero h 96 191))) then (6, codeArgument)
  else if fw && !Config.imageSigned (h.take 96) (hSig h) then (7, codeCheckFailed)
  else (0, codeDone)

/-- The header that stands in slot k. -/
def slotHeader (s : State) (k : Nat) : List Byte := s.bytes (slotBase k) 256

/-- Whether slot k passes checks 2 to 7 and its payload matches DIGEST (R602). -/
def slotGood (s : State) (k : Nat) : Bool :=
  let h := slotHeader s k
  (headerCheck s h).1 = 0 && hKind h = 1 && sha384 (s.bytes (slotBase k + 256) (hLen h)) = hDigest h

/-- VALIDA or VALIDB, and UPD_VER_s, of slot k. -/
def setSlotValid (k : Nat) (on : Bool) (s : State) : State :=
  let h := slotHeader s k
  let s := s.setFld (if k = 0 then UPD_SLOT_VALIDA else UPD_SLOT_VALIDB) (b2n on)
  (s.setReg UPD_VER_LO (BitVec.ofNat 32 (if on then leAt h 8 4 else 0)) [k]).setReg UPD_VER_HI
    (BitVec.ofNat 32 (if on then hBuild h else 0)) [k]

/-- Whether slot k holds a complete image. -/
def slotValidBit (s : State) (k : Nat) : Bool := s.isSet (if k = 0 then UPD_SLOT_VALIDA else UPD_SLOT_VALIDB)

/-- An UPDATE event (R601). -/
def updateEvent (sev subj err slot : Nat) (h : List Byte) (s : State) : State :=
  s.emit sev 0x10 .upd 0xFFFF 16 (subj + err * 256 + slot * 2 ^ 16 + hKind h * 2 ^ 24) (hVersion h)

/-! ### UPD commands (R598 to R604) -/

/-- A command is answered: UPD_STAT.CODE, in progress no more; the monitor, when it waits, takes its status line. -/
def updAnswer (code : Nat) (s : State) : State :=
  let s := if s.upd.mon then s.say (.line [1, code]) else s
  ((s.setFld UPD_STAT_CODE code).lower UPD_STAT_BUSY).modUpd (fun u => { u with op := none, src := [], mon := false })

/-- The target's header becomes invalid: its 256 bytes become 0. -/
def dropHeader (s : State) : State :=
  if hKind s.upd.hdr = 1 then
    let k := spareSlot s
    setSlotValid k false (s.setBytes (slotBase k) (List.replicate 256 0))
  else s

/-- BEGIN (R598) with the header bytes `h`. -/
def updBegin (h : List Byte) (s : State) : State :=
  let fw := hKind h = 1
  let c := headerCheck s h
  let r := if s.fld UPD_STAT_STATE = 1 || (fw && trialPending s) then (1, codeBusy)
    else if c.1 ≠ 0 then c
    else if !fw && s.isl.st ≠ islComm then (8, codeMode)
    else if fw && s.mode.code < 3 then (0, codeMode)
    else (0, codeDone)
  let s := s.setFld UPD_STAT_ERR r.1
  if r.2 ≠ codeDone then updAnswer r.2 (updateEvent 4 1 r.1 (spareSlot s) h s)
  else
    let s := s.modUpd (fun u => { u with next := 0, hdr := h, stage := [] })
    let s := if fw then (dropHeader s).setBytes (slotBase (spareSlot s)) h else s
    updAnswer codeDone ((s.setFld UPD_STAT_STATE 1).setFld UPD_STAT_NCHUNK 0)

/-- CHUNK (R599): `bs` at payload offset `ofs`; a chunk that passes is written until UPD_CMD_DONE. -/
def updChunk (ofs : Nat) (bs : List Byte) (s : State) : State :=
  let n := bs.length
  let total := hLen s.upd.hdr
  if s.fld UPD_STAT_STATE ≠ 1 || ofs ≠ s.upd.next || n = 0 || 65536 < n || total < ofs + n ||
      (ofs + n ≠ total && n % 16 ≠ 0) then updAnswer codeArgument s
  else (s.raise UPD_STAT_BUSY).modUpd (fun u => { u with op := some 2, src := bs })

/-- FINISH (R600): accepted when the chunks have filled LENGTH. -/
def updFinish (s : State) : State :=
  if s.fld UPD_STAT_STATE ≠ 1 || s.upd.next ≠ hLen s.upd.hdr then updAnswer codeArgument s
  else (s.raise UPD_STAT_BUSY).modUpd (fun u => { u with op := some 3 })

/-- The payload as it reads back from the target. -/
def payloadBack (s : State) : List Byte :=
  if hKind s.upd.hdr = 1 then s.bytes (slotBase (spareSlot s) + 256) (hLen s.upd.hdr) else s.upd.stage

/-- The words of a digest, bits [31:0] first. -/
def digestWords (d : List Byte) : List Word := (List.range 12).map (fun k => BitVec.ofNat 32 (leAt d (4 * k) 4))

/-- The command in progress completes (R599, R600); `ok` says whether the MRAM writes succeeded. -/
def updDone (ok : Bool) (s : State) : State :=
  let h := s.upd.hdr
  let k := spareSlot s
  match s.upd.op with
  | some 2 =>
    if !ok then updAnswer codeMemoryError (s.setFld UPD_STAT_STATE 3)
    else
      let bs := s.upd.src
      let s := if hKind h = 1 then s.setBytes (slotBase k + 256 + s.upd.next) bs else s
      let s := s.modUpd (fun u => { u with next := u.next + bs.length, stage := if hKind h = 1 then [] else u.stage ++ bs })
      updAnswer codeDone (s.incr UPD_STAT_NCHUNK)
  | some 3 =>
    let d := sha384 (payloadBack s)
    let s := s.modUpd (fun u => { u with dig := digestWords d })
    if ok && d = hDigest h then
      let s := if hKind h = 1 then setSlotValid k true s else s.setBytes cfgBase s.upd.stage
      updAnswer codeDone (updateEvent 3 2 0 k h (s.setFld UPD_STAT_STATE 2))
    else updAnswer codeCheckFailed (updateEvent 4 3 0 k h ((dropHeader s).setFld UPD_STAT_STATE 3))
  | _ => s

/-- ACTIVATE (R603): the trial is set, and the restart follows at the next base tick. -/
def updActivate (s : State) : State :=
  let k := spareSlot s
  let modeOk := match s.mode with
    | .keeper | .provision | .stop | .safe => true
    | _ => s.follower
  if trialPending s then updAnswer codeBusy s
  else if !modeOk then updAnswer codeMode s
  else if !slotValidBit s k then updAnswer codeArgument s
  else
    let s := (s.raise UPD_SLOT_TRIAL).setFld UPD_SLOT_TRIALSLOT k
    let s := { s with seed := { s.seed with reboot := some 1 } }
    updAnswer codeDone (updateEvent 3 4 0 k (slotHeader s k) s)

/-- CONFIRM (R604). -/
def updConfirm (s : State) : State := updAnswer codeDone (s.modUpd (fun u => { u with confirm := true }))

/-- CANCEL (R600). -/
def updCancel (s : State) : State :=
  let s := if s.fld UPD_STAT_STATE = 0 then s else dropHeader s
  updAnswer codeDone ((s.setFld UPD_STAT_STATE 0).modUpd (fun u => { u with next := 0, hdr := [], stage := [] }))

/-- Whether `n` bytes at UPD_SRC lie in Caldera, aligned to 16 bytes. -/
def updSrcOk (s : State) (n : Nat) : Bool :=
  let a := (s.reg UPD_SRC).toNat
  a % 16 = 0 && 0x10000000 ≤ a && a + n ≤ 0x14000000

/-- A command of UPD_CMD by its OP. -/
def updCommand (op : Nat) (s : State) : State :=
  let src := (s.reg UPD_SRC).toNat
  match op with
  | 1 => if updSrcOk s 256 then updBegin (s.bytes src 256) s else updAnswer codeArgument s
  | 2 =>
    let n := s.fld UPD_LEN_VALUE
    if updSrcOk s n && n ≤ 65536 then updChunk (s.fld UPD_OFS_VALUE) (s.bytes src n) s else updAnswer codeArgument s
  | 3 => updFinish s
  | 4 => updActivate s
  | 5 => updConfirm s
  | 6 => updCancel s
  | _ => s

/-- The rule of UPD_CMD (R611): refused while BUSY; OP 7 is refused; GO carries out OP. -/
def updCmdAct : Act := fun _ ix w s =>
  let op := UPD_CMD_OP.of w
  if s.isSet UPD_STAT_BUSY then .badState s
  else if op = 7 then .badValue s
  else
    let s := s.store UPD_CMD ix (w &&& 0x7FFFFFFF#32)
    .ok (if UPD_CMD_GO.on w then updCommand op s else s)

/-- The rule of UPD_CTL: DEADLINE of 10 to 600. -/
def updCtlAct : Act := fun _ ix w s =>
  if within (UPD_CTL_DEADLINE.of w) 10 600 then .ok (s.store UPD_CTL ix w) else .badValue s

/-- The rule of UPD_MON: BAUD of 7 is refused. -/
def updMonAct : Act := fun _ ix w s => if UPD_MON_BAUD.of w = 7 then .badValue s else .ok (s.store UPD_MON ix w)

/-- A write of UPD_CMD with GO. -/
def updCmdBy (m : Master) (op : Nat) (s : State) : Host.Outcome State Fault Refusal :=
  run [.upd] (regCmd updCmdAct m UPD_CMD [] (BitVec.ofNat 32 (2 ^ 31 + op))) s

/-- BEGIN (R598). -/
def execBegin (m : Master) (s : State) : Host.Outcome State Fault Refusal := updCmdBy m 1 s
/-- CHUNK (R599). -/
def execChunk (m : Master) (s : State) : Host.Outcome State Fault Refusal := updCmdBy m 2 s
/-- FINISH (R600). -/
def execFinish (m : Master) (s : State) : Host.Outcome State Fault Refusal := updCmdBy m 3 s
/-- ACTIVATE (R603). -/
def execActivate (m : Master) (s : State) : Host.Outcome State Fault Refusal := updCmdBy m 4 s
/-- CONFIRM (R604). -/
def execConfirm (m : Master) (s : State) : Host.Outcome State Fault Refusal := updCmdBy m 5 s
/-- UPD_CANCEL: CANCEL (R600). -/
def execUpdCancel (m : Master) (s : State) : Host.Outcome State Fault Refusal := updCmdBy m 6 s

/-- UPD_CMD_DONE (R599, R600): the command in progress completes. -/
def execUpdCmdDone (ok : Bool) (s : State) : Host.Outcome State Fault Refusal := run [.upd, .nvm] (updDone ok) s

/-- UPD_TRIALT as it reads now. -/
def trialLeft (s : State) : Word :=
  BitVec.ofNat 32 (match s.upd.due with
    | some t => if trialPending s && s.now < t then min 0xFFFF (ceilDiv (t - s.now) secF) else 0
    | none => 0)

/-- The words of a mailbox item of the UPD block (R611), or the error code. -/
def updMailbox (s : State) (item index : Nat) : Nat × List Word :=
  if index ≠ 0 then (2, [])
  else match item with
    | 1 => (0, digestWords (hDigest (slotHeader s 0)))
    | 2 => (0, digestWords (hDigest (slotHeader s 1)))
    | 3 => (0, (List.range 12).map (fun k => nth s.upd.dig k 0))
    | _ => (1, [])

/-! ### Trials (R604, R605) -/

/-- The health record is as R604 gives it. -/
def healthy (s : State) : Bool :=
  s.bytes 0x1000FF40 64 = ascii "KVOK" ++ leBytes 4 (hBuild (slotHeader s s.seed.slot)) ++ List.replicate 56 0

/-- Whether the Keeper confirms the trial (R604). -/
def trialGood (s : State) : Bool :=
  healthy s && !s.upd.grave && (List.range 12).all (fun d => !bit (s.fld PWR_DOMEN_EN) d || s.domOn d) &&
    (!s.isSet UPD_CTL_MANUAL || s.upd.confirm)

/-- The trial is confirmed. -/
def trialConfirm (s : State) : State :=
  let k := s.fld UPD_SLOT_TRIALSLOT
  let s := (s.setFld UPD_SLOT_ACTIVE k).lower UPD_SLOT_TRIAL
  updateEvent 3 5 0 k (slotHeader s k) (s.modUpd (fun u => { u with due := none }))

/-- The previous copy becomes current, and the migrated one is discarded. -/
def unmigrate (s : State) : State :=
  let n := min 0x100000 (max 192 (s.peek (copyAddr 1 + 8) 4))
  s.setBytes (copyAddr 0) (s.bytes (copyAddr 1) n)

/-- The trial falls back with a cause (R605); the restart is the caller's. -/
def trialFail (cause : Nat) (s : State) : State :=
  let k := s.fld UPD_SLOT_TRIALSLOT
  let h := slotHeader s k
  let s := (s.lower UPD_SLOT_TRIAL).incrSat UPD_SLOT_FALLBK
  let s := if s.upd.migr then unmigrate s else s
  updateEvent 6 6 cause k h (s.modUpd (fun u => { u with due := none, migr := false, grave := false }))

/-! ### Settings copies (R606 to R608) -/

/-- The bits of a register that the settings hold: its fields that can be written. -/
def settingMask (r : Reg) : Nat := accMask r (fun a => a = .rw || a = .lk || a = .wonce)

/-- The FEED-domain register at an address that the settings hold; the loop contexts and the program store have their own
restore (05 R181). -/
def settingAt (a : Nat) : Option (Reg × List Nat) :=
  match blockOfIndex ((a - 0x40000000) / 0x10000) with
  | none => none
  | some b => (findIn (blockRegs b) a).filter (fun x => x.1.rdom = .feed && settingMask x.1 ≠ 0)

/-- The registers of the settings in ascending address. -/
def settingRegs : List (Nat × Reg × List Nat) :=
  (List.range (24 * 0x4000)).filterMap (fun k => (settingAt (0x40000000 + 4 * k)).map (fun x => (0x40000000 + 4 * k, x)))

/-- The records of a copy: address and value. -/
def copyRecords (s : State) (k : Nat) : List (Nat × Nat) :=
  let n := (s.peek (copyAddr k + 8) 4 - 192) / 8
  (List.range n).map (fun i => (s.peek (copyAddr k + 192 + 8 * i) 4, s.peek (copyAddr k + 196 + 8 * i) 4))

/-- SETVER of copy k. -/
def copySetver (s : State) (k : Nat) : Nat := s.peek (copyAddr k + 4) 2

/-- Write the current copy: SETVER, POLICY, SEQ one greater, the keys as they stand, and the records. -/
def writeCopy (setver policy : Nat) (recs : List (Nat × Nat)) (s : State) : State :=
  let a := copyAddr 0
  let seq := (s.peek (a + 12) 4 + 1) % 2 ^ 32
  let keys := s.bytes (a + 64) 64
  let bs := ascii "KVST" ++ leBytes 2 setver ++ leBytes 1 policy ++ [0] ++ leBytes 4 (192 + 8 * recs.length) ++ leBytes 4 seq ++
    List.replicate 4 0 ++ List.replicate 44 0 ++ keys ++ List.replicate 64 0 ++
    recs.flatMap (fun r => leBytes 4 r.1 ++ leBytes 4 r.2)
  (s.setBytes a bs).poke (a + 16) 4 (crc32 bs)

/-- The current copy becomes the previous copy. -/
def keepCopy (s : State) : State :=
  s.setBytes (copyAddr 1) (s.bytes (copyAddr 0) (min 0x100000 (max 192 (s.peek (copyAddr 0 + 8) 4))))

/-- NVM_SET follows the copies. -/
def nvmSetSync (s : State) : State :=
  ((s.setFld NVM_SET_SETVER (if copyValid s 0 then copySetver s 0 else 0)).setFld NVM_SET_VALIDC (b2n (copyValid s 0))).setFld
    NVM_SET_VALIDP (b2n (copyValid s 1))

/-- SETVER of the running image; 0 without a slot. -/
def imageSetver (s : State) : Nat := if s.seed.noSlot then 0 else hSetver (slotHeader s s.seed.slot)

/-- The settings in force are saved (R608). -/
def saveSettings (s : State) : State :=
  let recs := settingRegs.map (fun x => (x.1, (s.reg x.2.1 x.2.2).toNat &&& settingMask x.2.1))
  let k := s.seed.slot
  let s := writeCopy (imageSetver s) (s.fld NVM_SETCFG_POLICY) recs (keepCopy s)
  updateEvent 3 8 0 k (slotHeader s k) (nvmSetSync s)

/-- Seed step 3 (R607): the copy that is used, when one is. -/
def settingsCheck (s : State) : Option Nat × State :=
  let v := imageSetver s
  let s := nvmSetSync (s.lower NVM_SET_MIGRATED)
  if copyValid s 0 && copySetver s 0 = v then (some 0, s)
  else if copyValid s 0 && copySetver s 0 < v then
    let old := copyRecords s 0
    let policy := s.peek (copyAddr 0 + 6) 1
    let recs := settingRegs.map (fun x => (x.1, (getKey old x.1).getD (x.2.1.reset.toNat &&& settingMask x.2.1)))
    let s := writeCopy v policy recs (keepCopy s)
    let s := (nvmSetSync s).raise NVM_SET_MIGRATED
    (some 0, updateEvent 3 7 0 s.seed.slot (slotHeader s s.seed.slot) (s.modUpd (fun u => { u with migr := true })))
  else if copyValid s 1 && copySetver s 1 ≤ v then (some 1, s)
  else (none, s)

/-- Load the settings of copy k (18 R510 step 6): every register of the settings takes its recorded value; one that the copy
lacks, or with no copy (none), its reset value. -/
def loadSettings (k : Option Nat) (s : State) : State :=
  let clear := s.regs.filterMap (fun (e : Nat × Word) => (settingAt e.1))
  let s := clear.foldl (fun s (x : Reg × List Nat) =>
    let m := settingMask x.1
    s.setReg x.1 (BitVec.ofNat 32 (((s.reg x.1 x.2).toNat &&& (0xFFFFFFFF - m)) ||| (x.1.reset.toNat &&& m))) x.2) s
  match k with
  | none => s
  | some k =>
    (copyRecords s k).foldl (fun s (e : Nat × Nat) => match settingAt e.1 with
      | none => s
      | some x =>
        let m := settingMask x.1
        s.setReg x.1 (BitVec.ofNat 32 (((s.reg x.1 x.2).toNat &&& (0xFFFFFFFF - m)) ||| (e.2 &&& m))) x.2) s

/-! ### NVM commands (R608, R610, R612) -/

/-- Erase the bytes of MRAM from `a` to `b`: they read 0 (18 R521). -/
def eraseSpan (a b : Nat) (s : State) : State := { s with mem := s.mem.filter (fun c => !(a ≤ c.1 && c.1 < b)) }

/-- RETAINED registers take their values "after erase". -/
def eraseRegs (rs : List Reg) (s : State) : State :=
  { s with regs := s.regs.filter (fun e => !rs.any (fun r => (r.at? e.1).isSome)) }

/-- The effect of a command that has completed. -/
def nvmEffect (op : Nat) (s : State) : State :=
  match op with
  | 1 => saveSettings s
  | 2 => evlErase s
  | 3 =>
    let s := eraseSpan 0x22E10000 0x22F10000 (eraseSpan 0x21A00000 0x22A00000 s)
    { s with rt := { s.rt with slot := 0, icrc := 0, redo := [], jseq := [] } }
  | 4 => eraseRegs [SYS_DEVNUM, TWIN_EPOCH, PWR_DIPCNT] s
  | 5 =>
    let s := eraseRegs [KPR_TAVG, KPR_RO, KPR_EM, KPR_MW, KPR_EOL, KPR_EOLB] s
    s.modKpr (fun k => { k with tsum := 0, tsecs := 0, hist := [], lo365 := false, lo90 := false, eol := [] })
  | _ => s

/-- Whether the mode accepts a command: SAVE in Provision, Stop and Safe without a trial, an erase in Provision. -/
def nvmModeOk (s : State) (op : Nat) : Bool :=
  match s.mode with
  | .provision => op ≠ 1 || !trialPending s
  | .stop | .safe => op = 1 && !trialPending s
  | _ => false

/-- The rule of NVM_CMD (R612): OP 6 and 7 are refused, OP 5 needs G3; a command while another is in progress is refused. -/
def nvmCmdAct : Act := fun m ix w s =>
  let op := NVM_CMD_OP.of w
  if 6 ≤ op then .badValue s
  else if op = 5 && !qualifies s m .g3 then .no .guard false s
  else if NVM_CMD_GO.on w && s.isSet NVM_STAT_BUSY then .badState s
  else
    let s := s.store NVM_CMD ix (w &&& 0x7FFFFFFF#32)
    .ok (if !NVM_CMD_GO.on w || op = 0 then s
      else if !nvmModeOk s op then ((s.setFld NVM_STAT_CODE codeMode).raise NVM_STAT_DONE)
      else ((s.raise NVM_STAT_BUSY).lower NVM_STAT_DONE).modUpd (fun u => { u with nvmOp := some op }))

/-- A write of NVM_CMD with GO. -/
def nvmCmdBy (m : Master) (op : Nat) (s : State) : Host.Outcome State Fault Refusal :=
  run [.nvm] (regCmd nvmCmdAct m NVM_CMD [] (BitVec.ofNat 32 (2 ^ 31 + op))) s

/-- SAVE (R608). -/
def execSave (m : Master) (s : State) : Host.Outcome State Fault Refusal := nvmCmdBy m 1 s
/-- ERASE_LOG (R610). -/
def execEraseLog (m : Master) (s : State) : Host.Outcome State Fault Refusal := nvmCmdBy m 2 s
/-- ERASE_RET (R610). -/
def execEraseRet (m : Master) (s : State) : Host.Outcome State Fault Refusal := nvmCmdBy m 3 s
/-- ERASE_DEV (R610). -/
def execEraseDev (m : Master) (s : State) : Host.Outcome State Fault Refusal := nvmCmdBy m 4 s
/-- ERASE_AGE (R610). -/
def execEraseAge (m : Master) (s : State) : Host.Outcome State Fault Refusal := nvmCmdBy m 5 s

/-- NVM_CMD_DONE (R612): the command in progress has its effect and is reported; an erase is recorded (R601). -/
def execNvmCmdDone (s : State) : Host.Outcome State Fault Refusal :=
  run [.nvm] (fun s => match s.upd.nvmOp with
    | none => s
    | some op =>
      let s := nvmEffect op (s.modUpd (fun u => { u with nvmOp := none }))
      let s := if op = 1 then s else updateEvent 3 9 op 0 [] s
      ((s.lower NVM_STAT_BUSY).raise NVM_STAT_DONE).setFld NVM_STAT_CODE codeDone) s

end Sys2Proof.Machine
end

