-- ==== Sys2Proof/Machine/Resets.lean ====
section
/-!
DEFINITION. What each reset event does to registers and blocks (02 R65, 18 R514 to R518).
-/
namespace Sys2Proof.Machine

/-- Every block. -/
def allBlocks : List Block := (List.range 24).filterMap blockOfIndex

/-- The registers of the tail. -/
def tailRegs : List Reg := [TAIL_SNAP, TAIL_STICKY, TAIL_LOCK, TAIL_MBX_REQ, TAIL_MBX_STAT, TAIL_MBX_DATA]

/-- Whether the register at an address belongs to block `b` and to one of some reset domains. -/
def inDomains (ds : List Dom) (b : Block) (a : Nat) : Bool :=
  match findIn (blockRegs b) a with
  | some (r, _) => ds.contains r.rdom
  | none => match findIn tailRegs a with
    | some (r, ix) => ix.headD 24 = b.index && ds.contains r.rdom
    | none => false

/-- Whether specified behaviour of a block returns (R67): every domain that its registers use, other than RETAINED, is
reset. -/
def domainsCover (ds : List Dom) (b : Block) : Bool :=
  (blockRegs b).all (fun r => r.rdom = .retained || ds.contains r.rdom)

/-- The fields of some reset domains in some blocks take their reset values (R65); the blocks' snapshots and mailboxes go with
them (R73, R74), and where the FEED domain, that of every LK field, is among them, their locks (R71). -/
def resetRegs (ds : List Dom) (bs : List Block) (s : State) : State :=
  let ix := bs.map (·.index)
  let lost := fun (b : Nat) => ix.contains b && ds.contains .feed
  let held := s.locked.filter (fun b => !lost b)
  let keep := fun (e : Nat × Word) => !bs.any (fun b => inDomains ds b e.1) || held.any (fun b => e.1 = TAIL_LOCK.addr [b])
  let regs := s.regs.filter keep
  let mbx := s.mbx.filter (fun e => !ix.contains e.1)
  { s with regs := regs, mbx := mbx, snaps := s.snaps.filter (fun b => !ix.contains b),
           locked := held,
           tainted := s.tainted.filter (fun b => !bs.any (fun c => c.index = b && domainsCover ds c)) }

/-- Every OWN line falls (17 R478). -/
def dropOwn (s : State) : State :=
  let old := s.fld TWIN_STAT_OWNED
  (List.range 4).foldl (fun s g => if bit old g then s.ball .own g 0 else s) (s.lower TWIN_STAT_OWNED)

/-- A mode request's outcome reaches its requester, once (18 R501): a session that still waits, or the monitor. -/
def modeReply (path seq target code : Nat) (s : State) : State :=
  if path < 68 then
    if (s.sess path).reqs.any (fun r => r.seq = seq) then respond path seq (.mode target) code [] s else s
  else if path = 68 then s.say (.line [1, code])
  else s.say (.reply path code [])

/-- Mode requests and soft resets whose items will not be applied are reported (R501). -/
def dropRequests (code : Nat) (s : State) : State :=
  let mine := fun (i : Item) => match i.kind with
    | .modeReq .. | .softReset .. => true
    | _ => false
  let l := (s.adm.carry ++ s.adm.queue).filter mine
  let s := { s with adm := { s.adm with queue := s.adm.queue.filter (fun i => !mine i),
                                        carry := s.adm.carry.filter (fun i => !mine i) } }
  l.foldl (fun s (i : Item) => match i.kind with
    | .modeReq t _ _ p => modeReply (p % 128) (p / 128) t code s
    | .softReset _ p => modeReply p 0 0 code s
    | _ => s) s

/-- The loop engine starts afresh; contexts stay, the EN and AUTO marks and ramps in flight are gone (05 R181). -/
def loopFresh (s : State) : State :=
  let calm := fun (e : Nat × LoopDyn) => (e.1, { e.2 with en := false, auto := false, ramp := none, newR := false, newSS := false, dirty := [] })
  { s with le := { dyn := s.le.dyn.map calm, latched := s.le.latched } }

/-- What waits at the DACs of the SAR block stays; scans and diagnosis requests are gone (08 R261). -/
def sarFresh (s : State) : State :=
  let dac := s.sar.dac
  let s := sarClear s
  { s with sar := { s.sar with dac := dac } }

/-- The BLOCK-domain state of core c (14 R408): with CPU_C_c_CTL, PC and G_r at their reset values no core is held halted, and a
halted one has its PC and registers at 0. What is of the CORE domain stays (R65). DEDUCED: log 204. -/
def coreRelease (c : Nat) (s : State) : State :=
  s.modCore c (fun x =>
    if x.halted then { x with g := List.replicate 32 0, pc := 0, halted := false, once := false } else { x with once := false })

/-- The internal state of a block takes its reset value (R65, R517), as at an accepted nRESET; the capture sets follow
`acqClear` (07 R242). -/
def blockFresh (b : Block) (s : State) : State :=
  match b with
  | .cpu => rtNreset ((List.range 16).foldl (fun s c => coreRelease c s) s)
  | .disp => dispClear s
  | .loop => loopFresh s
  | .rcp => rcpReset false s
  | .rio => rioClear s
  | .sar => sarFresh s
  | .rfa => s
  | .acq => acqClear s
  | .pwm => pwmStop s
  | .mot => motNreset s
  | .can => canNreset s
  | .twin => { dropOwn s with twin := { outs := s.twin.outs } }
  | .host => sessionsLost (List.range 64) { streamsEnd 5 true s with host := { s.host with ports := [{}, {}] } }
  | .recs => streamsEnd 5 true s
  | .lens => lensLostAll s
  | .kpr => s
  | .evl => s
  | .upd => s
  | .safe | .sys | .pwr | .clk | .time | .nvm => s

/-- What a reset of one block does beyond its registers: the set states of ACQ follow `acqSync`, and a receive of UPD is
cancelled (22 R600). -/
def blockReset (b : Block) (s : State) : State :=
  let s := if b = .upd then updCancel s else s
  let s := resetRegs [.block] [b] (blockFresh b s)
  match b with
  | .acq => acqSync s
  | .pwm => pwmRefresh ((List.range 12).foldl (fun s k => if (s.axis k).modes.isSome then restartPairs k s else s) s)
  | .disp => dispCheckPlacement s
  | .rcp => rcpCheckPlacement s
  | .kpr => keySetSync (kprSync s)
  | .evl => fumSync s
  | .cpu => (List.range 16).foldl (fun s c => coreStat c s) s
  | .can => canCount s
  | _ => s

/-- The blocks of the control and data planes. -/
def planeBlocks : List Block := allBlocks.filter (fun b => blockPlane b = .control || blockPlane b = .data)

/-- The blocks of the management plane. -/
def mgmtBlocks : List Block := allBlocks.filter (fun b => blockPlane b = .management)

/-- An accepted nRESET, or a REBOOT, in the control and data planes (02 R65, 18 R514, R515): ownership falls, every block's
BLOCK-domain registers but those of ACQ take their reset values, admission is emptied, and the requests in it are reported
RESTARTED. Device time, D0, D2 and the island are untouched. -/
def planesReset (s : State) : State :=
  let s := streamsEnd 5 true (dropOwn s)
  let s := hostDown s
  let s := lensLostAll (acqNreset s)
  let s := (List.range 16).foldl (fun s c => coreClear c s) s
  let s := (planeBlocks.filter (· ≠ .acq)).foldl (fun s b => blockFresh b s) s
  let s := dropRequests codeRestarted s
  let left := ((s.fab[24]?).map (fun q => q.tokens.length)).getD 0
  let s := (s.incr SYS_Q_RCVD_COUNT [24] left).incr SYS_Q_RET_COUNT [24] left
  let s := { s with twin := {}, adm := { num := s.adm.num },
                    fab := modNth s.fab 24 (fun q => { q with tokens := [] }),
                    mc := { s.mc with pendMode := none, pendStop := false, safeReq := [], fresh := true } }
  let s := canCount (resetRegs [.block] (planeBlocks.filter (· ≠ .acq)) s)
  let s := dacSafe (acqSync s)
  let s := (List.range 16).foldl (fun s c => coreStat c s) s
  arcSync (rfaMirror (pwmRefresh s))

/-- The Keeper's part of a Keeper reset (02 R65, 21 R572): the BLOCK-domain registers of the management plane, a receive in
progress (22 R600), monitor logins and management sessions. A command of UPD in progress, a chunk among them, is reported
RESTARTED (01 R49). -/
def keeperReset (s : State) : State :=
  let op := s.upd.op
  let s := if s.fld UPD_STAT_STATE = 1 then updCancel (s.modUpd (fun u => { u with mon := false })) else s
  let s := monLogout s
  let s := mgDown s
  let s := s.modKpr (fun k => { k with chal := none, kickAt := s.now })
  let s := s.modUpd (fun u => { u with op := none, src := [] })
  let s := resetRegs [.block] mgmtBlocks s
  keySetSync (if op.isSome then updAnswer codeRestarted s else s.modUpd (fun u => { u with mon := false }))

/-- The bytes that survive a loss of power: MRAM; at a FEED reset the Keeper's SRAM too. -/
def keptBytes (por : Bool) (c : Host.Cell) : Bool :=
  (0x20000000 ≤ c.1 && c.1 < 0x23000000) || (!por && 0x200000000 ≤ c.1 && c.1 < 0x300000000)

/-- A POR or FEED reset event (02 R65, 18 R517): registers of the POR (POR only), FEED and BLOCK domains take their reset
values, nothing of the planes, the island or the time base stays, MRAM and what the Keeper keeps there stay. Device time
stops until the next Seed. -/
def powerReset (por : Bool) (s : State) : State :=
  let s := evlPower (rcpReset true (islClear (dropOwn s)))
  let s := pwmStop s
  let doms := if por then [Dom.por, .feed, .block] else [Dom.feed, .block]
  let t := resetRegs doms allBlocks s
  let mem := s.mem.filter (keptBytes por)
  let kpr : Kpr := { tsum := s.kpr.tsum, tsecs := s.kpr.tsecs, hist := s.kpr.hist, lo365 := s.kpr.lo365, lo90 := s.kpr.lo90,
                     eol := s.kpr.eol, reqId := s.kpr.reqId }
  let rt := (rtNreset s).rt
  let cnt : List SafeOut := s.isl.outs.map (fun o => { cnt := o.cnt })
  let t := { State.reset with
    pending := s.pending, out := s.out, free := s.free, mem := mem, regs := t.regs, tainted := t.tainted,
    trigs := s.trigs.map (fun (x : TrigIn) => { ball := x.ext, ext := x.ext }), sar := { phase := s.sar.phase },
    rcp := s.rcp, rt := rt, isl := { outs := cnt }, kpr := kpr, evl := s.evl, pwrs := s.pwrs,
    seed := { pinLow := s.seed.pinLow, slot := s.seed.slot } }
  ballsOff outGroups ((List.range 16).foldl (fun s k => dacShow k s) (t.setFld PWR_DOMSTAT_ON 5))

end Sys2Proof.Machine
end

