-- ==== Sys2Proof/Machine/Domains.lean ====
section
/-!
DEFINITION. Power domains switched on and off (19 R537 to R541).
-/
namespace Sys2Proof.Machine

/-- The memory that a domain holds: TCM of a cluster, Caldera, acquisition memory, Lens (01 R17). -/
def domainSpans : Nat → List (Nat × Nat)
  | 1 => [(0x300000000, 0x400000000)]
  | 3 => [(0x100000000, 0x100200000)]
  | 4 => [(0x100200000, 0x100400000)]
  | 6 => [(0x10000000, 0x14000000)]
  | 7 => [(0x30000000, 0x32000000)]
  | 11 => [(0x38000000, 0x38800000)]
  | _ => []

/-- What a block holds besides its registers is lost with its power. -/
def blockLost (b : Block) (s : State) : State :=
  match b with
  | .rcp =>
    let known := s.rcp.known
    let wrote := s.rcp.wrote
    let s := rcpReset true s
    { s with rcp := { s.rcp with known := known, wrote := wrote } }
  | .loop => { s with le := {} }
  | .rfa => { s with rf := List.replicate 4 {} }
  | .mot => motClear s
  | .can => canClear (canNreset s)
  | .sar => sarClear s
  | .lens => { s with lens := List.replicate 64 {} }
  | b => blockFresh b s

/-- The cores of a cluster are held in CORE reset (18 R512). -/
def clusterReset (d : Nat) (s : State) : State :=
  if d = 3 || d = 4 then (List.range 8).foldl (fun s i =>
    let c := 8 * (d - 3) + i
    coreClear c (dispCoreReset c s)) s
  else s

/-- Domain d loses power (R539): its outputs go to their reset levels, its blocks and memory lose what they hold. -/
def domainOff (d : Nat) (s : State) : State :=
  if !s.domOn d then s
  else
    let s := if d = 7 then (List.range 4).foldl (fun s n => if s.isSet RFA_CH_CFG_EN [n] || (s.rfCh n).ends then lastTone n s else s) (acqNreset s) else s
    let s := if d = 9 then hostDown (streamsEnd 4 false s) else if d = 11 then streamsEnd 4 false s else s
    let s := clusterReset d s
    let s := s.setFld PWR_DOMSTAT_ON (putBits (s.fld PWR_DOMSTAT_ON) d d 0)
    let s := (domainSpans d).foldl (fun s p => eraseSpan p.1 p.2 s) s
    let lost := allBlocks.filter (fun b => (blockDomains b).contains d && !s.powered b)
    let s := lost.foldl (fun s b => blockLost b s) s
    let s := resetRegs [.feed, .block] lost s
    if d = 8 then (List.range 16).foldl (fun s k => dacShow k s) s
    else if d = 10 then (List.range 64).foldl (fun s k => ((axisEnPin k s).ball .stepOut k 0).ball .dirOut k 0) s
    else s

/-- Whether a domain is to be on (R538): D5 and D6 outside Keeper mode, the others by their bit of PWR_DOMEN. -/
def domainWanted (s : State) (d : Nat) : Bool := d = 5 || d = 6 || bit (s.fld PWR_DOMEN_EN) d

/-- Domain d is switched on (R539): its blocks stand at their reset values. -/
def domainOn (d : Nat) (s : State) : State :=
  let s := s.setFld PWR_DOMSTAT_ON (s.fld PWR_DOMSTAT_ON ||| 2 ^ d)
  if d = 1 then ballsOn [.safeOut, .testOut] s else s

/-- D3 to D11 lose power: Keeper mode (18 R498). -/
def domainsOff (s : State) : State := (List.range 9).foldl (fun s i => domainOff (i + 3) s) s

end Sys2Proof.Machine
end

