-- ==== Sys2Proof/Machine/Mode.lean ====
section
/-!
DEFINITION. The mode controller (18 R498 to R509, R521 to R526): transitions and entry actions, mode requests and how they
are judged, Safe, Brace, restarts.
-/
namespace Sys2Proof.Machine

/-! ### Records of a transition (R500, R522) -/

/-- The mode status record (R500); Caldera takes it while D6 is on. -/
def statusRecord (s : State) : State :=
  let bs := leBytes 1 (s.fld SYS_MODE_CUR) ++ leBytes 1 (s.fld SYS_MODE_PREV) ++ leBytes 1 s.mc.safeCause ++
    leBytes 1 s.mc.under ++ leBytes 8 s.mc.ctick ++ leBytes 4 s.mc.reqId ++ leBytes 1 s.mc.reqCode ++
    leBytes 1 (b2n s.mc.resumed) ++ List.replicate 42 0 ++ leBytes 4 s.mc.mcount
  if s.domOn 6 then s.setBytes 0x1000FF00 bs else s

/-- The address of copy k of the mode record. -/
def modeRecAddr (k : Nat) : Nat := 0x22F10000 + 64 * k

/-- Whether copy k of the mode record is valid. -/
def modeRecOk (s : State) (k : Nat) : Bool :=
  s.bytes (modeRecAddr k) 4 = ascii "KVMR" && s.peek (modeRecAddr k + 60) 4 = crc32 (s.bytes (modeRecAddr k) 60)

/-- The valid copy with the higher sequence number. -/
def modeRecBest (s : State) : Option Nat :=
  match modeRecOk s 0, modeRecOk s 1 with
  | true, true => if s.peek (modeRecAddr 0 + 4) 4 < s.peek (modeRecAddr 1 + 4) 4 then some 1 else some 0
  | true, false => some 0
  | false, true => some 1
  | false, false => none

/-- The mode record to be written, with its address: the copies in turn (R522). -/
def modeRecNext (s : State) : Nat × List Byte :=
  let best := modeRecBest s
  let seq := match best with
    | some k => (s.peek (modeRecAddr k + 4) 4 + 1) % 2 ^ 32
    | none => 1
  let k := match best with
    | some k => 1 - k
    | none => 0
  let mode := if s.mode = .brace then s.mc.under else s.fld SYS_MODE_CUR
  let bs := ascii "KVMR" ++ leBytes 4 seq ++ leBytes 1 mode ++ leBytes 1 s.mc.safeCause ++ leBytes 12 (time96 s.now) ++
    List.replicate 38 0
  (modeRecAddr k, bs ++ leBytes 4 (crc32 bs))

/-- Write the mode record. -/
def modeRecWrite (s : State) : State :=
  let r := modeRecNext s
  if s.domOn 2 then s.setBytes r.1 r.2 else s

/-! ### Entry actions (R499) -/

/-- The debug holds are cleared and halted cores resume (R525). -/
def leaveHold (s : State) : State :=
  let was := s.isSet DISP_CTL_DBGHOLD
  let s := (((((s.lower RCP_CTL_DBGHOLD).lower LOOP_CTL_DBGHOLD).lower MOT_CTL_DBGHOLD).lower RT_CTL_DBGHOLD).lower
    DISP_CTL_DBGHOLD)
  if was then delayDue s else s

/-- Every halted core resumes (14 R408). -/
def resumeAll (s : State) : State :=
  (List.range 16).foldl (fun s c => if (s.core c).halted then resumeCore c s else s) s

/-- The recording area is judged at the exit from Provision (20 R569). -/
def recCheckPlacement (s : State) : State :=
  let base := s.fld REC_CTL_BASE
  let ok := (List.range (s.fld REC_CTL_SIZE)).all (fun i => base + i < 1024 && unitOwner s (base + i) = .data)
  s.setFld REC_STAT_CFGERR (b2n !ok)

/-- The checks made on leaving Provision (04 R115, 15 R424, 20 R569). -/
def leaveChecks (s : State) : State := recCheckPlacement (dispCheckPlacement (rcpCheckPlacement s))

/-- Whether R115 and R424 let the device leave Provision (R502). -/
def placementOk (s : State) : Bool := !s.isSet RCP_STAT_CFGERR && !s.isSet DISP_STAT_CFGERR

/-- Every LK field locks (02 R71, 18 R510). -/
def lockAll (s : State) : State :=
  allBlocks.foldl (fun s b =>
    if hasLock b && !s.locked.contains b.index then
      { s.raise TAIL_LOCK_SET [b.index] with locked := b.index :: s.locked }
    else s) s

/-- Every LK field unlocks: Provision is entered (02 R71). -/
def unlockAll (s : State) : State :=
  allBlocks.foldl (fun s b => s.lower TAIL_LOCK_SET [b.index]) { s with locked := [] }

/-- Entry to Stop or Safe (04 R146, 05 R181, 11 R327, 12 R340). -/
def stopActions (n : Nat) (s : State) : State :=
  let s := (List.range 32).foldl (fun s k => s.setReg LOOP_EN 0 [k]) s
  canStopAll (motStopAll (rcpStop n s))

/-- Loops, tasks and captures end with a mode that executes (05 R181, 06 R206). -/
def loopsEnd (s : State) : State :=
  loopFresh ((lensLostAll s).lower LOOP_STAT_RUNNING |>.lower LOOP_STAT_WAITFRAME)

/-- Run, Trial or Follow is entered from a mode in which loops do not execute: the lanes wait for a frame start (05 R180). -/
def loopsBegin (s : State) : State :=
  let s := loopFresh ((s.raise LOOP_STAT_WAITFRAME).lower LOOP_STAT_RUNNING)
  { s with islv := { s.islv with since := s.now } }

/-- Run is entered for the first time since the last reset: where RCP_RESUME.AUTO is 1, a resume is requested (04 R149,
R151). -/
def autoResume (s : State) : State :=
  if s.mc.fresh && s.mode = .run then
    let s := { s with mc := { s.mc with fresh := false } }
    if s.isSet RCP_RESUME_AUTO then resumeRequest s else s
  else s

/-- What every block does when the mode whose behaviour it shows changes from `old` at tick n. -/
def behave (n : Nat) (old : Mode) (s : State) : State :=
  let new := s.effMode
  if new = old then s
  else
    let s := if old = .hold then resumeAll (leaveHold s)
      else if (old = .stop || old = .provision) && new ≠ .stop && new ≠ .provision && new ≠ .hold then resumeAll s else s
    let s := if old = .safe then dacLeaveSafe s else s
    let s := if old = .provision then lockAll (leaveChecks s) else s
    let s := if new = .provision then unlockAll s else s
    let s := if old.executes && !new.executes then loopsEnd s else if !new.executes then lensLostAll s else s
    let s := if new.executes && !old.executes && old ≠ .resync then loopsBegin s else s
    let s := if new = .stop || new = .safe then stopActions n s else s
    let s := if new = .safe then dacSafe s else s
    let s := rtEnter s
    let s := if new = .resync then dropRequests codeMode (streamsEnd 5 false s) else s
    let s := if new = .keeper then domainsOff (dropRequests codeMode (streamsEnd 5 true s)) else s
    let s := (List.range 64).foldl (fun s k => axisEnPin k s) (pwmRefresh s)
    autoResume s

/-- SYS_MODE and the mode controller's record of a transition at tick n; `safe` is the new SAFECAUSE when the mode is Safe,
`why` the request judged with its code. -/
def setMode (n : Nat) (m : Mode) (safe : Nat) (why : Option (Nat × Nat)) (s : State) : State :=
  let old := s.mode
  let s := ((s.setFld SYS_MODE_PREV old.code).setFld SYS_MODE_CUR m.code).setFld PWR_STAT_BRACE (b2n (m = .brace))
  let s := { s with mc := { s.mc with
    safeCause := if m = .safe then safe else s.mc.safeCause
    under := if m = .brace then old.code else m.code
    ctick := n
    mcount := (s.mc.mcount + 1) % 2 ^ 32 } }
  let s := statusRecord s
  let s := if m = .seed then s else modeRecWrite s
  let req := why.getD (0, 0)
  s.emit (if m = .safe then 6 else 3) 0x05 .sys 0xFFFF 0xFF
    (m.code + old.code * 2 ^ 8 + s.mc.safeCause * 2 ^ 16 + req.2 * 2 ^ 24) req.1

/-- A transition at tick n (R499). -/
def takeMode (n : Nat) (m : Mode) (safe : Nat) (why : Option (Nat × Nat)) (s : State) : State :=
  let old := s.effMode
  behave n old (setMode n m safe why s)

/-! ### Safe (R504, R506) -/

/-- The causes whose way out is REBOOT only. -/
def rebootOnly (c : Nat) : Bool := c = 1 || c = 2 || c = 4 || c = 5

/-- Whether a cause has gone (R506). -/
def causeLeft (s : State) (c : Nat) : Bool :=
  match c with
  | 3 => s.fld CLK_STAT_PRESENT = 0xF && s.fld CLK_STAT_LOCK = 0x3F
  | 6 => s.islv.st = islRun && !s.islv.silent
  | c => !rebootOnly c

/-- A device that enters Safe leaves the pair's step: a follower is SOLO from then on (17 R471; DEDUCED: log 25). -/
def safeTwin (s : State) : State := if s.follower then (dropOwn s).setFld TWIN_STAT_ROLE 0 else s

/-- A cause replaces SAFECAUSE, byte [2] of the mode status record, without a transition (R500, R506; DEDUCED: log 192). -/
def replaceCause (c : Nat) (s : State) : State :=
  let s := { s with mc := { s.mc with safeCause := c } }
  if s.domOn 6 then s.setBytes 0x1000FF02 (leBytes 1 c) else s

/-- A cause of Safe acts at tick n: entry, or in Safe the replacement of SAFECAUSE (R504, R506). -/
def safeCauseAt (n : Nat) (s : State) (c : Nat) : State :=
  let s := if rebootOnly c then s.modUpd (fun u => { u with grave := true }) else s
  match s.mode with
  | .safe => if rebootOnly c then replaceCause c s else s
  | .run | .hold | .follow | .trial | .brace | .stop | .provision => takeMode n .safe c none (safeTwin s)
  | _ => s

/-! ### Requests (R501, R502) -/

/-- The least role of a request for `target` in mode `m` with SAFECAUSE `cause`; none where the table lists no row (R502,
R506). -/
def requestRole (target cause : Nat) (m : Mode) : Option Role :=
  match target, m with
  | 5, .stop => some .operator
  | 5, .hold => some .installer
  | 6, .run => some .installer
  | 4, .run | 4, .hold | 4, .trial => some .operator
  | 4, .provision => some .installer
  | 4, .safe => some (if cause = 3 || cause = 7 then .installer else .operator)
  | 3, .stop | 3, .safe => some .installer
  | 2, .stop | 2, .provision | 2, .safe => some .installer
  | 9, .dark | 9, .seed | 9, .keeper => none
  | 9, _ => some .operator
  | 16, .keeper | 16, .provision | 16, .stop | 16, .safe => some .installer
  | _, _ => none

/-- The least role that any row of a target gives. -/
def targetRole (target : Nat) : Role := if target = 4 || target = 5 || target = 9 then .operator else .installer

/-- Whether a mode can be requested (R502). -/
def requestable (target : Nat) : Bool := [2, 3, 4, 5, 6, 9, 16].contains target

/-- Whether a role is at least another. -/
def roleAtLeast (r least : Role) : Bool := least.code ≤ r.code

/-- The condition of the last column of R502. -/
def requestCond (s : State) (target : Nat) : Nat :=
  match target, s.mode with
  | 5, .stop =>
    if 2 ≤ s.fld TWIN_STAT_ROLE then codeMode
    else if s.islv.st ≠ islRun || s.islv.silent then codeSafetyVeto else codeDone
  | 4, .provision => if placementOk (leaveChecks s) then codeDone else codeArgument
  | 4, .safe => if causeLeft s s.mc.safeCause then codeDone else codeBusy
  | 3, _ => if s.follower then codeMode else codeDone
  | _, _ => codeDone

/-- The code that a request is given (R502, R508). -/
def requestCode (s : State) (target : Nat) (role : Role) : Nat :=
  if !requestable target then codeArgument
  else if s.mode = .brace && target ≠ 9 then codeBusy
  else match requestRole target s.mc.safeCause s.mode with
    | none => if roleAtLeast role (targetRole target) then codeMode else codeGuard
    | some least => if roleAtLeast role least then requestCond s target else codeGuard

/-- A request is judged (R501): refused with its code, or accepted, to take effect at the next base tick. At most one is
accepted in a tick. A request for Safe in Safe is done at once. -/
def judgeRequest (r : ModeReq) (s : State) : State :=
  let code := if s.mc.pendMode.isSome then codeBusy else requestCode s r.target r.role
  let s := { s with mc := { s.mc with reqId := r.id, reqCode := code } }
  let s := if s.mode = .provision && r.target = 4 && code = codeArgument then leaveChecks s else s
  if code ≠ codeDone || (r.target = 9 && s.mode = .safe) then modeReply r.path r.seq r.target code s
  else { s with mc := { s.mc with pendMode := some r } }

/-- A mode request reaches the Keeper (R501): in Seed it is answered MODE, in Keeper and Resync modes it is judged as it is
built, otherwise it enters class M, from which it becomes an item of source 376 (01 R31); a full class M answers BUSY. -/
def fileRequest (r : ModeReq) (s : State) : State :=
  match s.mode with
  | .seed => modeReply r.path r.seq r.target codeMode s
  | .keeper | .resync => judgeRequest r s
  | _ =>
    let y := pushModeReq r s
    if y.1 then y.2 else modeReply r.path r.seq r.target codeBusy y.2

/-- A mode request with the next identifier. -/
def modeRequest (target : Nat) (role : Role) (path seq : Nat) (s : State) : State :=
  let x := newModeReq target role path seq s
  fileRequest x.1 x.2

/-! ### Restarts (R509, R513, R514) -/

/-- The device enters Seed for a restart at tick n: 0 a REBOOT, 1 one that ACTIVATE performs, 2 a fallback. From Keeper mode
the Seed is cold from step 2 (R514). -/
def restart (n kind : Nat) (why : Option (Nat × Nat)) (s : State) : State :=
  let cold := s.mode = .keeper
  let seeded := s.mode = .seed
  let s := planesReset (setMode n .seed 0 why s)
  let s := if kind = 0 then s else keeperReset s
  let s := if s.domOn 2 then s else domainOn 2 s
  let two := cold || kind ≠ 0
  let x := s.seed
  { s.raise SYS_RSTCAUSE_PIN with
    mc := { s.mc with resumed := false },
    upd := { s.upd with confirm := false, grave := false, migr := if kind = 0 then s.upd.migr else false },
    seed := { x with step := if two then 2 else 3, cold := cold, run2 := two, run3 := true, halted := false,
                     reboot := none, failed := 0, noSlot := x.noSlot && !two, noSet := false,
                     power := x.power && seeded, again := false } }

/-! ### The start of a base tick (R499, R503, R504) -/

/-- An accepted request that a trigger of the same tick overtakes is reported MODE (R503). -/
def overtaken (s : State) : State :=
  match s.mc.pendMode with
  | none => s
  | some r =>
    let s := { s with mc := { s.mc with pendMode := none, reqCode := codeMode } }
    modeReply r.path r.seq r.target codeMode s

/-- The transition that a trigger other than Safe brings at this tick: EXCSTOP, the supply warning and its end, a confirmed
trial (R504, R508). -/
def triggered (s : State) : Option Mode :=
  let warn := s.isSet PWR_STAT_WARN
  match s.mode with
  | .run | .hold => if s.mc.pendStop then some .stop else if warn then some .brace else none
  | .trial => if s.mc.pendStop then some .stop else if warn then some .brace
    else if !trialPending s then some .run else none
  | .brace => if s.mc.pendStop then some .stop
    else if !warn then some (if s.mc.under = 10 && !trialPending s then .run else Mode.ofCode s.mc.under) else none
  | _ => none

/-- An accepted request takes effect at tick n. -/
def takeRequest (n : Nat) (r : ModeReq) (s : State) : State :=
  let s := { s with mc := { s.mc with pendMode := none } }
  let why := some (r.id, codeDone)
  let s := if r.target = 16 then restart n 0 why s
    else if r.target = 9 then takeMode n .safe 8 why (safeTwin s)
    else if r.target = 5 && s.mode = .stop && trialPending s then takeMode n .trial 0 why s
    else takeMode n (Mode.ofCode r.target) 0 why s
  modeReply r.path r.seq r.target codeDone s

/-- Whether the start of the next base tick brings a transition. -/
def modeWaits (s : State) : Bool :=
  !s.mc.safeReq.isEmpty || s.seed.reboot.isSome || s.mc.pendMode.isSome || (triggered s).isSome

/-- The start of base tick n: Safe wins over Stop, a trigger over a request (R503, R504). -/
def modeDue (n : Nat) (s : State) : State :=
  let causes := s.mc.safeReq
  let next := triggered s
  let s := { s with mc := { s.mc with safeReq := [], pendStop := false } }
  let was := s.mode
  let s1 := causes.foldl (safeCauseAt n) s
  if s1.mode ≠ was then overtaken s1
  else match s1.seed.reboot, next, s1.mc.pendMode with
    | some k, _, _ => restart n k none (overtaken { s1 with seed := { s1.seed with reboot := none } })
    | none, some m, _ =>
      let s := overtaken s1
      let s := { s with pwrs := { s.pwrs with dip := s.pwrs.dip.map (fun d => (d.1, d.2.1, d.2.2 || m = .brace)) } }
      takeMode n m 0 none s
    | none, none, some r => takeRequest n r s1
    | none, none, none => s1

/-- Time passes to the start of the next base tick, where the transition that waits takes effect; without device time it
takes effect as the time stands. -/
def nextTickMode (s : State) : State :=
  if !modeWaits s then s
  else
    let s := stepsFirst (fun s => tickAt (s.tick + 1)) s.tb.pend.length s
    let n := s.tick + 1
    modeDue (if s.tb.started then n else s.tick) (advanceTo (tickAt n) s)

/-! ### Commands -/

/-- MODE_REQUEST (R501, R502, 01 R31): the Keeper receives a request; in the modes that apply batches its item of source 376
is judged in Phase 3 of its admission tick. -/
def execModeRequest (target : Fin 17) (role : Role) (id : BitVec 32) (s : State) : Host.Outcome State Fault Refusal :=
  run [.sys] (fileRequest { target := target.val, role := role, id := id.toNat, path := 69, seq := 0 }) s

/-- MODE_TRANSITION (R499): what waits takes effect at the start of the next base tick. -/
def execModeTransition (s : State) : Host.Outcome State Fault Refusal := run [.sys] nextTickMode s

/-- Whether an accepted REBOOT waits for the next base tick. -/
def rebootWaits (s : State) : Bool := s.mc.pendMode.any (fun r => r.target = 16)

/-- REBOOT (R514): one that was accepted is performed at the next base tick; without one the request for it is made, and where
the Keeper accepts it as it builds it, performed at the next base tick (R501). -/
def execReboot (role : Role) (s : State) : Host.Outcome State Fault Refusal :=
  run [.sys] (fun s =>
    let s := if rebootWaits s then s else fileRequest { target := 16, role := role, id := 0, path := 69, seq := 0 } s
    if rebootWaits s then nextTickMode s else s) s

/-- SAFE_TRIGGER (R504, R506): a cause of Safe (its code less 1) is detected and acts at the next base tick. -/
def execSafeTrigger (cause : Fin 8) (s : State) : Host.Outcome State Fault Refusal :=
  run [.sys] (fun s => nextTickMode (s.raiseSafe (cause.val + 1))) s

/-- BRACE_ENTRY (R508): while the warning is asserted, Run, Hold or Trial passes to Brace at the next base tick. -/
def execBraceEntry (s : State) : Host.Outcome State Fault Refusal :=
  run [.sys, .pwr] (fun s => if s.isSet PWR_STAT_WARN && s.mode ≠ .brace then nextTickMode s else s) s

/-- BRACE_EXIT (R531): after the warning the device returns to the mode in UNDER at the next base tick. -/
def execBraceExit (s : State) : Host.Outcome State Fault Refusal :=
  run [.sys, .pwr] (fun s => if !s.isSet PWR_STAT_WARN && s.mode = .brace then nextTickMode s else s) s

end Sys2Proof.Machine
end

