-- ==== Sys2Proof/Machine/Clk.lean ====
section
/-!
DEFINITION. Clock inputs and PLLs (03 R82 to R85).
-/
namespace Sys2Proof.Machine

/-- A CLOCK event (21 R579, kind 0x07): the bits of CLK_FLAGS set, and CLK_STAT. -/
def clockEvent (sev flags : Nat) (s : State) : State :=
  s.emit sev 0x07 .clk 0xFFFF 0xFF flags (s.reg CLK_STAT).toNat

/-- The flag, the count of losses and the deviation of input i: 0 REFCLK, 1 TREFCLK, 2 SMPCLK, 3 SDREFCLK. -/
def lossFlag : Nat → Fld
  | 0 => CLK_FLAGS_REF_LOSS | 1 => CLK_FLAGS_TREF_LOSS | 2 => CLK_FLAGS_SMP_LOSS | _ => CLK_FLAGS_SDREF_LOSS

/-- The count of losses of input i. -/
def lossCount : Nat → Fld
  | 0 => CLK_LOSS_REF | 1 => CLK_LOSS_TREF | 2 => CLK_LOSS_SMP | _ => CLK_LOSS_SDREF

/-- Twice the nominal count of input i in a window of 10 µs (R82, R83). -/
def clkNominal2 (s : State) (i : Nat) : Nat :=
  match i with
  | 0 => 500 | 1 => if s.isSet CLK_TBSEL_TFREQ then 500 else 200 | 2 => 10000 | _ => 3125

/-- Whether a count lies within 2 % of the nominal count (R83). -/
def countGood (nom2 c : Nat) : Bool := 100 * c ≤ 51 * nom2 && 49 * nom2 ≤ 100 * c

/-- The links on CK_SD go down (R82): the host ports and the lanes of the twin link. Sessions stay until they idle out. -/
def sdLinksDown (s : State) : State :=
  let s := (List.range 2).foldl (fun s p =>
    ((s.lower HOST_P_STAT_LINK [p]).setFld HOST_P_STAT_SPEED 0 [p]).setFld HOST_P_STAT_FEC 0 [p]) s
  (s.lower TWIN_LINK_UP0).lower TWIN_LINK_UP1

/-- What the loss of input i brings (R82, R84): the flag, the count, the event, and what its users do. -/
def clockLost (i : Nat) (s : State) : State :=
  let s := (s.raise (lossFlag i)).incrSat (lossCount i)
  let s := match i with
    | 0 => (if s.isSet CLK_STAT_TBSRC then s else s.raise CLK_STAT_HOLDOVER).raiseSafe 3
    | 1 => if s.isSet CLK_STAT_TBSRC then
        { s.raise CLK_STAT_HOLDOVER with tbPll := { holdFrom := some s.now, trefFrom := none } }
      else { s with tbPll := { s.tbPll with trefFrom := none } }
    | 2 => smpLoss s
    | _ => sdLinksDown s
  clockEvent (if i = 0 then 6 else 5) (2 ^ i) s

/-- An input is present again (R83): the time-base PLL follows REFCLK again, and the 100 ms of R84 begin (DEDUCED: log 206). -/
def clockBack (i : Nat) (s : State) : State :=
  match i with
  | 0 => if s.isSet CLK_STAT_TBSRC then s else s.lower CLK_STAT_HOLDOVER
  | 1 => { s with tbPll := { s.tbPll with trefFrom := some s.now } }
  | 2 => if s.clkPresent 2 then smpReturn s else s
  | _ => s

/-- The input that PLL p follows: 0 control, 1 fabric, 2 field, 3 time base, 4 sampling, 5 SerDes. -/
def pllInput (s : State) (p : Nat) : Nat :=
  match p with
  | 3 => if s.isSet CLK_STAT_TBSRC then 1 else 0
  | 4 => 2 | 5 => 3 | _ => 0

/-- A PLL that has lost lock locks again while its reference is present. DEDUCED: log 40. -/
def relock (s : State) (p : Nat) : State :=
  if bit (s.fld CLK_STAT_LOCK) p || !bit (s.fld CLK_STAT_PRESENT) (pllInput s p) then s
  else
    let s := s.setFld CLK_STAT_LOCK (s.fld CLK_STAT_LOCK ||| 2 ^ p)
    if p = 4 then smpReturn s else s

/-- Input i at the end of a window with count `c` and deviation `dev` (R83). -/
def judgeClock (i c : Nat) (dev : Word) (s : State) : State :=
  let here := bit (s.fld CLK_STAT_PRESENT) i
  let x := nth s.clkIns i {}
  if countGood (clkNominal2 s i) c then
    let n := min 100 (x.good + 1)
    let s := { s with clkIns := modNth s.clkIns i (fun _ => { good := n }) }
    let s := if !here && n = 100 then
        clockBack i (s.setFld CLK_STAT_PRESENT (s.fld CLK_STAT_PRESENT ||| 2 ^ i))
      else s
    if bit (s.fld CLK_STAT_PRESENT) i then s.setReg CLK_DEV dev [i] else s
  else
    let s := { s with clkIns := modNth s.clkIns i (fun _ => {}) }
    if here then
      clockLost i ((s.setFld CLK_STAT_PRESENT (putBits (s.fld CLK_STAT_PRESENT) i i 0)).setReg CLK_DEV 0x80000000#32 [i])
    else s

/-- CLOCK_WINDOW (R83): a window of 10 µs of CK_KPR ends with these counts of the four inputs; `dev` is what CLK_DEV_k shows of
an input that is present. Outside a Seed that has not reached step 4 the PLLs follow their references. -/
def execClockWindow (c0 c1 c2 c3 : BitVec 16) (d0 d1 d2 d3 : Word) (s : State) : Host.Outcome State Fault Refusal :=
  run [.clk] (fun s =>
    let s := judgeClock 0 c0.toNat d0 s
    let s := judgeClock 1 c1.toNat d1 s
    let s := judgeClock 2 c2.toNat d2 s
    let s := judgeClock 3 c3.toNat d3 s
    if s.mode = .seed && s.seed.step ≤ 4 then s else (List.range 6).foldl relock s) s

/-- TB_REF_SWITCH (R84): 10 ms after the loss of TREFCLK the time-base PLL changes its reference to REFCLK. -/
def execTbRefSwitch (s : State) : Host.Outcome State Fault Refusal :=
  run [.clk] (fun s => match s.tbPll.holdFrom with
    | some t =>
      let s := advanceTo (t + 10000000 * nsF) s
      let s := ((s.setFld CLK_STAT_HOLDOVER (b2n !(s.clkPresent 0))).lower CLK_STAT_TBSRC).raise CLK_FLAGS_TB_SWITCH
      { s with tbPll := { s.tbPll with holdFrom := none } }
    | none => s) s

/-- TB_REF_RETURN (R84): with AUTORET and USETREF the PLL returns to TREFCLK once it has been present for 100 ms. -/
def execTbRefReturn (s : State) : Host.Outcome State Fault Refusal :=
  run [.clk] (fun s => match s.tbPll.trefFrom with
    | some t =>
      if s.isSet CLK_TBSEL_AUTORET && s.isSet CLK_TBSEL_USETREF && !s.isSet CLK_STAT_TBSRC then
        (((advanceTo (t + 100000000 * nsF) s).raise CLK_STAT_TBSRC).lower CLK_STAT_HOLDOVER).raise CLK_FLAGS_TB_SWITCH
      else s
    | none => s) s

/-- PLL_UNLOCK (R85): PLL p loses lock: 0 control, 1 fabric, 2 field, 3 time base, 4 sampling, 5 SerDes. -/
def execPllUnlock (p : Fin 6) (s : State) : Host.Outcome State Fault Refusal :=
  run [.clk] (fun s =>
    if !bit (s.fld CLK_STAT_LOCK) p.val then s
    else
      let s := s.setFld CLK_STAT_LOCK (putBits (s.fld CLK_STAT_LOCK) p.val p.val 0)
      if p.val < 4 then clockEvent 6 16 ((s.raise CLK_FLAGS_PLL_UNLOCK).raiseSafe 3)
      else clockLost (p.val - 2) s) s

end Sys2Proof.Machine
end

