-- ==== Sys2Proof/Machine/Pwr.lean ====
section
/-!
DEFINITION. Feeds, the supply warning, the retention commit, power domains and I/O banks (19).
-/
namespace Sys2Proof.Machine

/-- Change the state of the feeds. -/
def State.modPwr (s : State) (f : PwrSt → PwrSt) : State := { s with pwrs := f s.pwrs }

/-- A POWER event (21 R579, kind 0x09): what (0 feed, 1 domain, 2 bank, 3 dip, 4 cut commit), its number, cause bits. -/
def powerEvent (sev what num cause d1 : Nat) (s : State) : State :=
  s.emit sev 0x09 .pwr (if what ≤ 2 then num else 0xFFFF) 0xFF (what + num * 2 ^ 8 + cause * 2 ^ 16) d1

/-! ### Measurements (R527, R529, R543) -/

/-- Which feed conducts (R527): the one that is higher by more than 40 mV, within 40 mV both; not one over voltage. -/
def conducting (s : State) (va vb : Nat) : Nat :=
  let both := if vb + 40 < va then 1 else if va + 40 < vb then 2 else 3
  if s.pwrs.ov = 1 then 2 else if s.pwrs.ov = 2 then 1 else if s.pwrs.ov = 3 then 0 else both

/-- One feed's register. -/
def feedReg (s : State) (f v c : Nat) : Word :=
  let ov := bit s.pwrs.ov f
  BitVec.ofNat 32 (min 0xFFFF c * 2 ^ 16 + b2n (!ov && !bit s.pwrs.low f) * 2 ^ 15 + b2n ov * 2 ^ 14 + min 0xFFF v)

/-- The declared level of bank k in mV; none when it is unused. -/
def bankLevel (s : State) (k : Nat) : Option Nat :=
  match bits (s.reg PWR_VIOCFG).toNat (2 * k + 1) (2 * k) with
  | 0 => some 1800
  | 1 => some 2500
  | 2 => some 3300
  | _ => none

/-- Whether a bank at `v` mV is within its declared level: at least 90 % of it (R542). -/
def bankOk (s : State) (k v : Nat) : Bool := (bankLevel s k).any (fun l => 9 * l ≤ 10 * v)

/-- The measurement of both feeds (voltage in mV, current in 10 mA), of the rails (mV, mA) and of the banks (mV). -/
def measure (va ca vb cb : Nat) (rails : List (Nat × Nat)) (banks : List Nat) (s : State) : State :=
  let p := va * ca + vb * cb
  let e := s.pwrs.energy + p
  let ps := (s.pwrs.powers ++ [p]).drop (s.pwrs.powers.length - 9)
  let mj := (s.reg PWR_ENERGY_LO).toNat + (s.reg PWR_ENERGY_HI).toNat * 2 ^ 32 + e / 10 ^ 7
  let pin := min 0xFFFF (ps.foldl (· + ·) 0 / ps.length / 1000)
  let low := fun (d : Nat × Nat × Bool) => (d.1, min d.2.1 (max va vb), d.2.2)
  let s := s.modPwr (fun x => { x with volt := (va, vb), energy := e % 10 ^ 7, powers := ps, dip := x.dip.map low })
  let s := (s.setReg PWR_FEED_A (feedReg s 0 va ca)).setReg PWR_FEED_B (feedReg s 1 vb cb)
  let s := s.setFld PWR_STAT_SRC (conducting s va vb)
  let s := (s.setReg PWR_ENERGY_LO (BitVec.ofNat 32 mj)).setReg PWR_ENERGY_HI (BitVec.ofNat 32 (mj / 2 ^ 32))
  let s := (s.setFld PWR_PIN_PIN pin).setFld PWR_PIN_PEAK (max pin (s.fld PWR_PIN_PEAK))
  let s := (rails.take 12).zipIdx.foldl (fun s (r : (Nat × Nat) × Nat) =>
    s.setReg PWR_DOM_V (if s.domOn r.2 then BitVec.ofNat 32 (r.1.2 * 2 ^ 16 + min 0xFFF r.1.1) else 0) [r.2]) s
  (banks.take 8).zipIdx.foldl (fun s (b : Nat × Nat) =>
    let s := s.setFld PWR_VIO_V_VOLT b.1 [b.2]
    s.setFld PWR_VIOSTAT_OK (putBits (s.fld PWR_VIOSTAT_OK) b.2 b.2 (b2n (bankOk s b.2 b.1)))) s

/-- FEED_MEASURE (R529, R543). -/
def execFeedMeasure (va ca vb cb : BitVec 16) (rails : List (BitVec 12 × BitVec 16)) (banks : List (BitVec 12)) (s : State) :
    Host.Outcome State Fault Refusal :=
  run [.pwr] (measure va.toNat ca.toNat vb.toNat cb.toNat
    (rails.map (fun (r : BitVec 12 × BitVec 16) => (r.1.toNat, r.2.toNat))) (banks.map (fun b => b.toNat))) s

/-- FEED_LOW (R529): a feed is declared low. -/
def execFeedLow (f : Fin 2) (s : State) : Host.Outcome State Fault Refusal :=
  run [.pwr] (fun s =>
    if bit s.pwrs.low f.val then s
    else powerEvent 4 0 f.val 1 0 ((s.raise PWR_STAT_FEEDLOSSF).modPwr (fun x =>
      { x with low := putBits x.low f.val f.val 1 }))) s

/-- FEED_PRESENT (R529): a feed is declared present again. -/
def execFeedPresent (f : Fin 2) (s : State) : Host.Outcome State Fault Refusal :=
  run [.pwr] (fun s => s.modPwr (fun x => { x with low := putBits x.low f.val f.val 0 })) s

/-- FEED_OVERVOLTAGE (R529): a feed is declared over voltage. -/
def execFeedOvervoltage (f : Fin 2) (s : State) : Host.Outcome State Fault Refusal :=
  run [.pwr] (fun s =>
    if bit s.pwrs.ov f.val then s
    else
      let s := (s.raise PWR_STAT_OVF).modPwr (fun x => { x with ov := putBits x.ov f.val f.val 1 })
      powerEvent 4 0 f.val 2 0 (s.setFld PWR_STAT_SRC (conducting s s.pwrs.volt.1 s.pwrs.volt.2))) s

/-- FEED_OVERVOLTAGE_END (R529): the feed is conducted from again. -/
def execFeedOvervoltageEnd (f : Fin 2) (s : State) : Host.Outcome State Fault Refusal :=
  run [.pwr] (fun s =>
    let s := s.modPwr (fun x => { x with ov := putBits x.ov f.val f.val 0 })
    s.setFld PWR_STAT_SRC (conducting s s.pwrs.volt.1 s.pwrs.volt.2)) s

/-! ### The warning and the retention commit (R530 to R534) -/

/-- The list that a retention commit takes when it starts (R532). -/
def commitList (s : State) : CommitList :=
  { jr := (journalled s).map (fun n => journalRecord s n s.tick), sets := s.rt.sets.length, mode := modeRecNext s,
    recs := s.evl.queue.map (fun (q : Nat × EvRec) => q.2.seq) }

/-- SUPPLY_WARNING (R530): the warning asserts, the dip counts, and the retention commit starts unless one runs. -/
def supplyWarning (s : State) : State :=
  if s.isSet PWR_STAT_WARN || s.pwrs.fed then s
  else
    let s := ((s.raise PWR_STAT_WARN).raise PWR_STAT_DIPF).incrSat PWR_DIPCNT_DIPS
    let at_ := s.now
    let s := s.modPwr (fun x => { x with dip := some (at_, 0xFFF, false) })
    if s.pwrs.commit.isSome || !s.domOn 2 then s
    else
      let c := commitList s
      (s.raise PWR_STAT_COMMIT).modPwr (fun x => { x with commit := some c })

/-- SUPPLY_WARNING (R530). -/
def execSupplyWarning (s : State) : Host.Outcome State Fault Refusal := run [.pwr, .nvm] supplyWarning s

/-- Write a commit's journal records. -/
def commitWrite (l : List (Nat × List Byte)) (s : State) : State := l.foldl (fun s r => putJournal r s) s

/-- Write a commit's mode record, unless a later transition has written one (R522, R532). -/
def commitMode (r : Nat × List Byte) (s : State) : State :=
  if leAt (modeRecNext s).2 4 4 = leAt r.2 4 4 then s.setBytes r.1 r.2 else s

/-- Write the event records of a list that still wait (R532). -/
def commitRecords (recs : List Nat) (s : State) : State :=
  let mine := s.evl.queue.filter (fun (q : Nat × EvRec) => recs.contains q.2.seq)
  let s := mine.foldl (fun s (q : Nat × EvRec) => putRecord q.1 q.2 s) s
  s.modEvl (fun x => { x with queue := x.queue.filter (fun (q : Nat × EvRec) => !recs.contains q.2.seq) })

/-- The commit completes: everything of its list is in MRAM. -/
def commitDone (s : State) : State :=
  match s.pwrs.commit with
  | none => s
  | some c =>
    let s := commitRecords c.recs (commitMode c.mode (logAll (commitWrite c.jr s)))
    (s.lower PWR_STAT_COMMIT).modPwr (fun x => { x with commit := none })

/-- RETENTION_COMMIT_DONE (R532). -/
def execRetentionCommitDone (s : State) : Host.Outcome State Fault Refusal := run [.pwr, .nvm] commitDone s

/-- A commit is cut short (R533): of its list a part is in MRAM, of which the spec says only that it comes first; how much is a
free value. -/
def commitCut (s : State) : State :=
  match s.pwrs.commit with
  | none => s
  | some c =>
    let d := s.draw
    let s := d.2
    let nj := c.jr.length
    let k := d.1 % (nj + c.sets + 1 + c.recs.length + 1)
    let s := commitWrite (c.jr.take k) s
    let s := (List.range (min c.sets (k - nj))).foldl (fun s _ => logSet s) s
    let s := if nj + c.sets < k then commitMode c.mode s else s
    let s := commitRecords (c.recs.take (k - nj - c.sets - 1)) s
    s.modPwr (fun x => { x with commit := none, cut := true })

/-- PWR_LASTDIP of a dip that ends now (R534). -/
def dipWord (s : State) (d : Nat × Nat × Bool) (mv : Nat) : Nat :=
  min 0xFFFF ((s.now - d.1) / (10000 * nsF)) * 2 ^ 16 + b2n d.2.2 * 2 ^ 15 + min d.2.1 (min 0xFFF mv)

/-- The warning deasserts; `mv` is the lowest voltage of the better feed in the dip, as far as the measurements do not
hold it. -/
def warningEnd (mv : Nat) (s : State) : State :=
  if !s.isSet PWR_STAT_WARN || s.pwrs.fed then s
  else
    let s := s.lower PWR_STAT_WARN
    match s.pwrs.dip with
    | none => s
    | some d =>
      let w := dipWord s d mv
      let s := (s.setReg PWR_LASTDIP (BitVec.ofNat 32 w)).modPwr (fun x => { x with dip := none })
      powerEvent 4 3 0 0 w s

/-- WARNING_DEASSERT (R530, R534). -/
def execWarningDeassert (mv : BitVec 12) (s : State) : Host.Outcome State Fault Refusal :=
  run [.pwr] (warningEnd mv.toNat) s

/-- The FEED reset (R530, R533, R534): the commit is cut, the reset is applied, the warning is asserted, and the dip is
written after the reset of its register's domain. The device is in Seed, which waits for the feed. -/
def feedReset (mv : Nat) (s : State) : State :=
  if s.pwrs.fed then s
  else
    let s := commitCut s
    let late := s.pwrs.dip.map (fun d => dipWord s d mv)
    let mc : ModeCtl := { mcount := (s.mc.mcount + 1) % 2 ^ 32 }
    let s := { powerReset false s with mc := mc }
    let s := (s.raise SYS_RSTCAUSE_FEED).raise PWR_STAT_WARN
    let s := match late with
      | some w => s.setReg PWR_LASTDIP (BitVec.ofNat 32 w)
      | none => s
    let x := s.pwrs
    { s with pwrs := { low := x.low, ov := x.ov, volt := x.volt, late := late, cut := x.cut, fed := true },
             seed := { s.seed with record := 2 } }

/-- FEED_RESET (R530): the better feed falls below 1.52 V. -/
def execFeedReset (mv : BitVec 12) (s : State) : Host.Outcome State Fault Refusal := run [.pwr, .nvm] (feedReset mv.toNat) s

/-- The device is Dark (R530): D0 and D2 lose power. A commit that runs is cut. -/
def goDark (s : State) : State :=
  let s := powerReset true (commitCut s)
  let x := s.pwrs
  let s := { s with pwrs := { cut := x.cut } }
  (s.setFld SYS_MODE_CUR 0).setFld PWR_DOMSTAT_ON 0

/-- DARK (R530): the better feed falls below 1.20 V. -/
def execDark (s : State) : Host.Outcome State Fault Refusal := run [.pwr] goDark s

/-! ### Domains (R538 to R541) -/

/-- The domains whose handling of a fault is a REBOOT. -/
def faultReboots (d : Nat) : Bool := [2, 3, 4, 5, 6, 8, 10].contains d

/-- A fault of domain d with its cause bits (R537, R541). D1 is then unpowered: the island is in SAFE with cause SUPPLY, its
gate lines are low and it sends nothing (16 R432, R436). -/
def domainFault (d cause : Nat) (s : State) : State :=
  if !s.domOn d then s
  else
    let s := (s.setFld PWR_DOMSTAT_FLT (s.fld PWR_DOMSTAT_FLT ||| 2 ^ d)).raise PWR_STAT_DOMFLTF
    let s := (s.incrSat PWR_DOM_FLT_COUNT [d]).setFld PWR_DOM_FLT_CAUSE cause [d]
    if d = 0 then goDark s
    else if d = 1 then
      let s := allLow (s.modIsl (fun x => { x with st := islSafe, cause := 8, supply := true, on := false }))
      ballsOff [.safeOut, .testOut] (s.setFld PWR_DOMSTAT_ON (putBits (s.fld PWR_DOMSTAT_ON) 1 1 0))
    else if faultReboots d then
      let s := domainOff d (dropOwn (powerEvent 6 1 d cause 0 s))
      { s with seed := { s.seed with reboot := some (s.seed.reboot.getD 0) } }
    else domainOff d (powerEvent 5 1 d cause 0 s)

/-- DOMAIN_FAULT (R541): the cause bits 0 under voltage, 1 over voltage, 2 over current. -/
def execDomainFault (d : Fin 12) (cause : BitVec 3) (s : State) : Host.Outcome State Fault Refusal :=
  run [.pwr] (domainFault d.val cause.toNat) s

/-- Whether the mode lets a domain be switched by a write (R540). -/
def switchMode (s : State) (d : Nat) : Bool :=
  if d = 7 || d = 11 then 3 ≤ s.mode.code else s.mode = .provision || s.mode = .stop

/-- Whether a condition of R540 refuses the switch-off of domain d. -/
def switchBarred (s : State) (d : Nat) : Bool :=
  match d with
  | 3 => (List.range 8).any (fun c => (s.dcore c).member)
  | 4 => (List.range 8).any (fun c => (s.dcore (8 + c)).member)
  | 7 => (List.range 4).any (fun n => s.isSet RFA_CH_CFG_EN [n]) || (List.range 64).any (fun k => s.acqState k ≠ 0)
  | 8 => (List.range 16).any (fun k => s.isSet SAR_DAC_CFG_EN [k])
  | 9 => s.isSet TWIN_CTL_EN || (List.range 64).any (fun n => (s.sess n).isOpen)
  | 10 => (List.range 64).any (fun k => s.isSet PWM_PR_CFG_EN [k] || s.isSet MOT_AX_CFG_EN [k]) ||
      (List.range 4).any (fun p => s.fld RIO_P_STAT_STATE [p] = 1 || s.fld RIO_P_STAT_STATE [p] = 3) ||
      (List.range 8).any (fun c => !s.isSet CAN_CTL_INIT [c])
  | 11 => (List.range 64).any (fun c => lensBusy s c || streamOpen s c)
  | _ => false

/-- The FEED-domain registers of some blocks are loaded from the current settings copy (R539). -/
def loadBlocks (bs : List Block) (s : State) : State :=
  if !copyValid s 0 then s
  else (copyRecords s 0).foldl (fun s (e : Nat × Nat) => match settingAt e.1 with
    | none => s
    | some x =>
      if bs.contains x.1.blk then
        let m := settingMask x.1
        s.setReg x.1 (BitVec.ofNat 32 (((s.reg x.1 x.2).toNat &&& (0xFFFFFFFF - m)) ||| (e.2 &&& m))) x.2
      else s) s

/-- Domain d is switched on outside Seed (R539). -/
def switchOn (d : Nat) (s : State) : State :=
  let fresh := allBlocks.filter (fun b => (blockDomains b).contains d && !s.powered b)
  let s := loadBlocks fresh (domainOn d s)
  let s := if d = 7 then (List.range 4).foldl (fun s n => loadTrim n s) s else s
  let s := if d = 11 || d = 7 then rfaMirror s else s
  if d = 10 then canCount (pwmRefresh s) else s

/-- The domains that a write of PWR_DOMEN may switch. -/
def switchable : List Nat := [3, 4, 7, 8, 9, 10, 11]

/-- The rule of PWR_DOMEN (R540, R541): each domain whose state the write changes is judged; a refused write changes nothing.
A domain that has faulted is switched on again by a 1 once its FLT bit is clear. -/
def domenAct : Act := fun _ _ w s =>
  let old := s.fld PWR_DOMEN_EN
  let new := (PWR_DOMEN_EN.of w &&& 0xF98) ||| 0x67
  let offs := switchable.filter (fun d => bit old d && !bit new d)
  let ons := switchable.filter (fun d => bit new d && !s.domOn d && !bit (s.fld PWR_DOMSTAT_FLT) d && 3 ≤ s.mode.code)
  let chg := switchable.filter (fun d => bit old d != bit new d) ++ ons.filter (fun d => bit old d)
  if chg.any (fun d => !switchMode s d) then .badMode s
  else if offs.any (switchBarred s) then .badState s
  else
    let s := s.setFld PWR_DOMEN_EN new
    .ok (ons.foldl (fun s d => switchOn d s) (offs.foldl (fun s d => domainOff d s) s))

/-- DOMAIN_SWITCH: a write of PWR_DOMEN (R540). -/
def execDomainSwitch (m : Master) (en : BitVec 12) (s : State) : Host.Outcome State Fault Refusal :=
  run [.pwr] (regCmd domenAct m PWR_DOMEN [] (BitVec.ofNat 32 en.toNat)) s

/-! ### Banks and the peak (R542, R543) -/

/-- VIO_LOW (R542): a declared bank (k + 1) is low. -/
def execVioLow (k : Fin 8) (s : State) : Host.Outcome State Fault Refusal :=
  run [.pwr] (fun s =>
    if (bankLevel s k.val).isNone then s
    else
      let s := s.setFld PWR_VIOSTAT_LOW (s.fld PWR_VIOSTAT_LOW ||| 2 ^ k.val)
      let s := s.setFld PWR_VIOSTAT_OK (putBits (s.fld PWR_VIOSTAT_OK) k.val k.val 0)
      powerEvent 5 2 (k.val + 1) 1 0 (s.raise PWR_STAT_VIOF)) s

/-- The rule of PWR_STAT: flags clear, and PEAKCLR sets the peak to the present power (R543). -/
def pwrStatAct : Act := fun _ ix w s =>
  let s := s.store PWR_STAT ix w
  .ok (if PWR_STAT_PEAKCLR.on w then s.setFld PWR_PIN_PEAK (s.fld PWR_PIN_PIN) else s)

/-- PEAKCLR: writing 1 to PWR_STAT.PEAKCLR (R543). -/
def execPeakclr (m : Master) (s : State) : Host.Outcome State Fault Refusal :=
  run [.pwr] (regCmd pwrStatAct m PWR_STAT [] 0x40#32) s

end Sys2Proof.Machine
end

