-- ==== Sys2Proof/Machine/TwinBase.lean ====
section
/-!
DEFINITION. The twin link (17), without the batches: roles and ownership, HELLO and resync, heartbeats of a follower, the
digest check, handover requests.
-/
namespace Sys2Proof.Machine

/-- Change the twin link's own state. -/
def State.modTwin (s : State) (f : Twin → Twin) : State := { s with twin := f s.twin }

/-- A TWIN event (21 R579, kind 0x0E): what, its cause code, a source number. -/
def twinEvent (sev what cause src : Nat) (s : State) : State :=
  s.emit sev 0x0E .twin 0xFFFF 0xFF (what + cause * 2 ^ 8 + src * 2 ^ 16)

/-- Whether the device is LEADER. -/
def State.leader (s : State) : Bool := s.fld TWIN_STAT_ROLE = 1

/-- Whether the device is a follower in step. -/
def inStepFollower (s : State) : Bool := s.follower && s.isSet TWIN_STAT_INSTEP

/-! ### Ownership (R478, R496) -/

/-- Raise OWN[g]. -/
def claim (g : Nat) (s : State) : State :=
  if bit (s.fld TWIN_STAT_OWNED) g then s
  else (s.setFld TWIN_STAT_OWNED (s.fld TWIN_STAT_OWNED ||| 2 ^ g)).ball .own g 1

/-- Drop OWN[g]. -/
def give (g : Nat) (s : State) : State :=
  if bit (s.fld TWIN_STAT_OWNED) g then
    (s.setFld TWIN_STAT_OWNED (putBits (s.fld TWIN_STAT_OWNED) g g 0)).ball .own g 0
  else s

/-- A LEADER or an in-step FOLLOWER claims every group whose OWNSNS line is low. -/
def claimLow (s : State) : State :=
  if s.leader || inStepFollower s then
    (List.range 4).foldl (fun s g => if bit (s.fld TWIN_STAT_PEEROWN) g then s else claim g s) s
  else s

/-- Whether this device is the home of group g. -/
def homeOf (s : State) (g : Nat) : Bool := s.isSet TWIN_GRP_ANCHOR [g] && s.isSet TWIN_GRP_HOME [g]

/-- OWNSNS_FALL (R478): the lines OWNSNS[3:0] take these levels; a line that falls is claimed within 50 ns by a LEADER or an
in-step FOLLOWER. -/
def execOwnsnsFall (levels : BitVec 4) (s : State) : Host.Outcome State Fault Refusal :=
  run [.twin] (fun s =>
    let old := s.fld TWIN_STAT_PEEROWN
    let s := s.setFld TWIN_STAT_PEEROWN levels.toNat
    if s.leader || inStepFollower s then
      (List.range 4).foldl (fun s g => if bit old g && !levels.getLsbD g then claim g s else s) s
    else s) s

/-! ### Leaving step, resync (R473, R492 to R495) -/

/-- The device becomes RESYNC, or ISOLATED: it is in Resync from this tick. -/
def outOfStep (role : Nat) (s : State) : State :=
  let s := (((dropOwn s).lower TWIN_STAT_INSTEP).setFld TWIN_STAT_ROLE role).modTwin (fun t =>
    { t with staged := [], openTick := none, prov := [], own := [], ldr := [], swap := none, takeover := false, cut := none })
  if s.mode = .resync then s else takeMode s.tick .resync 0 none s

/-- A follower leaves step with a cause (R473): 1 the CLOSE checks, 2 a late CLOSE, 3 the digest, 4 a loss that finds the
leader alive. The numbers of the causes are the model's. -/
def leaveStep (cause : Nat) (s : State) : State :=
  if !s.follower then s
  else
    let up := s.isSet TWIN_LINK_UP0 || s.isSet TWIN_LINK_UP1
    outOfStep (if up && cause ≠ 4 then 3 else 4) (twinEvent 5 3 cause 0 s)

/-- The settings of the control-plane blocks that differ from reset, without the card-local ones (R492). -/
def pairSettings (s : State) : List (Nat × Nat) :=
  s.regs.filterMap (fun (e : Nat × Word) => match settingAt e.1 with
    | none => none
    | some x =>
      let r := x.1
      let m := settingMask r &&& (if r = RFA_TONE_CFG then 0xFFFFFFFF - fieldMask ⟨RFA_TONE_CFG_PHOFS.hi, RFA_TONE_CFG_PHOFS.lo, .rw⟩
        else 0xFFFFFFFF)
      if blockPlane r.blk = .control && r.blk ≠ .twin && !([SAR_IN_CAL, SAR_TDAC_LIM, RFA_CH_SCALE].contains r) &&
          (e.2.toNat &&& m) ≠ (r.reset.toNat &&& m) then some (e.1, e.2.toNat &&& m) else none)

/-- The version of the running image, and the oldest with which it runs (22 R597, R609). -/
def ownVersions (s : State) : Nat × Nat :=
  let h := slotHeader s s.seed.slot
  (leAt h 8 1 * 256 + leAt h 9 1, leAt h 24 1 * 256 + leAt h 25 1)

/-- A resync ends (R495): TWIN_RS.CAUSE; an end other than DONE is recorded. -/
def resyncEnd (cause : Nat) (s : State) : State :=
  let s := ((s.setFld TWIN_RS_CAUSE cause).setFld TWIN_RS_PHASE 0).modTwin (fun t => { t with rsFrom := none, cut := none })
  twinEvent 4 7 cause 0 s

/-- The checks of phase HELLO against the partner's (R466, R492, R609): 0, or the cause of refusal. -/
def helloCheck (s : State) (h : Hello) : Nat :=
  let v := ownVersions s
  if h.ver < v.2 || v.1 < h.cver then 3 else if h.settings ≠ pairSettings s then 2 else 0

/-- Phase HELLO against what the partner's HELLO said, when it has come: refused, or on to BULK (R493). -/
def resyncHello (s : State) : State :=
  match s.twin.peer with
  | none => s
  | some h => match helloCheck s h with
    | 0 => s.setFld TWIN_RS_PHASE 2
    | c => resyncEnd c s

/-- A resync starts, on either side (R493, R495): it is counted, in phase HELLO. -/
def resyncBegin (s : State) : State :=
  let s := ((s.incr TWIN_RESYNCS_COUNT).setReg TWIN_RS 0).setFld TWIN_RS_PHASE 1
  let now := s.now
  s.modTwin (fun t => { t with rsFrom := some now })

/-- A device out of step starts a resync (R490, R493, R495). -/
def resyncStart (s : State) : State := resyncHello ((resyncBegin (outOfStep 3 s)).say (.send 24 5 [1]))

/-- Whether a resync is in progress. -/
def resyncs (s : State) : Bool := 1 ≤ s.fld TWIN_RS_PHASE && s.fld TWIN_RS_PHASE ≤ 4

/-- A leader whose partner is not in step takes part in its resync (R493). DEDUCED: log 242. -/
def resyncServe (s : State) : State :=
  if s.isSet TWIN_STAT_INSTEP || resyncs s then s
  else resyncHello ((resyncBegin s).modTwin (fun t => { t with total := 0, round := 0, cut := none }))

/-- Whether this device leads when neither executes (R490). -/
def leadsIdle (s : State) (h : Hello) : Bool :=
  let me := s.isSet TWIN_CTL_PREF
  if me != h.pref then me else s.fld SYS_DEVNUM_DEVNUM < h.dev

/-- A HELLO of the partner is taken (R490): the device leads, or resyncs. In Seed it is held for R511. -/
def helloRole (h : Hello) (s : State) : State :=
  if s.mode = .seed then s
  else if s.leader then resyncServe s
  else if s.fld TWIN_STAT_ROLE = 0 && !h.exec && (s.mode.executes || leadsIdle s h) then
    resyncServe (claimLow (s.setFld TWIN_STAT_ROLE 1))
  else if s.follower then s
  else if s.fld TWIN_STAT_ROLE = 3 && resyncs s then (if s.fld TWIN_RS_PHASE = 1 then resyncHello s else s)
  else resyncStart s

/-- The partner answers: both lanes are up with their delays, and the two HELLOs settle the roles. -/
def twinLinked (h : Hello) (dly0 dly1 : Nat) (s : State) : State :=
  let s := ((s.raise TWIN_LINK_UP0).raise TWIN_LINK_UP1).setFld TWIN_LINK_DLY0 dly0
  let s := s.setFld TWIN_LINK_DLY1 dly1
  helloRole h (s.modTwin (fun t => { t with peer := some h }))

/-- TWIN_HELLO (R466, R490): a HELLO arrives on the lanes, with their delays in ns. -/
def execTwinHello (pair : BitVec 12) (h : Hello) (dly0 dly1 : BitVec 10) (s : State) : Host.Outcome State Fault Refusal :=
  run [.twin] (fun s =>
    if !s.isSet TWIN_CTL_EN || !s.domOn 9 then s
    else if pair.toNat ≠ s.fld TWIN_CTL_PAIRID || h.dev ≠ s.fld TWIN_CTL_PEERDEV then
      twinEvent 5 1 1 0 (s.setFld TWIN_RS_CAUSE 1)
    else
      twinLinked h dly0.toNat dly1.toNat s) s

/-- LANE_DOWN (R467): a lane is declared down while the other delivers. -/
def execLaneDown (lane : Fin 2) (s : State) : Host.Outcome State Fault Refusal :=
  run [.twin] (fun s =>
    let up := fun (k : Nat) => s.isSet (if k = 0 then TWIN_LINK_UP0 else TWIN_LINK_UP1)
    if up lane.val && up (1 - lane.val) then
      twinEvent 4 2 lane.val 0 (s.lower (if lane.val = 0 then TWIN_LINK_UP0 else TWIN_LINK_UP1))
    else s) s

/-- The rule of TWIN_CMD (R491, R495): RESYNC on a device that is not in step, SWAP on a leader whose follower is in step and
whose last digest matched, ABORTRS. -/
def twinCmdAct : Act := fun _ _ w s =>
  let rs := TWIN_CMD_RESYNC.on w
  let sw := TWIN_CMD_SWAP.on w
  if rs && (!s.isSet TWIN_CTL_EN || s.isSet TWIN_STAT_INSTEP || s.leader) then .badState s
  else if sw && !(s.leader && s.isSet TWIN_STAT_INSTEP && s.twin.matched) then .badState s
  else
    let s := if rs then resyncStart s else s
    let n := s.tick
    let s := if sw then s.modTwin (fun t => { t with swap := some n }) else s
    .ok (if TWIN_CMD_ABORTRS.on w && s.fld TWIN_RS_PHASE ≠ 0 && s.fld TWIN_RS_PHASE ≠ 5 then resyncEnd 6 s else s)

/-- A write of TWIN_CMD. -/
def twinCmdBy (m : Master) (w : Word) (s : State) : Host.Outcome State Fault Refusal :=
  run [.twin] (regCmd twinCmdAct m TWIN_CMD [] w) s

/-- TWIN_RESYNC (R493): writing TWIN_CMD.RESYNC. -/
def execTwinResync (m : Master) (s : State) : Host.Outcome State Fault Refusal := twinCmdBy m 1#32 s
/-- TWIN_SWAP (R491): writing TWIN_CMD.SWAP. -/
def execTwinSwap (m : Master) (s : State) : Host.Outcome State Fault Refusal := twinCmdBy m 2#32 s
/-- ABORTRS (R495): writing TWIN_CMD.ABORTRS. -/
def execAbortrs (m : Master) (s : State) : Host.Outcome State Fault Refusal := twinCmdBy m 4#32 s

/-- The device has no partner: SOLO, with no OWN line (R466). -/
def unpair (s : State) : State :=
  if s.fld TWIN_STAT_ROLE = 0 then s
  else ((((dropOwn s).lower TWIN_STAT_INSTEP).setFld TWIN_STAT_ROLE 0).setFld TWIN_STAT_MISSRUN 0).modTwin (fun t => { outs := t.outs })

/-- The rule of TWIN_CTL (R466): with EN at 0, or with another pair identity or partner than before, the device is SOLO; with a
partner it takes a role at the next HELLO. -/
def twinCtlAct : Act := fun _ ix w s =>
  let same := TWIN_CTL_EN.on w = s.isSet TWIN_CTL_EN && TWIN_CTL_PAIRID.of w = s.fld TWIN_CTL_PAIRID &&
    TWIN_CTL_PEERDEV.of w = s.fld TWIN_CTL_PEERDEV
  let s := s.store TWIN_CTL ix w
  .ok (if same then s else unpair s)

/-- TWIN_EPOCH is written in Provision only (R497). -/
def epochAct : Act := fun _ ix w s => if s.mode ≠ .provision then .badMode s else .ok (s.store TWIN_EPOCH ix w)

/-- RESYNC_TIMEOUT (R495): a resync that is not done within 2 s ends with NOCONV and starts again. -/
def execResyncTimeout (s : State) : Host.Outcome State Fault Refusal :=
  run [.twin] (fun s => match s.twin.rsFrom with
    | none => s
    | some t =>
      let s := advanceTo (t + 2 * secF) s
      if s.fld TWIN_STAT_ROLE = 3 then resyncStart (resyncEnd 4 s)
      else if s.leader then resyncServe (resyncEnd 4 s)
      else s) s

/-- A dispatcher descriptor as it is taken at a cut: SLOT and RUN become READY with their tokens (R494). -/
def cutDesc (e : Nat × TaskDesc) : Nat × TaskDesc :=
  if e.2.st = dSlot || e.2.st = dRun then (e.1, { e.2 with st := dReady }) else e

/-- The bytes of a part at `a` that a resync copies: not the mode status and health records (22 R604). -/
def fillBytes (a : Nat) : List Byte → State → State
  | [], s => s
  | b :: bs, s => fillBytes (a + 1) bs (if 0x1000FF00 ≤ a && a < 0x1000FF80 then s else s.setByte a b)

/-- The register at an address that a resync copies: of the control-plane blocks, the loop contexts and the program store,
without the card-local ones (R492, R493). -/
def copiedReg (a : Nat) : Option (Reg × List Nat) :=
  if 0x44000000 ≤ a && a < 0x45000000 then findIn loopRegs a
  else match blockOfIndex ((a - 0x40000000) / 0x10000) with
  | none => none
  | some b => (findIn (blockRegs b) a).filter (fun x => blockPlane b = .control && b ≠ .twin &&
      !([SAR_IN_CAL, SAR_TDAC_LIM, RFA_CH_SCALE, RIO_ST_DLY, RIO_ST_SER].contains x.1))

/-- One part of a STATE message fills the device (R493, R494). -/
def fillPart (s : State) (p : StatePart) : State :=
  match p with
  | .mem a bs => fillBytes a bs s
  | .reg a w => match copiedReg a with
    | some (r, ix) =>
      let own := s.fld RFA_TONE_CFG_PHOFS ix
      let s := s.setReg r w ix
      if r = RFA_TONE_CFG then s.setFld RFA_TONE_CFG_PHOFS own ix else s
    | none => s
  | .rcp x => { s with rcp := x }
  | .loop x => { s with le := x }
  | .sar x => { s with sar := { x with phase := s.sar.phase } }
  | .pwm x => { s with pwm := { x with trip := s.pwm.trip, gate := s.pwm.gate } }
  | .rio x => { s with rio := x }
  | .axes x =>
    let gates := s.axes.map (·.gate)
    { s with axes := x.zipIdx.map (fun (a : Axis × Nat) => { a.1 with gate := nth gates a.2 false }) }
  | .can x => { s with can := x }
  | .disp x =>
    let descs := x.descs.map cutDesc
    { s with disp := { x with descs := descs, cores := s.disp.cores } }
  | .rt x => { s with rt := x }
  | .isl x => { s with islv := x }
  | .roles x => { s with adm := { s.adm with roles := x } }

/-! What a leader sends (R493). -/

/-- The 4 KiB pages of Caldera that the control plane owns. -/
def copiedPages (s : State) : List Nat :=
  ((List.range 16384).map (fun k => 0x10000000 + 4096 * k)).filter (fun a => calderaOwner s a = .control)

/-- The addresses of the registers that a resync copies. -/
def copiedRegs : List Nat :=
  ((List.range 0x60000).map (fun k => 0x40000000 + 4 * k) ++ (List.range 0x60000).map (fun k => 0x44000000 + 4 * k)).filter
    (fun a => (copiedReg a).isSome)

/-- The parts of a message: every page and register, or those that differ from what was last sent, and what the engines hold
beside registers. -/
def stateParts (all : Bool) (s : State) : List StatePart :=
  let page := fun (m : List Host.Cell) (a : Nat) => m.filter (fun c => a ≤ c.1 && c.1 < a + 4096)
  ((copiedPages s).filter (fun a => all || page s.mem a ≠ page s.twin.sentMem a)).map (fun a => .mem a (s.bytes a 4096)) ++
    (copiedRegs.filter (fun a => all || getKey s.regs a ≠ getKey s.twin.sentRegs a)).filterMap
      (fun a => (copiedReg a).map (fun x => .reg a (s.reg x.1 x.2))) ++
    [.rcp s.rcp, .loop s.le, .sar s.sar, .pwm s.pwm, .rio s.rio, .axes s.axes, .can s.can, .disp s.disp, .rt s.rt, .isl s.islv,
     .roles s.adm.roles]

/-- The bytes of memory and registers in a part. -/
def StatePart.size : StatePart → Nat
  | .mem _ bs => bs.length
  | .reg _ _ => 4
  | _ => 0

/-- A leader sends a STATE message. -/
def stateSend (phase cut : Nat) (all : Bool) (s : State) : State :=
  let parts := stateParts all s
  let n := (parts.map StatePart.size).foldl (· + ·) 0
  let s := s.modTwin (fun t => { t with sentMem := s.mem, sentRegs := s.regs, round := n, total := t.total + n })
  ((s.setFld TWIN_RS_PHASE phase).setFld TWIN_RS_SENT (s.twin.total / 2 ^ 20)).say (.twinState phase cut parts)

/-- A leader's next STATE message: BULK, then rounds of DELTA, then, once a round held at most 256 KiB, the cut tick, at least
40 ticks ahead; what is then still to send leaves at that tick (R493). DEDUCED: log 242. -/
def stateServe (phase cut : Nat) (s : State) : State :=
  match phase, s.fld TWIN_RS_PHASE with
  | 2, 2 => stateSend 2 0 true s
  | 3, 2 | 3, 3 => if s.twin.total = 0 then s else stateSend 3 0 false (s.setFld TWIN_RS_ROUNDS (s.fld TWIN_RS_ROUNDS + 1))
  | 4, 3 =>
    if 0x40000 < s.twin.round then s
    else
      let c := max cut (s.tick + 40)
      ((s.setFld TWIN_RS_PHASE 4).modTwin (fun t => { t with cut := some c })).say (.twinState 4 c [])
  | _, _ => s

/-- At the cut tick n of a leader: what was written since the last round leaves, and the cyclic tasks whose cycle runs are
noted (R493, R494). -/
def cutSend (n : Nat) (s : State) : State :=
  if s.leader && s.twin.cut = some n then
    (stateSend 4 n false s).modTwin (fun t => { t with cut := none, cutRun := (List.range 13).filter (fun k => (s.rtask k).busy) })
  else s

/-- STATE (R493): a message of phase 2, 3 or 4 fills the resyncing device; `mib` counts what was received, `rounds` the DELTA
rounds; a message of phase 4 names the cut tick. On a leader it is the next message to leave. -/
def execState (phase : Fin 5) (mib : BitVec 16) (rounds : BitVec 8) (cut : Nat) (parts : List StatePart) (s : State) :
    Host.Outcome State Fault Refusal :=
  run [.twin] (fun s =>
    if s.leader then stateServe phase.val cut s
    else if s.fld TWIN_STAT_ROLE ≠ 3 || s.fld TWIN_RS_PHASE < 2 || phase.val < 2 then s
    else
      let s := ((s.setFld TWIN_RS_PHASE phase.val).setFld TWIN_RS_SENT mib.toNat).setFld TWIN_RS_ROUNDS rounds.toNat
      let s := if phase.val = 4 then s.modTwin (fun t => { t with cut := some cut }) else s
      parts.foldl fillPart s) s

/-! ### The digest check (R476) -/

/-- The bytes of D(n): the signal table, then STATE, STEP and SEQ of each thread. The lengths of the three fields are the
model's: 1, 2 and 4 bytes. -/
def digestBytes (s : State) : List Byte :=
  s.bytes 0x10200000 (262144 * 8) ++ (List.range 64).flatMap (fun n =>
    leBytes 1 (s.thrState n) ++ leBytes 2 (s.fld RCP_THR_STEP_STEP [n]) ++ leBytes 4 (s.reg RCP_THR_SEQ [n]).toNat)

/-- Compare the digests of one tick: a difference takes the follower out of step. -/
def digestCompare (s : State) : State :=
  match s.twin.digest, s.twin.peerDig with
  | some (n, d), some (k, e) =>
    if n ≠ k then s
    else if d = e then s.modTwin (fun t => { t with matched := true })
    else
      let s := s.modTwin (fun t => { t with matched := false })
      if s.follower then leaveStep 3 (s.raise TWIN_STAT_DIGF) else s
  | _, _ => s

/-- The digest of tick n is formed, mirrored with the open recording streams and sent. -/
def digestFormed (n : Nat) (s : State) : State :=
  let d := (sha256 (digestBytes s))
  let ws := (List.range 8).map (fun k => BitVec.ofNat 32 (leAt d (4 * k) 4))
  let s := s.modTwin (fun t => { t with digest := some (n, ws) })
  let s := (List.range 64).foldl (fun s k => if streamOpen s k then s.ctrl ([14, k] ++
    ([REC_ST_CFG, REC_ST_DEC, REC_ST_SEQ, REC_ST_PROD, REC_ST_DELIV, REC_ST_DROP].map (fun r => (s.reg r [k]).toNat))) else s) s
  digestCompare (s.say (.send 24 4 (n :: ws.map (fun w => w.toNat))))

/-- DIGEST_FORM (R476): after Phase 3 of a tick divisible by 200 the device forms and sends its digest; a leader sends the
counts of its streams with it (20 R555). -/
def execDigestForm (s : State) : Host.Outcome State Fault Refusal :=
  run [.twin] (fun s => match s.adm.lastTick with
    | none => s
    | some n =>
      if n % 200 ≠ 0 || !s.isSet TWIN_CTL_EN then s
      else
        digestFormed n s) s

/-- DIGEST (R476): the partner's digest of tick n arrives. -/
def execDigest (n : Nat) (d : List Word) (s : State) : Host.Outcome State Fault Refusal :=
  run [.twin] (fun s =>
    if !s.isSet TWIN_CTL_EN then s
    else digestCompare (s.modTwin (fun t => { t with peerDig := some (n, (d ++ List.replicate 8 0).take 8) }))) s

/-! ### Heartbeats of a follower, stall, take-back (R478, R484, R496) -/

/-- The heartbeat of tick n came in time (R484). -/
def heartbeat (n : Nat) (s : State) : State :=
  ((s.setFld TWIN_STAT_MISSRUN 0).raise TWIN_STAT_PEER).modTwin (fun t => { t with hbCame := some n })

/-- A heartbeat of the partner reaches a leader; one in step after the cut ends the resync with DONE (R493). -/
def hbeatTaken (n : Nat) (inStep : Bool) (s : State) : State :=
  let s := (heartbeat n s).setFld TWIN_STAT_INSTEP (b2n inStep)
  if inStep && s.fld TWIN_RS_PHASE = 4 && s.twin.cut.isNone then
    (s.setFld TWIN_RS_PHASE 5).modTwin (fun t => { t with rsFrom := none })
  else s

/-- HBEAT (R468, R484): the follower's, or a resyncing device's, heartbeat of tick n with its INSTEP. -/
def execHbeat (n : Nat) (inStep : Bool) (s : State) : Host.Outcome State Fault Refusal :=
  run [.twin] (fun s => if s.leader then hbeatTaken n inStep s else s) s

/-- The leader stops leading: its outputs are dropped, its role is none, and it enters Safe; a resync that it serves ends with
LEADER (R478, R495). -/
def leaderStalls (s : State) : State :=
  let s := if resyncs s then resyncEnd 7 s else s
  let s := ((dropOwn s).setFld TWIN_STAT_ROLE 0).lower TWIN_STAT_INSTEP
  (twinEvent 6 9 0 0 s).raiseSafe 7

/-- LEADER_STALL (R478): a leader has not sent the CLOSE of the tick in time. -/
def execLeaderStall (s : State) : Host.Outcome State Fault Refusal :=
  run [.twin] (fun s =>
    if !s.leader then s
    else
      leaderStalls s) s

/-- ANCHOR_TAKEBACK (R496): group g passes to its home device: at the commit of the group's thread, which this tick is, or
without a running thread at the next tick divisible by 200. The home raises OWN[g] at that instant; the giving device drops
it 20 ns later. -/
def execAnchorTakeback (g : Fin 4) (s : State) : Host.Outcome State Fault Refusal :=
  run [.twin] (fun s =>
    let g := g.val
    let thr := s.fld TWIN_GRP_THREAD [g]
    let byThread := s.isSet TWIN_GRP_USETHR [g] && s.thrState thr = thrRunning
    if !s.isSet TWIN_GRP_ANCHOR [g] || !s.isSet TWIN_STAT_INSTEP || (byThread && (s.thread thr).commit ≠ s.tick) then s
    else
      let n := ceilDiv s.now (tickAt 1)
      let s := if byThread then s else advanceTo (tickAt (ceilDiv n 200 * 200)) s
      if s.follower && homeOf s g then claim g s
      else if s.leader && !homeOf s g then give g (advanceTo (s.now + 20 * nsF) s)
      else s) s

/-- The words of a mailbox item of the twin link (R497), or the error code. -/
def twinMailbox (s : State) (item index : Nat) : Nat × List Word :=
  if index ≠ 0 then (2, [])
  else match item with
    | 1 => (0, (s.twin.digest.map (·.2)).getD (List.replicate 8 0))
    | 2 => (0, match s.twin.digest, s.twin.peerDig with
      | some (n, _), some (k, e) => if n = k then e else List.replicate 8 0
      | _, _ => List.replicate 8 0)
    | 3 =>
      let t := (s.twin.tookAt.map time96).getD 0
      (0, (List.range 3).map (fun k => BitVec.ofNat 32 (t / 2 ^ (32 * k))))
    | _ => (1, [])

end Sys2Proof.Machine
end

