-- ==== Sys2Proof/Machine/Hooks.lean ====
section
/-!
DEFINITION. Every access by address (02 R55 to R78): which register or memory an address names, the rule of each register,
what each register shows, bit aliases and mailboxes.
-/
namespace Sys2Proof.Machine

/-! ### The rule of each register -/

/-- The acts of some registers. -/
abbrev Acts := List (Reg × Act)

/-- The act of a register among some: `plainAct` where it has no rule of its own. -/
def findAct (r : Reg) : Acts → Act
  | [] => plainAct r
  | (q, a) :: t => if r.base = q.base then a else findAct r t

/-- HOST_CTL: RTMO and IDLE of 0 are refused (20 R568). -/
def hostCtlAct : Act := fun _ ix w s =>
  if HOST_CTL_RTMO.of w = 0 || HOST_CTL_IDLE.of w = 0 then .badValue s else .ok (s.store HOST_CTL ix w)

/-- HOST_Pp_CFG: an MTU outside 1,500 to 9,000 is refused; a port that does not run has no link (20 R544, R568). -/
def hostPortAct : Act := fun _ ix w s =>
  if !within (HOST_P_CFG_MTU.of w) 1500 9000 then .badValue s
  else
    let s := s.store HOST_P_CFG ix w
    .ok (if HOST_P_CFG_EN.on w then s
      else ((s.lower HOST_P_STAT_LINK ix).setFld HOST_P_STAT_SPEED 0 ix).setFld HOST_P_STAT_FEC 0 ix)

/-- REC_CTL: RTO of 0 is refused (20 R569). -/
def recCtlAct : Act := fun _ ix w s => if REC_CTL_RTO.of w = 0 then .badValue s else .ok (s.store REC_CTL ix w)

/-- REC_ST_n_CTL.CLOSE ends an open stream (20 R563). -/
def recStreamAct : Act := fun _ ix w s => .ok (if REC_ST_CTL_CLOSE.on w then streamEnd (ix.headD 0) 5 false s else s)

/-- The fields of the mirror are read-only (16 R465). -/
def safeAct : Act := fun _ _ _ s => .ok s

/-- Registers of the loop engine (05 R158, R169, R170, R177, R178). -/
def loopActs : Acts :=
  [(LOOP_CTL, holdAct LOOP_CTL_DBGHOLD (plainAct LOOP_CTL)), (LOOP_FRAME, frameAct), (LOOP_CMD, loopCmdAct lensLostLoop),
   (LOOP_CLS_PER, structAct LOOP_CLS_PER (fun _ => none)), (LOOP_CLS_OFS, structAct LOOP_CLS_OFS (fun _ => none)),
   (LOOP_CLS_PH, structAct LOOP_CLS_PH (fun _ => none)), (LOOP_EN, liveAct LOOP_EN), (LOOP_AUTO, liveAct LOOP_AUTO),
   (LOOP_W, liveAct LOOP_W), (LOOP_SPT, liveAct LOOP_SPT), (LOOP_MAN, liveAct LOOP_MAN), (LOOP_K, liveAct LOOP_K),
   (LOOP_S, pairAct LOOP_S liveAct), (LOOP_LUT0, liveAct LOOP_LUT0), (LOOP_LUT1, liveAct LOOP_LUT1),
   (LOOP_INB, structAct LOOP_INB List.head?), (LOOP_OUTB, structAct LOOP_OUTB List.head?),
   (LOOP_CFG, structAct LOOP_CFG List.head?), (LOOP_SATF, satfAct),
   (LOOP_OP, pairAct LOOP_OP (fun r => structAct r List.head?))]

/-- Registers of the recipe engine (04). -/
def rcpActs : Acts :=
  [(RCP_CTL, holdAct RCP_CTL_DBGHOLD (plainAct RCP_CTL)), (RCP_POOL, rcpBaseAct RCP_POOL 960),
   (RCP_RING, rcpBaseAct RCP_RING 1008), (RCP_LOAD_SRC, loadRegAct RCP_LOAD_SRC), (RCP_LOAD_DST, loadRegAct RCP_LOAD_DST),
   (RCP_LOAD_CNT, loadCntAct), (RCP_RESUME, resumeAct), (RCP_THR_CFG, thrCfgAct), (RCP_THR_OPT, thrOptAct),
   (RCP_THR_CMD, thrCmdAct)]

/-- Registers of the RF front end, the acquisition and the Lens (06, 07). -/
def rfActs : Acts :=
  [(RFA_CH_CFG, rfaCfgAct), (RFA_CH_SCALE, scaleAct RFA_CH_SCALE), (RFA_CH_CALCTL, calCtlAct), (RFA_CH_ARC, rfaArcAct),
   (RFA_CH_ARCOUT, rfaArcoutAct), (RFA_CH_TONESID, sidBaseAct RFA_CH_TONESID 16), (RFA_TONE_FREQ, toneFreqAct),
   (RFA_TONE_CFG, toneCfgAct), (RFA_PAIR_CFG, sidBaseAct RFA_PAIR_CFG 24), (RFA_PAIR_ZFS, scaleAct RFA_PAIR_ZFS),
   (RFA_PAIR_PFS, scaleAct RFA_PAIR_PFS), (ACQ_SET_BASE, acqSetAct ACQ_SET_BASE), (ACQ_SET_SEG, acqSetAct ACQ_SET_SEG),
   (ACQ_SET_STRM, acqSetAct ACQ_SET_STRM), (ACQ_SET_PRE, acqSetAct ACQ_SET_PRE), (ACQ_SET_TRG, acqSetAct ACQ_SET_TRG),
   (ACQ_SET_THR, acqSetAct ACQ_SET_THR), (ACQ_SET_CTL, acqCtlAct), (ACQ_SET_REL, acqRelAct),
   (LENS_CH_SRC, lensSetAct LENS_CH_SRC), (LENS_CH_BUF, lensSetAct LENS_CH_BUF), (LENS_CH_TRG, lensSetAct LENS_CH_TRG),
   (LENS_CH_THR, lensSetAct LENS_CH_THR), (LENS_CH_PRE, lensSetAct LENS_CH_PRE), (LENS_CH_POST, lensSetAct LENS_CH_POST),
   (LENS_CH_CTL, lensCtlAct)]

/-- Registers of the precision analog blocks and the Buoy ports (08, 09). -/
def fieldActs : Acts :=
  [(SAR_CONV_CFG, sarCfgAct), (SAR_CONV_TRG, sarTrgAct), (SAR_CONV_DIV, sarDivAct), (SAR_CONV_CTL, sarCtlAct),
   (SAR_TDAC_REQ, diagReqAct), (SAR_DAC_CFG, dacCfgAct), (SAR_DAC_CODE, dacCodeAct), (RIO_ETYPE, rioEtypeAct),
   (RIO_P_CTL, rioCtlAct), (RIO_ST_CFG, rioStCfgAct), (RIO_ST_LEN, rioStLenAct)]

/-- Registers of PWM, motion and CAN (10 to 12). -/
def driveActs : Acts :=
  [(PWM_COMMIT, pwmCommitAct), (PWM_TRIPPOL, pwmTrippolAct), (PWM_FC_SW, pwmFcSwAct), (PWM_LVL, pwmLvlAct),
   (PWM_PR_CFG, pwmCfgAct), (PWM_PR_PER, pwmPerAct), (PWM_PR_ON, pwmOnAct), (PWM_PR_PH, pwmPhAct), (PWM_PR_CMP, pwmCmpAct),
   (PWM_PR_DTHL, pwmDtAct PWM_PR_DTHL), (PWM_PR_DTLH, pwmDtAct PWM_PR_DTLH), (PWM_PR_TRIPN, pwmTripnAct),
   (PWM_PR_STAT, pwmStatAct), (PWM_PR_FCLO, pwmFcSelAct PWM_PR_FCLO), (PWM_PR_FCHI, pwmFcSelAct PWM_PR_FCHI),
   (PWM_PR_FCCTL, pwmFcctlAct), (MOT_CTL, holdAct MOT_CTL_DBGHOLD (plainAct MOT_CTL)), (MOT_PF_VMAX, profAct MOT_PF_VMAX),
   (MOT_PF_AMAX, profAct MOT_PF_AMAX), (MOT_PF_DMAX, profAct MOT_PF_DMAX), (MOT_PF_JMAX, profAct MOT_PF_JMAX),
   (MOT_AX_CFG, axCfgAct), (MOT_AX_IO, axIoAct), (MOT_AX_MVC, mvcAct), (MOT_AX_CMD, axCmdAct),
   (MOT_ID_CUR, driveAct MOT_ID_CUR), (MOT_ID_RL, driveAct MOT_ID_RL), (MOT_ID_VBUS, driveAct MOT_ID_VBUS),
   (MOT_ID_SNS, driveAct MOT_ID_SNS), (MOT_ID_STALL, driveAct MOT_ID_STALL),
   (CAN_CTL, canCtlAct), (CAN_NBT, canBitAct CAN_NBT), (CAN_DBT, canBitAct CAN_DBT), (CAN_MB_ID, mbAct CAN_MB_ID),
   (CAN_MB_CTRL, mbAct CAN_MB_CTRL), (CAN_MB_MASK, mbAct CAN_MB_MASK), (CAN_MB_CFG, mbCfgAct), (CAN_MB_STAT, mbStatAct),
   (CAN_MB_DATA, mbAct CAN_MB_DATA), (CAN_MAP_A, canMapAAct), (CAN_MAP_B, canMapBAct)]

/-- Registers of the cores, the cyclic program and the dispatcher (13 to 15). -/
def coreActs : Acts :=
  [(RT_CTL, rtCtlAct), (RT_AREA, rtAreaAct), (RT_RETAIN, rtRetainAct), (RT_CMD, rtCmdAct), (RT_T_EVT, rtEvtAct),
   (CPU_C_CTL, cpuCtlAct), (CPU_C_STAT, cpuStatAct), (CPU_C_G, cpuGAct), (DISP_CTL, dispCtlAct), (DISP_CMD, dispCmdAct),
   (DISP_CMDVAL, dispValAct), (DISP_CORE_CTL, coreCtlAct)]

/-- Registers of the infrastructure, the twin link, the host ports and the management plane. -/
def infraActs : Acts :=
  [(SYS_WINB, winbAct), (SYS_WINS, winsAct), (SYS_DEVNUM, devnumAct), (TIME_CTL, timeCtlAct), (TIME_INCR, incrAct),
   (TIME_INCR_ALT, incrAltAct), (TIME_ALTCNT, altcntAct), (TIME_SET, timeSetAct), (TIME_PORT_CTL, portCtlAct), (TIME_TRIG, trigAct),
   (TIME_TBUSDRV, tbusdrvAct), (TIME_BCN_CTL, beaconCtlAct), (PWR_DOMEN, domenAct), (PWR_STAT, pwrStatAct),
   (NVM_CMD, nvmCmdAct), (TWIN_CTL, twinCtlAct), (TWIN_CMD, twinCmdAct), (TWIN_EPOCH, epochAct), (HOST_CTL, hostCtlAct), (HOST_P_CFG, hostPortAct),
   (REC_CTL, recCtlAct), (REC_ST_CTL, recStreamAct), (KPR_WDT, wdtAct), (KPR_TLIM, tlimAct), (KPR_CRED, credAct),
   (KPR_MG_CFG, mgCfgAct), (EVL_FUM, fumAct), (UPD_CTL, updCtlAct), (UPD_CMD, updCmdAct), (UPD_MON, updMonAct)]

/-- The rule of a register that is no tail register. -/
def actOf (r : Reg) : Act :=
  match r.blk with
  | .loop => findAct r loopActs
  | .rcp => findAct r rcpActs
  | .rfa | .acq | .lens => findAct r rfActs
  | .sar | .rio => findAct r fieldActs
  | .pwm | .mot | .can => findAct r driveActs
  | .cpu | .disp => findAct r coreActs
  | .safe => safeAct
  | _ => findAct r infraActs

/-! ### What each register shows -/

/-- The word that a register shows to a master (02 R81, 03 R95, 09 R281, 14 R408, 15 R411, 17 R481, 21 R570, 22 R603). -/
def shown (m : Master) (r : Reg) (ix : List Nat) (s : State) : Word :=
  let w := s.reg r ix
  let q := ix.headD 0
  match r.blk with
  | .time =>
    if r.base = TIME_TICK_LO.base then BitVec.ofNat 32 s.tick
    else if r.base = TIME_TICK_HI.base then BitVec.ofNat 32 (s.tick / 2 ^ 32) else w
  | .sys =>
    if r.base = SYS_Q_NUM.base then BitVec.ofNat 32 s.fab.length
    else if r.base = SYS_Q_ID.base then
      match s.fab[q]? with
      | some f => BitVec.ofNat 32 (putBits (putBits (putBits 0 SYS_Q_ID_TX.hi SYS_Q_ID_TX.lo f.tx) SYS_Q_ID_RX.hi
          SYS_Q_ID_RX.lo f.rx) SYS_Q_ID_DEPTH.hi SYS_Q_ID_DEPTH.lo f.depth)
      | none => 0
    else w
  | .cpu => if r.base = CPU_C_G.base then s.gr q (nth ix 1 0) else w
  | .disp =>
    match masterCore m with
    | some c => if r.base = DISP_CMDVAL.base then (s.dcore c).val
      else if r.base = DISP_CMDRES.base then (s.dcore c).res else w
    | none => w
  | .rio =>
    if r.base = RIO_P_STAT.base then
      let st := if s.isSet TWIN_CTL_EN && !ownsPort s q && w.toNat % 4 = 3 then 2 else w.toNat % 4
      BitVec.ofNat 32 (putBits (putBits w.toNat 1 0 st) 2 2 (b2n (s.isSet RIO_P_CTL_EN [q] && Config.rioLink q s.now)))
    else w
  | .sar => if r.base = SAR_CONV_STAT.base then BitVec.ofNat 32 (putBits w.toNat 3 1 (sarPos s q)) else w
  | .kpr => if r.base = KPR_QUEUE.base then kprQueue s else w
  | .upd => if r.base = UPD_TRIALT.base then trialLeft s else w
  | _ => w

/-- Whether a register is the low word of a 64-bit atomic pair (02 R69). -/
def pairLow (r : Reg) (ix : List Nat) : Bool :=
  if r.base = LOOP_S.base || r.base = LOOP_OP.base then ix.getLastD 0 % 2 = 0
  else [TIME_TICK_LO, PWR_ENERGY_LO, PWR_ENERGY_LO_H, DISP_BUSY_LO_H, LENS_CH_TTICK_LO].any (fun q => q.base = r.base)

/-- Whether a register is a high word of one. -/
def pairHigh (r : Reg) (ix : List Nat) : Bool :=
  if r.base = LOOP_S.base || r.base = LOOP_OP.base then ix.getLastD 0 % 2 = 1
  else [TIME_TICK_HI, PWR_ENERGY_HI, PWR_ENERGY_HI_H, DISP_BUSY_HI_H, LENS_CH_TTICK_HI].any (fun q => q.base = r.base)

/-- The word that the register at an address shows, through a master's read shadow of an atomic pair (02 R69). -/
def readPair (m : Master) (r : Reg) (ix : List Nat) (s : State) : Word × State :=
  let a := r.addr ix
  let key := masterId m * 2 ^ 32 + a
  let w := shown m r ix s
  if pairLow r ix then
    let high := match findIn (blockRegs r.blk) (a + 4) with
      | some (q, jx) => shown m q jx s
      | none => 0
    (w, { s with shadow := putKey s.shadow (key + 4) high })
  else if pairHigh r ix then
    match getKey s.shadow key with
    | some v => (v, { s with shadow := delKey s.shadow key })
    | none => (w, s)
  else (w, s)

/-! ### Addresses of registers -/

/-- What a register address names. -/
inductive Place where
  | reg (r : Reg) (ix : List Nat)
  | tail (b : Block) (k : Nat)
  deriving DecidableEq, Repr

/-- Whether a block holds the tail register at an offset from 0xFF00 (02 R72; DEDUCED: log 195). -/
def hasTail (b : Block) (k : Nat) : Bool :=
  match k with
  | 0 => !(snapPairs b).isEmpty
  | 4 => true
  | 8 => hasLock b
  | k => hasMailbox b && (k = 0x10 || k = 0x14 || (0x20 ≤ k && k ≤ 0x4C && k % 4 = 0))

/-- The block whose registers lie at an address (02 R55). -/
def blockAt (a : Nat) : Option Block :=
  if 0x44000000 ≤ a && a < 0x44180000 then some .loop
  else if 0x40000000 ≤ a && a < 0x40180000 then blockOfIndex ((a - 0x40000000) / 0x10000)
  else none

/-- What the word at an address is. -/
def placeAt (a : Nat) : Option Place :=
  match blockAt a with
  | none => none
  | some b =>
    let k := a % 0x10000
    if a < 0x44000000 && 0xFF00 ≤ k then (if hasTail b (k - 0xFF00) then some (.tail b (k - 0xFF00)) else none)
    else (findIn (blockRegs b) a).map (fun x => .reg x.1 x.2)

/-- The register and the indices that a tail offset names. -/
def tailReg (b : Block) (k : Nat) : Reg × List Nat :=
  match k with
  | 0 => (TAIL_SNAP, [b.index])
  | 4 => (TAIL_STICKY, [b.index])
  | 8 => (TAIL_LOCK, [b.index])
  | 0x10 => (TAIL_MBX_REQ, [b.index])
  | 0x14 => (TAIL_MBX_STAT, [b.index])
  | k => (TAIL_MBX_DATA, [b.index, (k - 0x20) / 4])

/-- The rule of a tail register. -/
def tailAct (b : Block) (k : Nat) : Act :=
  match k with
  | 0 => snapAct b
  | 8 => lockAct b
  | 0x10 => mbxReqAct b
  | k => plainAct (tailReg b k).1

/-- A write of one word to a register by address, which is mapped and aligned. SNAP has guard G0, as its heading in 02 R72
says, and not the block's lowest write guard (DESIGN CHOICE: log 198). -/
def placeWrite (m : Master) (p : Place) (w : Word) (s : State) : Resp × State :=
  match p with
  | .reg r ix => regWrite (actOf r) m r ix w s
  | .tail b k =>
    let x := tailReg b k
    if k = 0x10 then regWriteAt b (mbxGuard b (bits w.toNat 7 0)) true (tailAct b k) m x.1 x.2 w s
    else regWriteAt b (if k = 0 then .g0 else tailGuard b) false (tailAct b k) m x.1 x.2 w s

/-- A read of one word of a register. `peek` marks a read through the bit alias, which has no side effect (02 R78). LOCK has
guard G0 for reads, as the text of 02 R72 says, and not the block's write guard (DESIGN CHOICE: log 198). -/
def placeRead (m : Master) (p : Place) (peek : Bool) (s : State) : Resp × State :=
  match p with
  | .reg r ix =>
    if r.blk = .safe && !s.powered .safe then (.ok 0, s)
    else
      let x := readPair m r ix s
      let y := regReadAt r.blk r.rd m r ix x.1 (if peek then s else x.2)
      if peek then (y.1, y.2) else y
  | .tail b k =>
    let x := tailReg b k
    if b = .safe && !s.powered .safe then (.ok 0, s)
    else if k = 0x14 then regReadAt b .g0 m x.1 x.2 (BitVec.ofNat 32 (mbxStat s b (masterId m))) s
    else if 0x20 ≤ k then
      let v := mbxRead b (masterId m) ((k - 0x20) / 4) s
      regReadAt b .g0 m x.1 x.2 (BitVec.ofNat 32 v.1) (if peek || !s.powered b then s else v.2)
    else regReadAt b .g0 m x.1 x.2 (s.reg x.1 x.2) s

/-! ### Memory -/

/-- The address at which the model keeps a master's local memory: the TCM of a core, the Keeper's and the island's SRAM
(02 R57). -/
def localAt (m : Master) (a n : Nat) : Option Nat :=
  match m with
  | .core c => if a + n ≤ 0x40000 then some (0x100000000 + c.val * 0x40000 + a) else none
  | .keeper | .keeperFor _ => if a + n ≤ 0x200000 then some (0x200000000 + a) else none
  | .island => if a + n ≤ 0x100000 then some (0x300000000 + a) else none
  | _ => none

/-- A memory that every master reaches: its block for events, its power domain. -/
inductive Mem where
  | loc (a : Nat) | caldera | mram | acq | lens
  deriving DecidableEq, Repr

/-- The memory at an address. -/
def memAt (m : Master) (a n : Nat) : Option Mem :=
  if 0x10000000 ≤ a && a + n ≤ 0x14000000 then some .caldera
  else if 0x20000000 ≤ a && a + n ≤ 0x23000000 then some .mram
  else if 0x30000000 ≤ a && a + n ≤ 0x32000000 then some .acq
  else if 0x38000000 ≤ a && a + n ≤ 0x38800000 then some .lens
  else (localAt m a n).map .loc

/-- Whether a memory is powered (01 R17, 02 R62). -/
def memOn (s : State) (x : Mem) : Bool :=
  match x with
  | .loc _ => true | .caldera => s.domOn 6 | .mram => s.domOn 2 | .acq => s.domOn 7 | .lens => s.domOn 11

/-- The block that an ACCESS event about a memory names. -/
def memBlock : Mem → Block
  | .mram => .nvm | .acq => .acq | .lens => .lens | _ => .sys

/-- Bytes of Caldera have been written: a pool entry loses its mark (04 R116), retained lines are dirty (13 R359). -/
def wroteCaldera (a n : Nat) (s : State) : State := markDirty a n (rcpWritten s a)

/-- A write of `n` bytes to a memory (02 R19, R57): acquisition memory is read-only to every plane but its own. -/
def memWrite (m : Master) (x : Mem) (a n v : Nat) (s : State) : Resp × State :=
  let no := fun (r : BusReason) => (Resp.err r, refuseAccess m (memBlock x) a r s)
  if !memOn s x then no .noresp
  else match x with
    | .loc k => (.ok 0, s.poke k n v)
    | .caldera => if masterPlane m = calderaOwner s a then (.ok 0, wroteCaldera a n (s.poke a n v)) else no .owner
    | .mram => no .readonly
    | .acq => if masterPlane m = .data then (.ok 0, s.poke a n v) else no .readonly
    | .lens => (.ok 0, s.poke a n v)

/-- A read of `n` bytes of a memory; the MRAM window has guard G1 (02 R55, R60). -/
def memRead (m : Master) (x : Mem) (a n : Nat) (s : State) : Resp × State :=
  if !memOn s x then (.err .noresp, refuseAccess m (memBlock x) a .noresp s)
  else match x with
    | .loc k => (.ok (s.peek k n), s)
    | .mram => if qualifies s m .g1 then (.ok (s.peek a n), s) else (.ok 0, s.incrSat SYS_GUARDV_RD)
    | _ => (.ok (s.peek a n), s)

/-! ### Bit aliases (R77, R78) -/

/-- The aliased word and the bit that an alias address stands for. -/
def aliasOf (a : Nat) : Option (Nat × Nat) :=
  if 0x50000000 ≤ a && a < 0x52000000 then some (0x40000000 + a % 0x100000, (a - 0x50000000) / 0x100000)
  else if 0x52000000 ≤ a && a < 0x52200000 then some (0x10000000 + a % 0x10000, (a - 0x52000000) / 0x10000)
  else none

/-- The word of an alias write: the addressed bit as written, every other bit at a value without effect. -/
def aliasWord (r : Reg) (old : Word) (b : Nat) (v : Bool) : Word :=
  let clear := accMask r (fun a => match a with
    | .w1c | .w1cTo _ | .w1cCtl | .w1s | .wo => true
    | _ => false)
  BitVec.ofNat 32 (putBits (old.toNat &&& (0xFFFFFFFF - clear)) b b (b2n v))

/-- The register and the indices of a place. -/
def placeReg : Place → Reg × List Nat
  | .reg r ix => (r, ix)
  | .tail b k => tailReg b k

/-- An alias write of a bit (R78): an RO bit is left as it is. -/
def aliasWrite (m : Master) (a : Nat) (v : Bool) (s : State) : Resp × State :=
  match aliasOf a with
  | none => (.err .unmapped, refuseAccess m .sys a .unmapped s)
  | some (t, b) =>
    if t < 0x40000000 then memWrite m .caldera t 4 (putBits (s.peek t 4) b b (b2n v)) s
    else match placeAt t with
      | none => (.err .unmapped, refuseAccess m ((blockAt t).getD .sys) a .unmapped s)
      | some p =>
        let x := placeWrite m p (aliasWord (placeReg p).1 (shown m (placeReg p).1 (placeReg p).2 s) b v) s
        (x.1, liveBit b s.le.live.length x.2)

/-- An alias read of a bit, without side effects. -/
def aliasRead (m : Master) (a : Nat) (s : State) : Resp × State :=
  match aliasOf a with
  | none => (.err .unmapped, refuseAccess m .sys a .unmapped s)
  | some (t, b) =>
    let x := if t < 0x40000000 then memRead m .caldera t 4 s
      else match placeAt t with
        | none => (.err .unmapped, refuseAccess m ((blockAt t).getD .sys) a .unmapped s)
        | some p => placeRead m p true s
    match x.1 with
    | .ok v => (.ok (b2n (bit v b)), x.2)
    | .err e => (.err e, x.2)

/-! ### An access by address (R70) -/

/-- Whether an address lies in register or alias space. -/
def regSpace (a : Nat) : Bool := 0x40000000 ≤ a && a < 0x54000000

/-- A refused width or alignment (R68). -/
def badWidth (m : Master) (a : Nat) (s : State) : Resp × State :=
  (.err .width, refuseAccess m ((blockAt a).getD .sys) a .width s)

/-- One 32-bit access, a write, to a register or an alias. -/
def wordWrite (m : Master) (a : Nat) (w : Word) (s : State) : Resp × State :=
  if (aliasOf a).isSome then aliasWrite m a (bit w.toNat 0) s
  else match placeAt a with
    | some p => placeWrite m p w s
    | none => (.err .unmapped, refuseAccess m ((blockAt a).getD .sys) a .unmapped s)

/-- An offset of a loop context that the table of 05 R183 does not list: it reads 0. -/
def ctxGap (a : Nat) : Bool := 0x44000000 ≤ a && a < 0x44100000 && (placeAt a).isNone

/-- One 32-bit access, a read. -/
def wordRead (m : Master) (a : Nat) (s : State) : Resp × State :=
  if (aliasOf a).isSome then aliasRead m a s
  else match placeAt a with
    | some p => placeRead m p false s
    | none =>
      if ctxGap a && s.powered .loop then (.ok 0, s)
      else (.err (if ctxGap a then .noresp else .unmapped),
        refuseAccess m ((blockAt a).getD .sys) a (if ctxGap a then .noresp else .unmapped) s)

/-- Whether a word of register or alias space is mapped. -/
def wordMapped (a : Nat) : Bool :=
  match aliasOf a with
  | some (t, _) => t < 0x40000000 || (placeAt t).isSome
  | none => (placeAt a).isSome

/-- A write of 1, 2, 4 or 8 bytes by a master (R55, R68, R70). Where the low word of 64 bits is refused, the high word is not
accessed (DESIGN CHOICE: log 201). -/
def busWrite (m : Master) (a n v : Nat) (s : State) : Resp × State :=
  match memAt m a n with
  | some x => if a % n ≠ 0 then badWidth m a s else memWrite m x a n v s
  | none =>
    if !regSpace a || !wordMapped (a / 4 * 4) then (.err .unmapped, refuseAccess m ((blockAt a).getD .sys) a .unmapped s)
    else if a % n ≠ 0 || n < 4 then badWidth m a s
    else if n = 4 then wordWrite m a (BitVec.ofNat 32 v) s
    else
      let x := wordWrite m a (BitVec.ofNat 32 v) s
      match x.1 with
      | .err _ => x
      | .ok _ => wordWrite m (a + 4) (BitVec.ofNat 32 (v / 2 ^ 32)) x.2

/-- A read of 1, 2, 4 or 8 bytes by a master. -/
def busRead (m : Master) (a n : Nat) (s : State) : Resp × State :=
  match memAt m a n with
  | some x => if a % n ≠ 0 then badWidth m a s else memRead m x a n s
  | none =>
    if !regSpace a || !(wordMapped (a / 4 * 4) || ctxGap (a / 4 * 4)) then
      (.err .unmapped, refuseAccess m ((blockAt a).getD .sys) a .unmapped s)
    else if a % n ≠ 0 then badWidth m a s
    else
      let x := wordRead m (a / 4 * 4) s
      match x.1 with
      | .err _ => x
      | .ok v =>
        if n < 4 then (.ok (v / 2 ^ (8 * (a % 4)) % 2 ^ (8 * n)), x.2)
        else if n = 4 then x
        else
          let y := wordRead m (a + 4) x.2
          match y.1 with
          | .err _ => y
          | .ok h => (.ok (v + h * 2 ^ 32), y.2)

/-! ### Commands -/

/-- The blocks on which an access by address acts. -/
def touched (a : Nat) : List Block :=
  match aliasOf a with
  | some (t, _) => (blockAt t).toList
  | none => (blockAt a).toList

/-- The block whose registers a write at an address reaches, directly or through the alias (R61). -/
def admitBlock (a : Nat) : Option Block := (touched a).head?

/-- REGISTER_WRITE (R70): a write of one word at an address by a master. -/
def execRegisterWrite (m : Master) (a : Word) (w : Word) (s : State) : Host.Outcome State Fault Refusal :=
  run (touched a.toNat) (fun s =>
    match admitBlock a.toNat with
    | some b => writeCmd m b a.toNat w (busWrite m a.toNat 4 w.toNat) s
    | none =>
      let x := busWrite m a.toNat 4 w.toNat s
      x.2.say (.resp x.1)) s

/-- BIT_ALIAS_WRITE (R78): a write of one bit through its alias address. -/
def execBitAliasWrite (m : Master) (a : Word) (v : Bool) (s : State) : Host.Outcome State Fault Refusal :=
  run (touched a.toNat) (fun s =>
    let f := fun (s : State) =>
      if !wordMapped (a.toNat / 4 * 4) then (Resp.err .unmapped, refuseAccess m ((blockAt a.toNat).getD .sys) a.toNat .unmapped s)
      else if a.toNat % 4 ≠ 0 then badWidth m a.toNat s else aliasWrite m a.toNat v s
    match admitBlock a.toNat with
    | some b => writeCmd m b a.toNat (BitVec.ofNat 32 (b2n v)) f s
    | none => (f s).2.say (.resp (f s).1)) s

/-- SNAP_COMPLETE: a snapshot in progress is taken (R73); the dispatcher's holding registers are filled with it (15 R425). -/
def execSnapComplete (b : Block) (s : State) : Host.Outcome State Fault Refusal :=
  run [b] (fun s =>
    if s.snaps.contains b.index then takeSnap b (if b = .disp then dispSnapFill s else s) else s) s

/-! ### Mailbox captures (R74, R76) -/

/-- The words of a 96-bit time. -/
def timeWords (t : Nat) : List Word := (List.range 3).map (fun k => BitVec.ofNat 32 (time96 t / 2 ^ (32 * k)))

/-- The words of a TIME mailbox item (03 R94), or the error code; a stamp is removed from its queue. -/
def timeMailbox (item index reqAt : Nat) (s : State) : (Nat × List Word) × State :=
  let port := fun (p : Nat) => nth s.ptp p {}
  if index ≠ 0 then ((2, []), s)
  else if item = 1 then ((0, timeWords reqAt), s)
  else if within item 0x10 0x1B then
    let x := s.trig (item - 0x10)
    ((0, timeWords x.lastAt ++ [BitVec.ofNat 32 (b2n x.seen + 2 * b2n x.lastUp + x.count % 2 ^ 16 * 2 ^ 16)]), s)
  else if within item 0x20 0x25 then
    let p := item - 0x20
    ((0, stampWords (port p).ing.head?), { s with ptp := modNth s.ptp p (fun q => { q with ing := q.ing.tail }) })
  else if within item 0x28 0x2D then
    let p := item - 0x28
    ((0, stampWords (port p).eg.head?), { s with ptp := modNth s.ptp p (fun q => { q with eg := q.eg.tail }) })
  else if within item 0x30 0x3F then ((0, timeWords (nth s.beacons (item - 0x30) {}).last), s)
  else ((1, []), s)

/-- The wide value that a block's mailbox captures. -/
def mbxCapture (b : Block) (item index reqAt : Nat) (s : State) : (Nat × List Word) × State :=
  match b with
  | .sys => (if item ≠ 1 then (1, []) else if index ≠ 0 then (2, []) else (0, (List.range 4).map Config.dieIdentity), s)
  | .time => timeMailbox item index reqAt s
  | .evl => (evlMailbox s item index, s)
  | .acq => (acqMailbox item index s, s)
  | .twin => (twinMailbox s item index, s)
  | .upd => (updMailbox s item index, s)
  | _ => ((1, []), s)

/-- MBX_CAPTURE_DONE (R74): the capture in progress completes; a Beacon that never fired has the instant 0. -/
def execMbxCaptureDone (b : Block) (s : State) : Host.Outcome State Fault Refusal :=
  run [b] (fun s => match (s.mailbox b).req with
    | none => s
    | some (item, index) =>
      let x := mbxCapture b item index (s.mailbox b).reqAt s
      mbxDeliver b x.1 x.2) s

/-- Whether a mailbox of TIME holds an entry captured from a stamp queue (03 R97). -/
def stampHeld (x : Mailbox) : Bool :=
  x.req.any (fun q => within q.1 0x20 0x25 || within q.1 0x28 0x2D) && (nth x.words 3 0).getLsbD 0

/-- MBX_EXPIRY (R75): 100 µs after VALID without the last read the mailbox is freed. -/
def execMbxExpiry (b : Block) (s : State) : Host.Outcome State Fault Refusal :=
  run [b] (fun s =>
    if !(s.mailbox b).valid then s
    else
      let s := advanceTo (s.mailbox b).expire s
      let s := if b = .time && stampHeld (s.mailbox b) then s.incrSat TIME_OVR_STAMP else s
      s.setMailbox b { s.mailbox b with owner := none, valid := false, err := 4, words := [] }) s

end Sys2Proof.Machine
end

