-- ==== Sys2Proof/Machine/Batch.lean ====
section
/-!
DEFINITION. Batches and the phases of a base tick (01 R35 to R41): which items a batch holds and in which order, what each
item does in Phase 3, and what else each phase does.
-/
namespace Sys2Proof.Machine

/-! ### Forming a batch (R36 to R38) -/

/-- Whether item i comes before item j in a batch (R36). -/
def itemBefore (i j : Item) : Bool :=
  i.stamp < j.stamp || (i.stamp = j.stamp && (i.src < j.src || (i.src = j.src && (i.arr < j.arr ||
    (i.arr = j.arr && i.num < j.num)))))

/-- The admission lag. -/
def lagF : Nat := 500 * nsF

/-- Whether an item that waits is admitted with tick n (R36, R37; after a step every item that waited at it, 03 R91). -/
def itemDue (n : Nat) (i : Item) : Bool :=
  i.held || (i.stamp + lagF < tickAt n && i.arr ≤ tickAt n)

/-- Whether an item admitted with tick n is late (R37). -/
def itemLate (n : Nat) (i : Item) : Bool := !i.held && i.stamp + lagF < tickAt (n - 1)

/-- A batch: the items admitted, those carried to the next, and those that wait on. -/
structure Batch where
  items : List Item
  carry : List Item
  rest  : List Item
  deriving DecidableEq, Repr

/-- The most items of a batch (R38). -/
def batchMax : Nat := 1024

/-- Batch n of the items carried and those that wait. -/
def formBatch (n : Nat) (carry queue : List Item) : Batch :=
  let all := carry ++ sortBy itemBefore (queue.filter (itemDue n))
  { items := all.take batchMax, carry := all.drop batchMax, rest := queue.filter (fun i => !itemDue n i) }

/-- Phase 2 of tick n with the device's own items: the batch closes; late admissions and items carried are counted (R37,
R38, 17 R469). -/
def closeBatch (n : Nat) (s : State) : Batch × State :=
  let b := formBatch n s.adm.carry s.adm.queue
  let late := s.adm.queue.filter (fun i => itemDue n i && itemLate n i)
  let s := late.foldl (fun s (i : Item) => s.incr SYS_ADM_LATE_COUNT [i.src]) s
  let s := if s.fld TWIN_STAT_ROLE = 1 && s.isSet TWIN_CTL_EN then s.incr TWIN_DEFER_COUNT [] late.length else s
  let s := s.incr SYS_ADM_DEFER_COUNT [] b.carry.length
  (b, { s with adm := { s.adm with queue := b.rest, carry := b.carry } })

/-- Whether the mode in force applies an item of source `src` (18 R498). -/
def modeAdmits (m : Mode) (src : Nat) : Bool :=
  match m with
  | .dark | .seed | .keeper | .resync => false
  | .provision => 312 ≤ src && src ≤ 377
  | _ => true

/-! ### Applying an item (R39) -/

/-- The reason code of a bus reason (02 R635). -/
def reasonCode : BusReason → Nat
  | .unmapped => codeArgument | .guard => codeGuard | .width => codeArgument | .locked => codeMode | .owner => codeGuard
  | .noresp => codeTargetLost | .readonly => codeGuard | .atomic => codeArgument | .value => codeArgument
  | .state => codeBusy | .mode => codeMode

/-- The words of a WRITE from an address on, until one fails (20 R550): how many were performed, and the code. -/
def writeWords (m : Master) (a : Nat) : List Word → Nat → State → (Nat × Nat) × State
  | [], k, s => ((k, codeDone), s)
  | w :: ws, k, s =>
    let x := busWrite m a 4 w.toNat s
    match x.1 with
    | .ok _ => writeWords m (a + 4) ws (k + 1) x.2
    | .err r => ((k, reasonCode r), x.2)

/-- The outcome of a request of a mirrored session is kept for a takeover (20 R555). -/
def mirrorDone (sess seq : Nat) (op : ReqOp) (code : Nat) (data : List Nat) (s : State) : State :=
  match getKey s.host.mir sess with
  | none => s
  | some y =>
    if !y.reqs.any (fun r => r.seq = seq) then s
    else
      let d : DoneReq := { seq := seq, op := op, code := code, data := data, at_ := s.now }
      { s with host := { s.host with mir := putKey s.host.mir sess { y with done := y.done ++ [d] } } }

/-- A request's item completes: the session answers it while it holds it (20 R549, R552). -/
def itemDone (sess req : Nat) (op : ReqOp) (code : Nat) (data : List Nat) (s : State) : State :=
  let x := s.sess sess
  if x.isOpen && x.cookie = req / 2 ^ 32 && x.reqs.any (fun r => r.seq = req % 2 ^ 32) then
    respond sess (req % 2 ^ 32) op code data s
  else if (getKey s.host.mir sess).any (fun y => y.cookie = req / 2 ^ 32) then mirrorDone sess (req % 2 ^ 32) op code data s
  else s

/-- A follower judges a mode request of a batch as the leader does (17 R470): its own requester is answered, and a mirrored
session's outcome is kept; the transition comes with the leader's mode (17 R471). -/
def followRequest (mine : Bool) (r : ModeReq) (s : State) : State :=
  let v := (s.setFld SYS_MODE_CUR s.effMode.code).setFld TWIN_STAT_ROLE 1
  let code := if s.mc.pendMode.isSome then codeBusy else requestCode v r.target r.role
  let s := if code = codeDone then { s with mc := { s.mc with pendMode := some r } } else s
  if mine then modeReply r.path r.seq r.target code s
  else if r.path < 64 then mirrorDone r.path r.seq (.mode r.target) code [] s else s

/-- A soft reset of a control-plane block is performed (18 R517): in Stop and Provision only. -/
def softResetItem (blk path : Nat) (mine : Bool) (s : State) : State :=
  let reply := fun (code : Nat) (s : State) => if mine then modeReply path 0 0 code s else s
  match blockOfIndex blk with
  | none => reply codeArgument s
  | some b =>
    if s.effMode = .stop || s.effMode = .provision then reply codeDone (blockReset b s) else reply codeMode s

/-- What an item does in Phase 3 of tick n (R39). -/
def applyItem (n : Nat) (i : Item) (s : State) : State :=
  match i.kind with
  | .hostWrite sess req a r ws =>
    let x := writeWords (.hostItem (BitVec.ofNat 6 sess).toFin (Role.ofCode r)) a ws 0 s
    itemDone sess req (.write a ws) x.1.2 [x.1.1] x.2
  | .sigWrite sess req sid v st => itemDone sess req (.sigwrite sid v st) codeDone [] (s.setSig sid v st n)
  | .trig .. => s
  | .can c b id flags data => canApply c b id flags data i.stamp n s
  | .sar c m raw flags t => sarApply c m raw flags t n s
  | .sarVal sid v st t => sarWrite sid v st t n s
  | .tone _ ws => ws.foldl (fun s (w : Nat × Nat × Nat) => s.setSig w.1 w.2.1 w.2.2 n) s
  | .arc ch _ _ => arcApply ch n s
  | .ifr st cseq sstat acks img => rioApply st cseq sstat acks img n s
  | .modeReq t r id p =>
    let q : ModeReq := { target := t, role := Role.ofCode r, id := id, path := p % 128, seq := p / 128 }
    if s.follower then followRequest (s.adm.queue.any (fun j => j.src = i.src && j.kind = i.kind)) q s else judgeRequest q s
  | .softReset b p => softResetItem b p (!s.follower || s.adm.queue.any (fun j => j.src = i.src && j.kind = i.kind)) s
  | .roleChange k r =>
    { s with adm := { s.adm with roles := if r = 0xFF then delKey s.adm.roles k else putKey s.adm.roles k r } }
  | .island ws => islApply ws i.stamp n s

/-- What becomes of an item of a batch that the mode does not apply (18 R498, R501, 20 R567). -/
def discardItem (i : Item) (s : State) : State :=
  match i.kind with
  | .hostWrite sess req a _ ws => itemDone sess req (.write a ws) codeMode [0] s
  | .sigWrite sess req sid v st => itemDone sess req (.sigwrite sid v st) codeMode [] s
  | .modeReq t _ _ p => modeReply (p % 128) (p / 128) t codeMode s
  | .softReset _ p => modeReply p 0 0 codeMode s
  | _ => s

/-! ### Signals that start event tasks (13 R347) -/

/-- The SIDs whose writes start an event task. -/
def listened (s : State) : List Nat :=
  ((List.range 8).filterMap (fun k => match taskRec s (rtImg s) (k + 5) with
    | some a => if s.peek (a + 32) 1 = 2 then some (s.peek (a + 36) 4 % 262144) else none
    | none => none)).eraseDups

/-- `f` in Phase 3 of tick n, and which of the SIDs it wrote: a write leaves the tick's WTICK (01 R22). -/
def watching (sids : List Nat) (n : Nat) (f : State → State) (s : State) : List Nat × State :=
  let old := sids.map (fun x => (x, s.peek (sigAddr x + 6) 2))
  let mark := (n + 1) % 2 ^ 16
  let t := f (sids.foldl (fun s x => s.poke (sigAddr x + 6) 2 mark) s)
  let wrote := sids.filter (fun x => t.peek (sigAddr x + 6) 2 ≠ mark)
  (wrote, old.foldl (fun s (e : Nat × Nat) => if wrote.contains e.1 then s else s.poke (sigAddr e.1 + 6) 2 e.2) t)

/-- A trigger of event tasks: an admitted item of a source, or a write to a SID. -/
inductive EvTrig where
  | source (src : Nat)
  | sid (sid : Nat)
  deriving DecidableEq, Repr

/-- The items of a batch in order, with the triggers that they are. -/
def applyItems (n : Nat) (items : List Item) (sids : List Nat) (s : State) : List EvTrig × State :=
  items.foldl (fun (p : List EvTrig × State) (i : Item) =>
    if !modeAdmits p.2.effMode i.src then (p.1, discardItem i p.2)
    else
      let x := watching sids n (applyItem n i) p.2
      (p.1 ++ (.source i.src :: x.1.map .sid), x.2)) ([], s)

/-- The event tasks of the triggers start, after the last item. -/
def startEvents (n : Nat) (ts : List EvTrig) (s : State) : State :=
  ts.foldl (fun s t => match t with
    | .source src => rtSource src n s
    | .sid sid => rtSidWrite sid n s) s

/-! ### Local outcomes (17 R475) -/

/-- An outcome that was registered takes effect in Phase 3 of tick n. -/
def applyOutcome (n : Nat) (s : State) (o : Outcome) : State :=
  match o with
  | .report id code => rcpReport id code s
  | .canTx c b code => canEnd c b code s
  | .canErr c off => if off then canBusOff c s else canPassive c s
  | .axisFault k b => detectFaultAt (n - 1) k b s
  | .taskEnd t => rtEnd t s

/-! ### The phases (R39) -/

/-- Whether a mode has the phases of a base tick beside the forming of batches (18 R498). -/
def modeTicks (m : Mode) : Bool := modeAdmits m 376

/-- Phase 1 of tick n: release. -/
def phase1 (n : Nat) (s : State) : State :=
  let s := rioKeepImages n s
  if !modeTicks s.effMode then s
  else rtPhase1 n (rcpPhase1 n (loopReleases n (deadlines n (lanesTo n s))))

/-- Phase 3 of tick n with the batch and the outcomes given: apply, then latch. -/
def phase3 (n : Nat) (items : List Item) (outs : List Outcome) (s : State) : State :=
  if !modeTicks s.effMode then items.foldl (fun s i => discardItem i s) s
  else
    let sids := if rtMode s then listened s else []
    let s := outs.foldl (applyOutcome n) s
    let a := applyItems n items sids s
    let b := watching sids n (fun s => motPhase3 n (islSilenceDue n (canDue n (rioCloseDue n s)))) a.2
    let s := rtPhase3 n (startEvents n (a.1 ++ b.1.map .sid) (rtExchange n b.2))
    let s := frameStart n (liveWords s)
    (List.range 8).foldl (latchClass n) s

/-- Phase 4 of tick n: compute. -/
def phase4 (n : Nat) (s : State) : State :=
  if !modeTicks s.effMode then s
  else coresDue (delayDue (rtDue n (motPhase4 n (rcpPhase4 n s))))

end Sys2Proof.Machine
end

