-- ==== Sys2Proof/Machine/Host.lean ====
section
/-!
DEFINITION. The host transport (20 R544 to R555, R565 to R567) and the management port (21 R593): packets, sessions, requests
and their responses.
-/
namespace Sys2Proof.Machine

/-! ### Operations -/

/-- The body of a request as numbers. -/
def ReqOp.body : ReqOp → List Nat
  | .close | .ping | .unknown _ => []
  | .read a n => [a, n]
  | .write a ws => a :: ws.map (fun w => w.toNat)
  | .mbxread b i k => [b, i, k]
  | .sigread a n => [a, n]
  | .sigwrite a v t => [a, v, t]
  | .mode t => [t]
  | .ringread r n => [r, n]
  | .stropen o => [o.d, o.ph, o.opt, o.port, o.buf, o.dest, o.dport] ++ o.ranges.flatMap (fun (r : Nat × Nat) => [r.1, r.2])
  | .strclose k => [k]
  | .evsub v => [v]

/-- The master that performs a session's accesses: the host transport with the session (02 R58), or the Keeper that serves a
management session (02 R59, 21 R593). -/
def sessMaster (s : State) (n : Nat) : Master :=
  if n < 64 then .host (BitVec.ofNat 6 n).toFin else .keeperFor (s.sess n).role

/-! ### Reads and writes (R550) -/

/-- The region of 02 R55 that an address lies in: a memory region, a register block, a loop context or a program region. -/
def regionOf (a : Nat) : Option Nat :=
  if 0x10000000 ≤ a && a < 0x14000000 then some 1
  else if 0x20000000 ≤ a && a < 0x23000000 then some 2
  else if 0x30000000 ≤ a && a < 0x32000000 then some 3
  else if 0x38000000 ≤ a && a < 0x38800000 then some 4
  else if 0x40000000 ≤ a && a < 0x40180000 then some (0x100 + (a - 0x40000000) / 0x10000)
  else if 0x44000000 ≤ a && a < 0x44100000 then some (0x1000 + (a - 0x44000000) / 1024)
  else if 0x44100000 ≤ a && a < 0x44180000 then some (0x10000 + (a - 0x44100000) / 512)
  else none

/-- Whether `n` words from an address lie in one region. -/
def oneRegion (a n : Nat) : Bool :=
  match regionOf a with
  | some r => regionOf (a + 4 * n - 1) = some r
  | none => false

/-- Words from an address on, until a read fails: the words, and the code. -/
def readWords (m : Master) (a : Nat) : Nat → List Nat → State → (List Nat × Nat) × State
  | 0, l, s => ((l, codeDone), s)
  | n + 1, l, s =>
    let x := busRead m a 4 s
    match x.1 with
    | .ok v => readWords m (a + 4) n (l ++ [v]) x.2
    | .err r => ((l, reasonCode r), x.2)

/-- Whether a write at an address by a host session is an admitted item (02 R61): a register of a control-plane block. -/
def admitsWrite (a : Nat) : Bool :=
  match blockAt a with
  | some b => blockPlane b = .control
  | none => false

/-- A request of a session goes through the admission boundary; in Resync it is answered MODE (R567). -/
def admitReq (n seq : Nat) (op : ReqOp) (k : ItemKind) (s : State) : State :=
  if s.mode = .resync then respond n seq op codeMode [] s
  else
    let s := s.modSess n (fun x => { x with reqs := x.reqs.map (fun r => if r.seq = seq then { r with adm := true } else r) })
    s.pushItem (312 + n) s.now k

/-- MBXREAD: the request and its capture, as owner of the block's mailbox (R550, 02 R74): the code and the words. -/
def mbxFetch (m : Master) (b : Block) (item index : Nat) (s : State) : (Nat × List Nat) × State :=
  if !hasMailbox b then ((codeArgument, []), s)
  else
    let w := BitVec.ofNat 32 (index * 256 + item)
    let x := regWriteAt b (mbxGuard b item) true (mbxReqAct b) m TAIL_MBX_REQ [b.index] w s
    match x.1 with
    | .err r => ((reasonCode r, []), x.2)
    | .ok _ =>
      let y := mbxCapture b item index x.2.now x.2
      let s := y.2.setMailbox b {}
      if y.1.1 = 0 then ((codeDone, y.1.2.map (fun v => v.toNat)), s) else ((codeArgument, []), s)

/-! ### Report rings (R553) -/

/-- A ring's entries, the bytes of an entry and its base: 0 recipe, 1 motion, 2 Buoy delivery, 3 dispatcher. -/
def ringShape (s : State) : Nat → Nat × Nat × Nat
  | 0 => (65536, 16, 0x10000000 + s.fld RCP_RING_BASE * 0x10000)
  | 1 => (4096, 16, 0x10000000 + s.fld MOT_RING_BASE * 0x10000)
  | 2 => (2048, 32, dringBase s)
  | _ => (4096, 16, cringBase s)

/-- The index at which a ring's next entry is written. -/
def ringWr (s : State) : Nat → Nat
  | 0 => s.fld RCP_RING_WR_WR
  | 1 => s.fld MOT_RING_WR_INDEX
  | 2 => s.fld RIO_DRING_WR_INDEX
  | _ => s.fld DISP_CRING_WR_INDEX

/-- RINGREAD: the entries lost and the entries from the session's position, and its new position. -/
def ringFetch (s : State) (n ring most : Nat) : List Nat × Nat :=
  let sh := ringShape s ring
  let tot := nth s.host.tot ring 0
  let pos := nth (s.sess n).rings ring 0
  let old := tot - min tot (sh.1 - 1)
  let from_ := max pos old
  let k := min most (tot - from_)
  let addr := fun (i : Nat) => sh.2.2 + sh.2.1 * ((ringWr s ring + sh.1 - (tot - (from_ + i))) % sh.1)
  ([from_ - pos, k] ++ (List.range k).flatMap (fun i => (List.range (sh.2.1 / 4)).map (fun w => s.peek (addr i + 4 * w) 4)),
    from_ + k)

/-! ### Streams: opening (R556, R557) -/

/-- The most bytes of a UDP payload on port p to a destination: MTU less 28 to an IPv4 address, less 48 to one of IPv6; the
session's endpoint (0) is an IPv6 address on a port without IPv4. -/
def udpMax (s : State) (p dest : Nat) : Nat :=
  s.fld HOST_P_CFG_MTU [p] - (if 2 ^ 32 ≤ dest || (dest = 0 && s.fld HOST_P_CFG_NET [p] = 2) then 48 else 28)

/-- The SIDs of ranges, in order. -/
def rangeSids (l : List (Nat × Nat)) : List Nat := l.flatMap (fun (r : Nat × Nat) => (List.range r.2).map (r.1 + ·))

/-- The refusal code of a STROPEN (R557, R569); 0 when it is accepted. -/
def strCheck (s : State) (o : StrOpen) : Nat :=
  let count := o.ranges.foldl (fun a (r : Nat × Nat) => a + r.2) 0
  let st := o.opt % 2
  let opens := (List.range 64).filter (streamOpen s)
  let limit : ℚ := if s.fld HOST_P_STAT_SPEED [o.port] = 2 then 20000000000 else 8000000000
  if o.d = 0 || 65535 < o.d || o.d ≤ o.ph || 7 < o.opt || 1 < o.port || o.buf = 0 || 255 < o.buf || o.ranges.isEmpty ||
      32 < o.ranges.length || o.ranges.any (fun (r : Nat × Nat) => r.2 = 0 || 16384 < r.2 || 262144 < r.1 + r.2) ||
      1024 < count || udpMax s o.port o.dest < 44 + count * (5 + 2 * st) then codeArgument
  else if s.isSet REC_STAT_CFGERR || opens.length = 64 ||
      s.fld REC_CTL_SIZE < o.buf + opens.foldl (fun a k => a + (s.stream k).buf) 0 then codeNoResource
  else if 4096 < s.fld REC_STAT_NSIDS + count || limit < portRate s o.port + (rawRate count st : ℚ) / (o.d : ℚ) then codeBudget
  else codeDone

/-- A stream opens: its number. `found` says that its destination resolves (R545). -/
def strOpen (n : Nat) (o : StrOpen) (found : Bool) (s : State) : Nat × State :=
  let k := ((List.range 64).find? (fun k => !streamOpen s k)).getD 0
  let sids := rangeSids o.ranges
  let x : Stream := { peer := if o.dest = 0 then (s.sess n).peer else o.dest, dest := o.dest, buf := o.buf, sids := sids, from_ := s.tick,
                      lastTk := none, fifo := [], sent := [], found := o.dest = 0 || found, openAt := s.now, late := false }
  let s := s.modStream k (fun _ => x)
  let s := s.setReg REC_ST_CFG 0 [k]
  let s := (((s.setFld REC_ST_CFG_OPT o.opt [k]).setFld REC_ST_CFG_PORT o.port [k]).setFld REC_ST_CFG_SESS n [k]).setFld
    REC_ST_CFG_NSID sids.length [k]
  let s := s.setReg REC_ST_DEC (BitVec.ofNat 32 (o.ph * 2 ^ 16 + o.d)) [k]
  let s := (s.setReg REC_ST_SEQ 0 [k]).setReg REC_ST_PROD 0 [k]
  let s := ((s.setReg REC_ST_DELIV 0 [k]).setReg REC_ST_DROP 0 [k]).setReg REC_ST_PEND 0 [k]
  (k, recSync (s.setFld REC_ST_CFG_STATE 1 [k]))

/-! ### Performing a request (R550) -/

/-- The requests of a management session (21 R593). -/
def mgmtOp : ReqOp → Bool
  | .close | .ping | .read .. | .write .. | .mbxread .. | .sigread .. | .mode _ | .evsub _ => true
  | _ => false

/-- Request `seq` of session n is performed; `found` says that a stream's destination resolves. -/
def performReq (n seq : Nat) (op : ReqOp) (found : Bool) (s : State) : State :=
  let m := sessMaster s n
  let bad := respond n seq op codeArgument [] s
  if 64 ≤ n && !mgmtOp op then bad
  else match op with
  | .close => sessClose n false (respond n seq op codeDone [] s)
  | .ping => respond n seq op codeDone ((timeWords s.now).map (fun w => w.toNat)) s
  | .read a k =>
    if k = 0 || 256 < k || !oneRegion a k then bad
    else
      let x := readWords m a k [] s
      respond n seq op x.1.2 x.1.1 x.2
  | .write a ws =>
    if ws.isEmpty || 64 < ws.length || !oneRegion a ws.length then bad
    else if n < 64 && admitsWrite a then admitReq n seq op (.hostWrite n (itemReq s n seq) a (s.sess n).role.code ws) s
    else
      let x := writeWords m a ws 0 s
      respond n seq op x.1.2 [x.1.1] x.2
  | .mbxread b item index =>
    match blockOfIndex b with
    | none => bad
    | some b =>
      let x := mbxFetch m b item index s
      respond n seq op x.1.1 x.1.2 x.2
  | .sigread sid k =>
    if k = 0 || 256 < k || 262144 < sid + k then bad
    else
      let x := readWords m (sigAddr sid) (2 * k) [] s
      respond n seq op x.1.2 x.1.1 x.2
  | .sigwrite sid v st =>
    if 262144 ≤ sid then bad else admitReq n seq op (.sigWrite n (itemReq s n seq) sid v st) s
  | .mode t => modeRequest t (s.sess n).role n seq s
  | .ringread ring most =>
    if 3 < ring || most = 0 || 64 < most then bad
    else
      let x := ringFetch s n ring most
      respond n seq op codeDone x.1 (s.modSess n (fun y => { y with rings := y.rings.set ring x.2 }))
  | .stropen o =>
    if s.mode = .resync then respond n seq op codeMode [] s
    else if !s.domOn 11 then respond n seq op codeTargetLost [] s
    else
      let c := strCheck s o
      if c ≠ codeDone then respond n seq op c [] s
      else
        let x := strOpen n o found s
        respond n seq op codeDone [x.1] x.2
  | .strclose k =>
    if 63 < k || !streamOpen s k || s.fld REC_ST_CFG_SESS [k] ≠ n then bad
    else respond n seq op codeDone [] (streamEnd k 5 false s)
  | .evsub v =>
    if 8 < v then bad
    else respond n seq op codeDone [] (sessSync (s.modSess n (fun x => { x with evsub := v })))
  | .unknown _ => bad

/-- Whether a packet of the session waits in a receive queue. -/
def inQueue (s : State) (n seq : Nat) : Bool := s.host.ports.any (fun p => p.rxq.any (fun q => q.1 = n && q.2.1 = seq))

/-- A held request whose earlier requests have all completed is performed (R552). -/
def pumpOne (n : Nat) (s : State) : State :=
  match (s.sess n).reqs with
  | r :: _ =>
    if r.held && !inQueue s n r.seq then
      performReq n r.seq r.op true (s.modSess n (fun x => { x with reqs := x.reqs.map (fun q =>
        if q.seq = r.seq then { q with held := false } else q) }))
    else s
  | [] => s

/-- The held requests of a session, as far as they can be performed now. -/
def pump (n : Nat) : Nat → State → State
  | 0, s => s
  | k + 1, s => if (s.sess n).reqs.head?.any (fun r => r.held) then pump n k (pumpOne n s) else s

/-- The held requests of every session. -/
def pumpAll (s : State) : State := (List.range 68).foldl (fun s n => pump n (s.sess n).reqs.length s) s

/-! ### Receipt (R546, R551, R565) -/

/-- The packet leaves its receive queue. -/
def unqueue (n seq : Nat) (s : State) : State :=
  { s with host := { s.host with ports := s.host.ports.map (fun p =>
    { p with rxq := p.rxq.filter (fun q => !(q.1 = n && q.2.1 = seq)) }) } }

/-- A packet of session n has arrived. -/
def heard (n : Nat) (s : State) : State :=
  let now := s.now
  s.modSess n (fun x => { x with lastRx := now })

/-- A repeated response (R551, R555): the cached one with DUP, or after a takeover a read performed again with REREAD. -/
def respondAgain (n : Nat) (d : DoneReq) (s : State) : State :=
  let again := fun (data : List Nat) (s : State) => sessSend n 2 1 d.seq d.op.code (d.code :: data) s
  if !d.again then again d.data s
  else match d.op with
    | .read a k =>
      let x := readWords (sessMaster s n) a k [] s
      sessSend n 2 3 d.seq d.op.code (x.1.2 :: x.1.1) x.2
    | .sigread sid k =>
      let x := readWords (sessMaster s n) (sigAddr sid) (2 * k) [] s
      sessSend n 2 3 d.seq d.op.code (x.1.2 :: x.1.1) x.2
    | .mbxread b item index => match blockOfIndex b with
      | some b =>
        let x := mbxFetch (sessMaster s n) b item index s
        sessSend n 2 3 d.seq d.op.code (x.1.1 :: x.1.2) x.2
      | none => again [] s
    | .ringread ring most =>
      let x := ringFetch s n ring most
      sessSend n 2 3 d.seq d.op.code (codeDone :: x.1) (s.modSess n (fun y => { y with rings := y.rings.set ring x.2 }))
    | _ => again [] s

/-- The completed request of the last 2 s with identifier `seq`. -/
def cached (s : State) (n seq : Nat) : Option DoneReq :=
  (s.sess n).done.find? (fun d => d.seq = seq && s.now ≤ d.at_ + 2 * secF)

/-- A request of session n is received (R551): whether it is new and taken, and the state: a duplicate is discarded or
answered from the cache; one too many, or one that finds more than 1,024 responses waiting on its port (R565), is BUSY. -/
def receiveReq (n seq : Nat) (op : ReqOp) (order : Bool) (s : State) : Bool × State :=
  let s := heard n s
  let x := s.sess n
  if x.reqs.any (fun r => r.seq = seq) then (false, if n < 64 then s.incrSat HOST_S_CNT_DUP [n] else s)
  else match cached s n seq with
    | some d => (false, respondAgain n d s)
    | none =>
      if 256 ≤ x.reqs.length then (false, respond n seq op codeBusy [] s)
      else if n < 64 && 1024 < (nth s.host.ports x.port {}).tx.rsps.length then
        (false, (respond n seq op codeBusy [] s).raise HOST_STAT_RSPBUSYF)
      else
        let r : Req := { seq := seq, op := op, order := order, at_ := s.now, held := order && !x.reqs.isEmpty, adm := false }
        let s := s.modSess n (fun x => { x with reqs := x.reqs ++ [r] })
        let s := s.ctrl ([12, n, seq, b2n order, op.code] ++ op.body)
        (true, if n < 64 then s.setFld HOST_S_STAT_OUTST (s.sess n).reqs.length [n] else s)

/-- A request of session n reaches the front: one that waits in its receive queue is taken from it, any other is received
now; unless ORDER holds it, it is performed. -/
def serveReq (n seq : Nat) (op : ReqOp) (order found : Bool) (s : State) : State :=
  if !(s.sess n).isOpen then s
  else
    let x := if inQueue s n seq then (true, unqueue n seq s) else receiveReq n seq op order s
    if !x.1 then x.2
    else
      let s := dropQuery n seq x.2
      let op := (((s.sess n).reqs.find? (fun r => r.seq = seq)).map (·.op)).getD op
      if (s.sess n).reqs.any (fun r => r.seq = seq && r.held) then pump n 257 s
      else pump n 257 (performReq n seq op found s)

/-- The bytes of packets that wait on a port. -/
def rxBytes (p : HostPort) : Nat := p.rxq.foldl (fun a q => a + q.2.2) 0

/-- A packet is discarded and counted. -/
def rxDrop (p : Nat) (s : State) : State := (s.incr HOST_P_RXDROP_COUNT [p]).raise HOST_STAT_RXDROPF

/-- A request of session n arrives on port p: it waits in the port's queue, an event subscription in the Keeper's as well. -/
def requestArrives (p n seq len : Nat) (o : ReqOp) (order : Bool) (s : State) : State :=
  let x := receiveReq n seq o order s
  if !x.1 then x.2
  else
    let s := x.2
    let isEv := match o with
      | .evsub _ => true
      | _ => false
    if isEv && 64 ≤ s.kpr.qQ.length then respond n seq o codeBusy [] (queryBusy s)
    else
      let s := if isEv then kprSync (s.modKpr (fun k => { k with qQ := k.qQ ++ [(n, seq, s.now)] })) else s
      { s with host := { s.host with ports := modNth s.host.ports p (fun x =>
        { x with rxq := x.rxq ++ [(n, seq, len)] }) } }

/-- HOST_PACKET_RX (R546, R551, R566): a packet of `len` bytes arrives on port p. `good` says that its MAGIC, VER, TYPE and
length are right; SESS is 0xFF for an OPEN; `op` is the request of a REQ with its ORDER. -/
def execHostPacketRx (p : Fin 2) (good : Bool) (sess : BitVec 8) (cookie seq : Word) (len : BitVec 14) (op : Option (ReqOp × Bool))
    (s : State) : Host.Outcome State Fault Refusal :=
  run [.host] (fun s =>
    let p := p.val
    let n := sess.toNat
    if !portUp s p then s
    else
      let s := s.incr HOST_P_RXPKT_COUNT [p]
      let known := n < 64 && (s.sess n).isOpen && (s.sess n).cookie = cookie.toNat
      if !good || !(known || n = 0xFF) || 0x200000 < rxBytes (nth s.host.ports p {}) + len.toNat then rxDrop p s
      else if n = 0xFF then
        if 64 ≤ s.kpr.qQ.length then sendPacket (32 + p) 2 (pktHead s 0xFF 0 0 seq.toNat 1) [codeBusy] (queryBusy s)
        else kprSync (s.modKpr (fun k => { k with qQ := k.qQ ++ [(72 + p, seq.toNat, s.now)] }))
      else match op with
        | none => heard n s
        | some (o, order) =>
          requestArrives p n seq.toNat len.toNat o order s) s

/-! ### Sessions (R548, R549) -/

/-- The numbers that a session opened at `port` may take: 2 is the management port. -/
def sessRange (port : Nat) : List Nat := if port = 2 then [64, 65, 66, 67] else List.range 64

/-- Whether a port takes an OPEN. -/
def portOpen (s : State) (port : Nat) : Bool :=
  if port = 2 then s.isSet KPR_MG_STAT_LINK && s.isSet KPR_MG_CFG_EN else portUp s port

/-- OPEN (R548, 21 R591, R592): the Keeper judges the proof; the lowest free session opens with a fresh cookie. -/
def openSession (port peer seq : Nat) (role : Role) (proof : List Byte) (s : State) : State :=
  let q := s.kpr.qQ.find? (fun (e : Nat × Nat × Nat) => e.1 = 72 + port && e.2.1 = seq)
  let s := dropQuery (72 + port) seq s
  let answer := fun (data : List Nat) (s : State) => sendPacket (32 + port) 2 (pktHead s 0xFF 0 0 seq 1) data s
  if q.any (fun e => e.2.2 + 2 * secF < s.now) then answer [codeTimeout] s
  else
    let j := judgeTime role port peer proof s
    if j.1 ≠ 0 then answer [j.1] j.2
    else match (sessRange port).find? (fun n => !(j.2.sess n).isOpen) with
      | none => answer [codeNoResource] j.2
      | some n =>
        let d := j.2.draw
        let cookie := 1 + d.1 % (2 ^ 32 - 1)
        let s := d.2
        let x : Session := { isOpen := true, role := role, cookie := cookie, port := port % 2, peer := peer, lastRx := s.now,
                             rings := s.host.tot }
        let s := s.modSess n (fun _ => x)
        let s := if n < 64 then
            let s := ((s.setReg HOST_S_STAT (BitVec.ofNat 32 (2 ^ 24 + port % 2 * 2 ^ 18 + role.code * 2 ^ 16)) [n]).setReg
              HOST_S_CNT 0 [n])
            s.ctrl [10, n, cookie, role.code, port, peer]
          else s
        let s := roleItem n role.code (sessionEvent sessSev 1 role (sessPath s n) 0 peer n (sessSync s))
        answer [codeDone, if n < 64 then n else n - 64, cookie] s

/-- OPEN (R548). -/
def execOpen (port : Fin 3) (peer seq : Word) (role : Role) (proof : List Byte) (s : State) :
    Host.Outcome State Fault Refusal :=
  run [.host, .kpr] (fun s =>
    if portOpen s port.val then openSession port.val peer.toNat seq.toNat role proof s else s) s

/-- SESSION_IDLE_TIMEOUT (R549): IDLE seconds after the last packet of session n, it closes. -/
def execSessionIdleTimeout (n : Fin 68) (s : State) : Host.Outcome State Fault Refusal :=
  run [.host, .kpr] (fun s =>
    let n := n.val
    if !(s.sess n).isOpen then s
    else sessClose n false (advanceTo ((s.sess n).lastRx + s.fld HOST_CTL_IDLE * secF) s)) s

/-- A request that waits is answered TIMEOUT at the end of HOST_CTL.RTMO, and the next ones follow. -/
def requestExpires (n : Nat) (r : Req) (s : State) : State :=
  let s := advanceTo (r.at_ + s.fld HOST_CTL_RTMO * (secF / 10)) s
  let s := s.modKpr (fun k => { k with qM := k.qM.filter (fun q => !(q.path = n && q.seq = r.seq)) })
  pump n 257 (respond n r.seq r.op codeTimeout [] (unqueue n r.seq (dropQuery n r.seq s)))

/-- REQUEST_TIMEOUT (R552): a request of session n that waits on the Keeper, or that ORDER holds, ends TIMEOUT. -/
def execRequestTimeout (n : Fin 68) (seq : Word) (s : State) : Host.Outcome State Fault Refusal :=
  run [.host, .kpr] (fun s =>
    let n := n.val
    match (s.sess n).reqs.find? (fun r => r.seq = seq.toNat) with
    | none => s
    | some r =>
      let inM := s.kpr.qM.any (fun q => q.path = n && q.seq = r.seq)
      let inQ := s.kpr.qQ.any (fun (q : Nat × Nat × Nat) => q.1 = n && q.2.1 = r.seq)
      if !(inM || inQ || r.held) then s
      else
        requestExpires n r s) s

/-! ### Requests -/

/-- A request of a host session. -/
def hostReq (n : Fin 64) (seq : Word) (order : Bool) (op : ReqOp) (found : Bool) (s : State) : Host.Outcome State Fault Refusal :=
  run [.host] (serveReq n.val seq.toNat op order found) s

/-- HOST_CLOSE (R549). -/
def execHostClose (n : Fin 64) (seq : Word) (order : Bool) (s : State) : Host.Outcome State Fault Refusal :=
  hostReq n seq order .close true s
/-- PING (R550). -/
def execPing (n : Fin 64) (seq : Word) (order : Bool) (s : State) : Host.Outcome State Fault Refusal :=
  hostReq n seq order .ping true s
/-- READ (R550). -/
def execRead (n : Fin 64) (seq : Word) (order : Bool) (a : Word) (k : BitVec 16) (s : State) :
    Host.Outcome State Fault Refusal :=
  run (.host :: touched a.toNat) (serveReq n.val seq.toNat (.read a.toNat k.toNat) order true) s
/-- WRITE (R550). -/
def execWrite (n : Fin 64) (seq : Word) (order : Bool) (a : Word) (ws : List Word) (s : State) :
    Host.Outcome State Fault Refusal :=
  run (.host :: touched a.toNat) (serveReq n.val seq.toNat (.write a.toNat ws) order true) s
/-- MBXREAD (R550). -/
def execMbxread (n : Fin 64) (seq : Word) (order : Bool) (blk item : BitVec 8) (index : BitVec 16) (s : State) :
    Host.Outcome State Fault Refusal :=
  hostReq n seq order (.mbxread blk.toNat item.toNat index.toNat) true s
/-- SIGREAD (R550). -/
def execSigread (n : Fin 64) (seq : Word) (order : Bool) (sid : Word) (k : BitVec 16) (s : State) :
    Host.Outcome State Fault Refusal :=
  hostReq n seq order (.sigread sid.toNat k.toNat) true s
/-- SIGWRITE (R550). -/
def execSigwrite (n : Fin 64) (seq : Word) (order : Bool) (sid v : Word) (st : BitVec 16) (s : State) :
    Host.Outcome State Fault Refusal :=
  hostReq n seq order (.sigwrite sid.toNat v.toNat st.toNat) true s
/-- HOST_MODE (R550). -/
def execHostMode (n : Fin 64) (seq : Word) (order : Bool) (target : BitVec 8) (s : State) :
    Host.Outcome State Fault Refusal :=
  hostReq n seq order (.mode target.toNat) true s
/-- RINGREAD (R553). -/
def execRingread (n : Fin 64) (seq : Word) (order : Bool) (ring most : BitVec 8) (s : State) :
    Host.Outcome State Fault Refusal :=
  hostReq n seq order (.ringread ring.toNat most.toNat) true s
/-- STROPEN (R556, R557); `found` says that its destination answers ARP or NDP (R545). -/
def execStropen (n : Fin 64) (seq : Word) (order : Bool) (o : StrOpen) (found : Bool) (s : State) :
    Host.Outcome State Fault Refusal :=
  hostReq n seq order (.stropen o) found s
/-- STRCLOSE (R563). -/
def execStrclose (n : Fin 64) (seq : Word) (order : Bool) (k : BitVec 8) (s : State) : Host.Outcome State Fault Refusal :=
  hostReq n seq order (.strclose k.toNat) true s
/-- EVSUB (R554). -/
def execEvsub (n : Fin 64) (seq : Word) (order : Bool) (sev : BitVec 8) (s : State) : Host.Outcome State Fault Refusal :=
  hostReq n seq order (.evsub sev.toNat) true s

/-- MGMT_PACKET_RX (21 R593): a request of a management session is served as a query, or answered BUSY when class Q is full. -/
def execMgmtPacketRx (n : Fin 4) (cookie seq : Word) (order : Bool) (op : ReqOp) (s : State) : Host.Outcome State Fault Refusal :=
  run [.kpr] (fun s =>
    let n := 64 + n.val
    if !portOpen s 2 || !(s.sess n).isOpen || (s.sess n).cookie ≠ cookie.toNat then s
    else if 64 ≤ s.kpr.qQ.length then respond n seq.toNat op codeBusy [] (queryBusy (heard n s))
    else serveReq n seq.toNat op order true s) s

/-! ### Links (R544) -/

/-- The forward error corrections of a link: none, BASE-R of either rate, RS of 25G only. -/
def linkFec (fast : Bool) (fec : Nat) : Nat := if fec = 1 then 1 else if fec = 2 && fast then 2 else 0

/-- HOST_LINK_CHANGE (R544): the link of port p comes up, with a partner that offers 25G (`fast`) or only 10G, or goes down. -/
def execHostLinkChange (p : Fin 2) (up fast : Bool) (fec : Fin 3) (s : State) : Host.Outcome State Fault Refusal :=
  run [.host] (fun s =>
    let p := [p.val]
    let can := s.isSet HOST_P_CFG_EN p && s.domOn 9 && s.clkPresent 3 && s.mode ≠ .seed && s.mode ≠ .keeper
    if up && can then
      let fast := fast && !s.isSet HOST_P_CFG_SPEED p
      ((s.raise HOST_P_STAT_LINK p).setFld HOST_P_STAT_SPEED (if fast then 2 else 1) p).setFld HOST_P_STAT_FEC (linkFec fast fec.val) p
    else ((s.lower HOST_P_STAT_LINK p).setFld HOST_P_STAT_SPEED 0 p).setFld HOST_P_STAT_FEC 0 p) s

end Sys2Proof.Machine
end

