-- ==== Sys2Proof/Machine/Rec.lean ====
section
/-!
DEFINITION. Recording (20 R558 to R565): rows, DATA and GAP packets and their compression, acknowledgements, and what the ports
send in a base tick.
-/
namespace Sys2Proof.Machine

/-! ### Rows (R558) -/

/-- Whether stream k takes a row at tick n. -/
def rowDue (s : State) (k n : Nat) : Bool :=
  streamOpen s k && (s.stream k).from_ < n && s.fld REC_ST_DEC_PH [k] ≤ n &&
    (n - s.fld REC_ST_DEC_PH [k]) % max 1 (s.fld REC_ST_DEC_D [k]) = 0 && (s.stream k).lastTk ≠ some n

/-- Why a row that finds no room is dropped: the host does not acknowledge, or the port is busy (R565). -/
def fullReason (s : State) (k : Nat) : Nat := if streamOpt s k 2 && !(s.stream k).sent.isEmpty then 1 else 2

/-- The columns of every stream that takes a row of tick n, as the signal table stands at the end of Phase 3 (R558). -/
def snapRows (n : Nat) (s : State) : State :=
  ((List.range 64).filter (fun k => rowDue s k n)).foldl (fun s k => s.modStream k (fun x => { x with
    snap := some (n, x.sids.map s.sigVal, if streamOpt s k 0 then x.sids.map s.sigStat else []) })) s

/-- The columns of stream k of tick n. -/
def rowCols (s : State) (k n : Nat) : List Nat × List Nat :=
  let x := s.stream k
  match x.snap.filter (fun p => p.1 = n) with
  | some p => p.2
  | none => (x.sids.map s.sigVal, if streamOpt s k 0 then x.sids.map s.sigStat else [])

/-- Stream k takes its row of tick n: produced, and buffered or dropped; without a destination it is dropped (R545, R558). -/
def takeRow (n k : Nat) (s : State) : State :=
  if !rowDue s k n then s
  else
    let x := s.stream k
    let s := (s.incr REC_ST_PROD_COUNT [k]).modStream k (fun x => { x with lastTk := some n })
    if x.late then dropRow k n 2 s
    else if streamCap s k ≤ s.fld REC_ST_PEND_COUNT [k] then dropRow k n (fullReason s k) s
    else
      let r : RowRun := .row n (rowCols s k n).1 (rowCols s k n).2
      (s.incr REC_ST_PEND_COUNT [k]).modStream k (fun x => { x with fifo := x.fifo ++ [r] })

/-- The rows of the last base tick that have not been taken. -/
def takeRows (s : State) : State :=
  match s.adm.lastTick with
  | some n => if s.domOn 11 then (List.range 64).foldl (fun s k => takeRow n k s) s else s
  | none => s

/-- STREAM_ROW (R558): stream k takes its row of the base tick that has just been applied. -/
def execStreamRow (k : Fin 64) (s : State) : Host.Outcome State Fault Refusal :=
  run [.recs] (fun s => match s.adm.lastTick with
    | some n => if s.domOn 11 then takeRow n k.val s else s
    | none => s) s

/-! ### Packets (R559) -/

/-- The `w` bits of v, most significant first. -/
def msb (w v : Nat) : List Bool := (List.range w).map (fun i => v.testBit (w - 1 - i))

/-- Bits as bytes, the most significant bit of each first, padded with 0 to a multiple of 32 bits. -/
def packBits : Nat → List Bool → List Nat
  | 0, _ => []
  | _ + 1, [] => []
  | f + 1, l =>
    let b := (l.take 32) ++ List.replicate (32 - min 32 l.length) false
    let v := b.foldl (fun a x => 2 * a + b2n x) 0
    [v / 2 ^ 24, v / 2 ^ 16 % 256, v / 2 ^ 8 % 256, v % 256] ++ packBits f (l.drop 32)

/-- A difference of column values coded with Rice parameter k. -/
def riceBits (k v old : Nat) : List Bool :=
  let d := sx 32 (v + 2 ^ 32 - old)
  let z := if 0 ≤ d then (2 * d).toNat else (-2 * d - 1).toNat
  let q := z / 2 ^ k
  if q < 32 then List.replicate q true ++ [false] ++ msb k (z % 2 ^ k) else List.replicate 32 true ++ msb 32 z

/-- The bits of a row after the row before it: its values, then its status words. -/
def rowBits (ks : List Nat) (p r : List Nat × List Nat) : List Bool :=
  ((ks.zip (r.1.zip p.1)).flatMap (fun (e : Nat × Nat × Nat) => riceBits e.1 e.2.1 e.2.2)) ++
    ((r.2.zip p.2).flatMap (fun (e : Nat × Nat) => if e.1 = e.2 then [false] else true :: msb 16 e.1))

/-- The bits of the rows of a packet. -/
def allBits (ks : List Nat) : Option (List Nat × List Nat) → List (List Nat × List Nat) → List Bool
  | _, [] => []
  | none, r :: t => r.1.flatMap (msb 32) ++ r.2.flatMap (msb 16) ++ allBits ks (some r) t
  | some p, r :: t => rowBits ks p r ++ allBits ks (some r) t

/-- The body of a DATA packet after its 24 bytes, as bytes: raw, or with the Rice parameters given. -/
def dataBytes (ks : Option (List Nat)) (rows : List (List Nat × List Nat)) : List Nat :=
  match ks with
  | none => rows.flatMap (fun (r : List Nat × List Nat) =>
      (r.1.flatMap (fun v => [v % 256, v / 2 ^ 8 % 256, v / 2 ^ 16 % 256, v / 2 ^ 24])) ++ r.2.flatMap (fun v => [v % 256, v / 256]))
  | some ks =>
    let bits := allBits ks none rows
    ks ++ List.replicate ((4 - ks.length % 4) % 4) 0 ++ packBits (bits.length + 1) bits

/-- The rows at the head of a stream's order that may stand in one packet: consecutive, up to a dropped row. -/
def headRows (d : Nat) : Option Nat → List RowRun → List (Nat × List Nat × List Nat)
  | _, [] => []
  | _, .gap _ _ _ :: _ => []
  | some want, .row t v st :: rest => if t = want then (t, v, st) :: headRows d (some (t + d)) rest else []
  | none, .row t v st :: rest => (t, v, st) :: headRows d (some (t + d)) rest

/-- The largest number of leading rows, up to n, whose body fits in `most` bytes. -/
def fitRows (ks : Option (List Nat)) (most : Nat) (rows : List (List Nat × List Nat)) : Nat → Nat
  | 0 => 0
  | n + 1 => if 24 + (dataBytes ks (rows.take (n + 1))).length ≤ most then n + 1 else fitRows ks most rows n

/-- The recording bytes of a base tick at a port's limit (R565). -/
def recLimit (s : State) (p : Nat) : Nat := if s.fld HOST_P_STAT_SPEED [p] = 2 then 15000 else 5625

/-- Port p sends `n` recording bytes in the present tick when its limit leaves them: whether it does. -/
def takeRate (p n : Nat) (s : State) : Bool × State :=
  let x := nth s.host.ports p {}
  let used := if x.sent.1 = s.tick then x.sent.2 else 0
  if recLimit s p < used + n then (false, s.raise HOST_P_STAT_RECSAT [p])
  else
    let t := s.tick
    let s := { s with host := { s.host with ports := modNth s.host.ports p (fun x => { x with sent := (t, used + n) }) } }
    (true, s.lower HOST_P_STAT_RECSAT [p])

/-- STREAM_PACKET_SEND (R559, R561): stream k sends its next packet: at most `nrow` rows, or the report of a run of dropped
rows that a row has ended. The Rice parameters are the device's choice. -/
def sendStream (k nrow : Nat) (s : State) : State :=
  let x := s.stream k
  let p := s.fld REC_ST_CFG_PORT [k]
  if !streamOpen s k || !x.found || !portUp s p then s
  else match x.fifo with
  | [] => s
  | [.gap ..] => s
  | .gap t c r :: rest =>
    let y := takeRate p 80 s
    if !y.1 then y.2 else sendGap k t c r (y.2.modStream k (fun x => { x with fifo := rest }))
  | .row t0 _ _ :: _ =>
    let rows := (headRows (s.fld REC_ST_DEC_D [k]) none x.fifo).take (max 1 nrow)
    let raw := rows.map (·.2)
    let rice := streamOpt s k 1
    let nsid := x.sids.length
    let free := s.free
    let ks := if rice then some ((List.range nsid).map (fun i => Config.freeValue (free + i) % 32)) else none
    let n := max 1 (fitRows ks (udpMax s p x.dest - 20) raw raw.length)
    let data := dataBytes ks (raw.take n)
    let y := takeRate p (data.length + 86) s
    if !y.1 then y.2
    else
      let s := if rice then { y.2 with free := free + nsid } else y.2
      let body := [t0 % 2 ^ 32, t0 / 2 ^ 32, n, nsid, b2n rice, b2n (streamOpt s k 0), s.fld REC_ST_DROP_COUNT [k]] ++ data
      let s := s.modStream k (fun x => { x with fifo := x.fifo.drop n })
      let s := if streamOpt s k 2 then s
        else (s.incr REC_ST_DELIV_COUNT [k] n).setFld REC_ST_PEND_COUNT (s.fld REC_ST_PEND_COUNT [k] - n) [k]
      streamSend k 4 n body s

/-- STREAM_PACKET_SEND (R559). -/
def execStreamPacketSend (k : Fin 64) (nrow : BitVec 12) (s : State) : Host.Outcome State Fault Refusal :=
  run [.recs, .host] (sendStream k.val nrow.toNat) s

/-! ### Reliable streams (R560) -/

/-- A packet goes out again. -/
def resend (k : Nat) (q : SentPkt) (s : State) : State :=
  let now := s.now
  let n := s.fld REC_ST_CFG_SESS [k]
  let s := s.modStream k (fun x => { x with sent := x.sent.map (fun e => if e.seq = q.seq then { e with at_ := now } else e) })
  sendPacket (32 + s.fld REC_ST_CFG_PORT [k]) (if q.gap then 5 else 4) (pktHead s n 0 (s.sess n).cookie q.seq k) q.body s

/-- Whether a packet's number is at or before CUM (serial arithmetic). -/
def ackedBy (cum seq : Nat) : Bool := (cum + 2 ^ 32 - seq) % 2 ^ 32 < 2 ^ 31

/-- An acknowledgement of stream k: rows up to `cum` are delivered, packets named in the list are sent again. -/
def streamAcked (k cum : Nat) (naks : List Word) (s : State) : State :=
  let n := s.fld REC_ST_CFG_SESS [k]
  let s := if (s.stream k).peer = (s.sess n).peer then heard n s else s
  let gone := (s.stream k).sent.filter (fun q => ackedBy cum q.seq)
  let n := gone.foldl (fun a q => a + q.rows) 0
  let s := (s.incr REC_ST_DELIV_COUNT [k] n).setFld REC_ST_PEND_COUNT (s.fld REC_ST_PEND_COUNT [k] - n) [k]
  let s := s.modStream k (fun x => { x with sent := x.sent.filter (fun q => !ackedBy cum q.seq) })
  ((s.stream k).sent.filter (fun q => naks.any (fun w => w.toNat = q.seq))).foldl (fun s q => resend k q s) s

/-- STREAM_ACK (R560): an ACK of stream k: its packets up to CUM leave the buffer, and those named are sent again. -/
def execStreamAck (k : Fin 64) (cum : Word) (naks : List Word) (s : State) : Host.Outcome State Fault Refusal :=
  run [.recs, .host] (fun s =>
    let k := k.val
    if !streamOpen s k || !streamOpt s k 2 || 16 < naks.length then s
    else
      streamAcked k cum.toNat naks s) s

/-- The packet of stream k that was sent first of those not acknowledged. -/
def oldestSent (s : State) (k : Nat) : Option SentPkt :=
  (s.stream k).sent.foldl (fun (b : Option SentPkt) q => match b with
    | some p => if q.at_ < p.at_ then some q else b
    | none => some q) none

/-- STREAM_RETRANSMIT (R560): RTO after its last sending, the packet of stream k that waits longest is sent again. -/
def execStreamRetransmit (k : Fin 64) (s : State) : Host.Outcome State Fault Refusal :=
  run [.recs, .host] (fun s =>
    let k := k.val
    match oldestSent s k with
    | none => s
    | some q => if streamOpen s k then resend k q (advanceTo (q.at_ + s.fld REC_CTL_RTO * 1000000 * nsF) s) else s) s

/-- The destination of stream k has not resolved 1 s after the opening: its rows are dropped. -/
def destUnresolved (k : Nat) (s : State) : State :=
  let x := s.stream k
  let s := advanceTo (x.openAt + secF) s
  let n := s.fld REC_ST_PEND_COUNT [k]
  let ticks := x.fifo.filterMap (fun r => match r with
    | .row t _ _ => some t
    | .gap _ _ _ => none)
  let gaps := x.fifo.filter (fun r => match r with
    | .row _ _ _ => false
    | .gap _ _ _ => true)
  let s := s.modStream k (fun x => { x with late := true, fifo := gaps })
  let s := s.setFld REC_ST_PEND_COUNT (s.fld REC_ST_PEND_COUNT [k] - n) [k]
  ticks.foldl (fun s t => dropRow k t 2 s) s

/-- DEST_RESOLVE_TIMEOUT (R545): after 1 s the destination of stream k is not resolved: its rows are dropped. -/
def execDestResolveTimeout (k : Fin 64) (s : State) : Host.Outcome State Fault Refusal :=
  run [.recs, .host] (fun s =>
    let k := k.val
    let x := s.stream k
    if !streamOpen s k || x.found || x.late then s
    else
      destUnresolved k s) s

/-- STREAM_FORCE_CLOSE (R563): writing REC_ST_n_CTL.CLOSE. -/
def execStreamForceClose (m : Master) (k : Fin 64) (s : State) : Host.Outcome State Fault Refusal :=
  run [.recs] (regCmd recStreamAct m REC_ST_CTL [k.val] 1) s

/-- What waits at the ports beside recording leaves, at a base tick at the latest, as far as the lines take it (R554, R565). -/
def egress (s : State) : State := [0, 1, 2].foldl (fun s p => txGo p s) s

end Sys2Proof.Machine
end

