-- ==== Sys2Proof/Machine/TwinRun.lean ====
section
/-!
DEFINITION. Base ticks of a device alone, of a leader and of a follower (01 R39, 17 R469 to R475): forwarding, the CLOSE and
its checks, provisional batches, comparison, loss and takeover, handover, the cut of a resync.
-/
namespace Sys2Proof.Machine

/-! ### A device that applies its own batches -/

/-- The checksum of a batch's order: over its forward sequence numbers (17 R468; the form is the model's). -/
def batchCrc (l : List Item) : Nat := crc32 (l.flatMap (fun i => leBytes 4 i.num))

/-- An outcome as the numbers of a link message. -/
def Outcome.words : Outcome → List Nat
  | .report id code => [0, id, code]
  | .canTx c b code => [1, c, b, code]
  | .canErr c off => [2, c, b2n off]
  | .axisFault a f => [3, a, f]
  | .taskEnd t => [4, t]

/-- The output images that a leader sends in the CLOSE of tick n: those of the cycles that ran at the cut and are published at
n (17 R494). -/
def cutImages (n : Nat) (s : State) : List (Nat × List (Nat × List Byte)) :=
  if !s.leader then []
  else (s.twin.cutRun.filter (fun t => (s.rtask t).pubs.any (fun p => p.1 ≤ n))).map (fun t => (t, outputImage s t))

/-- The CLOSE of tick n leaves a leader (17 R468). -/
def sendClose (n : Nat) (items : List Item) (outs : List Outcome) (images : List (Nat × List (Nat × List Byte))) (s : State) : State :=
  if !(s.leader && s.isSet TWIN_CTL_EN) then s
  else
    let swap := s.twin.swap.any (fun a => a + 1 = n)
    s.say (.send 24 0 ([n, items.length, s.twin.fwd, batchCrc items, s.effMode.code, s.fld TWIN_EPOCH_EPOCH, b2n swap] ++
      outs.flatMap Outcome.words ++ images.flatMap (fun e => [5, e.1, e.2.length] ++ e.2.flatMap (fun p =>
        [p.1, p.2.length] ++ p.2.map (fun b => b.toNat)))))

/-- Base tick n of a device that applies its own batch, after the transition of its start. -/
def ownPhases (n : Nat) (s : State) : State :=
  let images := cutImages n s
  let s := phase1 n (images.foldl (fun s e => cutOver e.1 s) s)
  let x := closeBatch n s
  let outs := x.2.twin.outs
  let s := sendClose n x.1.items outs images (x.2.modTwin (fun t => { t with outs := [] }))
  phase4 n (snapRows n (phase3 n x.1.items outs s))

/-- Base tick n is executed from now on: its number is noted (01 R29). -/
def beginTick (n : Nat) (s : State) : State :=
  let s := (List.range 24).foldl State.retryHeld (advanceTo (tickAt n) s)
  let s := tbusSettle s.now s
  modeDue n { s with adm := { s.adm with lastTick := some n } }

/-! ### A follower -/

/-- Phases 1 and 2 of tick n on a follower: its HBEAT leaves, and it waits for the CLOSE (17 R468, R470). -/
def openFollow (n : Nat) (s : State) : State :=
  let s := phase1 n s
  (s.say (.send 24 1 [n, 2, s.fld TWIN_STAT_INSTEP, 1])).modTwin (fun t => { t with openTick := some n })

/-- Whether a source is shared (17 R474). -/
def shared (s : State) (src : Nat) : Bool := src < 312 && bit (s.fld TWIN_SHR_SHR [src / 32]) (src % 32)

/-- Whether two items agree within the tolerances (17 R474). -/
def itemsAgree (s : State) (a b : Item) : Bool :=
  let dist := fun (x y : Nat) => max x y - min x y
  let tol := s.fld TWIN_TOL_VAL * 1024
  let near := fun (x y : Nat) => (sx 32 x - sx 32 y).natAbs ≤ tol
  dist a.stamp b.stamp ≤ s.fld TWIN_TOL_STAMP * 10 * nsF &&
    (match a.kind, b.kind with
    | .sarVal i v q _, .sarVal j w r _ => i = j && near v w && q = r
    | .sar c m raw f _, .sarVal j w r _ =>
      let x := sarForm s c m raw f
      x.1 = j && near x.2.1 w && x.2.2 = r
    | .tone c x, .tone d y => c = d && x.length = y.length && (x.zip y).all (fun (p : (Nat × Nat × Nat) × (Nat × Nat × Nat)) =>
        p.1.1 = p.2.1 && near p.1.2.1 p.2.2.1 && p.1.2.2 = p.2.2.2)
    | .arc c k r, .arc d l t => c = d && k = l && dist r t ≤ tol
    | x, y => x = y)

/-- A difference of source `src` at tick n is counted, and recorded once a second (17 R474). -/
def discrepancy (n src : Nat) (s : State) : State :=
  let s := (s.incr TWIN_DISC_COUNT).raise TWIN_STAT_DISCF
  let s := (s.setFld TWIN_DISCSRC_SOURCE src).setFld TWIN_DISCSRC_TICK n
  let sec := s.now / secF
  if s.twin.noted.contains (src, sec) then s
  else
    let old := s.twin.noted.filter (fun (p : Nat × Nat) => p.2 = sec)
    twinEvent 4 8 0 src (s.modTwin (fun t => { t with noted := (src, sec) :: old }))

/-- The first entry of a tick that agrees with an item, of the item's source. -/
def partner (s : State) (k : Nat) (i : Item) (l : List (Nat × Item)) : Option (Nat × Item) :=
  l.find? (fun e => e.1 = k && e.2.src = i.src && itemsAgree s i e.2)

/-- The own items of tick k are matched with the leader's of that tick, then of the neighbouring ones; each that finds no
partner is a difference, and stands against one item of the leader's that found none (17 R474). -/
def compareTick (k : Nat) (s : State) : State :=
  let own := s.twin.own.filter (fun e => e.1 = k)
  let go := own.foldl (fun (p : List (Nat × Item) × List Item) e =>
    match (partner s k e.2 p.1).or ((partner s (k - 1) e.2 p.1).or (partner s (k + 1) e.2 p.1)) with
    | some x => (p.1.erase x, p.2)
    | none => (p.1, p.2 ++ [e.2])) (s.twin.ldr, [])
  let ldr := go.2.foldl (fun (l : List (Nat × Item)) i => match l.find? (fun e => e.1 = k && e.2.src = i.src) with
    | some x => l.erase x
    | none => l) go.1
  let lost := ldr.filter (fun e => e.1 < k)
  let s := s.modTwin (fun t => { t with own := t.own.filter (fun e => e.1 ≠ k), ldr := ldr.filter (fun e => k ≤ e.1) })
  (go.2.map (·.src) ++ lost.map (fun e => e.2.src)).foldl (fun s src => discrepancy k src s) s

/-- What becomes of the follower's own items of tick n when the leader's batch is applied (17 R474, R483): those of shared
sources are compared, those that it forwarded leave when the batch brings them, the rest are dropped. -/
def ownItems (n : Nat) (batch : List Item) (s : State) : State :=
  let mine := s.adm.queue.filter (fun i => !(312 ≤ i.src && i.src ≤ 376) && itemDue n i)
  let brought := fun (i : Item) => batch.any (fun j => j.src = i.src && j.kind = i.kind)
  let queue := s.adm.queue.filter (fun i =>
    if 312 ≤ i.src && i.src ≤ 376 then !brought i else !itemDue n i)
  let s := { s with adm := { s.adm with queue := queue } }
  s.modTwin (fun t => { t with
    own := t.own ++ (mine.filter (fun i => shared s i.src)).map (fun i => (n, i))
    ldr := t.ldr ++ (batch.filter (fun i => shared s i.src)).map (fun i => (n, i)) })

/-- Phases 3 and 4 of tick n on a follower, with the batch and the outcomes given. -/
def followPhases (n : Nat) (items : List Item) (outs : List Outcome) (s : State) : State :=
  let s := phase4 n (snapRows n (phase3 n items outs s))
  let s := ownItems n items { s with mc := { s.mc with pendMode := none } }
  let s := s.modTwin (fun t => { t with openTick := none })
  if n = 0 then s else compareTick (n - 1) s

/-- The provisional batch of tick n (17 R472): own items of shared sources and of source 377, and the forwarded items of every
other source. -/
def provisional (n : Nat) (s : State) : Batch :=
  let own := s.adm.queue.filter (fun i => shared s i.src || i.src = 377)
  let fwd := s.twin.staged.filter (fun i => !shared s i.src && i.src ≠ 377)
  formBatch n s.adm.carry (own ++ fwd)

/-- A follower has no CLOSE of tick n by T(n) + 0.7 µs (17 R472, R484, R485). -/
def followerMiss (n : Nat) (s : State) : State :=
  let s := advanceTo (tickAt n + 700 * nsF) s
  let b := provisional n s
  let s := (s.incr SYS_ADM_DEFER_COUNT [] b.carry.length).modTwin (fun t =>
    { t with staged := t.staged.filter (fun i => !itemDue n i), prov := (n :: t.prov).take 8 })
  let s := followPhases n b.items [] { s with adm := { s.adm with carry := b.carry } }
  let run := min 3 (s.fld TWIN_STAT_MISSRUN + 1)
  let s := s.setFld TWIN_STAT_MISSRUN run
  if run < 3 || s.twin.takeover then s
  else
    let s := ((s.raise TWIN_STAT_LOSSF).incr TWIN_HBMISS_COUNT).lower TWIN_STAT_PEER
    if s.fld TWIN_STAT_PEEROWN = 0 then s.modTwin (fun t => { t with takeover := true })
    else leaveStep 4 (twinEvent 6 6 0 0 (s.raise TWIN_STAT_ISOLF))

/-- A leader has no HBEAT of tick n by T(n) + 0.7 µs (17 R484, R485). -/
def leaderMiss (n : Nat) (s : State) : State :=
  if s.twin.hbCame = some n || s.twin.hbSeen = some n || !s.isSet TWIN_STAT_PEER then s
  else
    let s := (advanceTo (tickAt n + 700 * nsF) s).modTwin (fun t => { t with hbSeen := some n })
    let run := min 3 (s.fld TWIN_STAT_MISSRUN + 1)
    let s := s.setFld TWIN_STAT_MISSRUN run
    if run < 3 then s
    else
      let s := (((s.raise TWIN_STAT_LOSSF).incr TWIN_HBMISS_COUNT).lower TWIN_STAT_PEER).lower TWIN_STAT_INSTEP
      let s := if resyncs s then resyncEnd 5 s else s
      claimLow (twinEvent 5 4 0 0 s)

/-! ### Taking over (17 R485, 20 R555, R564) -/

/-- A mirrored stream continues (20 R564): the rows from the first one that was not counted DELIV up to the takeover tick n
are dropped, and reported in one GAP. -/
def takeStream (n : Nat) (s : State) (e : Nat × List Nat × Stream) : State :=
  let k := e.1
  if streamOpen s k then s
  else
    let w := fun (i : Nat) => nth e.2.1 i 0
    let cfg := BitVec.ofNat 32 (w 0)
    let x := e.2.2
    let d := max 1 (bits (w 1) 15 0)
    let ph := bits (w 1) 31 16
    let last := x.lastTk.getD x.from_
    let later := ((List.range (n - last)).filter (fun i => ph ≤ last + i + 1 && (last + i + 1 - ph) % d = 0)).length
    let pend := (w 3 + 2 ^ 32 * 2 - w 4 - w 5) % 2 ^ 32
    let s := s.modStream k (fun _ => { x with fifo := [], sent := [], from_ := n, lastTk := some n })
    let s := ((s.setReg REC_ST_CFG cfg [k]).setReg REC_ST_DEC (BitVec.ofNat 32 (w 1)) [k]).setReg REC_ST_SEQ (BitVec.ofNat 32 (w 2)) [k]
    let s := (s.setReg REC_ST_PROD (BitVec.ofNat 32 (w 3 + later)) [k]).setReg REC_ST_DELIV (BitVec.ofNat 32 (w 4)) [k]
    let s := (s.setReg REC_ST_DROP (BitVec.ofNat 32 (w 5 + pend + later)) [k]).setReg REC_ST_PEND 0 [k]
    let first := if pend = 0 then last + d else last - (pend - 1) * d
    let s := recSync s
    if pend + later = 0 then s
    else (s.raise REC_STAT_DROPF).modStream k (fun x => { x with fifo := [.gap first (pend + later) 3] })

/-- A mirrored session is taken over: it keeps its number and cookie, gets NOTICE MOVED, and each request is ended once. -/
def takeSession (s : State) (e : Nat × Session) : State :=
  let n := e.1
  if (s.sess n).isOpen then s
  else
    let x := e.2
    let known := fun (q : Nat) => x.done.find? (fun d => d.seq = q && !d.again)
    let old := x.done.filter (fun d => !x.reqs.any (fun r => r.seq = d.seq))
    let s := s.modSess n (fun _ => { x with isOpen := true, done := old, reqs := x.reqs.map (fun r => { r with adm := false }),
                                            lastRx := s.now, evq := [], rings := s.host.tot })
    let s := s.setReg HOST_S_STAT (BitVec.ofNat 32 (2 ^ 25 + x.port * 2 ^ 18 + x.role.code * 2 ^ 16)) [n]
    let ip4 := bit (s.fld HOST_P_CFG_NET [x.port]) 0
    let ip := if ip4 then [(s.reg HOST_P_IP4 [x.port]).toNat] else (List.range 4).map (fun i => (s.reg HOST_P_IP6 [x.port, i]).toNat)
    let s := sessSend n 7 0 0 0 ([1, 0, 0, 0] ++ ip) (sessSync s)
    x.reqs.foldl (fun s r => match known r.seq with
      | some d => respond n r.seq r.op d.code d.data s
      | none => performReq n r.seq r.op true s) s

/-- At the first tick after the declaration the follower becomes LEADER (17 R485). -/
def becomeLeader (n : Nat) (s : State) : State :=
  let m := Mode.ofCode s.twin.ldrMode
  let s := s.setFld TWIN_STAT_ROLE 1
  let s := s.incrSat TWIN_EPOCH_EPOCH
  let s := s.modTwin (fun t => { t with takeover := false, openTick := none, staged := [], prov := [], own := [], ldr := [] })
  if s.mode = .follow then takeMode n m s.mc.safeCause none s else s

/-- TAKEOVER: base tick n makes the follower LEADER (17 R485, R486). -/
def takeOver (n : Nat) (s : State) : State :=
  let s := becomeLeader n (s.lower TWIN_STAT_INSTEP)
  let s := (s.incr TWIN_TAKEOVER_COUNT).modTwin (fun t => { t with tookAt := some (tickAt n) })
  let s := claimLow (twinEvent 5 5 0 0 s)
  let mir := s.host.mir
  let str := s.host.mirStr
  let s := { s with host := { s.host with mir := [], mirStr := [] } }
  let s := mir.foldl takeSession s
  ownPhases n (str.foldl (takeStream n) s)

/-! ### Handover (17 R491) -/

/-- Whether a handover is due at tick n. -/
def swapDue (s : State) (n : Nat) : Bool := s.twin.swap.any (fun a => a + 2 = n)

/-- The receiving side at tick n = a + 2: LEADER, with every group that is not the other's home. -/
def swapIn (n : Nat) (s : State) : State :=
  let s := (becomeLeader n s).modTwin (fun t => { t with swap := none })
  let s := (List.range 4).foldl (fun s g =>
    if s.isSet TWIN_GRP_ANCHOR [g] && !s.isSet TWIN_GRP_HOME [g] then s else claim g s) s
  ownPhases n (s.raise TWIN_STAT_INSTEP)

/-- The giving side at tick n = a + 2: FOLLOWER of that batch; it drops its groups 20 ns later. -/
def swapOut (n : Nat) (s : State) : State :=
  let m := s.effMode
  let s := ((s.setFld TWIN_STAT_ROLE 2).raise TWIN_STAT_INSTEP).modTwin (fun t =>
    { t with ldrMode := m.code, staged := [], openTick := none, prov := [], own := [], ldr := [], outs := [] })
  let s := takeMode n .follow 0 none s
  let s := advanceTo (tickAt n + 20 * nsF) (openFollow n s)
  (List.range 4).foldl (fun s g => if homeOf s g then s else give g s) s

/-- What a former leader started has closed: it forwards no longer (17 R491). -/
def swapClosed (s : State) : State :=
  match s.twin.swap with
  | none => s
  | some a =>
    if s.follower && s.rio.ports.all (fun p => p.open_.all (fun c => a + 2 ≤ c.tick)) && s.tick ≠ a + 1 then
      s.modTwin (fun t => { t with swap := none })
    else s

/-! ### The base tick -/

/-- Base tick n (01 R39): the device's own, or as leader, or, as follower, up to the CLOSE. A follower that still waits for
the CLOSE of the tick before counts it as missed. -/
def baseTick (n : Nat) (s : State) : State :=
  let s := takeRows s
  let s := match s.twin.openTick with
    | some k => if s.follower then followerMiss k s else s
    | none => s
  let s := beginTick n s
  let s := if s.leader && swapDue s n then swapOut n s
    else if s.follower && s.twin.takeover then takeOver n s
    else if s.follower && swapDue s n then swapIn n s
    else if s.follower then openFollow n s
    else
      let s := if s.fld TWIN_STAT_ROLE = 3 then s.say (.send 24 1 [n, 3, 0, 1]) else s
      ownPhases n (cutSend n s)
  egress (pumpAll (serveM (swapClosed s)))

/-- The number of the next base tick to execute. -/
def nextTick (s : State) : Nat :=
  match s.adm.lastTick with
  | some n => n + 1
  | none => ceilDiv s.now (tickAt 1)

/-- The state in which the next base tick is to come: steps of device time that come before it have reached their edges (03
R91). -/
def beforeTick (s : State) : State := stepsFirst (fun s => tickAt (nextTick s)) s.tb.pend.length s

/-- The next base tick is executed. -/
def runNextTick (s : State) : State := let s := beforeTick s; baseTick (nextTick s) s

/-! ### Commands of the link -/

/-- A CTRL message of the leader changes the mirror (20 R555). -/
def takeMirror (s : State) (m : Mirror) : State :=
  let put := fun (n : Nat) (f : Session → Session) => match getKey s.host.mir n with
    | some x => { s with host := { s.host with mir := putKey s.host.mir n (f x) } }
    | none => s
  match m with
  | .sess n x => { s with host := { s.host with mir := putKey s.host.mir n x } }
  | .gone n => { s with host := { s.host with mir := delKey s.host.mir n, mirStr := s.host.mirStr.filter (fun e =>
      bits (nth e.2.1 0 0) 21 16 ≠ n) } }
  | .req n r => put n (fun x => { x with reqs := x.reqs ++ [r] })
  | .ended n d => put n (fun x => { x with reqs := x.reqs.filter (fun r => r.seq ≠ d.seq),
                                           done := x.done.filter (fun e => e.seq ≠ d.seq) ++ [{ d with again := true }] })
  | .stream k cfg dec seq prod deliv drop x =>
    { s with host := { s.host with mirStr := putKey s.host.mirStr k ([cfg, dec, seq, prod, deliv, drop], x) } }
  | .image t parts =>
    let s := cutOver t (parts.foldl (fun s p => s.setBytes p.1 p.2) s)
    match s.twin.openTick with
    | some n => if (s.rtask t).pubs.any (fun p => p.1 ≤ n) then rtPublish t n s else s
    | none => s

/-- A follower takes the CLOSE of its open tick n (17 R470, R471): the heartbeat, the leader's mode and EPOCH, the checks, the
batch. -/
def takeClose (n k seq crc : Nat) (outs : List Outcome) (mode epoch : Nat) (swap : Bool) (s : State) : State :=
  let s := heartbeat n s
  let b := formBatch n s.adm.carry (s.twin.staged.filter (fun i => i.num ≤ seq))
  if b.items.length ≠ k || batchCrc b.items ≠ crc then leaveStep 1 s
  else
    let late := s.twin.staged.filter (fun i => i.num ≤ seq && itemDue n i && itemLate n i)
    let s := late.foldl (fun s (i : Item) => s.incr SYS_ADM_LATE_COUNT [i.src]) s
    let s := s.incr SYS_ADM_DEFER_COUNT [] b.carry.length
    let old := s.effMode
    let s := (s.setFld TWIN_EPOCH_EPOCH epoch).modTwin (fun t => { t with
      ldrMode := if Mode.ofCode mode = .brace then t.ldrMode else mode, staged := t.staged.filter (fun i => !(i.num ≤ seq && itemDue n i)),
      swap := if swap then some (n - 1) else t.swap })
    let s := behave n old { s with adm := { s.adm with carry := b.carry } }
    followPhases n b.items outs s

/-- A follower takes the leader's CLOSE of tick n: the open tick is closed as the leader closed it; one too late or too early ends the lock step. -/
def closeTaken (n k seq crc : Nat) (outs : List Outcome) (mode epoch : Nat) (swap : Bool) (mirrors : List Mirror)
    (s : State) : State :=
  let s := mirrors.foldl takeMirror s
  if s.twin.prov.contains n then leaveStep 2 ((s.incr TWIN_LATEB_COUNT).raise TWIN_STAT_LATEF)
  else
    let u := beforeTick s
    let s := if s.twin.openTick.isNone && n = nextTick u then baseTick n u else s
    if s.twin.openTick = some n then takeClose n k seq crc outs mode epoch swap s
    else if (s.adm.lastTick.getD 0) < n then leaveStep 1 s
    else s

/-- Whether a device has left step and starts a resync on its own once the link carries the leader's CLOSE again (17 R473): no
resync runs, and the last one did not end with a cause. -/
def resyncsItself (s : State) : Bool :=
  (s.fld TWIN_STAT_ROLE = 3 || s.fld TWIN_STAT_ROLE = 4) && s.twin.rsFrom.isNone && s.fld TWIN_RS_CAUSE = 0

/-- CLOSE (17 R470): the leader's closing record of tick n arrives, with the CTRL messages that came with it. A record that
comes after its provisional batch takes the follower out of step (17 R472, R473); a device out of step starts its resync. -/
def execClose (n k seq : Nat) (crc : Word) (outs : List Outcome) (mode : Fin 12) (epoch : BitVec 16) (swap : Bool)
    (mirrors : List Mirror) (s : State) : Host.Outcome State Fault Refusal :=
  run [.twin] (fun s =>
    if !s.isSet TWIN_CTL_EN then s
    else if resyncsItself s then resyncStart s
    else if !s.follower then s
    else
      closeTaken n k seq crc.toNat outs mode.val epoch.toNat swap mirrors s) s

/-- ITEM (17 R470): a forwarded item is staged; a resyncing device keeps those that no batch before its cut can hold. -/
def execItem (src : Fin 378) (stamp seq : Nat) (k : ItemKind) (s : State) : Host.Outcome State Fault Refusal :=
  run [.twin] (fun s =>
    if !s.isSet TWIN_CTL_EN || !(s.follower || s.fld TWIN_STAT_ROLE = 3) then s
    else s.modTwin (fun t => { t with staged := t.staged ++ [{ src := src.val, stamp := stamp, arr := 0, num := seq, kind := k }] })) s

/-- FWD (17 R483, R491): an item of the follower's sessions or Keeper, or what a former leader had started, is admitted by the
leader; outcomes are listed. -/
def execFwd (src : Fin 378) (stamp : Nat) (k : Option ItemKind) (outs : List Outcome) (s : State) :
    Host.Outcome State Fault Refusal :=
  run [.twin] (fun s =>
    if !s.isSet TWIN_CTL_EN || !s.leader then s
    else
      let s := match k with
        | some k => s.pushItem src.val stamp k
        | none => s
      s.modTwin (fun t => { t with outs := t.outs ++ outs.filter (fun o => !t.outs.contains o) })) s

/-- HEARTBEAT_MISS (17 R484): the CLOSE, or the HBEAT, of the tick has not come by T(n) + 0.7 µs. -/
def execHeartbeatMiss (s : State) : Host.Outcome State Fault Refusal :=
  run [.twin] (fun s =>
    if !s.isSet TWIN_CTL_EN then s
    else if s.follower then
      let s := if s.twin.openTick.isNone then runNextTick s else s
      match s.twin.openTick with
      | some n => followerMiss n s
      | none => s
    else if s.leader then match s.adm.lastTick with
      | some n => leaderMiss n s
      | none => s
    else s) s

/-- TAKEOVER (17 R485): at the first tick after the declaration the follower becomes LEADER. -/
def execTakeover (s : State) : Host.Outcome State Fault Refusal :=
  run [.twin] (fun s => if s.follower && s.twin.takeover then runNextTick s else s) s

/-- SWAP_HANDOVER (17 R491): time passes to tick a + 2, where leadership passes. -/
def execSwapHandover (s : State) : Host.Outcome State Fault Refusal :=
  run [.twin] (fun s => match s.twin.swap with
    | none => s
    | some a => if nextTick s = a + 2 && s.twin.openTick.isNone && s.isSet TWIN_STAT_INSTEP then baseTick (a + 2) s else s) s

/-- The descriptor of a cyclic task whose cycle ran at the cut is left as the end of its code leaves it: the device does not run
the cycle, it publishes the leader's image (17 R494). -/
def cutTask (s : State) (t : Nat) : State :=
  match (s.rtask t).desc with
  | none => s
  | some d => match s.tdesc d with
    | none => s
    | some x =>
      if x.mode = 2 then setDesc d none s
      else setDesc d (some { x with st := if x.mode = 1 then dWait else dIdle, toks := List.replicate 4 none, next := List.replicate 4 none }) s

/-- The retained area in MRAM is rewritten from the copied state (17 R494). -/
def retainedNow (s : State) : State :=
  let s := { s with rt := { s.rt with redo := [] } }
  s.setBytes 0x21A10000 (s.bytes (retBase s) (retSize s))

/-- The cut of a resynchronisation at tick c: the follower is in step from here on. -/
def resyncCutAt (c : Nat) (s : State) : State :=
  let s := advanceTo (tickAt c) s
  let due := fun (i : Item) => i.stamp + lagF < tickAt (c - 1)
  let s := s.modTwin (fun t => { t with staged := t.staged.filter (fun i => !due i), cut := none, rsFrom := none })
  let s := { s with adm := { s.adm with lastTick := some c, queue := [], carry := [] } }
  let s := ((s.setFld TWIN_STAT_ROLE 2).raise TWIN_STAT_INSTEP).setFld TWIN_RS_PHASE 5
  let s := ((s.setFld TWIN_RS_CAUSE 0).setFld TWIN_STAT_MISSRUN 0).raise TWIN_STAT_PEER
  let s := takeMode c .follow 0 none s
  let s := (List.range 16).foldl (fun s d => dacNow d s) s
  let runs := (List.range 13).filter (fun k => (s.rtask k).busy)
  let s := runs.foldl cutTask (s.modTwin (fun t => { t with cutRun := runs }))
  openFollow c (retainedNow (journalNow s))

/-- RESYNC_CUT (17 R493, R494): at the cut tick C the device becomes FOLLOWER, loads its DAC codes, and waits for the CLOSE of
C; the journal is rewritten. -/
def execResyncCut (s : State) : Host.Outcome State Fault Refusal :=
  run [.twin] (fun s => match s.twin.cut with
    | none => s
    | some c =>
      if s.fld TWIN_STAT_ROLE ≠ 3 || s.fld TWIN_RS_PHASE ≠ 4 || !s.tb.started then s
      else
        resyncCutAt c s) s

end Sys2Proof.Machine
end

