-- ==== Sys2Proof/Machine/Tick.lean ====
section
/-!
DEFINITION. The base tick as a command, the event fabric's receivers, the conservation checkers and memory errors (01 R25, R39,
R46 to R48).
-/
namespace Sys2Proof.Machine

/-- BASE_TICK (R39): time passes to the next base tick, which is executed. -/
def execBaseTick (s : State) : Host.Outcome State Fault Refusal :=
  run [.sys, .time, .disp, .loop, .rcp, .rio, .sar, .rfa, .pwm, .mot, .can, .cpu, .twin]
    (fun s => if s.tb.started then runNextTick s else s) s

/-- Base ticks pass up to and with tick x, at most `fuel` of them. -/
def ticksTo (x : Nat) : Nat → State → State
  | 0, s => s
  | fuel + 1, s => if s.tb.started && nextTick (beforeTick s) ≤ x then ticksTo x fuel (runNextTick s) else s

/-- CYCLE_CLOSE (09 R277): time passes to the close tick of the oldest open cycle of port p, in whose Phase 3, after its batch, the
cycle closes; in a mode without that phase the cycle closes all the same. -/
def execCycleClose (p : Fin 4) (s : State) : Host.Outcome State Fault Refusal :=
  run [.sys, .time, .disp, .loop, .rcp, .rio, .sar, .rfa, .pwm, .mot, .can, .cpu, .twin] (fun s =>
    match (s.rioPort p.val).open_ with
    | [] => s
    | c :: _ =>
      let x := closeTick s p.val c
      let s := ticksTo x (x + 1 - nextTick s) s
      match (s.rioPort p.val).open_ with
      | [] => s
      | d :: _ => if d.cseq = c.cseq then closeCycle p.val x (advanceTo (tickAt x) s) else s) s

/-- TOKEN_TAKEN (R25): the receiver of queue q takes its oldest token and returns its credit: the Keeper into class E while it
has room, the acquisition engine an arm (07 R231). -/
def execTokenTaken (q : Fin 25) (s : State) : Host.Outcome State Fault Refusal :=
  run [.sys] (fun s =>
    match s.popToken q.val with
    | some (.event e, t) => if 1024 ≤ s.evq.length then s else kprSync (enterClassE e t)
    | some (.arm k id, t) =>
      let code := if acqModeOk t then acqActionCode t k else codeNoResource
      rcpOutcome id code (if code = 0 then acqArm k t else t)
    | none => s) s

/-! ### Conservation (R46, R47) -/

/-- A difference of two counters. -/
def since (a b : Nat) : Nat := (a % 2 ^ 32 + 2 ^ 32 - b % 2 ^ 32) % 2 ^ 32

/-- An identity: its quantity (the row of R46, from 1), its owner, whether it holds, and its counters. -/
structure Identity where
  what  : Nat
  blk   : Block
  holds : Bool
  cnt   : List Nat
  deriving DecidableEq, Repr

/-- Credits of queue q. -/
def creditIdentity (s : State) (q : Nat) : Identity :=
  let ret := s.fld SYS_Q_RET_COUNT [q]
  let rcvd := s.fld SYS_Q_RCVD_COUNT [q]
  let sent := s.fld SYS_Q_SENT_COUNT [q]
  let depth := ((s.fab[q]?).map (fun f => f.depth)).getD 0
  { what := 1, blk := .sys, holds := since sent rcvd ≤ since sent ret && since sent ret ≤ depth, cnt := [ret, rcvd, sent] }

/-- Every identity of the blocks that are powered. -/
def identities (s : State) : List Identity :=
  let c : Fld → List Nat → Nat := fun f ix => s.fld f ix
  let free := c DISP_NST_0_NFREE []
  let slot := c DISP_NST_2_NSLOT []
  let running := c DISP_NST_3_NRUN []
  let alloc := c DISP_NST_0_NIDLE [] + c DISP_NST_1_NWAIT [] + c DISP_NST_1_NDELAY [] + c DISP_NST_2_NREADY [] + slot + running
  let acq := [c ACQ_NFREE_COUNT [], c ACQ_NARMED_COUNT [], c ACQ_NFILL_COUNT [], c ACQ_NCOMPL_COUNT []]
  let evl := [c EVL_WRITTEN_COUNT [], c EVL_STORED_COUNT [], c EVL_OVWR_COUNT [], c EVL_DROP_COUNT []]
  let all : List Identity :=
    (List.range s.fab.length).map (creditIdentity s) ++
    [{ what := 2, blk := .disp, holds := free + alloc = 4096 && slot ≤ 32 && running ≤ 16, cnt := [free, alloc] },
     { what := 3, blk := .acq, holds := acq.foldl (· + ·) 0 = s.acq.foldl (fun a x => a + x.descs.length) 0, cnt := acq }] ++
    (List.range 64).map (fun k =>
      let v := [c REC_ST_PROD_COUNT [k], c REC_ST_DELIV_COUNT [k], c REC_ST_DROP_COUNT [k], c REC_ST_PEND_COUNT [k]]
      { what := 4, blk := .recs, cnt := v,
        holds := since (nth v 0 0) (nth v 1 0 + nth v 2 0) = nth v 3 0 && (!streamOpen s k || nth v 3 0 ≤ streamCap s k) }) ++
    (List.range 8).map (fun k =>
      let v := [c CAN_OWN_NFREE [k], c CAN_OWN_NSW [k], c CAN_OWN_NCTRL [k]]
      { what := 5, blk := .can, holds := v.foldl (· + ·) 0 = 64, cnt := v }) ++
    (List.range 4).map (fun p =>
      let v := [c RIO_P_SENT_COUNT [p], c RIO_P_RET_COUNT [p], c RIO_P_LOST_COUNT [p]]
      { what := 6, blk := .rio, holds := nth v 0 0 = (nth v 1 0 + nth v 2 0) % 2 ^ 32, cnt := v }) ++
    [{ what := 7, blk := .evl, holds := nth evl 0 0 = (nth evl 1 0 + nth evl 2 0 + nth evl 3 0) % 2 ^ 32, cnt := evl }]
  all.filter (fun i => s.powered i.blk)

/-- A violated identity is recorded with its counters, and puts the device in Safe at the next base tick (R47). -/
def conservationFault (s : State) (i : Identity) : State :=
  let w := fun (k : Nat) => nth i.cnt k 0 % 2 ^ 32
  (s.emit 6 0x03 i.blk 0xFFFF 0xFF i.what (w 0 + w 1 * 2 ^ 32 + w 2 * 2 ^ 64)).raiseSafe 1

/-- CONSERVATION_CHECK (R46): on a base tick divisible by 200 each owning block checks its identities. -/
def execConservationCheck (s : State) : Host.Outcome State Fault Refusal :=
  run [.sys] (fun s => match s.adm.lastTick with
    | some n => if n % 200 = 0 then ((identities s).filter (fun i => !i.holds)).foldl conservationFault s else s
    | none => s) s

/-! ### Memory errors (R48) -/

/-- UNCORRECTABLE_MEMORY_ERROR (R48): an error at an address of memory `mem` + 1 (as the MEMORY event codes it) that block b
reports; `reader` is the core that read it, which takes ECC (14 R394). An error of the island's SRAM puts the island in SAFE
(16 R430) and raises no MEMORY event (log 146). -/
def execUncorrectableMemoryError (mem : Fin 7) (a : Word) (b : Block) (reader : Option (Fin 18)) (s : State) :
    Host.Outcome State Fault Refusal :=
  run [.sys] (fun s =>
    if reader = some 17 && mem.val = 3 then islHard 2 s
    else
      let s := (s.emit 6 0x04 b 0xFFFF 0xFF a.toNat (mem.val + 1)).raiseSafe 2
      match reader with
      | some c => if mem.val < 4 && ((s.core c.val).run = .running) && !(s.core c.val).halted then
          preciseException c.val 11 (mem.val + 1) (s.core c.val).pc a.toNat s
        else s
      | none => s) s

end Sys2Proof.Machine
end

