-- ==== Sys2Proof/Machine/Seed.lean ====
section
/-!
DEFINITION. Seeds and resets (18 R510 to R518), the Keeper's watchdog (21 R572) and trials (22 R602 to R605).
-/
namespace Sys2Proof.Machine

/-- Change the Seed's state. -/
def State.modSeed (s : State) (f : SeedSt → SeedSt) : State := { s with seed := f s.seed }

/-- A RESET event with bits of SYS_RSTCAUSE (R517). -/
def resetEvent (sev bits : Nat) (s : State) : State := s.emit sev 0x06 .sys 0xFFFF 0xFF bits

/-- Whether nRESET holds a Seed before step 5 (R510, R516). -/
def pinHolds (s : State) : Bool := s.seed.pinLow && !s.seed.ignored

/-- The instant from which the 2 s of a low nRESET count; none before device time starts. -/
def pinFrom (s : State) : Option Nat := if s.tb.started then some s.now else none

/-- The two seconds of R516. -/
def stuckF : Nat := 2 * secF

/-! ### The steps (R510, R513) -/

/-- The step after step k. -/
def seedNext (s : State) (k : Nat) : Nat := if k = 3 && !s.seed.cold then 5 else k + 1

/-- Step 1: the Keeper runs again and D1 is up; the log is recounted (21 R587); resets, a dip and a cut commit that wait to
be recorded are recorded (R517, 19 R533, R534). -/
def seedStep1 (s : State) : State :=
  let s := evlRecount (islPowerUp s)
  let s := if s.seed.record = 1 then resetEvent 3 1 s
    else if s.seed.record = 2 then resetEvent 5 2 (s.emit 3 0x05 .sys 0xFFFF 0xFF (1 + s.fld SYS_MODE_PREV * 256))
    else s
  let s := s.modSeed (fun x => { x with record := 0 })
  let s := match s.pwrs.late with
    | some w => powerEvent 4 3 0 0 w (s.modPwr (fun x => { x with late := none }))
    | none => s
  if s.pwrs.cut then
    powerEvent 5 4 0 0 0 (((s.raise PWR_STAT_CUTF).incrSat PWR_DIPCNT_CUT).modPwr (fun x => { x with cut := false }))
  else s

/-- The Keeper starts at address 0 of its local SRAM (14 R400). -/
def keeperStart (s : State) : State := (coreClear 16 s).coreDo 16 .running

/-- Step 2 (22 R602): the slot that boots. A trial slot that fails its checks falls back, and step 2 runs again. -/
def seedStep2 (s : State) : State × Bool :=
  let act := s.fld UPD_SLOT_ACTIVE
  if trialPending s then
    let k := s.fld UPD_SLOT_TRIALSLOT
    if slotGood s k then (s.modSeed (fun x => { x with slot := k, noSlot := false }), true)
    else (keeperReset (trialFail 4 s), false)
  else if slotGood s act then (s.modSeed (fun x => { x with slot := act, noSlot := false }), true)
  else if slotGood s (1 - act) then
    let s := s.modSeed (fun x => { x with slot := 1 - act, noSlot := false })
    (updateEvent 6 3 0 act (slotHeader s act) s, true)
  else (s.modSeed (fun x => { x with noSlot := true }), true)

/-- Step 3 (22 R607): the settings copy. -/
def seedStep3 (s : State) : State :=
  let r := settingsCheck s
  r.2.modSeed (fun x => { x with copy := r.1.getD 0, noSet := r.1.isNone })

/-- Step 4: REFCLK is present, the PLLs lock, device time starts (03 R84, R92). -/
def seedStep4 (s : State) : State :=
  let s := s.setFld CLK_STAT_PRESENT (s.fld CLK_STAT_PRESENT ||| 1)
  let s := s.setFld CLK_STAT_LOCK 0xF
  let s := (List.range 2).foldl (fun s k => relock s (4 + k)) s
  if s.tb.started then s else startTime s

/-- The memories of D3, D4 and D6 are cleared with valid ECC. -/
def clearMemories (s : State) : State :=
  ([3, 4, 6].flatMap domainSpans).foldl (fun s p => eraseSpan p.1 p.2 s) s

/-- Domain d in step 5: one that faults as it is switched on is recorded and stays off (19 R541). -/
def seedDomain (flt cause : Nat) (s : State) (d : Nat) : State :=
  if s.domOn d || !domainWanted s d || (bit (s.fld PWR_DOMSTAT_FLT) d && !faultReboots d) then s
  else if bit flt d then
    let s := (s.setFld PWR_DOMSTAT_FLT (s.fld PWR_DOMSTAT_FLT ||| 2 ^ d)).raise PWR_STAT_DOMFLTF
    let s := (s.incrSat PWR_DOM_FLT_COUNT [d]).setFld PWR_DOM_FLT_CAUSE cause [d]
    let s := powerEvent (if faultReboots d then 6 else 5) 1 d cause 0 s
    if faultReboots d then s.modSeed (fun x => { x with failed := 1 }) else s
  else if s.seed.cold then
    let s := domainOn d s
    if d = 7 then (List.range 4).foldl (fun s n => loadTrim n s) s else s
  else switchOn d s

/-- Step 5: D3 to D11 as the settings enable them. -/
def seedStep5 (flt cause : Nat) (s : State) : State :=
  let en := match getKey (copyRecords s s.seed.copy) (PWR_DOMEN.addr []) with
    | some v => v % 2 ^ 12
    | none => 0xFFF
  let s := if (s.seed.cold || s.seed.run3) && !s.seed.noSet then s.setFld PWR_DOMEN_EN ((en &&& 0xF98) ||| 0x67) else s
  let s := if s.seed.cold && !s.seed.again then clearMemories s else s
  let s := (2 :: (List.range 9).map (· + 3)).foldl (seedDomain flt cause) s
  arcSync (rfaMirror (pwmRefresh (acqSync s)))

/-- The increment registers that the settings loaded are writes of the Keeper while device time counts: they take effect 40 ns
later (03 R87, R89); `cnt` is the count before them. -/
def seedIncrements (cnt : Nat) (s : State) : State :=
  if !s.tb.started then s
  else
    let new := s.altCnt
    let s := pendTb (.alt (s.reg TIME_INCR_ALT).toNat) (pendTb (.incr (s.reg TIME_INCR).toNat) (s.setAlt cnt))
    if new ≠ 0 then pendTb (.cnt new) s else if cnt ≠ 0 then pendTb .stop s else s

/-- The blocks are configured: each drives its balls from now on, at the levels of its state (18 R519, 23 R623). -/
def firstDrive (s : State) : State :=
  let was := s.hiz
  let s := axesConfigured (ballsOn [.beacon, .pwmH, .pwmL, .stepOut, .dirOut, .winding] s)
  if !was.contains .pwmH then s
  else
    let s := (List.range 64).foldl (fun s k => pairShow k s) s
    let s := (List.range 64).foldl (fun s k => (s.ball .stepOut k (b2n (s.isSet MOT_AX_CFG_POLSTEP [k]))).ball .dirOut k
      (b2n ((s.axis k).neg != !s.isSet MOT_AX_CFG_POLDIR [k]))) s
    (List.range 16).foldl (fun s n => beaconPin n (nth s.beacons n {}).pulse.isSome s) s

/-- Step 6: the settings are loaded in a cold Seed and where step 3 ran, the checks of leaving Provision are made, every LK
field locks. -/
def seedStep6 (s : State) : State :=
  let s := if s.seed.cold || s.seed.run3 then
      let old := (List.range 4).map (fun n => s.isSet RFA_CH_CFG_EN [n])
      let s := seedIncrements s.altCnt (loadSettings (if s.seed.noSet then none else some s.seed.copy) s)
      (List.range 4).foldl (fun s n => enChange n (nth old n false) s) s
    else s
  keySetSync (canCount (acqSync (rfaMirror (firstDrive (pwmRefresh (lockAll (leaveChecks s)))))))

/-- Step 7: the program is restored, and the cores of powered clusters start (R512). -/
def seedStep7 (s : State) : State :=
  let s := programRestore s.seed.power s
  if s.seed.noSlot then s
  else (List.range 16).foldl (fun s c =>
    if s.domOn (3 + c / 8) then (coreClear c s).coreDo c .running else s) s

/-- The remote ports that the settings enable: those with an enabled station. -/
def seedPorts (s : State) : List Nat :=
  (List.range 4).filter (fun p => !(enabledStns s p).isEmpty && !(2 ≤ p && islPorts s))

/-- Discovery of the ports that step 8 starts (09 R269). -/
def seedDiscover (s : State) : State :=
  if !s.powered .rio then s
  else (seedPorts s).foldl (fun s p => rioDisc p (s.raise RIO_P_CTL_EN [p])) s

/-- Step 8: the ports whose discovery has ended are started, and the enabled CAN controllers run (12 R340). -/
def seedStep8 (s : State) : State :=
  let s := if s.powered .rio then
      (seedPorts s).foldl (fun s p => if s.fld RIO_P_STAT_STATE [p] = 2 then rioStart p s else s) s
    else s
  if !s.powered .can then s
  else (List.range 8).foldl (fun s c =>
    if s.isSet CAN_CTL_EN [c] then
      (s.lower CAN_CTL_INIT [c]).modCan c (fun x => { x with since := s.now, rx := [], quiet := [] })
    else s) s

/-- A step fails: 4 and 5 end the Seed in Safe, 6 in Provision (R510). -/
def seedFail (s : State) : State :=
  match s.seed.step with
  | 4 | 5 => s.modSeed (fun x => { x with failed := 1, step := 9 })
  | 6 => s.modSeed (fun x => { x with failed := 2, step := 9 })
  | _ => s

/-- The running step completes. -/
def seedStep (flt cause : Nat) (s : State) : State :=
  let k := s.seed.step
  let go := fun (s : State) => s.modSeed (fun x => { x with step := if x.failed ≠ 0 then 9 else seedNext s k })
  match k with
  | 1 => go (seedStep1 s)
  | 2 => let r := seedStep2 s; if r.2 then go (keeperStart r.1) else r.1
  | 3 => go (seedStep3 s)
  | 4 => go (seedStep4 s)
  | 5 => go (seedStep5 flt cause s)
  | 6 => go (seedStep6 s)
  | 7 => go (seedDiscover (seedStep7 s))
  | 8 => go (seedStep8 s)
  | _ => s

/-- Whether a Seed runs: its feed has returned. -/
def seeding (s : State) : Bool := s.mode = .seed && !s.pwrs.fed

/-- SEED_STEP_DONE (R510): the running step completes, or fails; in step 5 the domains of `flt` fault with the cause bits as
they are switched on. Before step 5 nRESET holds the Seed. -/
def execSeedStepDone (ok : Bool) (flt : BitVec 12) (cause : BitVec 3) (s : State) : Host.Outcome State Fault Refusal :=
  run [.sys] (fun s =>
    if !seeding s || (s.seed.step = 5 && pinHolds s) then s
    else if ok then seedStep flt.toNat cause.toNat s else seedFail s) s

/-! ### Power-good (R504, R510) -/

/-- A Seed begins at a step. From D0 power-good on the OWN balls are driven, low until a group is claimed (R519). -/
def beginSeed (step : Nat) (cold run3 power : Bool) (s : State) : State :=
  let z := s.hiz.contains .own
  let s := ballsOn [.own] s
  let s := if z then (List.range 4).foldl (fun s g => s.ball .own g 0) s else s
  let two := step ≤ 2
  let s := s.modUpd (fun u => { u with confirm := false, grave := false })
  s.modSeed (fun x => { x with step := step, cold := cold, run2 := two, run3 := run3, reboot := none, failed := 0,
                               noSlot := x.noSlot && !two, noSet := x.noSet && !run3, power := power, again := false })

/-- D0_POWER_GOOD (R504, R510): from Dark a POR reset, after a FEED reset the feed's return; the cold Seed begins. `low` is
the level of nRESET. -/
def execD0PowerGood (low : Bool) (s : State) : Host.Outcome State Fault Refusal :=
  runAlways [.sys, .pwr] (fun s =>
    let pin := fun (s : State) => s.modSeed (fun x => { x with pinLow := low, pinAt := none })
    if s.mode = .dark then
      let t := (powerReset true s).setFld SYS_MODE_CUR 1
      pin (beginSeed 1 true true true { t with pwrs := { cut := s.pwrs.cut }, seed := { record := 1 } })
    else if s.pwrs.fed then
      let x := s.pwrs
      pin (beginSeed 1 true true true { s.lower PWR_STAT_WARN with pwrs := { x with fed := false } })
    else s) s

/-! ### The end of a Seed (R511, R524) -/

/-- Whether the device resumes (R511). -/
def resumes (s : State) : Bool :=
  s.peek (copyAddr s.seed.copy + 6) 1 = 1 && s.isl.st = islRun &&
    match modeRecBest s with
    | some k => [5, 6, 10, 11].contains (s.peek (modeRecAddr k + 8) 1)
    | none => false

/-- The mode that follows the Seed (R510, R511): none where the partner executes, so that a resync begins. -/
def seedMode (s : State) : Option Mode :=
  if s.seed.failed = 1 then some .safe
  else if s.seed.noSlot then some .keeper
  else if s.seed.noSet || s.seed.failed = 2 then some .provision
  else if s.isSet TWIN_CTL_EN && s.twin.peer.any (fun h => h.exec) then none
  else if trialPending s then some (if s.isl.st = islRun then .trial else .stop)
  else if resumes s then some .run
  else some .stop

/-- The reference of the time-base PLL at the end of a Seed (03 R84): TREFCLK with USETREF while it is present, otherwise
REFCLK. In a warm Seed, where device time runs, another reference than before is a change, which sets TB_SWITCH (log 206). -/
def seedTbRef (s : State) : State :=
  let want := s.isSet CLK_TBSEL_USETREF && bit (s.fld CLK_STAT_PRESENT) 1
  if want = s.isSet CLK_STAT_TBSRC then s
  else
    let s := (s.setFld CLK_STAT_TBSRC (b2n want)).lower CLK_STAT_HOLDOVER
    let s := { s with tbPll := { s.tbPll with holdFrom := none } }
    if s.seed.cold then s else s.raise CLK_FLAGS_TB_SWITCH

/-- The Seed ends at tick n. -/
def seedEnd (n : Nat) (s : State) : State :=
  let m := seedMode s
  let run := m = some .run
  let s := seedTbRef s
  let s := s.modSeed (fun x => { x with step := 10, reboot := none })
  let s := { s with mc := { s.mc with resumed := run } }
  let due := s.now + s.fld UPD_CTL_DEADLINE * secF
  let s := if trialPending s then s.modUpd (fun u => { u with due := some due }) else s
  match m with
  | none => resyncStart s
  | some m =>
    let s := takeMode n m 3 none s
    if s.isSet TWIN_CTL_EN && s.mode ≠ .keeper then
      match s.twin.peer with
      | some h => helloRole h s
      | none => s
    else s

/-- SEED_END (R511): step 9 decides the next mode, taken at a base tick. -/
def execSeedEnd (s : State) : Host.Outcome State Fault Refusal :=
  run [.sys] (fun s =>
    if !seeding s || s.seed.step ≠ 9 then s
    else
      let n := s.tick + 1
      seedEnd (if s.tb.started then n else s.tick) (advanceTo (tickAt n) s)) s

/-! ### nRESET (R515, R516, R518) -/

/-- nRESET is accepted (R515): the planes are reset, and a warm Seed waits for the release; a Seed in progress is extended
(R518). -/
def pinAccept (s : State) : State :=
  let at_ := pinFrom s
  let low := fun (s : State) => s.modSeed (fun x => { x with pinLow := true, pinAt := at_ })
  let note := fun (s : State) => resetEvent 4 4 (s.raise SYS_RSTCAUSE_PIN)
  if s.mode ≠ .seed then
    low (beginSeed 5 false false false (note (planesReset (setMode s.tick .seed 0 none s))))
  else
    let x := s.seed
    let t := low (note (planesReset s))
    if 6 ≤ x.step && x.step ≠ 10 then
      t.modSeed (fun y => { y with step := 5, failed := 0, again := x.cold })
    else t

/-- NRESET_ACCEPT (R515, R516): nRESET has been low for 100 ns. While it is ignored, the wait for 100 ms of high starts
again. -/
def execNresetAccept (s : State) : Host.Outcome State Fault Refusal :=
  run [.sys] (fun s =>
    if s.seed.pinLow then s
    else if s.seed.ignored then s.modSeed (fun x => { x with pinLow := true, highAt := none })
    else pinAccept s) s

/-- NRESET_RELEASE (R513): nRESET is released, and the Seed that it held goes on from step 5. -/
def execNresetRelease (s : State) : Host.Outcome State Fault Refusal :=
  run [.sys] (fun s =>
    if !s.seed.pinLow then s
    else s.modSeed (fun x => { x with pinLow := false, pinAt := none, highAt := if x.ignored then some s.now else none })) s

/-- NRESET_STUCK (R516): nRESET has been low for 2 s: the reset completes, and the pin is ignored. -/
def execNresetStuck (s : State) : Host.Outcome State Fault Refusal :=
  run [.sys] (fun s =>
    if !pinHolds s || s.pwrs.fed then s
    else
      let s := match s.seed.pinAt with
        | some t => advanceTo (t + stuckF) s
        | none => s
      (resetEvent 5 16 (s.raise SYS_RSTCAUSE_RESET_STUCK)).modSeed (fun x =>
        { x with ignored := true, pinAt := none, highAt := none })) s

/-- NRESET_REARM (R516): nRESET has been high for 100 ms without a break since RESET_STUCK. -/
def execNresetRearm (s : State) : Host.Outcome State Fault Refusal :=
  run [.sys] (fun s => match s.seed.highAt with
    | none => s
    | some t => (advanceTo (t + 100000000 * nsF) s).modSeed (fun x => { x with ignored := false, highAt := none })) s

/-! ### Soft reset, watchdog, trial -/

/-- BLOCK_SOFT_RESET (R517): a request of a role for block b through the Keeper's control port. -/
def execBlockSoftReset (b : Block) (role : Role) (s : State) : Host.Outcome State Fault Refusal :=
  run [.sys, .kpr] (fun s =>
    if role = .operator then modeReply 69 0 0 codeGuard s
    else match blockPlane b with
      | .control =>
        if s.effMode = .stop || s.effMode = .provision then s.pushItem 376 s.now (.softReset b.index 69)
        else modeReply 69 0 0 codeMode s
      | .data | .management =>
        if 3 ≤ s.mode.code then modeReply 69 0 0 codeDone (blockReset b s) else modeReply 69 0 0 codeMode s
      | _ => modeReply 69 0 0 codeArgument s) s

/-- A Keeper reset by its watchdog (21 R572), recorded as a reset and as the watchdog's; in Seed the Seed restarts from step
2; a pending trial falls back (22 R605). -/
def watchdog (s : State) : State :=
  let s := (keeperStart (keeperReset (s.raise SYS_RSTCAUSE_KEEPER))).incr KPR_WDRST_COUNT
  let sev := Config.watchdogSeverity % 8
  let s := (resetEvent sev 8 s).emit sev 0x11 .kpr 0xFFFF 16 2
  let s := if trialPending s then trialFail 3 s else s
  if s.mode = .seed && s.seed.step ≠ 10 then
    let late := 6 ≤ s.seed.step
    (planesReset s).modSeed (fun x => { x with step := min 2 x.step, run2 := true, run3 := true, failed := 0,
                                               noSlot := false, noSet := false, again := x.again || (late && x.cold) })
  else s

/-- KEEPER_WATCHDOG (21 R572): the period passes without a kick. -/
def execKeeperWatchdog (s : State) : Host.Outcome State Fault Refusal :=
  run [.kpr] (fun s =>
    if s.pwrs.fed then s
    else
      let had := trialPending s
      let s := watchdog (advanceTo (s.kpr.kickAt + s.fld KPR_WDT_PER * 1000000 * nsF) s)
      if had && s.mode ≠ .seed then nextTickMode { s with seed := { s.seed with reboot := some 2 } } else s) s

/-- A trial falls back with a cause (18 R509, 22 R605): the restart follows at the next base tick. -/
def fallBack (cause : Nat) (s : State) : State :=
  let s := trialFail cause s
  nextTickMode { s with seed := { s.seed with reboot := some 2 } }

/-- TRIAL_HEALTH_CHECK (22 R604, R605): the Keeper's check of a pending trial; the fallback wins. -/
def execTrialHealthCheck (s : State) : Host.Outcome State Fault Refusal :=
  run [.upd] (fun s =>
    if !trialPending s || s.mode = .seed then s
    else if s.upd.due.any (fun t => t ≤ s.now) then fallBack 1 s
    else if s.upd.grave then fallBack 2 s
    else if trialGood s then trialConfirm s
    else s) s

/-- TRIAL_FALLBACK (22 R605): the trial falls back: a Safe cause left by REBOOT only, or the deadline. -/
def execTrialFallback (s : State) : Host.Outcome State Fault Refusal :=
  run [.upd] (fun s =>
    if !trialPending s || s.mode = .seed then s
    else if s.upd.grave then fallBack 2 s
    else match s.upd.due with
      | some t => fallBack 1 (advanceTo t s)
      | none => s) s

end Sys2Proof.Machine
end

