-- ==== Sys2Proof/Machine/Monitor.lean ====
section
/-!
DEFINITION. The Derkeath monitor (22 R613 to R615): its lines, its login and its commands. An answer is a line of numbers: a
data line begins with 0 and the number of its form, the status line is 1 and the reason code; an echo is 2 and the characters.
-/
namespace Sys2Proof.Machine

/-- The commands of R615. -/
inductive MonCmd where
  | login (r : Role)
  | auth (resp : List Byte)
  | logout
  | mode (target : Option Nat)
  | peek (a words : Nat)
  | poke (a v : Nat)
  | log (n sev : Nat) (keel : Bool)
  | sense | time | twin
  | updStatus
  | updBegin (h : List Byte)
  | updData (ofs : Nat) (bs : List Byte)
  | updOp (op : Nat)
  | baud (rate : Nat)
  | help (cmd : Option Nat)
  deriving DecidableEq, Repr

/-! ### Lines (R613) -/

/-- The characters of a word, in lower case. -/
def word (t : String) : List Nat := t.toList.map Char.toNat

/-- A received character: taken, or the last one deleted, or discarded; letters in lower case. -/
def takeChar (l : List Nat) (c : Nat) : List Nat :=
  if c = 8 then l.dropLast
  else if 0x20 ≤ c && c ≤ 0x7E then l ++ [if 0x41 ≤ c && c ≤ 0x5A then c + 0x20 else c]
  else l

/-- The words of a line: the runs of characters other than blanks. -/
def lineWords (l : List Nat) : List (List Nat) :=
  let x := l.foldl (fun (p : List (List Nat) × List Nat) c =>
    if c = 0x20 then (if p.2.isEmpty then p else (p.1 ++ [p.2], [])) else (p.1, p.2 ++ [c])) ([], [])
  if x.2.isEmpty then x.1 else x.1 ++ [x.2]

/-- The value of a hexadecimal digit. -/
def hexDigit (c : Nat) : Option Nat :=
  if 0x30 ≤ c && c ≤ 0x39 then some (c - 0x30) else if 0x61 ≤ c && c ≤ 0x66 then some (c - 0x57) else none

/-- Digits in a base, with underscores between them. -/
def digits (base : Nat) (l : List Nat) : Option Nat :=
  let ds := l.filter (· ≠ 0x5F)
  if ds.isEmpty then none
  else ds.foldl (fun (a : Option Nat) c => match a, hexDigit c with
    | some a, some d => if d < base then some (a * base + d) else none
    | _, _ => none) (some 0)

/-- A number: decimal, or hexadecimal after 0x. -/
def number : List Nat → Option Nat
  | 0x30 :: 0x78 :: t => digits 16 t
  | l => digits 10 l

/-- Bytes as plain hexadecimal digits, two for each. -/
def hexBytes : List Nat → Option (List Byte)
  | [] => some []
  | a :: b :: t => match hexDigit a, hexDigit b, hexBytes t with
    | some x, some y, some bs => some (BitVec.ofNat 8 (16 * x + y) :: bs)
    | _, _, _ => none
  | [_] => none

/-- The target of a mode command. -/
def modeWord (w : List Nat) : Option Nat :=
  if w = word "run" then some 5 else if w = word "hold" then some 6 else if w = word "stop" then some 4
  else if w = word "provision" then some 3 else if w = word "keeper" then some 2 else if w = word "safe" then some 9
  else if w = word "reboot" then some 16 else none

/-- The number of a command's name, for `help`. -/
def cmdWord (w : List Nat) : Option Nat :=
  ["login", "auth", "logout", "mode", "peek", "poke", "log", "sense", "time", "twin", "update", "baud", "help"].zipIdx.findSome?
    (fun (p : String × Nat) => if word p.1 = w then some p.2 else none)

/-- The arguments of `log`, in their order. -/
def logArgs (ws : List (List Nat)) : Option MonCmd :=
  let n := match ws with
    | w :: t => match number w with
      | some k => (k, t)
      | none => (10, w :: t)
    | [] => (10, [])
  let s := match n.2 with
    | [] => some (0, [])
    | k :: t => if k = word "sev" then (match t with
        | v :: t => (number v).map (fun v => (v, t))
        | [] => none)
      else some (0, k :: t)
  match s with
  | some (sev, []) => some (.log n.1 sev false)
  | some (sev, [k]) => if k = word "keel" then some (.log n.1 sev true) else none
  | _ => none

/-- The commands after `update`. -/
def updArgs (ws : List (List Nat)) : Option MonCmd :=
  match ws with
  | [w] => if w = word "status" then some .updStatus else if w = word "finish" then some (.updOp 3)
    else if w = word "activate" then some (.updOp 4) else if w = word "confirm" then some (.updOp 5)
    else if w = word "cancel" then some (.updOp 6) else none
  | [w, h] => if w = word "begin" then ((hexBytes h).filter (fun b => b.length = 256)).map .updBegin else none
  | [w, o, h] => if w = word "data" then (match number o, hexBytes h with
      | some o, some bs => if within bs.length 1 256 then some (.updData o bs) else none
      | _, _ => none)
    else none
  | _ => none

/-- A line's command (R615); none where the line is no command. -/
def parseLine (ws : List (List Nat)) : Option MonCmd :=
  match ws with
  | [] => none
  | k :: t => match cmdWord k, t with
    | some 0, [r] => if r = word "operator" then some (.login .operator) else if r = word "installer" then some (.login .installer)
        else if r = word "maker" then some (.login .maker) else none
    | some 1, [h] => (hexBytes h).map .auth
    | some 2, [] => some .logout
    | some 3, [] => some (.mode none)
    | some 3, [m] => (modeWord m).map (fun m => .mode (some m))
    | some 4, [a] => (number a).map (fun a => .peek a 1)
    | some 4, [a, n] => match number a, number n with
      | some a, some n => some (.peek a n)
      | _, _ => none
    | some 5, [a, v] => match number a, number v with
      | some a, some v => some (.poke a v)
      | _, _ => none
    | some 6, t => logArgs t
    | some 7, [] => some .sense
    | some 8, [] => some .time
    | some 9, [] => some .twin
    | some 10, t => updArgs t
    | some 11, [r] => (number r).map .baud
    | some 12, [] => some (.help none)
    | some 12, [c] => (cmdWord c).map (fun c => .help (some c))
    | _, _ => none

/-! ### Commands (R614, R615) -/

/-- A data line. -/
def dataLine (form : Nat) (l : List Nat) (s : State) : State := s.say (.line (0 :: form :: l))

/-- The status line. -/
def statusLine (code : Nat) (s : State) : State := s.say (.line [1, code])

/-- The least role of a command; none where it is accepted before login. -/
def monRole : MonCmd → Option Role
  | .login _ | .auth _ | .help _ | .baud _ => none
  | .updBegin _ | .updData .. | .updOp _ => some .installer
  | _ => some .operator

/-- A login begins: the role is held from now on. -/
def monEnter (r : Role) (s : State) : State :=
  let now := s.now
  roleItem 68 r.code (sessionEvent sessSev 3 r 3 0 0 0xFFFF (s.modKpr (fun k => { k with login := some (r, now), chal := none })))

/-- login (21 R590, R591): a challenge, or for an installer without a key the login itself. -/
def monLogin (r : Role) (s : State) : State :=
  if s.kpr.login.isSome then statusLine codeBusy s
  else if r = .installer && !keySet s .installer then statusLine codeDone (monEnter r s)
  else
    let d := s.draw
    let c := d.1 % 2 ^ 128
    let now := s.now
    statusLine codeDone (dataLine 0 [c] (d.2.modKpr (fun k => { k with chal := some (r, c, now) })))

/-- auth (21 R591, R592): the response to the challenge, which is valid once and for 60 s. -/
def monAuth (resp : List Byte) (s : State) : State :=
  let fail := fun (r : Role) (judged : Bool) (s : State) => statusLine codeGuard (failedProof r 3 0 judged s)
  match s.kpr.chal with
  | none => fail .operator true s
  | some (r, c, t) =>
    if lockedOut s 3 0 then fail r false s
    else
      let s := s.modKpr (fun k => { k with chal := none })
      let tag := if r = .maker then ascii "KVMC" else ascii "KVCH"
      let msg := tag ++ proofDev s r ++ leBytes 1 r.code ++ leBytes 16 c
      if s.now < t + 60 * secF && proofMatches s r msg resp then statusLine codeDone (monEnter r s) else fail r true s

/-- The words of a peek, until a read fails. -/
def peekWords (m : Master) (a : Nat) : Nat → State → (List Nat × Nat) × State
  | 0, s => (([], codeDone), s)
  | n + 1, s =>
    let x := busRead m a 4 s
    match x.1 with
    | .ok v => let y := peekWords m (a + 4) n x.2; ((v :: y.1.1, y.1.2), y.2)
    | .err r => (([], reasonCode r), x.2)

/-- The lines of a peek, four words in each. -/
def peekLines (a : Nat) (ws : List Nat) (s : State) : State :=
  (List.range (ceilDiv ws.length 4)).foldl (fun s i => dataLine 1 ((a + 16 * i) :: (ws.drop (4 * i)).take 4) s) s

/-- The newest records of a severity or more, newest first, with those that still wait for MRAM. -/
def logRecords (n sev : Nat) (keel : Bool) (s : State) : List EvRec :=
  let later := s.evl.queue ++ s.evl.held
  let slots := (listedSlots s).filter (fun i => slotValid s i && !later.any (fun q => q.1 = i))
  let recs := ((slots.map (fun i => (i, slotRec s i)) ++ later).filter (fun q => !keel || 65536 ≤ q.1)).map (·.2)
  let recs := recs.filter (fun r => sev ≤ r.sev)
  ((sortBy (fun (a b : EvRec) => b.seq ≤ a.seq) recs)).take n

/-- The rate of a BAUD code and back. -/
def baudRates : List Nat := [115200, 230400, 460800, 921600, 1000000, 2000000, 3000000]

/-- The effect of a command, by a login of a role. -/
def monDo (role : Role) (c : MonCmd) (s : State) : State :=
  let m := Master.keeperFor role
  match c with
  | .login r => monLogin r s
  | .auth h => monAuth h s
  | .logout => statusLine codeDone (monLogout s)
  | .mode none =>
    statusLine codeDone (dataLine 2 [s.fld SYS_MODE_CUR, s.fld SYS_MODE_PREV, s.mc.safeCause] s)
  | .mode (some t) => modeRequest t role 68 0 s
  | .peek a n =>
    if !within n 1 64 then statusLine codeArgument s
    else
      let x := peekWords m a n s
      if x.1.2 = codeDone then statusLine codeDone (peekLines a x.1.1 x.2) else statusLine x.1.2 x.2
  | .poke a v =>
    if 2 ^ 32 ≤ v then statusLine codeArgument s
    else
      let x := busWrite m a 4 v s
      match x.1 with
      | .ok _ => statusLine codeDone x.2
      | .err r => statusLine (reasonCode r) x.2
  | .log n sev keel =>
    if !within n 1 64 || 7 < sev then statusLine codeArgument s
    else
      let s := (logRecords n sev keel s).foldl (fun s (r : EvRec) =>
        dataLine 3 [r.seq, r.sev, r.kind, r.blk, r.inst, r.first, r.rep, r.d0 + r.d1 * 2 ^ 32] s) s
      statusLine codeDone s
  | .sense =>
    let s := (List.range 24).foldl (fun s i => dataLine 4 [i, s.fld KPR_TEMP_NOW [i]] s) s
    let feed := fun (i : Nat) (w : Word) (s : State) => dataLine 5 [i, w.toNat % 2 ^ 12, w.toNat / 2 ^ 16 * 10] s
    let s := feed 1 (s.reg PWR_FEED_B) (feed 0 (s.reg PWR_FEED_A) s)
    let s := (List.range 12).foldl (fun s d =>
      if s.domOn d then dataLine 6 [d, (s.reg PWR_DOM_V [d]).toNat % 2 ^ 12, (s.reg PWR_DOM_V [d]).toNat / 2 ^ 16] s else s) s
    statusLine codeDone s
  | .time =>
    statusLine codeDone (dataLine 7 [s.now / secF, s.now % secF / nsF, s.tick, s.fld CLK_STAT_TBSRC] s)
  | .twin =>
    let f : Fld → Nat := fun x => s.fld x
    statusLine codeDone (dataLine 8 [f TWIN_STAT_ROLE, f TWIN_STAT_INSTEP, f TWIN_CTL_PEERDEV, f TWIN_EPOCH_EPOCH,
      f TWIN_STAT_OWNED, f TWIN_STAT_PEEROWN] s)
  | .updStatus =>
    let f : Fld → Nat := fun x => s.fld x
    statusLine codeDone (dataLine 9 [f UPD_STAT_STATE, f UPD_STAT_ERR, f UPD_STAT_NCHUNK, f UPD_SLOT_ACTIVE, f UPD_SLOT_TRIAL,
      (trialLeft s).toNat] s)
  | .updBegin h => if s.isSet UPD_STAT_BUSY then statusLine codeBusy s else updBegin h (s.modUpd (fun u => { u with mon := true }))
  | .updData o bs =>
    if !within bs.length 1 256 then statusLine codeArgument s
    else if s.isSet UPD_STAT_BUSY then statusLine codeBusy s
    else updChunk o bs (s.modUpd (fun u => { u with mon := true }))
  | .updOp op =>
    if s.isSet UPD_STAT_BUSY then statusLine codeBusy s
    else
      let s := s.modUpd (fun u => { u with mon := true })
      match op with
      | 3 => updFinish s
      | 4 => updActivate s
      | 5 => updConfirm s
      | _ => updCancel s
  | .baud r => match baudRates.idxOf? r with
    | some k => statusLine codeDone (s.setFld UPD_MON_BAUD k)
    | none => statusLine codeArgument s
  | .help c => statusLine codeDone (dataLine 10 ((c.map (fun c => [c])).getD (List.range 13)) s)

/-- A line has come: the 600 s of the login count from it (R614). -/
def monHeard (s : State) : State :=
  let now := s.now
  s.modKpr (fun k => { k with login := k.login.map (fun l => (l.1, now)) })

/-- A command is served (R613, R614): an overloaded Keeper answers BUSY; the role is judged first. -/
def monServe (c : MonCmd) (s : State) : State :=
  if 64 ≤ s.kpr.qQ.length then statusLine codeBusy (queryBusy s)
  else
    let s := monHeard s
    match monRole c, s.kpr.login with
    | none, l => monDo ((l.map (·.1)).getD .operator) c s
    | some _, none => statusLine codeGuard s
    | some least, some (r, _) => if roleAtLeast r least then monDo r c s else statusLine codeGuard s

/-- A line is taken (R613): an empty one is ignored; one longer than 600 characters, or that is no command, is answered
ARGUMENT; before login a line that is no command is answered GUARD. With ECHO the characters received go out first. -/
def monLine (cs : List Nat) (s : State) : State :=
  let s := if s.isSet UPD_MON_ECHO then s.say (.line (2 :: cs)) else s
  let l := cs.foldl takeChar []
  if l.isEmpty then s
  else
    let s := monHeard s
    if 600 < l.length then statusLine codeArgument s
    else match parseLine (lineWords l) with
      | some c => monServe c s
      | none => statusLine (if s.kpr.login.isSome then codeArgument else codeGuard) s

/-- The frame of the monitor's commands: the Keeper runs. -/
def monRun (bs : List Block) (f : State → State) (s : State) : Host.Outcome State Fault Refusal :=
  run bs (fun s => if s.pwrs.fed then s else f s) s

/-- MONITOR_LINE (R613): the characters of a line, without the CR or LF that ends it. -/
def execMonitorLine (cs : List Byte) (s : State) : Host.Outcome State Fault Refusal :=
  monRun [.kpr, .upd] (monLine (cs.map (fun c => c.toNat))) s

/-- MON_LOGIN: login (R615). -/
def execMonLogin (r : Role) (s : State) : Host.Outcome State Fault Refusal := monRun [.kpr] (monServe (.login r)) s
/-- AUTH: auth (R615). -/
def execAuth (resp : List Byte) (s : State) : Host.Outcome State Fault Refusal := monRun [.kpr] (monServe (.auth resp)) s
/-- LOGOUT: logout (R615). -/
def execLogout (s : State) : Host.Outcome State Fault Refusal := monRun [.kpr] (monServe .logout) s
/-- MON_MODE: mode, without or with a target code (16 is REBOOT) (R615). -/
def execMonMode (target : Option (Fin 17)) (s : State) : Host.Outcome State Fault Refusal :=
  monRun [.kpr, .sys] (monServe (.mode (target.map (fun t => t.val)))) s
/-- PEEK: peek (R615). -/
def execPeek (a : Word) (words : Nat) (s : State) : Host.Outcome State Fault Refusal :=
  monRun (.kpr :: touched a.toNat) (monServe (.peek a.toNat words)) s
/-- POKE: poke (R615). -/
def execPoke (a v : Word) (s : State) : Host.Outcome State Fault Refusal :=
  monRun (.kpr :: touched a.toNat) (monServe (.poke a.toNat v.toNat)) s
/-- LOG: log (R615). -/
def execLog (n sev : Nat) (keel : Bool) (s : State) : Host.Outcome State Fault Refusal :=
  monRun [.kpr, .evl] (monServe (.log n sev keel)) s
/-- SENSE: sense (R615). -/
def execSense (s : State) : Host.Outcome State Fault Refusal := monRun [.kpr, .pwr] (monServe .sense) s
/-- TIME: time (R615). -/
def execTime (s : State) : Host.Outcome State Fault Refusal := monRun [.kpr, .time] (monServe .time) s
/-- TWIN: twin (R615). -/
def execTwin (s : State) : Host.Outcome State Fault Refusal := monRun [.kpr, .twin] (monServe .twin) s
/-- UPDATE_STATUS: update status (R615). -/
def execUpdateStatus (s : State) : Host.Outcome State Fault Refusal := monRun [.kpr, .upd] (monServe .updStatus) s
/-- UPDATE_DATA: update data (R615). -/
def execUpdateData (ofs : Nat) (bs : List Byte) (s : State) : Host.Outcome State Fault Refusal :=
  monRun [.kpr, .upd] (monServe (.updData ofs bs)) s
/-- BAUD: baud (R615). -/
def execBaud (rate : Nat) (s : State) : Host.Outcome State Fault Refusal := monRun [.kpr, .upd] (monServe (.baud rate)) s
/-- HELP: help, of every command or of one (R615). -/
def execHelp (c : Option (Fin 13)) (s : State) : Host.Outcome State Fault Refusal :=
  monRun [.kpr] (monServe (.help (c.map (fun t => t.val)))) s

/-- MONITOR_IDLE_TIMEOUT (R614): the login ends 600 s after its last line. -/
def execMonitorIdleTimeout (s : State) : Host.Outcome State Fault Refusal :=
  run [.kpr] (fun s => match s.kpr.login with
    | none => s
    | some (_, t) => monLogout (advanceTo (t + 600 * secF) s)) s

end Sys2Proof.Machine
end

