-- ==== Sys2Proof/Machine/SpwBase.lean ====
section
/-!
DEFINITION. The frame of an SPW32 instruction (14 R366 to R372, R389, R394 to R400): its word, the boundary at which it is
executed, the exceptions it may raise, and the accesses that a core makes.
-/
namespace Sys2Proof.Machine

/-! ### Words (R370) -/

/-- A word of the R format. -/
def wordR (op fn rd ra rb aux : Nat) : Nat := rd * 2 ^ 27 + ra * 2 ^ 22 + rb * 2 ^ 17 + aux * 2 ^ 12 + fn * 2 ^ 6 + op
/-- A word of the I format; in the B format rb stands in the place of rd. -/
def wordI (op rd ra imm : Nat) : Nat := rd * 2 ^ 27 + ra * 2 ^ 22 + imm * 2 ^ 6 + op
/-- A word of the J format. -/
def wordJ (op rd imm : Nat) : Nat := rd * 2 ^ 27 + imm * 2 ^ 6 + op

/-- The functions of the R groups, by OP: for each defined FN the bits that it leaves unused (R373 to R376). -/
def spwUnused (op fn : Nat) : Option Nat :=
  let aux := 0x1F000
  let rb := 0x3E0000
  let ra := 0x7C00000
  let rd := 0xF8000000
  match op with
  | 0x00 =>
    if fn = 0x17 || 0x1A < fn then none
    else if 0x18 ≤ fn then some rb
    else if 0x0D ≤ fn && fn ≤ 0x0F then some (rb + aux) else some aux
  | 0x18 =>
    if 0x0C < fn then none else if [2, 3, 11, 12].contains fn then some (rb + aux) else some aux
  | 0x19 =>
    if 0x10 < fn then none
    else if [0x04, 0x08, 0x09, 0x0D, 0x0E, 0x0F, 0x10].contains fn then some (rb + aux) else some aux
  | 0x1A => if fn ≤ 1 then some aux else none
  | 0x1B => match fn with
    | 0x00 | 0x01 | 0x02 | 0x03 | 0x12 | 0x13 => some (rd + ra + rb + aux)
    | 0x08 => some (ra + rb)
    | 0x09 => some (rd + rb)
    | 0x10 | 0x11 => some (rd + ra)
    | 0x20 => some 0x1C000
    | 0x21 => some (ra + rb + 0x1C000)
    | 0x22 | 0x23 => some (rd + rb + aux)
    | _ => none
  | _ => none

/-- Whether a word is no instruction: its OP or FN is not defined, or an unused field is not 0 (R371, R379). -/
def spwUndefined (w : Nat) : Bool :=
  let op := w % 64
  if op = 0x1E || 0x1F ≤ op then true
  else if op = 0x00 || (0x18 ≤ op && op ≤ 0x1B) then
    match spwUnused op (bits w 11 6) with
    | some mask => w &&& mask ≠ 0
    | none => true
  else op = 0x07 && bits w 26 22 ≠ 0

/-! ### Outcomes -/

/-- What an instruction does: the state it leaves, or a precise exception with its cause, INFO and EADDR. -/
inductive SpwRes where
  | done (s : State)
  | exc (cause info eaddr : Nat) (s : State)
  deriving DecidableEq, Repr

/-- The next instruction follows. -/
def State.pcNext (s : State) (c : Nat) : State := s.modCore c (fun x => { x with pc := (x.pc + 4) % 2 ^ 32 })

/-- The core continues at an address. -/
def State.pcSet (s : State) (c a : Nat) : State := s.modCore c (fun x => { x with pc := a / 4 * 4 % 2 ^ 32 })

/-- A register is written and the next instruction follows. -/
def spwReg (c rd : Nat) (v : Word) (s : State) : SpwRes := .done ((s.setGr c rd v).pcNext c)

/-- Sticky flags of SATF are set (R384): bit 0 ADD, 1 MUL, 2 CVT, 3 LIM, 4 DZ. -/
def State.setSat (s : State) (c : Nat) (f : Nat) : State :=
  s.modCore c (fun x => { x with satf := BitVec.ofNat 32 (x.satf.toNat ||| f) })

/-- A precise exception (R395, R398): the running cycle of the cyclic program ends (13 R350); a double fault of the island's
pair is a safety fault (16 R430). -/
def spwRaise (c cause info eaddr : Nat) (s : State) : State :=
  let pc := (s.core c).pc
  let twice := (s.core c).xact
  let s := rtException c cause pc (preciseException c cause info pc eaddr s)
  if twice && c = 17 then islHard 3 s else s

/-- Whether core c may fetch at an address (R368), and the bus reason where the fetch receives an error response. -/
def fetchAt (s : State) (c a : Nat) : Option Nat :=
  if c < 16 then
    if a < 0x20000 then some 0
    else if 0x10000000 ≤ a && a < 0x14000000 then some (if s.domOn 6 then 0 else BusReason.noresp.code)
    else none
  else if a < (if c = 16 then 0x200000 else 0x100000) then some 0
  else none

/-- IFETCH, with the bus reason; the spec gives none for a fetch outside R368 (free). -/
def fetchFault (c : Nat) (r : Option Nat) (s : State) : State :=
  let pc := (s.core c).pc
  match r with
  | some k => spwRaise c 3 k pc s
  | none => let d := s.draw; spwRaise c 3 (d.1 % 2 ^ 16) pc d.2

/-- The codes of the core's earlier TPOSTs reach their registers. -/
def settle (c : Nat) (s : State) : State :=
  if s.disp.posts.any (fun p => p.src.any (fun x => x.1 = c)) then flushPosts s else s

/-- The instruction boundary of core c (R396): a waiting BUSST, a DEBUG of the instruction, IFETCH, the instruction's own
exception, an interrupt, or the instruction. A core that is halted, in reset, waiting or idle executes none. -/
def instruction (c : Nat) (f : State → SpwRes) (s : State) : State :=
  let x := s.core c
  if x.halted || x.run ≠ .running then s
  else endStep c (
    if x.imp.isSome && !x.xact then rtException c 6 x.pc (takeImprecise c s)
    else if x.bkpt.getLsbD 0 && x.bkpt.toNat / 4 * 4 = x.pc && !x.xact then spwRaise c 13 1 x.pc s
    else if fetchAt s c x.pc ≠ some 0 then fetchFault c (fetchAt s c x.pc) s
    else match f s with
      | .exc cause info ea t => spwRaise c cause info ea t
      | .done t => if interruptReady x then takeInterrupt c s else t)

/-- An instruction of core c that acts on no block beyond the core. -/
def spw (c : Fin 18) (f : State → SpwRes) (s : State) : Host.Outcome State Fault Refusal :=
  run (spwBlocks c.val) (fun s => instruction c.val f (settle c.val s)) s

/-- ILLEGAL_INSTRUCTION (R371): core c meets a word that is no instruction. -/
def execIllegalInstruction (c : Fin 18) (w : Word) (s : State) : Host.Outcome State Fault Refusal :=
  if spwUndefined w.toNat then spw c (fun s => .exc 1 0 w.toNat s) s else run (spwBlocks c.val) id s

/-! ### Accesses (R380, R388, R397, R401) -/

/-- The number of the control register at a core-private address. -/
def privateAt (a : Nat) : Option Nat := if 0xF0000000 ≤ a && a < 0xF0010000 then some ((a - 0xF0000000) / 4) else none

/-- A 32-bit read of a control register by address (R388): an undefined offset falls under 02 R56. -/
def privateRead (c n a : Nat) (s : State) : Resp × State :=
  if 18 < n then (.err .unmapped, refuseAccess (coreMaster c) .sys a .unmapped s)
  else if crG1 n && !(s.core c).priv then (.err .guard, s)
  else let r := crRead c n s; (.ok r.1.toNat, r.2)

/-- A 32-bit write of a control register by address. -/
def privateWrite (c n a : Nat) (w : Word) (s : State) : Resp × State :=
  if 18 < n then (.err .unmapped, refuseAccess (coreMaster c) .sys a .unmapped s)
  else if !crWriteG0 n && !(s.core c).priv then (.err .guard, s)
  else (.ok 0, crWrite c n w s)

/-- A read of `n` bytes by a core. A control register answers as a register does (02 R68). -/
def coreRead (c a n : Nat) (s : State) : Resp × State :=
  match privateAt a with
  | none => busRead (coreMaster c) a n s
  | some k =>
    let x := privateRead c k a s
    match x.1 with
    | .err _ => x
    | .ok v =>
      if n < 8 then (.ok (v / 2 ^ (8 * (a % 4)) % 2 ^ (8 * n)), x.2)
      else
        let y := privateRead c (k + 1) (a + 4) x.2
        match y.1 with
        | .err _ => y
        | .ok h => (.ok (v + h * 2 ^ 32), y.2)

/-- A write of `n` bytes by a core. User mode does not write instruction TCM (R394, reason READONLY). -/
def coreWrite (c a n v : Nat) (s : State) : Resp × State :=
  match privateAt a with
  | none =>
    if c < 16 && a < 0x20000 && !(s.core c).priv then (.err .readonly, refuseAccess (coreMaster c) .sys a .readonly s)
    else busWrite (coreMaster c) a n v s
  | some k =>
    if n < 4 then badWidth (coreMaster c) a s
    else
      let x := privateWrite c k a (BitVec.ofNat 32 v) s
      match x.1 with
      | .err _ => x
      | .ok _ => if n = 4 then x else privateWrite c (k + 1) (a + 4) (BitVec.ofNat 32 (v / 2 ^ 32)) x.2

/-- Whether a store to an address is precise: TCM, local SRAM or a control register (R397). -/
def preciseStore (c a : Nat) : Bool := (localAt (coreMaster c) a 1).isSome || (privateAt a).isSome

/-- A store (R380, R397): a misaligned one raises ALIGN; the error of a posted one waits as an imprecise BUSST, the first to
be reported. The next instruction follows before the store acts on the core itself. -/
def spwStore (c a n v : Nat) (s : State) : SpwRes :=
  if a % n ≠ 0 then .exc 4 n a s
  else
    let x := coreWrite c a n v (s.pcNext c)
    match x.1 with
    | .ok _ => .done x.2
    | .err r =>
      if preciseStore c a then
        let pc := (s.core c).pc
        .exc 6 r.code a (x.2.modCore c (fun k => { k with pc := pc }))
      else .done (x.2.modCore c (fun k => { k with imp := some (k.imp.getD (a, r.code)) }))

/-- A load (R380): a misaligned one raises ALIGN, an error response BUSLD. -/
def spwLoad (c a n : Nat) (f : Nat → State → State) (s : State) : SpwRes :=
  if a % n ≠ 0 then .exc 4 n a s
  else
    let x := coreRead c a n s
    match x.1 with
    | .ok v => .done ((f v x.2).pcNext c)
    | .err r => .exc 5 r.code a x.2

/-- The address of a load, a store or a jump: ra + sx(imm16) modulo 2³². -/
def spwAddr (s : State) (c ra : Nat) (imm : BitVec 16) : Nat := (s.gr c ra + imm.signExtend 32).toNat

end Sys2Proof.Machine
end

