-- ==== Sys2Proof/Machine/SpwAlu.lean ====
section
/-!
DEFINITION. SPW32: the integer group, the immediate instructions, branches and jumps (14 R378, R379, R382).
-/
namespace Sys2Proof.Machine

/-- A signed integer as a 32-bit word. -/
def wordOf (v : Int) : Word := BitVec.ofInt 32 v

/-- The number of leading zero bits (R378). -/
def clz32 (v : Word) : Nat := 32 - bitLen v.toNat

/-- An instruction of the form rd := f(ra, rb), from the operands' contents. -/
def alu2 (c : Fin 18) (rd ra rb : Fin 32) (f : Word → Word → Word) (s : State) : Host.Outcome State Fault Refusal :=
  spw c (fun s => spwReg c.val rd.val (f (s.gr c.val ra.val) (s.gr c.val rb.val)) s) s

/-- An instruction of the form rd := f(ra). -/
def alu1 (c : Fin 18) (rd ra : Fin 32) (f : Word → Word) (s : State) : Host.Outcome State Fault Refusal :=
  spw c (fun s => spwReg c.val rd.val (f (s.gr c.val ra.val)) s) s

/-- A division or remainder: by zero it sets DZ (R378). -/
def aluDiv (c : Fin 18) (rd ra rb : Fin 32) (f : Word → Word → Word) (s : State) : Host.Outcome State Fault Refusal :=
  spw c (fun s =>
    let b := s.gr c.val rb.val
    spwReg c.val rd.val (f (s.gr c.val ra.val) b) (if b = 0 then s.setSat c.val 16 else s)) s

/-- A 1 or a 0. -/
def flagWord (b : Bool) : Word := if b then 1 else 0

/-- DIV: trunc(ra ÷ rb). -/
def divS (a b : Word) : Word := if b = 0 then 0xFFFFFFFF#32 else wordOf (a.toInt.tdiv b.toInt)
/-- DIVU. -/
def divU (a b : Word) : Word := if b = 0 then 0xFFFFFFFF#32 else BitVec.ofNat 32 (a.toNat / b.toNat)
/-- REM. -/
def remS (a b : Word) : Word := if b = 0 then a else wordOf (a.toInt - b.toInt * a.toInt.tdiv b.toInt)
/-- REMU. -/
def remU (a b : Word) : Word := if b = 0 then a else BitVec.ofNat 32 (a.toNat % b.toNat)

/-- ADD (R378). -/
def execAdd (c : Fin 18) (rd ra rb : Fin 32) (s : State) : Host.Outcome State Fault Refusal :=
  alu2 c rd ra rb (fun a b => a + b) s

/-- SUB (R378). -/
def execSub (c : Fin 18) (rd ra rb : Fin 32) (s : State) : Host.Outcome State Fault Refusal :=
  alu2 c rd ra rb (fun a b => a - b) s

/-- AND (R378). -/
def execAnd (c : Fin 18) (rd ra rb : Fin 32) (s : State) : Host.Outcome State Fault Refusal :=
  alu2 c rd ra rb (fun a b => a &&& b) s

/-- OR (R378). -/
def execOr (c : Fin 18) (rd ra rb : Fin 32) (s : State) : Host.Outcome State Fault Refusal :=
  alu2 c rd ra rb (fun a b => a ||| b) s

/-- XOR (R378). -/
def execXor (c : Fin 18) (rd ra rb : Fin 32) (s : State) : Host.Outcome State Fault Refusal :=
  alu2 c rd ra rb (fun a b => a ^^^ b) s

/-- ANDN (R378). -/
def execAndn (c : Fin 18) (rd ra rb : Fin 32) (s : State) : Host.Outcome State Fault Refusal :=
  alu2 c rd ra rb (fun a b => a &&& ~~~b) s

/-- SLL (R378). -/
def execSll (c : Fin 18) (rd ra rb : Fin 32) (s : State) : Host.Outcome State Fault Refusal :=
  alu2 c rd ra rb (fun a b => a <<< (b.toNat % 32)) s

/-- SRL (R378). -/
def execSrl (c : Fin 18) (rd ra rb : Fin 32) (s : State) : Host.Outcome State Fault Refusal :=
  alu2 c rd ra rb (fun a b => a >>> (b.toNat % 32)) s

/-- SRA (R378). -/
def execSra (c : Fin 18) (rd ra rb : Fin 32) (s : State) : Host.Outcome State Fault Refusal :=
  alu2 c rd ra rb (fun a b => a.sshiftRight (b.toNat % 32)) s

/-- SLT (R378). -/
def execSlt (c : Fin 18) (rd ra rb : Fin 32) (s : State) : Host.Outcome State Fault Refusal :=
  alu2 c rd ra rb (fun a b => flagWord (a.slt b)) s

/-- SLTU (R378). -/
def execSltu (c : Fin 18) (rd ra rb : Fin 32) (s : State) : Host.Outcome State Fault Refusal :=
  alu2 c rd ra rb (fun a b => flagWord (a.ult b)) s

/-- MIN (R378). -/
def execMin (c : Fin 18) (rd ra rb : Fin 32) (s : State) : Host.Outcome State Fault Refusal :=
  alu2 c rd ra rb (fun a b => if a.slt b then a else b) s

/-- MAX (R378). -/
def execMax (c : Fin 18) (rd ra rb : Fin 32) (s : State) : Host.Outcome State Fault Refusal :=
  alu2 c rd ra rb (fun a b => if a.slt b then b else a) s

/-- CLZ (R378). -/
def execClz (c : Fin 18) (rd ra : Fin 32) (s : State) : Host.Outcome State Fault Refusal :=
  alu1 c rd ra (fun a => BitVec.ofNat 32 (clz32 a)) s

/-- SEXTB (R378). -/
def execSextb (c : Fin 18) (rd ra : Fin 32) (s : State) : Host.Outcome State Fault Refusal :=
  alu1 c rd ra (fun a => (a.setWidth 8).signExtend 32) s

/-- SEXTH (R378). -/
def execSexth (c : Fin 18) (rd ra : Fin 32) (s : State) : Host.Outcome State Fault Refusal :=
  alu1 c rd ra (fun a => (a.setWidth 16).signExtend 32) s

/-- MUL (R378). -/
def execMul (c : Fin 18) (rd ra rb : Fin 32) (s : State) : Host.Outcome State Fault Refusal :=
  alu2 c rd ra rb (fun a b => wordOf (a.toInt * b.toInt)) s

/-- MULH (R378). -/
def execMulh (c : Fin 18) (rd ra rb : Fin 32) (s : State) : Host.Outcome State Fault Refusal :=
  alu2 c rd ra rb (fun a b => wordOf (a.toInt * b.toInt / 2 ^ 32)) s

/-- MULHU (R378). -/
def execMulhu (c : Fin 18) (rd ra rb : Fin 32) (s : State) : Host.Outcome State Fault Refusal :=
  alu2 c rd ra rb (fun a b => BitVec.ofNat 32 (a.toNat * b.toNat / 2 ^ 32)) s

/-- DIV (R378). -/
def execDiv (c : Fin 18) (rd ra rb : Fin 32) (s : State) : Host.Outcome State Fault Refusal :=
  aluDiv c rd ra rb divS s

/-- DIVU (R378). -/
def execDivu (c : Fin 18) (rd ra rb : Fin 32) (s : State) : Host.Outcome State Fault Refusal :=
  aluDiv c rd ra rb divU s

/-- REM (R378). -/
def execRem (c : Fin 18) (rd ra rb : Fin 32) (s : State) : Host.Outcome State Fault Refusal :=
  aluDiv c rd ra rb remS s

/-- REMU (R378). -/
def execRemu (c : Fin 18) (rd ra rb : Fin 32) (s : State) : Host.Outcome State Fault Refusal :=
  aluDiv c rd ra rb remU s

/-- SLLI, by AUX (R378). -/
def execSlli (c : Fin 18) (rd ra : Fin 32) (n : Fin 32) (s : State) : Host.Outcome State Fault Refusal :=
  alu1 c rd ra (fun a => a <<< n.val) s

/-- SRLI, by AUX (R378). -/
def execSrli (c : Fin 18) (rd ra : Fin 32) (n : Fin 32) (s : State) : Host.Outcome State Fault Refusal :=
  alu1 c rd ra (fun a => a >>> n.val) s

/-- SRAI, by AUX (R378). -/
def execSrai (c : Fin 18) (rd ra : Fin 32) (n : Fin 32) (s : State) : Host.Outcome State Fault Refusal :=
  alu1 c rd ra (fun a => a.sshiftRight n.val) s

/-! ### Immediate instructions (R379) -/

/-- ADDI (R379). -/
def execAddi (c : Fin 18) (rd ra : Fin 32) (imm : BitVec 16) (s : State) : Host.Outcome State Fault Refusal :=
  alu1 c rd ra (fun a => a + imm.signExtend 32) s

/-- ANDI (R379). -/
def execAndi (c : Fin 18) (rd ra : Fin 32) (imm : BitVec 16) (s : State) : Host.Outcome State Fault Refusal :=
  alu1 c rd ra (fun a => a &&& imm.setWidth 32) s

/-- ORI (R379). -/
def execOri (c : Fin 18) (rd ra : Fin 32) (imm : BitVec 16) (s : State) : Host.Outcome State Fault Refusal :=
  alu1 c rd ra (fun a => a ||| imm.setWidth 32) s

/-- XORI (R379). -/
def execXori (c : Fin 18) (rd ra : Fin 32) (imm : BitVec 16) (s : State) : Host.Outcome State Fault Refusal :=
  alu1 c rd ra (fun a => a ^^^ imm.setWidth 32) s

/-- SLTI (R379). -/
def execSlti (c : Fin 18) (rd ra : Fin 32) (imm : BitVec 16) (s : State) : Host.Outcome State Fault Refusal :=
  alu1 c rd ra (fun a => flagWord (a.slt (imm.signExtend 32))) s

/-- SLTIU (R379). -/
def execSltiu (c : Fin 18) (rd ra : Fin 32) (imm : BitVec 16) (s : State) : Host.Outcome State Fault Refusal :=
  alu1 c rd ra (fun a => flagWord (a.ult (imm.signExtend 32))) s

/-- LUI (R379); with ra other than g0 the word is ILLEGAL_INSTRUCTION's. -/
def execLui (c : Fin 18) (rd : Fin 32) (imm : BitVec 16) (s : State) : Host.Outcome State Fault Refusal :=
  spw c (fun s => spwReg c.val rd.val (imm.setWidth 32 <<< 16) s) s

/-! ### Branches and jumps (R382) -/

/-- A branch: taken, to PC + sx(imm16) × 4. -/
def branch (c : Fin 18) (ra rb : Fin 32) (imm : BitVec 16) (t : Word → Word → Bool) (s : State) :
    Host.Outcome State Fault Refusal :=
  spw c (fun s =>
    let pc := BitVec.ofNat 32 (s.core c.val).pc
    .done (if t (s.gr c.val ra.val) (s.gr c.val rb.val) then s.pcSet c.val (pc + imm.signExtend 32 * 4).toNat
      else s.pcNext c.val)) s

/-- BEQ (R382). -/
def execBeq (c : Fin 18) (ra rb : Fin 32) (imm : BitVec 16) (s : State) : Host.Outcome State Fault Refusal :=
  branch c ra rb imm (fun a b => a = b) s

/-- BNE (R382). -/
def execBne (c : Fin 18) (ra rb : Fin 32) (imm : BitVec 16) (s : State) : Host.Outcome State Fault Refusal :=
  branch c ra rb imm (fun a b => a ≠ b) s

/-- BLT (R382). -/
def execBlt (c : Fin 18) (ra rb : Fin 32) (imm : BitVec 16) (s : State) : Host.Outcome State Fault Refusal :=
  branch c ra rb imm (fun a b => a.slt b) s

/-- BGE (R382). -/
def execBge (c : Fin 18) (ra rb : Fin 32) (imm : BitVec 16) (s : State) : Host.Outcome State Fault Refusal :=
  branch c ra rb imm (fun a b => !a.slt b) s

/-- BLTU (R382). -/
def execBltu (c : Fin 18) (ra rb : Fin 32) (imm : BitVec 16) (s : State) : Host.Outcome State Fault Refusal :=
  branch c ra rb imm (fun a b => a.ult b) s

/-- BGEU (R382). -/
def execBgeu (c : Fin 18) (ra rb : Fin 32) (imm : BitVec 16) (s : State) : Host.Outcome State Fault Refusal :=
  branch c ra rb imm (fun a b => !a.ult b) s

/-- The link: rd takes PC + 4, and the core continues at an address. -/
def link (c rd : Nat) (t : Nat) (s : State) : SpwRes :=
  .done ((s.setGr c rd (BitVec.ofNat 32 ((s.core c).pc + 4))).pcSet c t)

/-- JAL (R382). -/
def execJal (c : Fin 18) (rd : Fin 32) (imm : BitVec 21) (s : State) : Host.Outcome State Fault Refusal :=
  spw c (fun s => link c.val rd.val (BitVec.ofNat 32 (s.core c.val).pc + imm.signExtend 32 * 4).toNat s) s

/-- JALR (R382). -/
def execJalr (c : Fin 18) (rd ra : Fin 32) (imm : BitVec 16) (s : State) : Host.Outcome State Fault Refusal :=
  spw c (fun s => link c.val rd.val (spwAddr s c.val ra.val imm) s) s

end Sys2Proof.Machine
end

