-- ==== Sys2Proof/Machine/SpwFix.lean ====
section
/-!
DEFINITION. SPW32: the saturating fixed-point group (14 R383, R384).
-/
namespace Sys2Proof.Machine

/-- A fixed-point result: the value clamped to 32 signed bits, with the flag that a clamp sets. -/
def fixSat (flag : Nat) (v : Int) : Int × Nat := let r := sat32 v; (r.1, if r.2 then flag else 0)

/-- A fixed-point instruction: the result and the flags of SATF, from rd, ra and rb as they were. -/
def fix (c : Fin 18) (rd ra rb : Fin 32) (f : Int → Int → Int → Int × Nat) (s : State) : Host.Outcome State Fault Refusal :=
  spw c (fun s =>
    let g := fun (r : Fin 32) => (s.gr c.val r.val).toInt
    let r := f (g rd) (g ra) (g rb)
    spwReg c.val rd.val (wordOf r.1) (s.setSat c.val r.2)) s

/-- The shift count in rb[4:0]. -/
def shiftOf (b : Int) : Nat := (b % 32).toNat

/-- QMAC and QMACX: MUL when the product lies outside 32 bits, ADD when the sum is clamped and the product does not. -/
def fixMac (k : Nat) (d a b : Int) : Int × Nat :=
  let p := rshRound (a * b) k
  let r := sat32 (d + p)
  (r.1, if (sat32 p).2 then 2 else if r.2 then 1 else 0)

/-- QLIM: rd clamped between ra and rb; rb when ra exceeds rb. LIM when rd changes. -/
def fixLim (d a b : Int) : Int × Nat :=
  let v := if b < a then b else min (max d a) b
  (v, if v ≠ d then 8 else 0)

/-- QADD (R383). -/
def execQadd (c : Fin 18) (rd ra rb : Fin 32) (s : State) : Host.Outcome State Fault Refusal :=
  fix c rd ra rb (fun _ a b => fixSat 1 (a + b)) s

/-- QSUB (R383). -/
def execQsub (c : Fin 18) (rd ra rb : Fin 32) (s : State) : Host.Outcome State Fault Refusal :=
  fix c rd ra rb (fun _ a b => fixSat 1 (a - b)) s

/-- QMUL (R383). -/
def execQmul (c : Fin 18) (rd ra rb : Fin 32) (s : State) : Host.Outcome State Fault Refusal :=
  fix c rd ra rb (fun _ a b => fixSat 2 (rshRound (a * b) 30)) s

/-- QMAC (R383). -/
def execQmac (c : Fin 18) (rd ra rb : Fin 32) (s : State) : Host.Outcome State Fault Refusal :=
  fix c rd ra rb (fixMac 30) s

/-- QMULX (R383). -/
def execQmulx (c : Fin 18) (rd ra rb : Fin 32) (s : State) : Host.Outcome State Fault Refusal :=
  fix c rd ra rb (fun _ a b => fixSat 2 (rshRound (a * b) 16)) s

/-- QMACX (R383). -/
def execQmacx (c : Fin 18) (rd ra rb : Fin 32) (s : State) : Host.Outcome State Fault Refusal :=
  fix c rd ra rb (fixMac 16) s

/-- QSHL (R383). -/
def execQshl (c : Fin 18) (rd ra rb : Fin 32) (s : State) : Host.Outcome State Fault Refusal :=
  fix c rd ra rb (fun _ a b => fixSat 1 (a * 2 ^ shiftOf b)) s

/-- QSHR (R383). -/
def execQshr (c : Fin 18) (rd ra rb : Fin 32) (s : State) : Host.Outcome State Fault Refusal :=
  fix c rd ra rb (fun _ a b => (rshRound a (shiftOf b), 0)) s

/-- QLIM (R383). -/
def execQlim (c : Fin 18) (rd ra rb : Fin 32) (s : State) : Host.Outcome State Fault Refusal :=
  fix c rd ra rb (fixLim) s

/-- QNEG (R383). -/
def execQneg (c : Fin 18) (rd ra : Fin 32) (s : State) : Host.Outcome State Fault Refusal :=
  fix c rd ra 0 (fun _ a _ => fixSat 1 (-a)) s

/-- QABS (R383). -/
def execQabs (c : Fin 18) (rd ra : Fin 32) (s : State) : Host.Outcome State Fault Refusal :=
  fix c rd ra 0 (fun _ a _ => fixSat 1 a.natAbs) s

/-- QXQ (R383). -/
def execQxq (c : Fin 18) (rd ra : Fin 32) (s : State) : Host.Outcome State Fault Refusal :=
  fix c rd ra 0 (fun _ a _ => fixSat 4 (a * 2 ^ 14)) s

/-- QQX (R383). -/
def execQqx (c : Fin 18) (rd ra : Fin 32) (s : State) : Host.Outcome State Fault Refusal :=
  fix c rd ra 0 (fun _ a _ => (rshRound a 14, 0)) s

end Sys2Proof.Machine
end

