-- ==== Sys2Proof/Machine/SpwFp.lean ====
section
/-!
DEFINITION. SPW32: the binary32 group (14 R385, R386).
-/
namespace Sys2Proof.Machine

/-- FPCR.RM of core c. -/
def fpRm (s : State) (c : Nat) : Nat := bits (s.core c).fpcr.toNat 2 1
/-- FPCR.FTZ of core c. -/
def fpFtz (s : State) (c : Nat) : Bool := (s.core c).fpcr.getLsbD 0

/-- The end of a binary32 instruction (R385): the raised flags are set; one that is enabled raises FPE, and rd is not
written. -/
def fpEnd (c w rd : Nat) (r : FRes) (s : State) : SpwRes :=
  let en := bits (s.core c).fpcr.toNat 12 8
  let s := s.modCore c (fun x => { x with fpcr := BitVec.ofNat 32 (x.fpcr.toNat ||| r.flags * 2 ^ 16) })
  if r.flags &&& en ≠ 0 then .exc 7 r.flags w s else spwReg c rd (BitVec.ofNat 32 r.val) s

/-- A binary32 instruction with function FN: its result under RM and FTZ, from rd, ra and rb. -/
def fp (fn : Nat) (c : Fin 18) (rd ra rb : Fin 32) (f : Nat → Bool → Nat → Nat → Nat → FRes) (s : State) :
    Host.Outcome State Fault Refusal :=
  spw c (fun s =>
    let g := fun (r : Fin 32) => (s.gr c.val r.val).toNat
    fpEnd c.val (wordR 0x19 fn rd.val ra.val rb.val 0) rd.val
      (f (fpRm s c.val) (fpFtz s c.val) (g rd) (g ra) (g rb)) s) s

/-- FMADD: for infinity times zero plus a quiet NaN the standard leaves open whether NV is raised (free). -/
def fpMadd (c : Fin 18) (rd ra rb : Fin 32) (s : State) : SpwRes :=
  let g := fun (r : Fin 32) => fIn (fpFtz s c.val) (s.gr c.val r.val).toNat
  let r := fMadd (fpRm s c.val) (fpFtz s c.val) (g rd) (g ra) (g rb)
  let w := wordR 0x19 5 rd.val ra.val rb.val 0
  let bad := (fIsInf (g ra) && fIsZero (g rb)) || (fIsZero (g ra) && fIsInf (g rb))
  if bad && fIsNan (g rd) && !fIsSNaN (g rd) then
    let d := s.draw
    fpEnd c.val w rd.val { r with flags := d.1 % 2 } d.2
  else fpEnd c.val w rd.val r s

/-- FADD (R385, R386). -/
def execFadd (c : Fin 18) (rd ra rb : Fin 32) (s : State) : Host.Outcome State Fault Refusal :=
  fp 0 c rd ra rb (fun rm z _ a b => fAdd rm z a b) s

/-- FSUB (R385, R386). -/
def execFsub (c : Fin 18) (rd ra rb : Fin 32) (s : State) : Host.Outcome State Fault Refusal :=
  fp 1 c rd ra rb (fun rm z _ a b => fSub rm z a b) s

/-- FMUL (R385, R386). -/
def execFmul (c : Fin 18) (rd ra rb : Fin 32) (s : State) : Host.Outcome State Fault Refusal :=
  fp 2 c rd ra rb (fun rm z _ a b => fMul rm z a b) s

/-- FDIV (R385, R386). -/
def execFdiv (c : Fin 18) (rd ra rb : Fin 32) (s : State) : Host.Outcome State Fault Refusal :=
  fp 3 c rd ra rb (fun rm z _ a b => fDiv rm z a b) s

/-- FMIN (R385, R386). -/
def execFmin (c : Fin 18) (rd ra rb : Fin 32) (s : State) : Host.Outcome State Fault Refusal :=
  fp 6 c rd ra rb (fun _ z _ a b => fMinMax false z a b) s

/-- FMAX (R385, R386). -/
def execFmax (c : Fin 18) (rd ra rb : Fin 32) (s : State) : Host.Outcome State Fault Refusal :=
  fp 7 c rd ra rb (fun _ z _ a b => fMinMax true z a b) s

/-- FCMPEQ (R385, R386). -/
def execFcmpeq (c : Fin 18) (rd ra rb : Fin 32) (s : State) : Host.Outcome State Fault Refusal :=
  fp 10 c rd ra rb (fun _ z _ a b => fCmp 0 z a b) s

/-- FCMPLT (R385, R386). -/
def execFcmplt (c : Fin 18) (rd ra rb : Fin 32) (s : State) : Host.Outcome State Fault Refusal :=
  fp 11 c rd ra rb (fun _ z _ a b => fCmp 2 z a b) s

/-- FCMPLE (R385, R386). -/
def execFcmple (c : Fin 18) (rd ra rb : Fin 32) (s : State) : Host.Outcome State Fault Refusal :=
  fp 12 c rd ra rb (fun _ z _ a b => fCmp 3 z a b) s

/-- FMADD (R385): rd + ra × rb with a single rounding. -/
def execFmadd (c : Fin 18) (rd ra rb : Fin 32) (s : State) : Host.Outcome State Fault Refusal :=
  spw c (fpMadd c rd ra rb) s

/-- FNEG (R385): the sign bit inverted. -/
def execFneg (c : Fin 18) (rd ra : Fin 32) (s : State) : Host.Outcome State Fault Refusal :=
  alu1 c rd ra (fun a => a ^^^ 0x80000000#32) s

/-- FABS (R385): the sign bit cleared. -/
def execFabs (c : Fin 18) (rd ra : Fin 32) (s : State) : Host.Outcome State Fault Refusal :=
  alu1 c rd ra (fun a => a &&& 0x7FFFFFFF#32) s

/-- FCVTQS (R386): sets CVT for a NaN or a clamp, and no flag of FPCR. -/
def execFcvtqs (c : Fin 18) (rd ra : Fin 32) (s : State) : Host.Outcome State Fault Refusal :=
  spw c (fun s =>
    let r := fToQ (fpRm s c.val) (fpFtz s c.val) (s.gr c.val ra.val).toNat
    spwReg c.val rd.val (BitVec.ofNat 32 r.1) (if r.2 then s.setSat c.val 4 else s)) s

/-- FSQRT (R385, R386). -/
def execFsqrt (c : Fin 18) (rd ra : Fin 32) (s : State) : Host.Outcome State Fault Refusal :=
  fp 4 c rd ra 0 (fun rm z _ a _ => fSqrt rm z a) s

/-- FCVTWS (R385, R386). -/
def execFcvtws (c : Fin 18) (rd ra : Fin 32) (s : State) : Host.Outcome State Fault Refusal :=
  fp 13 c rd ra 0 (fun rm z _ a _ => fToWord rm z a) s

/-- FCVTSW (R385, R386). -/
def execFcvtsw (c : Fin 18) (rd ra : Fin 32) (s : State) : Host.Outcome State Fault Refusal :=
  fp 14 c rd ra 0 (fun rm z _ a _ => fOfInt rm z 0 a) s

/-- FCVTSQ (R385, R386). -/
def execFcvtsq (c : Fin 18) (rd ra : Fin 32) (s : State) : Host.Outcome State Fault Refusal :=
  fp 16 c rd ra 0 (fun rm z _ a _ => fOfInt rm z 30 a) s

end Sys2Proof.Machine
end

