-- ==== Sys2Proof/Machine/SpwMem.lean ====
section
/-!
DEFINITION. SPW32: loads, stores, atomics and fences (14 R380, R381, R387, R401 to R405).
-/
namespace Sys2Proof.Machine

/-- The blocks on which an access of core c acts: none when the core executes no instruction. -/
def spwTouched (s : State) (c a : Nat) : List Block :=
  if (s.core c).halted || (s.core c).run ≠ .running then [] else touched a

/-- A load of `n` bytes (R380), with the value that it writes. -/
def load (c : Fin 18) (rd ra : Fin 32) (imm : BitVec 16) (n : Nat) (f : Nat → Word) (s : State) :
    Host.Outcome State Fault Refusal :=
  run (spwBlocks c.val ++ spwTouched s c.val (spwAddr (settle c.val s) c.val ra.val imm)) (fun s =>
    instruction c.val (fun s => spwLoad c.val (spwAddr s c.val ra.val imm) n (fun v s => s.setGr c.val rd.val (f v)) s)
      (settle c.val s)) s

/-- A store of the low `n` bytes of rb (R380). -/
def store (c : Fin 18) (rb ra : Fin 32) (imm : BitVec 16) (n : Nat) (s : State) : Host.Outcome State Fault Refusal :=
  run (spwBlocks c.val ++ spwTouched s c.val (spwAddr (settle c.val s) c.val ra.val imm)) (fun s =>
    instruction c.val (fun s => spwStore c.val (spwAddr s c.val ra.val imm) n ((s.gr c.val rb.val).toNat % 2 ^ (8 * n)) s)
      (settle c.val s)) s

/-- LW (R380). -/
def execLw (c : Fin 18) (rd ra : Fin 32) (imm : BitVec 16) (s : State) : Host.Outcome State Fault Refusal :=
  load c rd ra imm 4 (fun v => BitVec.ofNat 32 v) s

/-- LH (R380). -/
def execLh (c : Fin 18) (rd ra : Fin 32) (imm : BitVec 16) (s : State) : Host.Outcome State Fault Refusal :=
  load c rd ra imm 2 (fun v => (BitVec.ofNat 16 v).signExtend 32) s

/-- LHU (R380). -/
def execLhu (c : Fin 18) (rd ra : Fin 32) (imm : BitVec 16) (s : State) : Host.Outcome State Fault Refusal :=
  load c rd ra imm 2 (fun v => BitVec.ofNat 32 v) s

/-- LB (R380). -/
def execLb (c : Fin 18) (rd ra : Fin 32) (imm : BitVec 16) (s : State) : Host.Outcome State Fault Refusal :=
  load c rd ra imm 1 (fun v => (BitVec.ofNat 8 v).signExtend 32) s

/-- LBU (R380). -/
def execLbu (c : Fin 18) (rd ra : Fin 32) (imm : BitVec 16) (s : State) : Host.Outcome State Fault Refusal :=
  load c rd ra imm 1 (fun v => BitVec.ofNat 32 v) s

/-- SW (R380). -/
def execSw (c : Fin 18) (rb ra : Fin 32) (imm : BitVec 16) (s : State) : Host.Outcome State Fault Refusal :=
  store c rb ra imm 4 s

/-- SH (R380). -/
def execSh (c : Fin 18) (rb ra : Fin 32) (imm : BitVec 16) (s : State) : Host.Outcome State Fault Refusal :=
  store c rb ra imm 2 s

/-- SB (R380). -/
def execSb (c : Fin 18) (rb ra : Fin 32) (imm : BitVec 16) (s : State) : Host.Outcome State Fault Refusal :=
  store c rb ra imm 1 s

/-- The contents of the register pair rX, rX + 1. -/
def State.grPair (s : State) (c x : Nat) : Nat := (s.gr c x).toNat + (s.gr c (x + 1)).toNat * 2 ^ 32

/-- LD (R381): 64 bits into an even pair. -/
def execLd (c : Fin 18) (rd ra : Fin 32) (imm : BitVec 16) (s : State) : Host.Outcome State Fault Refusal :=
  run (spwBlocks c.val ++ spwTouched s c.val (spwAddr (settle c.val s) c.val ra.val imm)) (fun s =>
    instruction c.val (fun s =>
      if rd.val % 2 ≠ 0 then .exc 1 0 (wordI 0x1C rd.val ra.val imm.toNat) s
      else spwLoad c.val (spwAddr s c.val ra.val imm) 8 (fun v s =>
        (s.setGr c.val rd.val (BitVec.ofNat 32 v)).setGr c.val (rd.val + 1) (BitVec.ofNat 32 (v / 2 ^ 32))) s)
      (settle c.val s)) s

/-- SD (R381): 64 bits from an even pair. -/
def execSd (c : Fin 18) (rb ra : Fin 32) (imm : BitVec 16) (s : State) : Host.Outcome State Fault Refusal :=
  run (spwBlocks c.val ++ spwTouched s c.val (spwAddr (settle c.val s) c.val ra.val imm)) (fun s =>
    instruction c.val (fun s =>
      if rb.val % 2 ≠ 0 then .exc 1 0 (wordI 0x1D rb.val ra.val imm.toNat) s
      else spwStore c.val (spwAddr s c.val ra.val imm) 8 (s.grPair c.val rb.val) s)
      (settle c.val s)) s

/-! ### Atomics (R387) -/

/-- Whether an atomic may act at an address: data TCM, local SRAM or Caldera. -/
def atomicAt (c a : Nat) : Bool :=
  (0x10000000 ≤ a && a + 4 ≤ 0x14000000) || ((localAt (coreMaster c) a 4).isSome && (16 ≤ c || 0x20000 ≤ a))

/-- An atomic: the word at ra becomes `f` of what it was, which rd takes. -/
def atomic (c : Fin 18) (rd ra rb : Fin 32) (f : Word → Word → Word) (s : State) : Host.Outcome State Fault Refusal :=
  run (spwBlocks c.val) (fun s =>
    instruction c.val (fun s =>
      let a := (s.gr c.val ra.val).toNat
      let v := s.gr c.val rb.val
      let m := coreMaster c.val
      if a % 4 ≠ 0 then .exc 4 4 a s
      else if !atomicAt c.val a then .exc 5 BusReason.atomic.code a s
      else
        let x := busRead m a 4 s
        match x.1 with
        | .err r => .exc 5 r.code a x.2
        | .ok old =>
          let y := busWrite m a 4 (f (BitVec.ofNat 32 old) v).toNat x.2
          match y.1 with
          | .err r => .exc 5 r.code a y.2
          | .ok _ => spwReg c.val rd.val (BitVec.ofNat 32 old) y.2)
      (settle c.val s)) s

/-- SWAP (R387). -/
def execSwap (c : Fin 18) (rd ra rb : Fin 32) (s : State) : Host.Outcome State Fault Refusal :=
  atomic c rd ra rb (fun _ b => b) s

/-- AADD (R387). -/
def execAadd (c : Fin 18) (rd ra rb : Fin 32) (s : State) : Host.Outcome State Fault Refusal :=
  atomic c rd ra rb (fun a b => a + b) s

/-! ### Fences (R403, R405): every access of this model is performed before the next one -/

/-- A fence. -/
def fence (c : Fin 18) (s : State) : Host.Outcome State Fault Refusal := spw c (fun s => .done (s.pcNext c.val)) s

/-- FENCE (R403). -/
def execFence (c : Fin 18) (s : State) : Host.Outcome State Fault Refusal := fence c s
/-- FENCE_ACQ (R403). -/
def execFenceAcq (c : Fin 18) (s : State) : Host.Outcome State Fault Refusal := fence c s
/-- FENCE_REL (R403). -/
def execFenceRel (c : Fin 18) (s : State) : Host.Outcome State Fault Refusal := fence c s
/-- FENCE_I (R405). -/
def execFenceI (c : Fin 18) (s : State) : Host.Outcome State Fault Refusal := fence c s

end Sys2Proof.Machine
end

