-- ==== Sys2Proof/Machine/SpwSys.lean ====
section
/-!
DEFINITION. SPW32: control registers, system, token and time instructions (14 R388 to R393).
-/
namespace Sys2Proof.Machine

/-- MFCR (R388): control register n. -/
def execMfcr (c : Fin 18) (rd n : Fin 32) (s : State) : Host.Outcome State Fault Refusal :=
  spw c (fun s =>
    let w := wordR 0x1B 8 rd.val 0 0 n.val
    if 18 < n.val then .exc 1 0 w s
    else if crG1 n.val && !(s.core c.val).priv then .exc 2 0 w s
    else let r := crRead c.val n.val s; spwReg c.val rd.val r.1 r.2) s

/-- MTCR (R388). -/
def execMtcr (c : Fin 18) (ra n : Fin 32) (s : State) : Host.Outcome State Fault Refusal :=
  spw c (fun s =>
    let w := wordR 0x1B 9 0 ra.val 0 n.val
    if 18 < n.val then .exc 1 0 w s
    else if !(s.core c.val).priv then .exc 2 0 w s
    else .done ((crWrite c.val n.val (s.gr c.val ra.val) s).pcNext c.val)) s

/-- SVREQ (R389). -/
def execSvreq (c : Fin 18) (code : BitVec 10) (s : State) : Host.Outcome State Fault Refusal :=
  spw c (fun s => .exc 8 code.toNat (code.toNat * 2 ^ 12 + 0x10 * 2 ^ 6 + 0x1B) s) s

/-- DBGREQ (R389). -/
def execDbgreq (c : Fin 18) (code : BitVec 10) (s : State) : Host.Outcome State Fault Refusal :=
  spw c (fun s => .exc 9 code.toNat (code.toNat * 2 ^ 12 + 0x11 * 2 ^ 6 + 0x1B) s) s

/-- XRET (R389). -/
def execXret (c : Fin 18) (s : State) : Host.Outcome State Fault Refusal :=
  spw c (fun s =>
    if !(s.core c.val).priv then .exc 2 0 (wordR 0x1B 0x12 0 0 0 0) s
    else .done (s.modCore c.val (fun x => { x with psr := x.epsr, pc := x.epc.toNat }))) s

/-- WAITI (R389): the core waits until IPEND AND IMASK is not 0. -/
def execWaiti (c : Fin 18) (s : State) : Host.Outcome State Fault Refusal :=
  spw c (fun s =>
    let x := s.core c.val
    if !x.priv then .exc 2 0 (wordR 0x1B 0x13 0 0 0 0) s
    else if x.ipend &&& x.imask.toNat ≠ 0 then .done (s.pcNext c.val)
    else .done ((s.pcNext c.val).coreDo c.val .waiti)) s

/-! ### Tokens (R390 to R392) -/

/-- Whether a TPOST meets the code of an earlier TPOST of its core, which must have reached its register. -/
def postHazard (s : State) (c : Nat) (rs : List Nat) : Bool :=
  s.disp.posts.any (fun p => p.src.any (fun x => x.1 = c && rs.contains x.2))

/-- TPOST (R390, 15 R415): the token enters the core's queue, and its code reaches rd when it is matched; a full queue, or a
dispatcher that does not run, answers BUSY. -/
def tpost (c rd ra rb slot : Nat) (s : State) : SpwRes :=
  let t := (s.gr c ra).toNat
  let v := (s.gr c rb).toNat
  if 4096 ≤ t then spwReg c rd (BitVec.ofNat 32 codeArgument) s
  else if 16 ≤ (s.disp.posts.filter (fun p => p.src.any (fun x => x.1 = c))).length || !dispMode s then
    spwReg c rd (BitVec.ofNat 32 codeBusy) ((s.incr DISP_BUSYTOT_COUNT).raise DISP_STAT_BUSYF)
  else
    let p : Post := { src := some (c, rd), from_ := 0, desc := t, slot := slot, val := v }
    let s := { s with disp := { s.disp with posts := s.disp.posts ++ [p] } }
    .done (s.pcNext c)

/-- TPOST (R390). On the Keeper and the island it is ILLEGAL (R366). -/
def execTpost (c : Fin 18) (rd ra rb : Fin 32) (slot : Fin 4) (s : State) : Host.Outcome State Fault Refusal :=
  run (tokenBlocks c.val) (fun s =>
    let s := if postHazard s c.val [rd.val, ra.val, rb.val] then settle c.val s else s
    instruction c.val (fun s =>
      if 16 ≤ c.val then .exc 1 0 (wordR 0x1B 0x20 rd.val ra.val rb.val slot.val) s
      else tpost c.val rd.val ra.val rb.val slot.val s) s) s

/-- TTAKE (R391). -/
def execTtake (c : Fin 18) (rd : Fin 32) (slot : Fin 4) (s : State) : Host.Outcome State Fault Refusal :=
  spw c (fun s =>
    let x := s.core c.val
    let w := wordR 0x1B 0x21 rd.val 0 0 slot.val
    if 16 ≤ c.val then .exc 1 0 w s
    else if x.task.isNone then .exc 10 1 w s
    else match x.toks[slot.val]? with
      | none => .exc 10 2 w s
      | some v => spwReg c.val rd.val (BitVec.ofNat 32 v) s) s

/-- TDONE (R392): the running task ends with code ra[7:0]; in a task of the cyclic program the cycle ends (13 R344), with the
leader's instant in a pair. -/
def tdone (c code : Nat) (s : State) : State :=
  let t := (s.core c).task.bind (rtTaskOf s)
  let s := taskEnd c code s
  match t with
  | some t => s.outcome (.taskEnd t) (rtEnd t)
  | none => s

/-- TDONE (R392). -/
def execTdone (c : Fin 18) (ra : Fin 32) (s : State) : Host.Outcome State Fault Refusal :=
  run (tokenBlocks c.val) (fun s =>
    instruction c.val (fun s =>
      let w := wordR 0x1B 0x22 0 ra.val 0 0
      if 16 ≤ c.val then .exc 1 0 w s
      else if (s.core c.val).task.isNone then .exc 10 1 w s
      else .done (tdone c.val ((s.gr c.val ra.val).toNat % 256) s)) (settle c.val s)) s

/-- TWAIT (R393): until TNOW reaches the target in ra. -/
def execTwait (c : Fin 18) (ra : Fin 32) (s : State) : Host.Outcome State Fault Refusal :=
  spw c (fun s =>
    let t := (s.gr c.val ra.val).toNat
    .done (if tnowReached s t then s.pcNext c.val else s.coreDo c.val (.twait t))) s

end Sys2Proof.Machine
end

