-- ==== Sys2Proof/Machine/Dispatch.lean ====
section
/-!
DEFINITION. The dispatcher: one arm per command, each a call of its meaning.
-/
namespace Sys2Proof.Machine

/-- The effect of a command on everything but the queue. -/
def exec (i : Instr) (s : State) : Host.Outcome State Fault Refusal :=
  match i with
  | .baseTick => Sys2Proof.Machine.execBaseTick s
  | .conservationCheck => Sys2Proof.Machine.execConservationCheck s
  | .uncorrectableMemoryError mem a b reader => Sys2Proof.Machine.execUncorrectableMemoryError mem a b reader s
  | .tokenTaken q => Sys2Proof.Machine.execTokenTaken q s
  | .registerWrite m a w => Sys2Proof.Machine.execRegisterWrite m a w s
  | .bitAliasWrite m a v => Sys2Proof.Machine.execBitAliasWrite m a v s
  | .lockSet m b => Sys2Proof.Machine.execLockSet m b s
  | .snapGo m b => Sys2Proof.Machine.execSnapGo m b s
  | .snapComplete b => Sys2Proof.Machine.execSnapComplete b s
  | .mbxRequest m b item index => Sys2Proof.Machine.execMbxRequest m b item index s
  | .mbxCaptureDone b => Sys2Proof.Machine.execMbxCaptureDone b s
  | .mbxLastWordRead m b => Sys2Proof.Machine.execMbxLastWordRead m b s
  | .mbxExpiry b => Sys2Proof.Machine.execMbxExpiry b s
  | .windowDescriptorWrite m n size w => Sys2Proof.Machine.execWindowDescriptorWrite m n size w s
  | .clockWindow c0 c1 c2 c3 d0 d1 d2 d3 => Sys2Proof.Machine.execClockWindow c0 c1 c2 c3 d0 d1 d2 d3 s
  | .tbRefSwitch => Sys2Proof.Machine.execTbRefSwitch s
  | .tbRefReturn => Sys2Proof.Machine.execTbRefReturn s
  | .pllUnlock p => Sys2Proof.Machine.execPllUnlock p s
  | .timeIncrWrite m w => Sys2Proof.Machine.execTimeIncrWrite m w s
  | .timeIncrAltWrite m w => Sys2Proof.Machine.execTimeIncrAltWrite m w s
  | .timeAltcntWrite m w => Sys2Proof.Machine.execTimeAltcntWrite m w s
  | .altstop m => Sys2Proof.Machine.execAltstop m s
  | .incrementTakesEffect => Sys2Proof.Machine.execIncrementTakesEffect s
  | .alternateIncrementEnd => Sys2Proof.Machine.execAlternateIncrementEnd s
  | .step m => Sys2Proof.Machine.execStep m s
  | .timeStepEdge => Sys2Proof.Machine.execTimeStepEdge s
  | .ptpIngressStamp p seq dom typ x => Sys2Proof.Machine.execPtpIngressStamp p seq dom typ x s
  | .ptpEgressStamp p seq dom typ x oneStep msg => Sys2Proof.Machine.execPtpEgressStamp p seq dom typ x oneStep msg s
  | .ptpSyncReceived o mpd loc mas sync => Sys2Proof.Machine.execPtpSyncReceived o mpd loc mas sync s
  | .beaconArm m n => Sys2Proof.Machine.execBeaconArm m n s
  | .beaconDisarm m n => Sys2Proof.Machine.execBeaconDisarm m n s
  | .beaconEdge n => Sys2Proof.Machine.execBeaconEdge n s
  | .beaconTrailingEdge n => Sys2Proof.Machine.execBeaconTrailingEdge n s
  | .trigEdge n edge => Sys2Proof.Machine.execTrigEdge n edge s
  | .trigAccept n => Sys2Proof.Machine.execTrigAccept n s
  | .rcpStart m n step => Sys2Proof.Machine.execRcpStart m n step s
  | .rcpAbort m n => Sys2Proof.Machine.execRcpAbort m n s
  | .rcpClear m n => Sys2Proof.Machine.execRcpClear m n s
  | .stepTimeout n => Sys2Proof.Machine.execStepTimeout n s
  | .stepCommit => Sys2Proof.Machine.execStepCommit s
  | .rcpLoadGo m count => Sys2Proof.Machine.execRcpLoadGo m count s
  | .rcpLoadDone => Sys2Proof.Machine.execRcpLoadDone s
  | .journalWrite => Sys2Proof.Machine.execJournalWrite s
  | .rcpResumeGo m => Sys2Proof.Machine.execRcpResumeGo m s
  | .resumeDecision => Sys2Proof.Machine.execResumeDecision s
  | .resumeTwaitExpiry => Sys2Proof.Machine.execResumeTwaitExpiry s
  | .loopBind m n => Sys2Proof.Machine.execLoopBind m n s
  | .loopUnbind m n => Sys2Proof.Machine.execLoopUnbind m n s
  | .loopCheck m n => Sys2Proof.Machine.execLoopCheck m n s
  | .loopCheckDone => Sys2Proof.Machine.execLoopCheckDone s
  | .laneFrameStart => Sys2Proof.Machine.execLaneFrameStart s
  | .loopPeriodStart c => Sys2Proof.Machine.execLoopPeriodStart c s
  | .loopExecution => Sys2Proof.Machine.execLoopExecution s
  | .loopRelease => Sys2Proof.Machine.execLoopRelease s
  | .loopDeadlineFault => Sys2Proof.Machine.execLoopDeadlineFault s
  | .lensArm m c => Sys2Proof.Machine.execLensArm m c s
  | .lensDisarm m c => Sys2Proof.Machine.execLensDisarm m c s
  | .lensForce m c => Sys2Proof.Machine.execLensForce m c s
  | .calBlock n codes age errA errB resid => Sys2Proof.Machine.execCalBlock n codes age errA errB resid s
  | .calFeedforward => Sys2Proof.Machine.execCalFeedforward s
  | .calRestart m n => Sys2Proof.Machine.execCalRestart m n s
  | .calSample m n => Sys2Proof.Machine.execCalSample m n s
  | .calSampleDone n => Sys2Proof.Machine.execCalSampleDone n s
  | .rfChannelDisable n => Sys2Proof.Machine.execRfChannelDisable n s
  | .toneItem n codes phase => Sys2Proof.Machine.execToneItem n codes phase s
  | .arcAssert n ref codes age => Sys2Proof.Machine.execArcAssert n ref codes age s
  | .arcDeassert n => Sys2Proof.Machine.execArcDeassert n s
  | .acqLoad m k => Sys2Proof.Machine.execAcqLoad m k s
  | .acqUnload m k => Sys2Proof.Machine.execAcqUnload m k s
  | .acqArm m k => Sys2Proof.Machine.execAcqArm m k s
  | .acqArmToken => Sys2Proof.Machine.execAcqArmToken s
  | .acqDisarm m k => Sys2Proof.Machine.execAcqDisarm m k s
  | .acqForce m k => Sys2Proof.Machine.execAcqForce m k s
  | .acqTrigger k feed => Sys2Proof.Machine.execAcqTrigger k feed s
  | .segmentComplete k feeds => Sys2Proof.Machine.execSegmentComplete k feeds s
  | .segmentRearm k => Sys2Proof.Machine.execSegmentRearm k s
  | .acqRelease m k count => Sys2Proof.Machine.execAcqRelease m k count s
  | .acqQueueOverflow k => Sys2Proof.Machine.execAcqQueueOverflow k s
  | .scanTrigger c => Sys2Proof.Machine.execScanTrigger c s
  | .swtrig m c => Sys2Proof.Machine.execSwtrig m c s
  | .conversionComplete c raw => Sys2Proof.Machine.execConversionComplete c raw s
  | .diagRequest m t conv pos chk => Sys2Proof.Machine.execDiagRequest m t conv pos chk s
  | .diagComplete t d1 m1 d2 m2 i1 i2 np nm => Sys2Proof.Machine.execDiagComplete t d1 m1 d2 m2 i1 i2 np nm s
  | .dacCodeWrite m d code => Sys2Proof.Machine.execDacCodeWrite m d code s
  | .dacLoad d => Sys2Proof.Machine.execDacLoad d s
  | .rioDisc m p => Sys2Proof.Machine.execRioDisc m p s
  | .drep p fcs frame => Sys2Proof.Machine.execDrep p fcs frame s
  | .discoveryEnd p => Sys2Proof.Machine.execDiscoveryEnd p s
  | .cack p fcs frame => Sys2Proof.Machine.execCack p fcs frame s
  | .hello p fcs frame => Sys2Proof.Machine.execHello p fcs frame s
  | .rioStart m p => Sys2Proof.Machine.execRioStart m p s
  | .rioStop m p => Sys2Proof.Machine.execRioStop m p s
  | .rioCycleStart p => Sys2Proof.Machine.execRioCycleStart p s
  | .ifr p fcs frame => Sys2Proof.Machine.execIfr p fcs frame s
  | .cycleClose p => Sys2Proof.Machine.execCycleClose p s
  | .pwmCommit m groups => Sys2Proof.Machine.execPwmCommit m groups s
  | .shadowWrite m k which w => Sys2Proof.Machine.execShadowWrite m k which w s
  | .pwmReload k => Sys2Proof.Machine.execPwmReload k s
  | .pwmRestart k => Sys2Proof.Machine.execPwmRestart k s
  | .tripAssert i0 level => Sys2Proof.Machine.execTripAssert i0 level s
  | .latchoffClear m k => Sys2Proof.Machine.execLatchoffClear m k s
  | .swsCrossing k rising => Sys2Proof.Machine.execSwsCrossing k rising s
  | .deadTimeEnd k => Sys2Proof.Machine.execDeadTimeEnd k s
  | .compareFire k j => Sys2Proof.Machine.execCompareFire k j s
  | .staticLevelWrite m g w => Sys2Proof.Machine.execStaticLevelWrite m g w s
  | .fastCut n on => Sys2Proof.Machine.execFastCut n on s
  | .fastCutClear m k => Sys2Proof.Machine.execFastCutClear m k s
  | .movePush m k kind prof tag => Sys2Proof.Machine.execMovePush m k kind prof tag s
  | .axisStop m k => Sys2Proof.Machine.execAxisStop m k s
  | .fclr m k => Sys2Proof.Machine.execFclr m k s
  | .setpos m k => Sys2Proof.Machine.execSetpos m k s
  | .stepIssue k => Sys2Proof.Machine.execStepIssue k s
  | .drivePeriod j ia ib => Sys2Proof.Machine.execDrivePeriod j ia ib s
  | .holdCurrent j => Sys2Proof.Machine.execHoldCurrent j s
  | .stallDetect j => Sys2Proof.Machine.execStallDetect j s
  | .axisFault k => Sys2Proof.Machine.execAxisFault k s
  | .canFrameRx c res ide rtr fdf brs esi id dlc data => Sys2Proof.Machine.execCanFrameRx c res ide rtr fdf brs esi id dlc data s
  | .txreq m c b => Sys2Proof.Machine.execTxreq m c b s
  | .canAbort m c b => Sys2Proof.Machine.execCanAbort m c b s
  | .canTxComplete c b res => Sys2Proof.Machine.execCanTxComplete c b res s
  | .canTxTimeout c b => Sys2Proof.Machine.execCanTxTimeout c b s
  | .errorPassive c tx => Sys2Proof.Machine.execErrorPassive c tx s
  | .busOff c => Sys2Proof.Machine.execBusOff c s
  | .recover m c => Sys2Proof.Machine.execRecover m c s
  | .canRecoveryDone c => Sys2Proof.Machine.execCanRecoveryDone c s
  | .canRxTimeout c b => Sys2Proof.Machine.execCanRxTimeout c b s
  | .cyclicTaskStart t => Sys2Proof.Machine.execCyclicTaskStart t s
  | .errmaxExpiry => Sys2Proof.Machine.execErrmaxExpiry s
  | .evtGo m t => Sys2Proof.Machine.execEvtGo m t s
  | .taskPublish t => Sys2Proof.Machine.execTaskPublish t s
  | .taskOverrun t => Sys2Proof.Machine.execTaskOverrun t s
  | .programLoad m => Sys2Proof.Machine.execProgramLoad m s
  | .programLoadDone => Sys2Proof.Machine.execProgramLoadDone s
  | .exchange m align => Sys2Proof.Machine.execExchange m align s
  | .exchangeFreeze => Sys2Proof.Machine.execExchangeFreeze s
  | .exchangeMigrate => Sys2Proof.Machine.execExchangeMigrate s
  | .migrationDone => Sys2Proof.Machine.execMigrationDone s
  | .exchangeDurable => Sys2Proof.Machine.execExchangeDurable s
  | .cold m => Sys2Proof.Machine.execCold m s
  | .discard m => Sys2Proof.Machine.execDiscard m s
  | .retentionSetLogged => Sys2Proof.Machine.execRetentionSetLogged s
  | .redoApply => Sys2Proof.Machine.execRedoApply s
  | .add c rd ra rb => Sys2Proof.Machine.execAdd c rd ra rb s
  | .sub c rd ra rb => Sys2Proof.Machine.execSub c rd ra rb s
  | .and c rd ra rb => Sys2Proof.Machine.execAnd c rd ra rb s
  | .or c rd ra rb => Sys2Proof.Machine.execOr c rd ra rb s
  | .xor c rd ra rb => Sys2Proof.Machine.execXor c rd ra rb s
  | .andn c rd ra rb => Sys2Proof.Machine.execAndn c rd ra rb s
  | .sll c rd ra rb => Sys2Proof.Machine.execSll c rd ra rb s
  | .srl c rd ra rb => Sys2Proof.Machine.execSrl c rd ra rb s
  | .sra c rd ra rb => Sys2Proof.Machine.execSra c rd ra rb s
  | .slt c rd ra rb => Sys2Proof.Machine.execSlt c rd ra rb s
  | .sltu c rd ra rb => Sys2Proof.Machine.execSltu c rd ra rb s
  | .min c rd ra rb => Sys2Proof.Machine.execMin c rd ra rb s
  | .max c rd ra rb => Sys2Proof.Machine.execMax c rd ra rb s
  | .clz c rd ra => Sys2Proof.Machine.execClz c rd ra s
  | .sextb c rd ra => Sys2Proof.Machine.execSextb c rd ra s
  | .sexth c rd ra => Sys2Proof.Machine.execSexth c rd ra s
  | .mul c rd ra rb => Sys2Proof.Machine.execMul c rd ra rb s
  | .mulh c rd ra rb => Sys2Proof.Machine.execMulh c rd ra rb s
  | .mulhu c rd ra rb => Sys2Proof.Machine.execMulhu c rd ra rb s
  | .div c rd ra rb => Sys2Proof.Machine.execDiv c rd ra rb s
  | .divu c rd ra rb => Sys2Proof.Machine.execDivu c rd ra rb s
  | .rem c rd ra rb => Sys2Proof.Machine.execRem c rd ra rb s
  | .remu c rd ra rb => Sys2Proof.Machine.execRemu c rd ra rb s
  | .slli c rd ra n => Sys2Proof.Machine.execSlli c rd ra n s
  | .srli c rd ra n => Sys2Proof.Machine.execSrli c rd ra n s
  | .srai c rd ra n => Sys2Proof.Machine.execSrai c rd ra n s
  | .addi c rd ra imm => Sys2Proof.Machine.execAddi c rd ra imm s
  | .andi c rd ra imm => Sys2Proof.Machine.execAndi c rd ra imm s
  | .ori c rd ra imm => Sys2Proof.Machine.execOri c rd ra imm s
  | .xori c rd ra imm => Sys2Proof.Machine.execXori c rd ra imm s
  | .slti c rd ra imm => Sys2Proof.Machine.execSlti c rd ra imm s
  | .sltiu c rd ra imm => Sys2Proof.Machine.execSltiu c rd ra imm s
  | .lui c rd imm => Sys2Proof.Machine.execLui c rd imm s
  | .lw c rd ra imm => Sys2Proof.Machine.execLw c rd ra imm s
  | .lh c rd ra imm => Sys2Proof.Machine.execLh c rd ra imm s
  | .lhu c rd ra imm => Sys2Proof.Machine.execLhu c rd ra imm s
  | .lb c rd ra imm => Sys2Proof.Machine.execLb c rd ra imm s
  | .lbu c rd ra imm => Sys2Proof.Machine.execLbu c rd ra imm s
  | .sw c rb ra imm => Sys2Proof.Machine.execSw c rb ra imm s
  | .sh c rb ra imm => Sys2Proof.Machine.execSh c rb ra imm s
  | .sb c rb ra imm => Sys2Proof.Machine.execSb c rb ra imm s
  | .ld c rd ra imm => Sys2Proof.Machine.execLd c rd ra imm s
  | .sd c rb ra imm => Sys2Proof.Machine.execSd c rb ra imm s
  | .beq c ra rb imm => Sys2Proof.Machine.execBeq c ra rb imm s
  | .bne c ra rb imm => Sys2Proof.Machine.execBne c ra rb imm s
  | .blt c ra rb imm => Sys2Proof.Machine.execBlt c ra rb imm s
  | .bge c ra rb imm => Sys2Proof.Machine.execBge c ra rb imm s
  | .bltu c ra rb imm => Sys2Proof.Machine.execBltu c ra rb imm s
  | .bgeu c ra rb imm => Sys2Proof.Machine.execBgeu c ra rb imm s
  | .jal c rd imm => Sys2Proof.Machine.execJal c rd imm s
  | .jalr c rd ra imm => Sys2Proof.Machine.execJalr c rd ra imm s
  | .qadd c rd ra rb => Sys2Proof.Machine.execQadd c rd ra rb s
  | .qsub c rd ra rb => Sys2Proof.Machine.execQsub c rd ra rb s
  | .qneg c rd ra => Sys2Proof.Machine.execQneg c rd ra s
  | .qabs c rd ra => Sys2Proof.Machine.execQabs c rd ra s
  | .qmul c rd ra rb => Sys2Proof.Machine.execQmul c rd ra rb s
  | .qmac c rd ra rb => Sys2Proof.Machine.execQmac c rd ra rb s
  | .qmulx c rd ra rb => Sys2Proof.Machine.execQmulx c rd ra rb s
  | .qmacx c rd ra rb => Sys2Proof.Machine.execQmacx c rd ra rb s
  | .qshl c rd ra rb => Sys2Proof.Machine.execQshl c rd ra rb s
  | .qshr c rd ra rb => Sys2Proof.Machine.execQshr c rd ra rb s
  | .qlim c rd ra rb => Sys2Proof.Machine.execQlim c rd ra rb s
  | .qxq c rd ra => Sys2Proof.Machine.execQxq c rd ra s
  | .qqx c rd ra => Sys2Proof.Machine.execQqx c rd ra s
  | .fadd c rd ra rb => Sys2Proof.Machine.execFadd c rd ra rb s
  | .fsub c rd ra rb => Sys2Proof.Machine.execFsub c rd ra rb s
  | .fmul c rd ra rb => Sys2Proof.Machine.execFmul c rd ra rb s
  | .fdiv c rd ra rb => Sys2Proof.Machine.execFdiv c rd ra rb s
  | .fsqrt c rd ra => Sys2Proof.Machine.execFsqrt c rd ra s
  | .fmadd c rd ra rb => Sys2Proof.Machine.execFmadd c rd ra rb s
  | .fmin c rd ra rb => Sys2Proof.Machine.execFmin c rd ra rb s
  | .fmax c rd ra rb => Sys2Proof.Machine.execFmax c rd ra rb s
  | .fneg c rd ra => Sys2Proof.Machine.execFneg c rd ra s
  | .fabs c rd ra => Sys2Proof.Machine.execFabs c rd ra s
  | .fcmpeq c rd ra rb => Sys2Proof.Machine.execFcmpeq c rd ra rb s
  | .fcmplt c rd ra rb => Sys2Proof.Machine.execFcmplt c rd ra rb s
  | .fcmple c rd ra rb => Sys2Proof.Machine.execFcmple c rd ra rb s
  | .fcvtws c rd ra => Sys2Proof.Machine.execFcvtws c rd ra s
  | .fcvtsw c rd ra => Sys2Proof.Machine.execFcvtsw c rd ra s
  | .fcvtqs c rd ra => Sys2Proof.Machine.execFcvtqs c rd ra s
  | .fcvtsq c rd ra => Sys2Proof.Machine.execFcvtsq c rd ra s
  | .swap c rd ra rb => Sys2Proof.Machine.execSwap c rd ra rb s
  | .aadd c rd ra rb => Sys2Proof.Machine.execAadd c rd ra rb s
  | .fence c => Sys2Proof.Machine.execFence c s
  | .fenceAcq c => Sys2Proof.Machine.execFenceAcq c s
  | .fenceRel c => Sys2Proof.Machine.execFenceRel c s
  | .fenceI c => Sys2Proof.Machine.execFenceI c s
  | .mfcr c rd n => Sys2Proof.Machine.execMfcr c rd n s
  | .mtcr c ra n => Sys2Proof.Machine.execMtcr c ra n s
  | .svreq c code => Sys2Proof.Machine.execSvreq c code s
  | .dbgreq c code => Sys2Proof.Machine.execDbgreq c code s
  | .xret c => Sys2Proof.Machine.execXret c s
  | .waiti c => Sys2Proof.Machine.execWaiti c s
  | .waitiWake c => Sys2Proof.Machine.execWaitiWake c s
  | .tpost c rd ra rb slot => Sys2Proof.Machine.execTpost c rd ra rb slot s
  | .ttake c rd slot => Sys2Proof.Machine.execTtake c rd slot s
  | .tdone c ra => Sys2Proof.Machine.execTdone c ra s
  | .twait c ra => Sys2Proof.Machine.execTwait c ra s
  | .twaitExpiry c => Sys2Proof.Machine.execTwaitExpiry c s
  | .impreciseBusst c => Sys2Proof.Machine.execImpreciseBusst c s
  | .interrupt c => Sys2Proof.Machine.execInterrupt c s
  | .timerCompare c => Sys2Proof.Machine.execTimerCompare c s
  | .halt m c => Sys2Proof.Machine.execHalt m c s
  | .resume m c => Sys2Proof.Machine.execResume m c s
  | .coreStep m c => Sys2Proof.Machine.execCoreStep m c s
  | .coreReset m c => Sys2Proof.Machine.execCoreReset m c s
  | .alloc c => Sys2Proof.Machine.execAlloc c s
  | .dispFree c d => Sys2Proof.Machine.execDispFree c d s
  | .dispArm c d => Sys2Proof.Machine.execDispArm c d s
  | .cancel c d => Sys2Proof.Machine.execCancel c d s
  | .post c d slot => Sys2Proof.Machine.execPost c d slot s
  | .prio c d => Sys2Proof.Machine.execPrio c d s
  | .tokenMatch => Sys2Proof.Machine.execTokenMatch s
  | .delayRelease => Sys2Proof.Machine.execDelayRelease s
  | .taskDispatch c => Sys2Proof.Machine.execTaskDispatch c s
  | .join m c => Sys2Proof.Machine.execJoin m c s
  | .leave m c => Sys2Proof.Machine.execLeave m c s
  | .hwmclr m => Sys2Proof.Machine.execHwmclr m s
  | .islandTick sealA sealB rbh rbl => Sys2Proof.Machine.execIslandTick sealA sealB rbh rbl s
  | .islandSilence => Sys2Proof.Machine.execIslandSilence s
  | .safeInputSample a b => Sys2Proof.Machine.execSafeInputSample a b s
  | .testPulse j preA preB chkA chkB postA postB => Sys2Proof.Machine.execTestPulse j preA preB chkA chkB postA postB s
  | .lockstepMismatch => Sys2Proof.Machine.execLockstepMismatch s
  | .tickWindow ticks => Sys2Proof.Machine.execTickWindow ticks s
  | .islandPowerUp => Sys2Proof.Machine.execIslandPowerUp s
  | .islandStartDone pass => Sys2Proof.Machine.execIslandStartDone pass s
  | .configWriteDone => Sys2Proof.Machine.execConfigWriteDone s
  | .switchTest o hsClosed hsOpen lsClosed lsOpen => Sys2Proof.Machine.execSwitchTest o hsClosed hsOpen lsClosed lsOpen s
  | .telegramSend c => Sys2Proof.Machine.execTelegramSend c s
  | .telegram net bs => Sys2Proof.Machine.execTelegram net bs s
  | .connectionTimeout c => Sys2Proof.Machine.execConnectionTimeout c s
  | .closeMsg n k seq crc outs mode epoch swap mirrors => Sys2Proof.Machine.execClose n k seq crc outs mode epoch swap mirrors s
  | .item src stamp seq k => Sys2Proof.Machine.execItem src stamp seq k s
  | .fwd src stamp k outs => Sys2Proof.Machine.execFwd src stamp k outs s
  | .hbeat n inStep => Sys2Proof.Machine.execHbeat n inStep s
  | .digest n d => Sys2Proof.Machine.execDigest n d s
  | .digestForm => Sys2Proof.Machine.execDigestForm s
  | .heartbeatMiss => Sys2Proof.Machine.execHeartbeatMiss s
  | .takeover => Sys2Proof.Machine.execTakeover s
  | .leaderStall => Sys2Proof.Machine.execLeaderStall s
  | .ownsnsFall levels => Sys2Proof.Machine.execOwnsnsFall levels s
  | .laneDown lane => Sys2Proof.Machine.execLaneDown lane s
  | .twinHello pair h dly0 dly1 => Sys2Proof.Machine.execTwinHello pair h dly0 dly1 s
  | .twinSwap m => Sys2Proof.Machine.execTwinSwap m s
  | .swapHandover => Sys2Proof.Machine.execSwapHandover s
  | .twinResync m => Sys2Proof.Machine.execTwinResync m s
  | .abortrs m => Sys2Proof.Machine.execAbortrs m s
  | .state phase mib rounds cut parts => Sys2Proof.Machine.execState phase mib rounds cut parts s
  | .resyncCut => Sys2Proof.Machine.execResyncCut s
  | .resyncTimeout => Sys2Proof.Machine.execResyncTimeout s
  | .anchorTakeback g => Sys2Proof.Machine.execAnchorTakeback g s
  | .modeRequest target role id => Sys2Proof.Machine.execModeRequest target role id s
  | .modeTransition => Sys2Proof.Machine.execModeTransition s
  | .reboot role => Sys2Proof.Machine.execReboot role s
  | .safeTrigger cause => Sys2Proof.Machine.execSafeTrigger cause s
  | .braceEntry => Sys2Proof.Machine.execBraceEntry s
  | .braceExit => Sys2Proof.Machine.execBraceExit s
  | .d0PowerGood low => Sys2Proof.Machine.execD0PowerGood low s
  | .seedEnd => Sys2Proof.Machine.execSeedEnd s
  | .nresetAccept => Sys2Proof.Machine.execNresetAccept s
  | .nresetRelease => Sys2Proof.Machine.execNresetRelease s
  | .nresetStuck => Sys2Proof.Machine.execNresetStuck s
  | .blockSoftReset b role => Sys2Proof.Machine.execBlockSoftReset b role s
  | .feedMeasure va ca vb cb rails banks => Sys2Proof.Machine.execFeedMeasure va ca vb cb rails banks s
  | .feedLow f => Sys2Proof.Machine.execFeedLow f s
  | .feedPresent f => Sys2Proof.Machine.execFeedPresent f s
  | .feedOvervoltage f => Sys2Proof.Machine.execFeedOvervoltage f s
  | .supplyWarning => Sys2Proof.Machine.execSupplyWarning s
  | .retentionCommitDone => Sys2Proof.Machine.execRetentionCommitDone s
  | .warningDeassert mv => Sys2Proof.Machine.execWarningDeassert mv s
  | .feedReset mv => Sys2Proof.Machine.execFeedReset mv s
  | .dark => Sys2Proof.Machine.execDark s
  | .domainFault d cause => Sys2Proof.Machine.execDomainFault d cause s
  | .domainSwitch m en => Sys2Proof.Machine.execDomainSwitch m en s
  | .vioLow k => Sys2Proof.Machine.execVioLow k s
  | .peakclr m => Sys2Proof.Machine.execPeakclr m s
  | .hostPacketRx p good sess cookie seq len op => Sys2Proof.Machine.execHostPacketRx p good sess cookie seq len op s
  | .openReq port peer seq role proof => Sys2Proof.Machine.execOpen port peer seq role proof s
  | .hostClose n seq order => Sys2Proof.Machine.execHostClose n seq order s
  | .ping n seq order => Sys2Proof.Machine.execPing n seq order s
  | .read n seq order a k => Sys2Proof.Machine.execRead n seq order a k s
  | .write n seq order a ws => Sys2Proof.Machine.execWrite n seq order a ws s
  | .mbxread n seq order blk item index => Sys2Proof.Machine.execMbxread n seq order blk item index s
  | .sigread n seq order sid k => Sys2Proof.Machine.execSigread n seq order sid k s
  | .sigwrite n seq order sid v st => Sys2Proof.Machine.execSigwrite n seq order sid v st s
  | .hostMode n seq order target => Sys2Proof.Machine.execHostMode n seq order target s
  | .ringread n seq order ring most => Sys2Proof.Machine.execRingread n seq order ring most s
  | .stropen n seq order o found => Sys2Proof.Machine.execStropen n seq order o found s
  | .strclose n seq order k => Sys2Proof.Machine.execStrclose n seq order k s
  | .evsub n seq order sev => Sys2Proof.Machine.execEvsub n seq order sev s
  | .sessionIdleTimeout n => Sys2Proof.Machine.execSessionIdleTimeout n s
  | .requestTimeout n seq => Sys2Proof.Machine.execRequestTimeout n seq s
  | .destResolveTimeout k => Sys2Proof.Machine.execDestResolveTimeout k s
  | .streamRow k => Sys2Proof.Machine.execStreamRow k s
  | .streamPacketSend k nrow => Sys2Proof.Machine.execStreamPacketSend k nrow s
  | .streamAck k cum naks => Sys2Proof.Machine.execStreamAck k cum naks s
  | .streamRetransmit k => Sys2Proof.Machine.execStreamRetransmit k s
  | .streamForceClose m k => Sys2Proof.Machine.execStreamForceClose m k s
  | .eventOccurrence => Sys2Proof.Machine.execEventOccurrence s
  | .fumaroleWindowClose => Sys2Proof.Machine.execFumaroleWindowClose s
  | .fumaroleKeyExpiry => Sys2Proof.Machine.execFumaroleKeyExpiry s
  | .eventRecordWrite => Sys2Proof.Machine.execEventRecordWrite s
  | .repeatWriteback => Sys2Proof.Machine.execRepeatWriteback s
  | .safeMirrorRead => Sys2Proof.Machine.execSafeMirrorRead s
  | .tempSample t => Sys2Proof.Machine.execTempSample t s
  | .tavgUpdate => Sys2Proof.Machine.execTavgUpdate s
  | .ageingUpdate ro em mw => Sys2Proof.Machine.execAgeingUpdate ro em mw s
  | .queryTimeout => Sys2Proof.Machine.execQueryTimeout s
  | .kick m => Sys2Proof.Machine.execKick m s
  | .keeperWatchdog => Sys2Proof.Machine.execKeeperWatchdog s
  | .credSet m role => Sys2Proof.Machine.execCredSet m role s
  | .lockoutExpiry => Sys2Proof.Machine.execLockoutExpiry s
  | .mgmtPacketRx n cookie seq order op => Sys2Proof.Machine.execMgmtPacketRx n cookie seq order op s
  | .monitorLine cs => Sys2Proof.Machine.execMonitorLine cs s
  | .monLogin r => Sys2Proof.Machine.execMonLogin r s
  | .auth resp => Sys2Proof.Machine.execAuth resp s
  | .logout => Sys2Proof.Machine.execLogout s
  | .monMode target => Sys2Proof.Machine.execMonMode target s
  | .peek a words => Sys2Proof.Machine.execPeek a words s
  | .poke a v => Sys2Proof.Machine.execPoke a v s
  | .log n sev keel => Sys2Proof.Machine.execLog n sev keel s
  | .sense => Sys2Proof.Machine.execSense s
  | .time => Sys2Proof.Machine.execTime s
  | .twin => Sys2Proof.Machine.execTwin s
  | .updateStatus => Sys2Proof.Machine.execUpdateStatus s
  | .updateData ofs bs => Sys2Proof.Machine.execUpdateData ofs bs s
  | .baud rate => Sys2Proof.Machine.execBaud rate s
  | .help c => Sys2Proof.Machine.execHelp c s
  | .monitorIdleTimeout => Sys2Proof.Machine.execMonitorIdleTimeout s
  | .begin m => Sys2Proof.Machine.execBegin m s
  | .chunk m => Sys2Proof.Machine.execChunk m s
  | .finish m => Sys2Proof.Machine.execFinish m s
  | .activate m => Sys2Proof.Machine.execActivate m s
  | .confirm m => Sys2Proof.Machine.execConfirm m s
  | .updCancel m => Sys2Proof.Machine.execUpdCancel m s
  | .trialHealthCheck => Sys2Proof.Machine.execTrialHealthCheck s
  | .trialFallback => Sys2Proof.Machine.execTrialFallback s
  | .save m => Sys2Proof.Machine.execSave m s
  | .eraseLog m => Sys2Proof.Machine.execEraseLog m s
  | .eraseRet m => Sys2Proof.Machine.execEraseRet m s
  | .eraseDev m => Sys2Proof.Machine.execEraseDev m s
  | .eraseAge m => Sys2Proof.Machine.execEraseAge m s
  | .nvmCmdDone => Sys2Proof.Machine.execNvmCmdDone s
  | .pwmOnEnd k => Sys2Proof.Machine.execPwmOnEnd k s
  | .blankingWindowClose k => Sys2Proof.Machine.execBlankingWindowClose k s
  | .feedOvervoltageEnd f => Sys2Proof.Machine.execFeedOvervoltageEnd f s
  | .hostLinkChange p up fast fec => Sys2Proof.Machine.execHostLinkChange p up fast fec s
  | .illegalInstruction c w => Sys2Proof.Machine.execIllegalInstruction c w s
  | .seedStepDone ok flt cause => Sys2Proof.Machine.execSeedStepDone ok flt cause s
  | .nresetRearm => Sys2Proof.Machine.execNresetRearm s
  | .updCmdDone ok => Sys2Proof.Machine.execUpdCmdDone ok s

end Sys2Proof.Machine
end

