-- ==== Sys2Proof/Machine/Step.lean ====
section
/-!
DEFINITION. One step: the command at the front of the queue, or, with no command, one edge of CK_TB.
-/
namespace Sys2Proof.Machine

/-- The time base runs with no command waiting: device time takes one edge of CK_TB (03 R87). DESIGN CHOICE: log 1. -/
def idle (s : State) : State := s.finish (tbEdge s.begin)

/-- The front command has its effect on the state with the rest of the queue; with none, the block idles. -/
def step (s : State) : Host.Outcome State Fault Refusal :=
  match s.pending with
  | c :: rest => exec c { s with pending := rest }
  | [] => .next (idle s)

/-- The command that a word spells, put at the front of the queue. -/
def State.withFetchWord (s : State) (nbits w : Nat) : State :=
  match decodeTableWord nbits w with
  | some c => { s with pending := c :: s.pending }
  | none => s

end Sys2Proof.Machine
end

