-- ==== Sys2Proof/Machine/SysTypes.lean ====
section
/-!
DEFINITION. The system types of the cyclic program (13 R352): timers and edge detectors, their state in memory, and what a call
of each does. The code of a task calls them; no command of the device does (log 221).
-/
namespace Sys2Proof.Machine

/-- A variable of kind TIMER, 16 bytes: START in ticks, ET in µs, and the flags RUN, Q and the previous IN (R352). -/
structure Timer where
  start : Nat := 0
  et    : Nat := 0
  run   : Bool := false
  q     : Bool := false
  prev  : Bool := false
  deriving DecidableEq, Repr

/-- The timer at an address. -/
def timerAt (s : State) (a : Nat) : Timer :=
  let f := s.peek (a + 12) 4
  { start := s.peek a 8, et := s.peek (a + 8) 4, run := bit f 0, q := bit f 1, prev := bit f 2 }

/-- The bytes of a timer. -/
def timerBytes (x : Timer) : List Byte :=
  leBytes 8 x.start ++ leBytes 4 x.et ++ leBytes 4 (b2n x.run + 2 * b2n x.q + 4 * b2n x.prev)

/-- ET at a call in the cycle with start tick n: min(PT, (n − START) × 5), in µs. -/
def timerEt (x : Timer) (pt n : Nat) : Nat := min pt ((n - x.start) * 5)

/-- A call of TON. -/
def tonCall (inp : Bool) (pt n : Nat) (x : Timer) : Timer :=
  if !inp then { x with q := false, et := 0, run := false, prev := inp }
  else
    let x := if x.run then x else { x with start := n, run := true }
    let et := timerEt x pt n
    { x with et := et, q := pt ≤ et, prev := inp }

/-- A call of TOF. -/
def tofCall (inp : Bool) (pt n : Nat) (x : Timer) : Timer :=
  if inp then { x with q := true, et := 0, run := false, prev := inp }
  else if !x.q then { x with prev := inp }
  else
    let x := if x.run then x else { x with start := n, run := true }
    let et := timerEt x pt n
    { x with et := et, q := et < pt, run := et < pt, prev := inp }

/-- A call of TP. RUN has no part in it. -/
def tpCall (inp : Bool) (pt n : Nat) (x : Timer) : Timer :=
  let x := if inp && !x.prev && !x.q then { x with start := n, q := true } else x
  let x := if x.q then { x with et := timerEt x pt n, q := timerEt x pt n < pt } else x
  { x with et := if x.q || inp then x.et else 0, prev := inp }

/-- A call of an edge detector with its previous input: Q and the new PREV. -/
def edgeCall (rising clk prev : Bool) : Bool × Bool := (if rising then clk && !prev else !clk && prev, clk)

/-- A call of the system type `typ` (its TYPEID) on the state at address a, in a cycle with start tick n: Q and the machine after
it; none where the type is no system type. `inp` is IN or CLK, `pt` is PT in µs. -/
def sysTypeCall (typ a : Nat) (inp : Bool) (pt n : Nat) (s : State) : Option (Bool × State) :=
  let timer := fun (f : Bool → Nat → Nat → Timer → Timer) =>
    let x := f inp pt n (timerAt s a)
    some (x.q, rtWrite a (timerBytes x) s)
  let edge := fun (rising : Bool) =>
    let r := edgeCall rising inp (bit (s.peek a 4) 0)
    some (r.1, rtWrite a (leBytes 4 (b2n r.2)) s)
  if typ = 0xFFFF0001 then timer tonCall
  else if typ = 0xFFFF0002 then timer tofCall
  else if typ = 0xFFFF0003 then timer tpCall
  else if typ = 0xFFFF0010 then edge true
  else if typ = 0xFFFF0011 then edge false
  else none

end Sys2Proof.Machine
end

