-- ==== Sys2Proof/Safety.lean ====
section
/-!
DEFINITION. What counts as a safe run: the terms that the statements use.
-/
namespace Sys2Proof.Machine

/-- An outcome that is a next state. -/
def isNext (o : Host.Outcome State Fault Refusal) : Prop := ∃ t, o = .next t

/-- No block of a list shows behaviour that the spec leaves unspecified (02 R66). -/
def specified (bs : List Block) (s : State) : Prop := ∀ b ∈ bs, b.index ∉ s.tainted

/-- The blocks of a list behave as specified, and the device runs: it is not in Dark (18 R498). -/
def Live (bs : List Block) (s : State) : Prop := specified bs s ∧ s.mode ≠ .dark

/-- A write of word `w` by master `m` to a register of block `k` with write guard `g` passes every check of 02 R70, and
changes no reserved field (R66). `free` marks MBX_REQ, which lies outside every write scope (R58). -/
def GrantedAt (k : Block) (g : Guard) (free : Bool) (m : Master) (r : Reg) (ix : List Nat) (w : Word) (s : State) : Prop :=
  r.inRange ix = true ∧ s.powered k = true ∧ (free || inScope m k) = true ∧ qualifies s m g = true ∧
    (changesLk r (s.reg r ix) w = true → k.index ∉ s.locked) ∧ changesReserved r (s.reg r ix) w = false

/-- The same of a register of the tables. -/
def Granted (m : Master) (r : Reg) (ix : List Nat) (w : Word) (s : State) : Prop := GrantedAt r.blk r.wr false m r ix w s

/-- The answer OKAY to a write (02 R68). -/
def State.ack (s : State) : State := s.say (.resp (.ok 0))

/-- Command `i`, the write `f` of word `w` by master `m` at address `a` of block `k`, takes effect on `s`: the write answers OKAY
and leaves `u`, and the command answers it at once; but that of a host session to a control-plane block waits as an item, and
the write is made with the batch that admits it (02 R61). -/
def TakesEffectAt (i : Instr) (m : Master) (k : Block) (a : Nat) (w : Word) (f : State → Resp × State) (s u : State) : Prop :=
  let b := s.begin
  f b = (.ok 0, u) ∧ exec i s = .next (s.finish (match hostAdmits m k b with
    | some (n, r) => b.pushItem (312 + n) b.now (.hostWrite n 0 a r [w])
    | none => u.ack))

/-- The same of a register of the tables, which acts as its block says. -/
def TakesEffect (i : Instr) (m : Master) (r : Reg) (ix : List Nat) (w : Word) (s u : State) : Prop :=
  TakesEffectAt i m r.blk (r.addr ix) w (regWrite (actOf r) m r ix w) s u

/-- Core `c` executes the instruction at its PC: it runs, and nothing of higher priority waits at this boundary (14 R396):
no imprecise BUSST, no DEBUG, no IFETCH, no interrupt. -/
def Executes (c : Nat) (s : State) : Prop :=
  let x := s.core c
  x.run = .running ∧ x.halted = false ∧ (x.imp = none ∨ x.xact = true) ∧
    (x.bkpt.getLsbD 0 = true → x.bkpt.toNat / 4 * 4 = x.pc → x.xact = true) ∧
    fetchAt s c x.pc = some 0 ∧ interruptReady x = false

/-- The state in which core `c` executes its next instruction: the codes of its earlier TPOSTs have reached their
registers (14 R390). -/
def ready (c : Nat) (s : State) : State := settle c s.begin

/-- What is left when an instruction of core `c` has done `t`. -/
def retired (c : Nat) (s t : State) : State := s.finish (endStep c t)

/-- The invariant of the memory: its canonical form. -/
def MemOk (s : State) : Prop := Memory.wf s.mem = true

/-- A field lies within a word, and so do the bits that it clears. -/
def fieldFits (f : FieldDesc) : Bool :=
  f.lo ≤ f.hi && f.hi < 32 && (match f.acc with
    | .w1cTo t => t + (f.hi - f.lo) < 32
    | _ => true)

/-! ### Runs -/

/-- `n` steps, one after the other; the first that does not answer a next state ends the run. -/
def steps : Nat → State → Host.Outcome State Fault Refusal
  | 0, s => .next s
  | n + 1, s => match step s with
    | .next t => steps n t
    | o => o

/-! ### SPW32 -/

/-- The core and the destination register of an instruction that reads general registers and writes at most one of them: the
integer group, the immediate instructions, the jumps and branches (which name g0 here where they have no rd), and the
fixed-point group (14 R378, R379, R382, R383). -/
def regDest : Instr → Option (Fin 18 × Fin 32)
  | .add c rd _ _ | .sub c rd _ _ | .and c rd _ _ | .or c rd _ _ | .xor c rd _ _ | .andn c rd _ _
  | .sll c rd _ _ | .srl c rd _ _ | .sra c rd _ _ | .slt c rd _ _ | .sltu c rd _ _ | .min c rd _ _
  | .max c rd _ _ | .mul c rd _ _ | .mulh c rd _ _ | .mulhu c rd _ _ | .div c rd _ _ | .divu c rd _ _
  | .rem c rd _ _ | .remu c rd _ _ | .qadd c rd _ _ | .qsub c rd _ _ | .qmul c rd _ _ | .qmulx c rd _ _
  | .qmac c rd _ _ | .qmacx c rd _ _ | .qshl c rd _ _ | .qshr c rd _ _ | .qlim c rd _ _ => some (c, rd)
  | .clz c rd _ | .sextb c rd _ | .sexth c rd _ | .qneg c rd _ | .qabs c rd _ | .qxq c rd _ | .qqx c rd _ => some (c, rd)
  | .addi c rd _ _ | .andi c rd _ _ | .ori c rd _ _ | .xori c rd _ _ | .slti c rd _ _ | .sltiu c rd _ _
  | .slli c rd _ _ | .srli c rd _ _ | .srai c rd _ _ | .jalr c rd _ _ => some (c, rd)
  | .lui c rd _ | .jal c rd _ => some (c, rd)
  | .beq c _ _ _ | .bne c _ _ _ | .blt c _ _ _ | .bge c _ _ _ | .bltu c _ _ _ | .bgeu c _ _ _ => some (c, 0)
  | _ => none

/-- Where the model keeps the bytes that a store of `n` bytes by core `c` to address `a` writes: none where the store is
refused, or where it goes to a register. -/
def storedAt (s : State) (c a n : Nat) : Option Nat :=
  if (privateAt a).isSome || (c < 16 && a < 0x20000 && !(s.core c).priv) then none
  else match memAt (coreMaster c) a n with
  | some (.loc k) => some k
  | some .caldera => if s.domOn 6 && masterPlane (coreMaster c) = calderaOwner s a then some a else none
  | some .lens => if s.domOn 11 then some a else none
  | _ => none

end Sys2Proof.Machine
end

