-- ==== Sys2Proof/Certificates/Slice0/Obligations.lean ====
section
/-!
DEFINITION. The statements about the KV6416: what each command does, the rules that hold over all of them, and the invariants.
-/
open Sys2Proof Sys2Proof.Machine

/-- For every command and every state, the step of the state with that command put at the front of its queue is the
command's effect on the state with the queue's rest. (95_what_each_step_holds.md) -/
def Obligations.StepRunsFront : Prop :=
  ∀ (c : Instr) (s : State), step { s with pending := c :: s.pending } = exec c s

/-- On an empty queue the step answers the state after one edge of CK_TB: device time takes one increment (log 1, the
model's choice). (R87) -/
def Obligations.IdleStep : Prop :=
  ∀ (s : State), s.pending = [] → step s = .next (s.finish (tbEdge s.begin))

/-- A run of n steps that answers a next state leaves the queue without its first n commands, whatever they are; a run as
long as the queue empties it. (95_what_each_step_holds.md) -/
def Obligations.QueueInOrder : Prop :=
  (∀ (n : Nat) (s t : State), steps n s = .next t → t.pending = s.pending.drop n) ∧
    (∀ (s t : State), steps s.pending.length s = .next t → t.pending = [])

/-- In a state in which no block shows unspecified behaviour, every command with every operand answers a next state. In
any state a command never answers a refusal, and it answers a fault only where a block is tainted (R66), by the name
unspecifiedBehaviour. (R66) -/
def Obligations.EveryCommandRuns : Prop :=
  (∀ (c : Instr) (s : State), s.tainted = [] → isNext (exec c s)) ∧
    (∀ (c : Instr) (s : State) (r : Refusal), exec c s ≠ .refused r) ∧
    (∀ (c : Instr) (s : State) (f : Fault), exec c s = .fault f → f = .unspecifiedBehaviour ∧ s.tainted ≠ [])

/-- From every state whose memory has its canonical form (addresses strictly rising, no byte equal to what an unlisted
address reads as), whatever command is at the front, a step that answers a next state leaves a memory in canonical
form, and so does a run of any number of steps. The form is the model's. (R13) -/
def Obligations.MemoryStaysCanonical : Prop :=
  (∀ (s t : State), MemOk s → step s = .next t → MemOk t) ∧
    (∀ (n : Nat) (s t : State), MemOk s → steps n s = .next t → MemOk t)

/-- At reset the memory lists nothing, and its form is canonical. (R13) -/
def Obligations.ResetMemoryCanonical : Prop :=
  MemOk State.reset ∧ State.reset.mem = []

/-- At reset the mode is Seed, no command waits, no event token is in the fabric, no block is locked or tainted, every
core is in CORE reset in supervisor mode with PC and every general register 0, and every register other than
PWR_DOMSTAT's word reads the reset value of its table; a reset value that a table does not give is the model's (see
the log). (R400, R498, R510) -/
def Obligations.ResetState : Prop :=
    let s := State.reset
    s.mode = .seed ∧ s.pending = [] ∧ s.out = [] ∧ s.evq = [] ∧ s.locked = [] ∧ s.tainted = [] ∧
    (∀ f ∈ s.fab, f.tokens = []) ∧
    (∀ c < 18, (s.core c).run = .reset ∧ (s.core c).pc = 0 ∧ (s.core c).priv = true ∧ ∀ r < 32, s.gr c r = 0) ∧
    (∀ (r : Reg) (ix : List Nat), r.addr ix ≠ PWR_DOMSTAT.addr [] → s.reg r ix = r.reset)

/-- In Dark every command other than D0_POWER_GOOD, whatever its operands, answers a fault of a tainted block or leaves
the state as it was, with nothing put out. (R498) -/
def Obligations.DarkIsFrozen : Prop :=
  ∀ (c : Instr) (s t : State), s.mode = .dark → (∀ low, c ≠ .d0PowerGood low) → exec c s = .next t →
    t = s.finish s.begin

/-- At the address of a register of a powered block: a read by a master that does not qualify answers OKAY with zero,
increments SYS_GUARDV.RD (which saturates), records no event and changes no other register; a write outside the scope,
or by a master that does not qualify, answers an error, increments SYS_GUARDV.WR, records a severity 4 event with the
master and the address in the block's queue, and changes no other register and no memory. (R60) -/
def Obligations.GuardRule : Prop :=
  ∀ (m : Master) (a w : Word) (r : Reg) (ix : List Nat) (s : State), placeAt a.toNat = some (.reg r ix) → a.toNat % 4 = 0 →
    r.inRange ix = true → s.powered r.blk = true →
    let k := r.blk.index
    let g := SYS_GUARDV.addr []
    (qualifies s m r.rd = false → ∃ u, busRead m a.toNat 4 s = (.ok 0, u) ∧
      u.fld SYS_GUARDV_RD = min 65535 (s.fld SYS_GUARDV_RD + 1) ∧ u.fab = s.fab ∧ u.evq = s.evq ∧ u.mem = s.mem ∧
      ∀ q jx, Reg.addr q jx ≠ g → u.reg q jx = s.reg q jx) ∧
    (inScope m r.blk = false ∨ qualifies s m r.wr = false → ∃ u, busWrite m a.toNat 4 w.toNat s = (.err .guard, u) ∧
      u.fld SYS_GUARDV_WR = min 65535 (s.fld SYS_GUARDV_WR + 1) ∧ u.mem = s.mem ∧
      (∀ q jx, Reg.addr q jx ∉ [g, SYS_Q_SENT.addr [k], SYS_Q_REF.addr [k]] → u.reg q jx = s.reg q jx) ∧
      (∀ f, s.fab[k]? = some f → f.held = [] → f.tokens.length < f.depth → ∃ e : Event, e.sev = 4 ∧ e.mst = masterId m ∧ e.d0 = a.toNat ∧
        u.fab[k]? = some { f with tokens := f.tokens ++ [.event e] }))

/-- A write to a block that is off answers NORESP and counts in SYS_ACCERR.UNMAP (to SAFE only where the master may
write there: a write from outside the island answers GUARD whether or not D1 is on, R465); a write that changes an LK
field of a locked block answers LOCKED and sets LOCKV, MST and OFS of STICKY; no other register and no memory changes,
but for the counters of the event queue. While the block is not locked the same write has the block's own effect.
(R62, R70, R71) -/
def Obligations.RefusedWrites : Prop :=
  ∀ (m : Master) (r : Reg) (ix : List Nat) (w : Word) (s : State) (act : Act), r.inRange ix = true →
    let k := r.blk.index
    let x := regWrite act m r ix w s
    let queues := [SYS_Q_SENT.addr [k], SYS_Q_REF.addr [k]]
    (r.blk = .safe → inScope m r.blk = false ∨ qualifies s m r.wr = false → x.1 = .err .guard ∧ x.2.mem = s.mem ∧
      ∀ q jx, Reg.addr q jx ∉ SYS_GUARDV.addr [] :: queues → x.2.reg q jx = s.reg q jx) ∧
    (s.powered r.blk = false → (r.blk = .safe → inScope m r.blk = true ∧ qualifies s m r.wr = true) →
      x.1 = .err .noresp ∧ x.2.mem = s.mem ∧
      x.2.fld SYS_ACCERR_UNMAP = min 65535 (s.fld SYS_ACCERR_UNMAP + 1) ∧
      ∀ q jx, Reg.addr q jx ∉ SYS_ACCERR.addr [] :: queues → x.2.reg q jx = s.reg q jx) ∧
    (s.powered r.blk = true → inScope m r.blk = true → qualifies s m r.wr = true →
      changesLk r (s.reg r ix) w = true → k ∈ s.locked → x.1 = .err .locked ∧ x.2.mem = s.mem ∧
      x.2.isSet TAIL_STICKY_LOCKV [k] = true ∧ x.2.fld TAIL_STICKY_MST [k] = masterId m ∧
      x.2.fld TAIL_STICKY_OFS [k] = r.addr ix % 65536 ∧
      ∀ q jx, Reg.addr q jx ∉ TAIL_STICKY.addr [k] :: queues → x.2.reg q jx = s.reg q jx) ∧
    (s.powered r.blk = true → inScope m r.blk = true → qualifies s m r.wr = true →
      changesLk r (s.reg r ix) w = true → k ∉ s.locked → changesReserved r (s.reg r ix) w = false →
      ∀ u, act m ix w s = .ok u → x = (.ok 0, u))

/-- A write that passes the checks and changes a reserved field has its effect (where the block turns the value away, the
register takes the written word), sets SYS_RSVW.RSVW with the master and the address, increments its count, and from
then on the block's behaviour is not specified: in this model (a fault, safe) every later write to it stops by that
name. The block SAFE refuses such a write instead (R66, R465; the answer VALUE is the model's choice, log 199). A host
session's write of a control-plane block is judged when its item is applied. (R66, R70) -/
def Obligations.ReservedFieldWrite : Prop :=
  ∀ (m : Master) (a w : Word) (r : Reg) (ix : List Nat) (s u : State), placeAt a.toNat = some (.reg r ix) →
    blockAt a.toNat = some r.blk → a.toNat % 4 = 0 → r.addr ix = a.toNat → Live (touched a.toNat) s →
    let b := s.begin
    r.inRange ix = true → b.powered r.blk = true → inScope m r.blk = true → qualifies b m r.wr = true →
    (changesLk r (b.reg r ix) w = true → r.blk.index ∉ b.locked) → changesReserved r (b.reg r ix) w = true →
    hostAdmits m r.blk b = none →
    (r.blk = .safe → ∃ t, exec (.registerWrite m a w) s = .next t ∧ t.out = b.out ++ [.resp (.err .value)] ∧
      t.tainted = s.tainted ∧ t.mem = (s.finish b).mem) ∧
    ((actOf r m ix w b = .ok u ∨ ∃ e own v, actOf r m ix w b = .no e own v ∧ u = b.store r ix w) → r.blk ≠ .safe →
    ∃ t, exec (.registerWrite m a w) s = .next t ∧ r.blk.index ∈ t.tainted ∧ t.isSet SYS_RSVW_RSVW = true ∧
      t.fld SYS_RSVW_MST = masterId m ∧ t.reg SYS_RSVW_ADDR = a ∧
      t.fld SYS_RSVW_COUNT = min 65535 (u.fld SYS_RSVW_COUNT + 1) ∧ t.mem = Memory.canon u.mem ∧
      ∀ m' w', exec (.registerWrite m' a w') t = .fault .unspecifiedBehaviour)

/-- Bit by bit, for every register whose fields fit a word (TableFieldsFit): RW, LK, WONCE and WO bits take the written
bit, RO, RS and W1S bits and clear controls stay, a W1C flag clears where a 1 is written and stays elsewhere, a
reserved bit takes the written bit, and writing 1 to the clear bit of an RS flag clears that flag. (R63, R66) -/
def Obligations.WriteByAccessCode : Prop :=
  ∀ (r : Reg) (old w : Word) (i : Nat), i < 32 →
    let new_ := composeWrite r old w
    let covers := fun (f : FieldDesc) => f.lo ≤ i ∧ i ≤ f.hi
    let untouched := ∀ g ∈ r.fields, ∀ t, g.acc = .w1cTo t → i < t ∨ t + (g.hi - g.lo) < i
    (∀ g ∈ r.fields, fieldFits g = true) →
    (∀ f ∈ r.fields, covers f → (∀ g ∈ r.fields, g.lo ≤ i → i ≤ g.hi → g.acc = f.acc) → untouched →
      (f.acc = .rw ∨ f.acc = .lk ∨ f.acc = .wonce ∨ f.acc = .wo → new_.getLsbD i = w.getLsbD i) ∧
      (f.acc = .ro ∨ f.acc = .rs ∨ f.acc = .w1s ∨ f.acc = .w1cCtl → new_.getLsbD i = old.getLsbD i) ∧
      (f.acc = .w1c → new_.getLsbD i = (old.getLsbD i && !w.getLsbD i))) ∧
    ((∀ g ∈ r.fields, ¬ covers g) → untouched → new_.getLsbD i = w.getLsbD i) ∧
    (∀ f ∈ r.fields, ∀ t, f.acc = .w1cTo t → covers f → w.getLsbD i = true →
      new_.getLsbD (t + (i - f.lo)) = false)

/-- In every block's table each register names that block, each of its fields lies within 32 bits, a clear field clears
bits of the word, and no two fields overlap. (R63) -/
def Obligations.TableFieldsFit : Prop :=
  ∀ (b : Block), ∀ r ∈ blockRegs b, r.blk = b ∧ (∀ f ∈ r.fields, fieldFits f = true) ∧
    r.fields.Pairwise (fun f g => f.hi < g.lo ∨ g.hi < f.lo)

/-- Every element of every register family of every block has an address that the map decodes to that register and those
indices, with all of its indices in range; and whatever register an address decodes to lies at that address. (R55,
R56) -/
def Obligations.RegisterAddressesDecode : Prop :=
  (∀ (b : Block), ∀ r ∈ blockRegs b, ∀ ix, r.inRange ix = true → placeAt (r.addr ix) = some (.reg r ix)) ∧
    (∀ (a : Nat) (r : Reg) (ix : List Nat), placeAt a = some (.reg r ix) →
      r.addr ix = a ∧ r.inRange ix = true ∧ ∃ b, blockAt a = some b ∧ r ∈ blockRegs b)

/-- A sender with a credit appends its token and the queue counts it as sent; without one the token is not sent and the
refusal is counted; no other queue, register or memory changes and the depth is never exceeded. An event without a credit
is counted as refused and held, one entry for all that coalesce with it, and a held event leaves with the next base tick's
retry, oldest first, as far as the credits go (that a later event waits behind a held one is the model's choice, log 202).
The receiver takes the oldest token, which gives the credit back and is counted. (R25, R26, R81) -/
def Obligations.EventFabricCredits : Prop :=
  ∀ (q : Nat) (x : Token) (f : FabQueue) (s : State), s.fab[q]? = some f →
    let u := s.sendToken q x
    (f.tokens.length < f.depth → u.fab[q]? = some { f with tokens := f.tokens ++ [x] } ∧
      u.fld SYS_Q_SENT_COUNT [q] = (s.fld SYS_Q_SENT_COUNT [q] + 1) % 2 ^ 32 ∧
      ∀ r jx, Reg.addr r jx ≠ SYS_Q_SENT.addr [q] → u.reg r jx = s.reg r jx) ∧
    (f.depth ≤ f.tokens.length → u.fab = s.fab ∧
      u.fld SYS_Q_REF_COUNT [q] = (s.fld SYS_Q_REF_COUNT [q] + 1) % 2 ^ 32 ∧
      ∀ r jx, Reg.addr r jx ≠ SYS_Q_REF.addr [q] → u.reg r jx = s.reg r jx) ∧
    (∀ e, f.held = [] → f.tokens.length < f.depth → s.sendEvent q e = s.sendToken q (.event e)) ∧
    (∀ e, f.held ≠ [] ∨ f.depth ≤ f.tokens.length → ∃ v held, s.sendEvent q e = v ∧ v.fab[q]? = some { f with held := held } ∧
      (∃ h ∈ held, h = e ∨ h.same e = true) ∧ (∀ h ∈ held, h ∈ f.held ∨ h = e) ∧ (∀ h ∈ f.held, h ∈ held) ∧
      (held.length ≤ f.held.length ↔ ∃ h ∈ f.held, h.same e = true) ∧
      v.fld SYS_Q_REF_COUNT [q] = (s.fld SYS_Q_REF_COUNT [q] + 1) % 2 ^ 32) ∧
    (∃ sent kept, f.held = sent ++ kept ∧ sent.length = min f.held.length (f.depth - f.tokens.length) ∧
      (s.retryHeld q).fab[q]? = some { f with tokens := f.tokens ++ sent.map .event, held := kept } ∧
      (s.retryHeld q).fld SYS_Q_SENT_COUNT [q] = (s.fld SYS_Q_SENT_COUNT [q] + sent.length) % 2 ^ 32) ∧
    (∀ p, p ≠ q → u.fab[p]? = s.fab[p]?) ∧ u.mem = s.mem ∧
    (f.tokens.length ≤ f.depth → ∀ g, u.fab[q]? = some g → g.tokens.length ≤ g.depth) ∧
    (∀ y ys, f.tokens = y :: ys → f.tokens.length ≤ f.depth → ∃ v, s.popToken q = some (y, v) ∧
      v.fab[q]? = some { f with tokens := ys } ∧ v.hasCredit q = true ∧ v.mem = s.mem ∧
      (∀ p, p ≠ q → v.fab[p]? = s.fab[p]?) ∧
      v.fld SYS_Q_RCVD_COUNT [q] = (s.fld SYS_Q_RCVD_COUNT [q] + 1) % 2 ^ 32)

/-- Each instruction of the integer, immediate, branch and fixed-point groups, on any core that executes it, leaves every
byte of memory, every register of the blocks, every other core, every general register but its rd (all of them where
rd is g0), and every control register but SATF as they were. (R367, R378, R379, R382, R383) -/
def Obligations.RegisterInstructionFrame : Prop :=
  ∀ (i : Instr) (c : Fin 18) (rd : Fin 32) (s : State), regDest i = some (c, rd) → Live (spwBlocks c.val) s →
    Executes c.val (ready c.val s) →
    let t := ready c.val s
    ∃ u, exec i s = .next (retired c.val s u) ∧ (∀ a, u.byte a = t.byte a) ∧ u.regs = t.regs ∧
      (∀ d, d ≠ c.val → u.core d = t.core d) ∧ (∀ r, r ≠ rd.val → u.gr c.val r = t.gr c.val r) ∧ u.gr c.val 0 = 0 ∧
      (∃ g pc satf, u.core c.val = { t.core c.val with g := g, pc := pc, satf := satf }) ∧
      { u with cores := t.cores } = t ∧
      ((u.core c.val).once = false → ∀ a, (retired c.val s u).byte a = t.byte a)

/-- SW, SH, SB and SD that a memory takes (TCM, local SRAM, Caldera for its owner plane, Lens memory): the bytes at the
place of the address read as the low bytes of rb (SD: of the pair), every other byte reads as before, and no general
register, control register, register of a block or other core changes. (R13, R380, R381) -/
def Obligations.StoreFrame : Prop :=
  ∀ (c : Fin 18) (rb ra : Fin 32) (imm : BitVec 16) (s : State) (i : Instr) (n k : Nat),
    Live (spwBlocks c.val ++ spwTouched s c.val (spwAddr (settle c.val s) c.val ra.val imm)) s →
    Executes c.val (ready c.val s) →
    (n = 4 ∧ i = .sw c rb ra imm) ∨ (n = 2 ∧ i = .sh c rb ra imm) ∨ (n = 1 ∧ i = .sb c rb ra imm) ∨
      (n = 8 ∧ rb.val % 2 = 0 ∧ i = .sd c rb ra imm) →
    let t := ready c.val s
    let a := spwAddr t c.val ra.val imm
    let v := (t.gr c.val rb.val).toNat + (if n = 8 then (t.gr c.val (rb.val + 1)).toNat * 2 ^ 32 else 0)
    a % n = 0 → storedAt t c.val a n = some k →
    ∃ u, exec i s = .next (retired c.val s u) ∧ (∀ b, b < k ∨ k + n ≤ b → u.byte b = t.byte b) ∧
      u.peek k n = v % 256 ^ n ∧ u.regs = t.regs ∧ (∀ d, d ≠ c.val → u.core d = t.core d) ∧
      (∀ r, u.gr c.val r = t.gr c.val r) ∧
      u.core c.val = { t.core c.val with pc := ((t.core c.val).pc + 4) % 2 ^ 32 } ∧
      ((u.core c.val).once = false → ∀ b, b < k ∨ k + n ≤ b → (retired c.val s u).byte b = t.byte b)

/-- LW, LH, LHU, LD, SW, SH and SD at an address that is not a multiple of their width, with XACT 0: no byte, general
register or other core changes; EPSR is the old PSR, EPC the address of the instruction, EADDR the data address,
ECAUSE holds the width and cause 4, PSR has PRIV 1, IE 0 and XACT 1, and the PC is VBAR.BASE x 4096 + 64 x 4. (R380,
R381, R394, R395) -/
def Obligations.MisalignedAccess : Prop :=
  ∀ (c : Fin 18) (r ra : Fin 32) (imm : BitVec 16) (s : State) (i : Instr) (n : Nat),
    Live (spwBlocks c.val ++ spwTouched s c.val (spwAddr (settle c.val s) c.val ra.val imm)) s →
    Executes c.val (ready c.val s) →
    (n = 4 ∧ (i = .lw c r ra imm ∨ i = .sw c r ra imm)) ∨
      (n = 2 ∧ (i = .lh c r ra imm ∨ i = .lhu c r ra imm ∨ i = .sh c r ra imm)) ∨
      (n = 8 ∧ r.val % 2 = 0 ∧ (i = .ld c r ra imm ∨ i = .sd c r ra imm)) →
    let t := ready c.val s
    let x := t.core c.val
    let a := spwAddr t c.val ra.val imm
    a % n ≠ 0 → x.xact = false → x.pc % 4 = 0 → x.pc < 2 ^ 32 →
    ∃ u, exec i s = .next (retired c.val s u) ∧ (∀ b, u.byte b = t.byte b) ∧ (∀ q, u.gr c.val q = t.gr c.val q) ∧
      (∀ d, d ≠ c.val → u.core d = t.core d) ∧
      (u.core c.val).epsr = x.psr ∧ (u.core c.val).epc.toNat = x.pc ∧ (u.core c.val).eaddr.toNat = a ∧
      (u.core c.val).ecause.toNat = n * 2 ^ 16 + 4 ∧ (u.core c.val).psr = 5 ∧
      (u.core c.val).pc = (x.vbar.toNat / 4096 * 4096 + 64 * 4) % 2 ^ 32 ∧
      (u.core c.val).satf = x.satf ∧ (u.core c.val).fpcr = x.fpcr ∧ (u.core c.val).vbar = x.vbar

/-- With PSR.XACT 1, SVREQ (an instruction that only raises its exception) stops the core in DOUBLEFAULT with every
general register as it was; on a control core CPU_C_c_STAT.STATE reads DOUBLEFAULT, a severity 6 event goes into the
block's queue where it has room, and the device is asked into Safe (cause 5) at the next base tick. (R398) -/
def Obligations.DoubleFault : Prop :=
  ∀ (c : Fin 18) (code : BitVec 10) (s : State), Live (spwBlocks c.val) s → Executes c.val (ready c.val s) →
    let t := ready c.val s
    (t.core c.val).xact = true →
    ∃ u, exec (.svreq c code) s = .next (retired c.val s u) ∧ (u.core c.val).run = .doublefault ∧
      (∀ a, c.val ≠ 17 → u.byte a = t.byte a) ∧ (∀ q, u.gr c.val q = t.gr c.val q) ∧
      (∀ d, d ≠ c.val → u.core d = t.core d) ∧
      (c.val < 16 → u.fld CPU_C_STAT_STATE [c.val] = 4 ∧ u.isSet CPU_C_STAT_DFLT [c.val] = true ∧
        u.mc.safeReq = t.mc.safeReq ++ [5] ∧
        ∀ f, t.fab[22]? = some f → f.held = [] → f.tokens.length < f.depth →
          ∃ e : Event, e.sev = 6 ∧ u.fab[22]? = some { f with tokens := f.tokens ++ [.event e] })

/-- Before an instruction of the integer, immediate, branch or fixed-point groups a running core takes, in this order: a
waiting imprecise BUSST (IMP 1, EPC the instruction at the boundary) while XACT is 0; DEBUG of the instruction at
BKPT.ADDR; IFETCH; and, where none applies, an enabled interrupt with EADDR 0 and INFO IPEND AND IMASK; the
instruction then has no effect. (R394, R396, R397, R399) -/
def Obligations.BoundaryOrder : Prop :=
  ∀ (i : Instr) (c : Fin 18) (rd : Fin 32) (s : State), regDest i = some (c, rd) → Live (spwBlocks c.val) s →
    let k := c.val
    let t := ready k s
    let x := t.core k
    let does := fun (u : State) => exec i s = .next (retired k s u)
    let debug := x.bkpt.getLsbD 0 = true ∧ x.bkpt.toNat / 4 * 4 = x.pc
    x.run = .running → x.halted = false →
    (∀ a r, x.imp = some (a, r) → x.xact = false → does (rtException k 6 x.pc
      (enterException k 6 r 1 x.pc a (t.modCore k (fun y => { y with imp := none }))))) ∧
    (x.imp = none → debug → x.xact = false →
      does (rtException k 13 x.pc (enterException k 13 1 0 x.pc x.pc t))) ∧
    (∀ r, x.imp = none → ¬ debug → fetchAt t k x.pc = some r → r ≠ 0 → x.xact = false →
      does (rtException k 3 x.pc (enterException k 3 r 0 x.pc x.pc t))) ∧
    (x.imp = none → ¬ debug → fetchAt t k x.pc = some 0 → interruptReady x = true →
      does (enterException k 12 (x.ipend &&& x.imask.toNat) 0 x.pc 0 t))

/-- The base tick number of an instant is n exactly from T(n) to T(n + 1), and equals SEC x 200,000 + NS div 5,000; the
96-bit layout of a time holds SEC and the nanoseconds with their fraction, and spells the instant again. (R29, R86) -/
def Obligations.BaseTickNumbers : Prop :=
  (∀ n t, tickNo t = n ↔ tickAt n ≤ t ∧ t < tickAt (n + 1)) ∧
    (∀ t, tickNo t = t / secF * 200000 + t % secF / nsF / 5000) ∧
    (∀ t, t / secF < 2 ^ 48 → time96 t % 2 ^ 46 = t % secF ∧ time96 t / 2 ^ 48 = t / secF ∧ ofTime96 (time96 t) = t)

/-- A request is accepted exactly in the rows of the table of R502 (REBOOT is target 16; causes 3 and 7 of Safe ask for an
installer, R506); targets that cannot be requested are refused ARGUMENT; a judged request that is accepted waits for the
next base tick while no other waits, one that is not accepted is answered its code and changes nothing but MODE_LAST; a
request enters class M of the Keeper where it has room, and is answered BUSY where it has none. (R501, R502, R506, R570) -/
def Obligations.ModeRequests : Prop :=
  ∀ (t : Fin 17) (role : Role) (id : BitVec 32) (s : State),
    let m := s.mode
    let n := t.val
    let cause := s.mc.safeCause
    let rank := role.code
    let asked : ModeReq := { target := n, role := role, id := id.toNat, path := 69, seq := 0 }
    let b := s.begin
    (requestCode s n role = codeDone ↔
      (n = 5 ∧ m = .stop ∧ s.fld TWIN_STAT_ROLE < 2 ∧ s.islv.st = islRun ∧ s.islv.silent = false) ∨
      (n = 5 ∧ m = .hold ∧ 1 ≤ rank) ∨ (n = 6 ∧ m = .run ∧ 1 ≤ rank) ∨
      (n = 4 ∧ (m = .run ∨ m = .hold ∨ m = .trial)) ∨
      (n = 4 ∧ m = .provision ∧ 1 ≤ rank ∧ placementOk (leaveChecks s) = true) ∨
      (n = 4 ∧ m = .safe ∧ (cause = 3 ∨ cause = 7 → 1 ≤ rank) ∧ causeLeft s cause = true) ∨
      (n = 3 ∧ (m = .stop ∨ m = .safe) ∧ 1 ≤ rank ∧ s.follower = false) ∨
      (n = 2 ∧ (m = .stop ∨ m = .provision ∨ m = .safe) ∧ 1 ≤ rank) ∨
      (n = 9 ∧ m ≠ .dark ∧ m ≠ .seed ∧ m ≠ .keeper) ∨
      (n = 16 ∧ (m = .keeper ∨ m = .provision ∨ m = .stop ∨ m = .safe) ∧ 1 ≤ rank)) ∧
    ((n = 0 ∨ n = 1 ∨ n = 7 ∨ n = 8 ∨ (10 ≤ n ∧ n ≤ 15)) → requestCode s n role = codeArgument) ∧
    (b.mc.pendMode = none → requestCode b n role = codeDone → ¬(n = 9 ∧ b.mode = .safe) →
      judgeRequest asked b = { b with mc := { b.mc with reqId := id.toNat, reqCode := codeDone, pendMode := some asked } }) ∧
    (b.mc.pendMode ≠ none → b.mode ≠ .provision →
      judgeRequest asked b = ({ b with mc := { b.mc with reqId := id.toNat, reqCode := codeBusy } } : State).say
        (.reply 69 codeBusy [])) ∧
    (Live [.sys] s → b.mode ≠ .seed → b.mode ≠ .keeper → b.mode ≠ .resync → b.kpr.qM.length < 16 →
      exec (.modeRequest t role id) s = .next (s.finish (kprSync (b.modKpr (fun k => { k with qM := k.qM ++ [asked] }))))) ∧
    (Live [.sys] s → b.mode ≠ .seed → b.mode ≠ .keeper → b.mode ≠ .resync → 16 ≤ b.kpr.qM.length →
      exec (.modeRequest t role id) s = .next (s.finish ((b.incr KPR_BUSYTOT_COUNT).say (.reply 69 codeBusy []))))

/-- For every core at an instruction boundary where the instruction executes, ADD, SUB, AND, OR, XOR, ANDN, the shifts by
register and by AUX, SLT, SLTU, MIN, MAX, CLZ, SEXTB, SEXTH, MUL, MULH and MULHU answer the next state in which rd
holds the exact integer result modulo 2^32 and the PC has advanced by 4; nothing else of the state changes. (R378) -/
def Obligations.IntegerGroup : Prop :=
  ∀ (c : Fin 18) (rd ra rb n : Fin 32) (s : State), Live (spwBlocks c.val) s → Executes c.val (ready c.val s) →
    let t := ready c.val s
    let a := t.gr c.val ra.val
    let b := t.gr c.val rb.val
    let k := b.toNat % 32
    let put := fun (v : Word) => Host.Outcome.next (retired c.val s ((t.setGr c.val rd.val v).pcNext c.val))
    let int := fun (v : Int) => put (BitVec.ofInt 32 v)
    exec (.add c rd ra rb) s = int (a.toInt + b.toInt) ∧
    exec (.sub c rd ra rb) s = int (a.toInt - b.toInt) ∧
    exec (.and c rd ra rb) s = put (a &&& b) ∧
    exec (.or c rd ra rb) s = put (a ||| b) ∧
    exec (.xor c rd ra rb) s = put (a ^^^ b) ∧
    exec (.andn c rd ra rb) s = put (a &&& ~~~b) ∧
    exec (.sll c rd ra rb) s = int (a.toNat * 2 ^ k : Nat) ∧
    exec (.srl c rd ra rb) s = int (a.toNat / 2 ^ k : Nat) ∧
    exec (.sra c rd ra rb) s = int (a.toInt / 2 ^ k) ∧
    exec (.slli c rd ra n) s = int (a.toNat * 2 ^ n.val : Nat) ∧
    exec (.srli c rd ra n) s = int (a.toNat / 2 ^ n.val : Nat) ∧
    exec (.srai c rd ra n) s = int (a.toInt / 2 ^ n.val) ∧
    exec (.slt c rd ra rb) s = int (if a.toInt < b.toInt then 1 else 0) ∧
    exec (.sltu c rd ra rb) s = int (if a.toNat < b.toNat then 1 else 0) ∧
    exec (.min c rd ra rb) s = int (min a.toInt b.toInt) ∧
    exec (.max c rd ra rb) s = int (max a.toInt b.toInt) ∧
    exec (.sextb c rd ra) s = put ((a.setWidth 8).signExtend 32) ∧
    exec (.sexth c rd ra) s = put ((a.setWidth 16).signExtend 32) ∧
    exec (.mul c rd ra rb) s = int (a.toInt * b.toInt) ∧
    exec (.mulh c rd ra rb) s = int (a.toInt * b.toInt / 2 ^ 32) ∧
    exec (.mulhu c rd ra rb) s = int (a.toNat * b.toNat / 2 ^ 32 : Nat) ∧
    (∀ z : Nat, z ≤ 32 → (∀ i < z, a.getMsbD i = false) → (z = 32 ∨ a.getMsbD z = true) →
      exec (.clz c rd ra) s = int z)

/-- DIV and DIVU by zero write 0xFFFFFFFF and set DZ of SATF; REM and REMU by zero write ra and set DZ; -2^31 divided by
-1 gives -2^31 with remainder 0; otherwise the quotient truncated toward zero and its remainder; the PC advances by 4.
(R378, R384) -/
def Obligations.DivisionGroup : Prop :=
  ∀ (c : Fin 18) (rd ra rb : Fin 32) (s : State), Live (spwBlocks c.val) s → Executes c.val (ready c.val s) →
    let t := ready c.val s
    let a := t.gr c.val ra.val
    let b := t.gr c.val rb.val
    let dz := t.setSat c.val 16
    let put := fun (u : State) (v : Word) => Host.Outcome.next (retired c.val s ((u.setGr c.val rd.val v).pcNext c.val))
    (b = 0 →
      exec (.div c rd ra rb) s = put dz 0xFFFFFFFF#32 ∧ exec (.divu c rd ra rb) s = put dz 0xFFFFFFFF#32 ∧
      exec (.rem c rd ra rb) s = put dz a ∧ exec (.remu c rd ra rb) s = put dz a) ∧
    (b ≠ 0 → a.toInt = -2 ^ 31 → b.toInt = -1 →
      exec (.div c rd ra rb) s = put t a ∧ exec (.rem c rd ra rb) s = put t 0) ∧
    (b ≠ 0 →
      exec (.div c rd ra rb) s = put t (BitVec.ofInt 32 (a.toInt.tdiv b.toInt)) ∧
      exec (.rem c rd ra rb) s = put t (BitVec.ofInt 32 (a.toInt - b.toInt * a.toInt.tdiv b.toInt)) ∧
      exec (.divu c rd ra rb) s = put t (BitVec.ofNat 32 (a.toNat / b.toNat)) ∧
      exec (.remu c rd ra rb) s = put t (BitVec.ofNat 32 (a.toNat % b.toNat)))

/-- ADDI, ANDI, ORI, XORI, SLTI, SLTIU and LUI write rd from ra and the extended immediate and advance the PC; a word that
is no instruction (an undefined OP or FN, an unused field that is not 0, LUI with ra other than g0) enters ILLEGAL
with the word in EADDR when XACT is 0. (R379) -/
def Obligations.ImmediateInstructions : Prop :=
  ∀ (c : Fin 18) (rd ra : Fin 32) (imm : BitVec 16) (s : State), Live (spwBlocks c.val) s →
    Executes c.val (ready c.val s) →
    let t := ready c.val s
    let a := t.gr c.val ra.val
    let put := fun (v : Word) => Host.Outcome.next (retired c.val s ((t.setGr c.val rd.val v).pcNext c.val))
    let int := fun (v : Int) => put (BitVec.ofInt 32 v)
    exec (.addi c rd ra imm) s = int (a.toInt + imm.toInt) ∧
    exec (.andi c rd ra imm) s = put (a &&& imm.setWidth 32) ∧
    exec (.ori c rd ra imm) s = put (a ||| imm.setWidth 32) ∧
    exec (.xori c rd ra imm) s = put (a ^^^ imm.setWidth 32) ∧
    exec (.slti c rd ra imm) s = int (if a.toInt < imm.toInt then 1 else 0) ∧
    exec (.sltiu c rd ra imm) s = int (if a.toNat < (imm.signExtend 32).toNat then 1 else 0) ∧
    exec (.lui c rd imm) s = int (imm.toNat * 2 ^ 16 : Nat) ∧
    (∀ w : Word, spwUndefined w.toNat = true → (t.core c.val).xact = false →
      exec (.illegalInstruction c w) s = .next (retired c.val s (rtException c.val 1 (t.core c.val).pc
        (enterException c.val 1 0 0 (t.core c.val).pc w.toNat t))))

/-- BEQ, BNE, BLT, BGE, BLTU and BGEU continue at PC + sx(imm16) x 4 when taken and at PC + 4 otherwise, and write no
register; JAL and JALR leave PC + 4 in rd and continue at PC + sx(imm21) x 4 or at (ra + sx(imm16)) AND 0xFFFFFFFC,
with ra as it was before rd is written. (R382) -/
def Obligations.BranchesAndJumps : Prop :=
  ∀ (c : Fin 18) (rd ra rb : Fin 32) (imm : BitVec 16) (far : BitVec 21) (s : State), Live (spwBlocks c.val) s →
    Executes c.val (ready c.val s) → (ready c.val s |>.core c.val).pc < 2 ^ 32 → (ready c.val s |>.core c.val).pc % 4 = 0 →
    let t := ready c.val s
    let a := t.gr c.val ra.val
    let b := t.gr c.val rb.val
    let pc := (t.core c.val).pc
    let goto := fun (u : State) (p : Int) => Host.Outcome.next (retired c.val s (u.modCore c.val (fun x => { x with pc := (p % 2 ^ 32).toNat })))
    let br := fun (taken : Bool) => goto t (if taken then pc + imm.toInt * 4 else pc + 4)
    let link := t.setGr c.val rd.val (BitVec.ofNat 32 (pc + 4))
    exec (.beq c ra rb imm) s = br (decide (a = b)) ∧
    exec (.bne c ra rb imm) s = br (decide (a ≠ b)) ∧
    exec (.blt c ra rb imm) s = br (decide (a.toInt < b.toInt)) ∧
    exec (.bge c ra rb imm) s = br (decide (b.toInt ≤ a.toInt)) ∧
    exec (.bltu c ra rb imm) s = br (decide (a.toNat < b.toNat)) ∧
    exec (.bgeu c ra rb imm) s = br (decide (b.toNat ≤ a.toNat)) ∧
    exec (.jal c rd far) s = goto link (pc + far.toInt * 4) ∧
    exec (.jalr c rd ra imm) s = goto link ((a.toInt + imm.toInt) / 4 * 4)

/-- QADD, QSUB, QNEG, QABS, QMUL, QMULX, QMAC, QMACX, QSHL, QSHR, QLIM, QXQ and QQX write rd with the rounded and clamped
result, set ADD, MUL, CVT or LIM of SATF exactly where R383 says, and advance the PC. (R383) -/
def Obligations.FixedPointGroup : Prop :=
  ∀ (c : Fin 18) (rd ra rb : Fin 32) (s : State), Live (spwBlocks c.val) s → Executes c.val (ready c.val s) →
    let t := ready c.val s
    let d := (t.gr c.val rd.val).toInt
    let a := (t.gr c.val ra.val).toInt
    let b := (t.gr c.val rb.val).toInt
    let k := (t.gr c.val rb.val).toNat % 32
    let rnd := fun (x : Int) (n : Nat) => if n = 0 then x else (x + 2 ^ (n - 1)) / 2 ^ n
    let clamp := fun (x : Int) => max (-2 ^ 31) (min (2 ^ 31 - 1) x)
    let out := fun (x : Int) => x < -2 ^ 31 ∨ 2 ^ 31 - 1 < x
    let put := fun (v : Int) (flags : Nat) =>
      Host.Outcome.next (retired c.val s (((t.setSat c.val flags).setGr c.val rd.val (BitVec.ofInt 32 v)).pcNext c.val))
    let sat := fun (flag : Nat) (v : Int) => put (clamp v) (if out v then flag else 0)
    let mac := fun (p : Int) => put (clamp (d + p)) (if out p then 2 else if out (d + p) then 1 else 0)
    let lim := if b < a then b else max a (min d b)
    exec (.qadd c rd ra rb) s = sat 1 (a + b) ∧
    exec (.qsub c rd ra rb) s = sat 1 (a - b) ∧
    exec (.qneg c rd ra) s = sat 1 (-a) ∧
    exec (.qabs c rd ra) s = sat 1 |a| ∧
    exec (.qmul c rd ra rb) s = sat 2 (rnd (a * b) 30) ∧
    exec (.qmulx c rd ra rb) s = sat 2 (rnd (a * b) 16) ∧
    exec (.qmac c rd ra rb) s = mac (rnd (a * b) 30) ∧
    exec (.qmacx c rd ra rb) s = mac (rnd (a * b) 16) ∧
    exec (.qshl c rd ra rb) s = sat 1 (a * 2 ^ k) ∧
    exec (.qshr c rd ra rb) s = put (rnd a k) 0 ∧
    exec (.qlim c rd ra rb) s = put lim (if lim ≠ d then 8 else 0) ∧
    exec (.qxq c rd ra) s = sat 4 (a * 2 ^ 14) ∧
    exec (.qqx c rd ra) s = put (rnd a 14) 0

/-- Where no raised flag is enabled in FPCR.EN, each binary32 instruction answers the next state: the flags it raises are
set in FPCR.FLAGS, rd holds the result under FPCR.RM and FPCR.FTZ, the PC advances by 4; FNEG and FABS change the sign
bit only; FCVTQS sets CVT of SATF for a NaN or a clamp and no flag of FPCR. (R385, R386, R375) -/
def Obligations.BinaryGroupCompletes : Prop :=
  ∀ (c : Fin 18) (rd ra rb : Fin 32) (s : State), Live (spwBlocks c.val) s → Executes c.val (ready c.val s) →
    let t := ready c.val s
    let g := fun (r : Fin 32) => (t.gr c.val r.val).toNat
    let rm := bits (t.core c.val).fpcr.toNat 2 1
    let z := (t.core c.val).fpcr.getLsbD 0
    let en := bits (t.core c.val).fpcr.toNat 12 8
    let flag := fun (r : FRes) (u : State) =>
      u.modCore c.val (fun x => { x with fpcr := BitVec.ofNat 32 (x.fpcr.toNat ||| r.flags * 2 ^ 16) })
    let put := fun (v : Word) (u : State) => Host.Outcome.next (retired c.val s ((u.setGr c.val rd.val v).pcNext c.val))
    let does := fun (i : Instr) (r : FRes) => r.flags &&& en = 0 → exec i s = put (BitVec.ofNat 32 r.val) (flag r t)
    let madd := fMadd rm z (fIn z (g rd)) (fIn z (g ra)) (fIn z (g rb))
    let open_ := (fIsInf (fIn z (g ra)) && fIsZero (fIn z (g rb)) || fIsZero (fIn z (g ra)) && fIsInf (fIn z (g rb))) &&
      fIsNan (fIn z (g rd)) && !fIsSNaN (fIn z (g rd))
    let q := fToQ rm z (g ra)
    does (.fadd c rd ra rb) (fAdd rm z (g ra) (g rb)) ∧
    does (.fsub c rd ra rb) (fSub rm z (g ra) (g rb)) ∧
    does (.fmul c rd ra rb) (fMul rm z (g ra) (g rb)) ∧
    does (.fdiv c rd ra rb) (fDiv rm z (g ra) (g rb)) ∧
    does (.fsqrt c rd ra) (fSqrt rm z (g ra)) ∧
    (open_ = false → does (.fmadd c rd ra rb) madd) ∧
    does (.fmin c rd ra rb) (fMinMax false z (g ra) (g rb)) ∧
    does (.fmax c rd ra rb) (fMinMax true z (g ra) (g rb)) ∧
    does (.fcmpeq c rd ra rb) (fCmp 0 z (g ra) (g rb)) ∧
    does (.fcmplt c rd ra rb) (fCmp 2 z (g ra) (g rb)) ∧
    does (.fcmple c rd ra rb) (fCmp 3 z (g ra) (g rb)) ∧
    does (.fcvtws c rd ra) (fToWord rm z (g ra)) ∧
    does (.fcvtsw c rd ra) (fOfInt rm z 0 (g ra)) ∧
    does (.fcvtsq c rd ra) (fOfInt rm z 30 (g ra)) ∧
    exec (.fneg c rd ra) s = put (t.gr c.val ra.val ^^^ 0x80000000#32) t ∧
    exec (.fabs c rd ra) s = put (t.gr c.val ra.val &&& 0x7FFFFFFF#32) t ∧
    exec (.fcvtqs c rd ra) s = put (BitVec.ofNat 32 q.1) (if q.2 then t.setSat c.val 4 else t)

/-- LW, LH, LHU, LB, LBU and LD from an aligned address whose access answers OKAY write rd (LD: the even pair, low word
first) with the value read, extended with its sign or with zeros, and advance the PC; with rd = g0 nothing is written
there. (R380, R381, R367) -/
def Obligations.LoadsComplete : Prop :=
  ∀ (c : Fin 18) (rd ra : Fin 32) (imm : BitVec 16) (s : State) (v : Nat) (u : State),
    Live (spwBlocks c.val ++ spwTouched s c.val (spwAddr (settle c.val s) c.val ra.val imm)) s →
    Executes c.val (ready c.val s) →
    let t := ready c.val s
    let a := spwAddr t c.val ra.val imm
    let reads := fun (n : Nat) => a % n = 0 ∧ coreRead c.val a n t = (.ok v, u)
    let put := fun (w : Word) => Host.Outcome.next (retired c.val s ((u.setGr c.val rd.val w).pcNext c.val))
    let word := fun (k : Nat) => BitVec.ofNat 32 (v / 2 ^ (32 * k))
    (reads 4 → exec (.lw c rd ra imm) s = put (BitVec.ofNat 32 v)) ∧
    (reads 2 → exec (.lh c rd ra imm) s = put ((BitVec.ofNat 16 v).signExtend 32)) ∧
    (reads 2 → exec (.lhu c rd ra imm) s = put (BitVec.ofNat 32 v)) ∧
    (reads 1 → exec (.lb c rd ra imm) s = put ((BitVec.ofNat 8 v).signExtend 32)) ∧
    (reads 1 → exec (.lbu c rd ra imm) s = put (BitVec.ofNat 32 v)) ∧
    (rd.val % 2 = 0 → reads 8 → exec (.ld c rd ra imm) s =
      .next (retired c.val s (((u.setGr c.val rd.val (word 0)).setGr c.val (rd.val + 1) (word 1)).pcNext c.val)))

/-- SW, SH, SB and SD to an aligned address perform the access with the low 32, 16 or 8 bits of rb (SD: the even pair) and
the next instruction follows; where a posted store receives an error response, the address and bus reason of the first
such store wait as an imprecise BUSST. (R380, R381, R397) -/
def Obligations.StoresComplete : Prop :=
  ∀ (c : Fin 18) (rb ra : Fin 32) (imm : BitVec 16) (s : State),
    Live (spwBlocks c.val ++ spwTouched s c.val (spwAddr (settle c.val s) c.val ra.val imm)) s →
    Executes c.val (ready c.val s) →
    let t := ready c.val s
    let a := spwAddr t c.val ra.val imm
    let lo := (t.gr c.val rb.val).toNat
    let pair := lo + (t.gr c.val (rb.val + 1)).toNat * 2 ^ 32
    let acc := fun (n v : Nat) => coreWrite c.val a n v (t.pcNext c.val)
    let does := fun (i : Instr) (n v : Nat) =>
      (∀ k, a % n = 0 → (acc n v).1 = .ok k → exec i s = .next (retired c.val s (acc n v).2)) ∧
      (∀ r, a % n = 0 → (acc n v).1 = .err r → preciseStore c.val a = false →
        exec i s = .next (retired c.val s ((acc n v).2.modCore c.val (fun x => { x with imp := some (x.imp.getD (a, r.code)) }))))
    does (.sw c rb ra imm) 4 lo ∧
    does (.sh c rb ra imm) 2 (lo % 2 ^ 16) ∧
    does (.sb c rb ra imm) 1 (lo % 2 ^ 8) ∧
    (rb.val % 2 = 0 → does (.sd c rb ra imm) 8 pair)

/-- At an aligned address of data TCM, local SRAM or Caldera that answers, SWAP stores rb and AADD stores the sum modulo
2^32, and rd takes the old word; a misaligned address raises ALIGN with width 4, an address elsewhere raises BUSLD
with reason ATOMIC, and nothing is accessed. (R387, R395) -/
def Obligations.AtomicsComplete : Prop :=
  ∀ (c : Fin 18) (rd ra rb : Fin 32) (s : State) (old k : Nat), Live (spwBlocks c.val) s → Executes c.val (ready c.val s) →
    let t := ready c.val s
    let a := (t.gr c.val ra.val).toNat
    let b := t.gr c.val rb.val
    let m := coreMaster c.val
    let does := fun (i : Instr) (new : Word) =>
      let w := busWrite m a 4 new.toNat (busRead m a 4 t).2
      a % 4 = 0 → atomicAt c.val a = true → (busRead m a 4 t).1 = .ok old → w.1 = .ok k →
        exec i s = .next (retired c.val s ((w.2.setGr c.val rd.val (BitVec.ofNat 32 old)).pcNext c.val))
    does (.swap c rd ra rb) b ∧ does (.aadd c rd ra rb) (BitVec.ofNat 32 old + b) ∧
    (∀ i, i = Instr.swap c rd ra rb ∨ i = Instr.aadd c rd ra rb → (t.core c.val).xact = false →
      (a % 4 ≠ 0 → exec i s = .next (retired c.val s (rtException c.val 4 (t.core c.val).pc
        (enterException c.val 4 4 0 (t.core c.val).pc a t)))) ∧
      (a % 4 = 0 → atomicAt c.val a = false → exec i s = .next (retired c.val s (rtException c.val 5 (t.core c.val).pc
        (enterException c.val 5 8 0 (t.core c.val).pc a t)))))

/-- In this model, where every access is performed before the next one, each fence answers the next state with the PC
advanced by 4. (R389, R403, R405) -/
def Obligations.FencesComplete : Prop :=
  ∀ (c : Fin 18) (i : Instr) (s : State), Live (spwBlocks c.val) s → Executes c.val (ready c.val s) →
    (i = .fence c ∨ i = .fenceAcq c ∨ i = .fenceRel c ∨ i = .fenceI c) →
    exec i s = .next (retired c.val s ((ready c.val s).pcNext c.val))

/-- MFCR sets rd to a control register and MTCR writes one; a number above 18 raises ILLEGAL; in user mode MTCR, and MFCR
of a register whose guard is G1, raise PRIV; both carry the instruction word in EADDR. (R388, R369) -/
def Obligations.ControlRegisterInstructions : Prop :=
  ∀ (c : Fin 18) (rd ra n : Fin 32) (s : State), Live (spwBlocks c.val) s → Executes c.val (ready c.val s) →
    let t := ready c.val s
    let x := t.core c.val
    let r := crRead c.val n.val t
    let raises := fun (i : Instr) (cause w : Nat) =>
      x.xact = false → exec i s = .next (retired c.val s (rtException c.val cause x.pc (enterException c.val cause 0 0 x.pc w t)))
    (n.val ≤ 18 → (crG1 n.val = true → x.priv = true) →
      exec (.mfcr c rd n) s = .next (retired c.val s ((r.2.setGr c.val rd.val r.1).pcNext c.val))) ∧
    (n.val ≤ 18 → x.priv = true →
      exec (.mtcr c ra n) s = .next (retired c.val s ((crWrite c.val n.val (t.gr c.val ra.val) t).pcNext c.val))) ∧
    (18 < n.val → raises (.mfcr c rd n) 1 (wordR 0x1B 8 rd.val 0 0 n.val) ∧
      raises (.mtcr c ra n) 1 (wordR 0x1B 9 0 ra.val 0 n.val)) ∧
    (n.val ≤ 18 → x.priv = false → raises (.mtcr c ra n) 2 (wordR 0x1B 9 0 ra.val 0 n.val) ∧
      (crG1 n.val = true → raises (.mfcr c rd n) 2 (wordR 0x1B 8 rd.val 0 0 n.val)))

/-- SVREQ and DBGREQ enter their exceptions with CODE in ECAUSE.INFO and their own address in EPC; XRET restores PSR from
EPSR and continues at EPC; WAITI continues when IPEND AND IMASK is not 0 and otherwise leaves the core waiting; XRET
and WAITI in user mode raise PRIV. (R389, R369, R394) -/
def Obligations.SystemInstructions : Prop :=
  ∀ (c : Fin 18) (code : BitVec 10) (s : State), Live (spwBlocks c.val) s → Executes c.val (ready c.val s) →
    let t := ready c.val s
    let x := t.core c.val
    let enters := fun (cause info w : Nat) =>
      Host.Outcome.next (retired c.val s (rtException c.val cause x.pc (enterException c.val cause info 0 x.pc w t)))
    (x.xact = false →
      exec (.svreq c code) s = enters 8 code.toNat (code.toNat * 2 ^ 12 + 0x10 * 2 ^ 6 + 0x1B) ∧
      exec (.dbgreq c code) s = enters 9 code.toNat (code.toNat * 2 ^ 12 + 0x11 * 2 ^ 6 + 0x1B)) ∧
    (x.priv = true →
      exec (.xret c) s = .next (retired c.val s (t.modCore c.val (fun k => { k with psr := k.epsr, pc := k.epc.toNat }))) ∧
      (x.ipend &&& x.imask.toNat ≠ 0 → exec (.waiti c) s = .next (retired c.val s (t.pcNext c.val))) ∧
      (x.ipend &&& x.imask.toNat = 0 →
        exec (.waiti c) s = .next (retired c.val s ((t.pcNext c.val).coreDo c.val .waiti)))) ∧
    (x.priv = false → x.xact = false →
      exec (.xret c) s = enters 2 0 (0x12 * 2 ^ 6 + 0x1B) ∧ exec (.waiti c) s = enters 2 0 (0x13 * 2 ^ 6 + 0x1B))

/-- On a control core TTAKE reads a token of the running task; TDONE ends the task with ra[7:0]; TWAIT continues when TNOW
has reached ra and otherwise waits. With no running task TTAKE and TDONE raise TOKEN with INFO 1; on the Keeper and
the island TTAKE and TDONE raise ILLEGAL. (R391, R392, R393, R394) -/
def Obligations.TokenAndTimeInstructions : Prop :=
  ∀ (c : Fin 18) (rd ra : Fin 32) (slot : Fin 4) (s : State), Live (.disp :: spwBlocks c.val) s →
    Executes c.val (ready c.val s) →
    let t := ready c.val s
    let x := t.core c.val
    let put := fun (v : Word) => Host.Outcome.next (retired c.val s ((t.setGr c.val rd.val v).pcNext c.val))
    let target := (t.gr c.val ra.val).toNat
    let enters := fun (cause info w : Nat) =>
      Host.Outcome.next (retired c.val s (rtException c.val cause x.pc (enterException c.val cause info 0 x.pc w t)))
    (c.val < 16 → ∀ v, x.task.isSome = true → x.toks[slot.val]? = some v →
      exec (.ttake c rd slot) s = put (BitVec.ofNat 32 v)) ∧
    (c.val < 16 → x.task.isSome = true →
      exec (.tdone c ra) s = .next (retired c.val s (tdone c.val (target % 256) t))) ∧
    (exec (.twait c ra) s = .next (retired c.val s (if tnowReached t target then t.pcNext c.val else t.coreDo c.val (.twait target)))) ∧
    (x.xact = false → c.val < 16 → x.task = none →
      exec (.ttake c rd slot) s = enters 10 1 (wordR 0x1B 0x21 rd.val 0 0 slot.val) ∧
      exec (.tdone c ra) s = enters 10 1 (wordR 0x1B 0x22 0 ra.val 0 0)) ∧
    (x.xact = false → 16 ≤ c.val →
      exec (.ttake c rd slot) s = enters 1 0 (wordR 0x1B 0x21 rd.val 0 0 slot.val) ∧
      exec (.tdone c ra) s = enters 1 0 (wordR 0x1B 0x22 0 ra.val 0 0))

/-- On a control core TPOST adds the token (descriptor ra[11:0], slot AUX[1:0], value rb) to the tokens on their way to
the matching store and the next instruction follows; a descriptor number beyond 12 bits sets rd to ARGUMENT (0x02);
with 16 tokens of the core waiting, or a dispatcher that does not run, rd becomes BUSY (0x0E), counted and flagged.
The 16 places are the model's choice (log 41). (R390, R415) -/
def Obligations.TokenPost : Prop :=
  ∀ (c : Fin 18) (rd ra rb : Fin 32) (slot : Fin 4) (s : State), Live (.disp :: spwBlocks c.val) s →
    let t := if postHazard s.begin c.val [rd.val, ra.val, rb.val] = true then ready c.val s else s.begin
    Executes c.val t → c.val < 16 →
    let target := (t.gr c.val ra.val).toNat
    let waiting := (t.disp.posts.filter (fun p => p.src.any (fun y => y.1 = c.val))).length
    let p : Post := { src := some (c.val, rd.val), from_ := 0, desc := target, slot := slot.val, val := (t.gr c.val rb.val).toNat }
    (target < 4096 → waiting < 16 → dispMode t = true → exec (.tpost c rd ra rb slot) s = .next (retired c.val s
      (({ t with disp := { t.disp with posts := t.disp.posts ++ [p] } } : State).pcNext c.val))) ∧
    (4096 ≤ target → exec (.tpost c rd ra rb slot) s =
      .next (retired c.val s ((t.setGr c.val rd.val 2#32).pcNext c.val))) ∧
    (target < 4096 → 16 ≤ waiting ∨ dispMode t = false → exec (.tpost c rd ra rb slot) s = .next (retired c.val s
      ((((t.incr DISP_BUSYTOT_COUNT).raise DISP_STAT_BUSYF).setGr c.val rd.val 14#32).pcNext c.val)))

/-- A core takes an enabled pending interrupt, a waiting imprecise BUSST while XACT is 0, a TCMP match, the end of WAITI
and of TWAIT; HALT, STEP and RESET of CPU_C_c_CTL, granted and in Hold, Stop or Provision, and RESUME of a halted
core, have their effect and answer OKAY. (R389, R393, R397, R399, R408) -/
def Obligations.CoreCommandsComplete : Prop :=
  ∀ (m : Master) (c : Fin 18) (d : Fin 16) (s : State), Live [.cpu, .disp, .kpr] s →
    let b := s.begin
    let x := b.core c.val
    let y := b.core d.val
    let live := y.run ≠ .reset ∧ y.run ≠ .doublefault
    let asked := fun (w : Word) => Granted m CPU_C_CTL [d.val] w b
    (coreLive x = true → interruptReady x = true → x.imp = none →
      exec (.interrupt c) s = .next (s.finish (endStep c.val (enterException c.val 12 (x.ipend &&& x.imask.toNat) 0 x.pc 0 b)))) ∧
    (∀ a r, coreLive x = true → x.imp = some (a, r) → x.xact = false →
      exec (.impreciseBusst c) s = .next (s.finish (endStep c.val (rtException c.val 6 x.pc
        (enterException c.val 6 r 1 x.pc a (b.modCore c.val (fun k => { k with imp := none }))))))) ∧
    (x.run ≠ .reset → x.timer = false → exec (.timerCompare c) s =
      .next (s.finish (timerLook c.val (advanceTo (tnowInstant b x.tcmp.toNat) b)))) ∧
    (x.run = .waiti → x.halted = false → x.ipend &&& x.imask.toNat ≠ 0 →
      exec (.waitiWake c) s = .next (s.finish (endStep c.val (b.coreDo c.val .running)))) ∧
    (∀ t, x.run = .twait t → x.halted = false →
      exec (.twaitExpiry c) s = .next (s.finish (twaitEnd c.val (advanceTo (tnowInstant b t) b)))) ∧
    let does := fun (i : Instr) (w : Word) => TakesEffect i m CPU_C_CTL [d.val] w s
    (asked 1 → debugMode b = true → live → does (.halt m d) 1 (haltCore d.val b)) ∧
    (asked 2 → y.halted = true → does (.resume m d) 2 (resumeCore d.val b)) ∧
    (asked 4 → debugMode b = true → y.halted = true → live →
      does (.coreStep m d) 4 (coreStat d.val (b.modCore d.val (fun k => { k with halted := false, once := true })))) ∧
    (asked 8 → debugMode b = true → does (.coreReset m d) 8 (resetCore d.val b))

/-- ALLOC, FREE, ARM, CANCEL, POST and PRIO that answer DONE put the code and the descriptor into DISP_CMDRES of their
core; a token on its way reaches the matching store; due delays are released; an idle member starts the task in slot
0; a core joins and leaves; HWMCLR clears the high-water marks. (R414, R416, R420, R421, R425) -/
def Obligations.DispatcherCommandsComplete : Prop :=
  ∀ (m : Master) (c : Fin 16) (d : Fin 4096) (slot : Fin 4) (s : State), Live [.disp, .cpu] s →
    let b := s.begin
    let k := b.dcore c.val
    let word := fun (op d slot : Nat) => BitVec.ofNat 32 (op * 2 ^ 28 + slot * 2 ^ 16 + d)
    let op := fun (i : Instr) (op d slot : Nat) =>
      let r := dispCommand op d slot k.val.toNat (flushPosts b)
      Granted (.core c) DISP_CMD [] (word op d slot) b → dispMode b = true → r.1 = codeDone →
        TakesEffect i (.core c) DISP_CMD [] (word op d slot) s
          (r.2.2.modDcore c.val (fun k => { k with res := BitVec.ofNat 32 (2 ^ 30 + codeDone * 2 ^ 16 + r.2.1) }))
    op (.alloc c) 1 0 0 ∧
    op (.dispFree c d) 2 d.val 0 ∧
    op (.dispArm c d) 3 d.val 0 ∧
    op (.cancel c d) 4 d.val 0 ∧
    op (.post c d slot) 5 d.val slot.val ∧
    op (.prio c d) 6 d.val 0 ∧
    (∀ p rest, dispMode b = true → b.disp.posts = p :: rest → exec .tokenMatch s = .next (s.finish (applyPost b))) ∧
    (∀ t, dispMode b = true → dispHeld b = false → nextDead b = some t →
      let u := advanceTo (delayTick t) b
      exec .delayRelease s = .next (s.finish (delayRelease (max (delayTick t) (u.now / (1000 * nsF) * (1000 * nsF))) u))) ∧
    (∀ n, dispMode b = true → dispHeld b = false → takesTasks b c.val = true → memberIdle b c.val = true → k.s0 = some n →
      exec (.taskDispatch c) s = .next (s.finish (startTask c.val b))) ∧
    (Granted (.core c) DISP_CORE_CTL [c.val] 1 b → k.member = false →
      let u := b.modDcore c.val (fun k => { k with member := true, leaving := false, s0 := none, s1 := none })
      let v := (u.raise DISP_CORE_CTL_MEMBER [c.val]).modCore c.val (fun x => { x with task := none, toks := [] })
      TakesEffect (.join (.core c) c) (.core c) DISP_CORE_CTL [c.val] 1 s (fillSlots (runReg c.val (v.coreDo c.val .idle)))) ∧
    (Granted m DISP_CORE_CTL [c.val] 2 b → k.member = true →
      let u := fillSlots (emptySlots c.val (b.modDcore c.val (fun k => { k with leaving := true })))
      TakesEffect (.leave m c) m DISP_CORE_CTL [c.val] 2 s (if (u.core c.val).task = none then leaveNow c.val u else u)) ∧
    (Granted m DISP_CTL [] (BitVec.ofNat 32 (256 + b.fld DISP_CTL_DBGHOLD)) b → b.isSet DISP_CTL_DBGHOLD = false →
      TakesEffect (.hwmclr m) m DISP_CTL [] (BitVec.ofNat 32 (256 + b.fld DISP_CTL_DBGHOLD)) s
        (hwmClear (b.setFld DISP_CTL_DBGHOLD 0)))

/-- Cyclic starts, overruns, event triggers, publication, retention sets, redo, ERRMAX, LOAD, EXCHANGE, COLD and DISCARD
of RT_CMD, and the phases of an exchange have their effect when their condition holds; and a call of a system type (TON,
TOF, TP, R_TRIG, F_TRIG) in a cycle with start tick n answers the Q of its table and writes its own state only. (R343,
R344, R345, R347, R348, R352, R356, R357, R359, R362, R363, R364) -/
def Obligations.CyclicProgramComplete : Prop :=
  ∀ (m : Master) (t : Fin 13) (y : Fin 4) (s : State), Live [.cpu, .disp, .nvm] s →
    let b := s.begin
    let runs := rtMode b = true ∧ 2 ≤ b.fld RT_STAT_STATE
    let word := fun (op a : Nat) => BitVec.ofNat 32 (2 ^ 31 + a * 2 ^ 16 + op)
    let asked := fun (op a : Nat) => Granted m RT_CMD [] (word op a) b ∧ b.isSet RT_CMDSTAT_BUSY = false
    let does := fun (i : Instr) (op a : Nat) => TakesEffect i m RT_CMD [] (word op a) s
    let begun := fun (op a : Nat) => (((b.store RT_CMD [] (word op a)).raise RT_CMDSTAT_BUSY).lower RT_CMDSTAT_DONE).setFld
      RT_CMDSTAT_ERR 0
    (∀ n, runs → rtNextStart b y.val = some n → exec (.cyclicTaskStart y) s =
      .next (s.finish (rtStarts n [y.val] (advanceTo (tickAt n) b)))) ∧
    (∀ n, runs → rtBarred b = false → (b.rtask y.val).busy = true → rtNextStart b y.val = some n →
      exec (.taskOverrun y) s = .next (s.finish (rtCyclic n y.val (advanceTo (tickAt n) b)))) ∧
    (∀ a, 5 ≤ t.val → Granted m RT_T_EVT [t.val] 1 b → taskRec b (rtImg b) t.val = some a → b.peek (a + 32) 1 = 3 →
      TakesEffect (.evtGo m t) m RT_T_EVT [t.val] 1 s (rtTrigger t.val b.tick 0xFFFF b)) ∧
    (∀ n a rest, (b.rtask t.val).pubs = (n, a) :: rest →
      let u := advanceTo (tickAt n) b
      exec (.taskPublish t) s = .next (s.finish (rtPublish t.val (max n u.tick) u))) ∧
    (∀ x rest, b.rt.store = none → b.rt.sets = x :: rest → exec .retentionSetLogged s = .next (s.finish (logSet b))) ∧
    exec .redoApply s = .next (s.finish (applyRedo b)) ∧
    (∀ n a, b.rt.hold = some n → taskRec b (rtImg b) 4 = some a →
      let u := rtUnhold (advanceTo (tickAt (n + b.peek (a + 12) 4)) b)
      let v := match (u.rtask 4).desc with
        | some d => fillSlots (modDesc d (fun z => { z with prio := 0 }) u)
        | none => u
      exec .errmaxExpiry s = .next (s.finish (v.emitUnit 5 .cpu 4 RT_T_STAT [4]))) ∧
    (∀ a n, b.rt.cmd = some (1, a, n) → exec .programLoadDone s = .next (s.finish (loadFinish b))) ∧
    (asked 1 0 → fromProvision b = true →
      let u := begun 1 0
      does (.programLoad m) 1 0 { u.lower RT_STAT_READY with
        rt := { u.rt with cmd := some (1, 0, u.now + loadBound (u.fld RT_LOAD_LEN_LEN)) } }) ∧
    (asked 2 y.val → (b.mode = .stop ∨ b.mode = .provision ∨ ((b.mode = .run ∨ b.mode = .trial ∨ b.mode = .hold) ∧
        migrateLines (begun 2 y.val) (areaAddr (begun 2 y.val) (1 - activeArea (begun 2 y.val))) ≤ 3072)) →
      (begun 2 y.val).isSet RT_STAT_READY = true →
      let u := begun 2 y.val
      does (.exchange m y) 2 y.val
        { u with rt := { u.rt with cmd := some (2, y.val, 0), freeze := some (exchangeW u y.val) } }) ∧
    (asked 3 0 → b.mode = .provision ∨ b.mode = .stop →
      does (.cold m) 3 0 (rtDone 0 0 (rtFlagAll 8 (initAll true (begun 3 0))))) ∧
    (asked 4 0 → does (.discard m) 4 0 (rtDone 0 0 ((begun 4 0).lower RT_STAT_READY))) ∧
    (∀ w, b.rt.freeze = some w → exec .exchangeFreeze s = .next (s.finish (exchangeFreeze (advanceTo (tickAt w) b)))) ∧
    (exchangeReady b = true → exec .exchangeMigrate s = .next (s.finish (exchangeAt b))) ∧
    (∀ w, b.rt.move = some w → exec .migrationDone s = .next (s.finish (migrationDone (advanceTo w b)))) ∧
    (∀ w, b.rt.store = some w → exec .exchangeDurable s = .next (s.finish (exchangeDurable b))) ∧
    (∀ (at_ pt n : Nat) (i : Bool),
      let x := timerAt s at_
      let p := (s.peek at_ 4) % 2 = 1
      let since := fun (start : Nat) => (n - start) * 5
      let start := if x.run then x.start else n
      let rise := i && !x.prev && !x.q
      let called := fun (typ size : Nat) (q : Bool) => ∃ bs : List Byte, bs.length = size ∧
        sysTypeCall typ at_ i pt n s = some (q, rtWrite at_ bs s)
      called 0xFFFF0001 16 (i && decide (pt ≤ since start)) ∧
      called 0xFFFF0002 16 (i || (x.q && decide (since start < pt))) ∧
      called 0xFFFF0003 16 ((rise || x.q) && decide (since (if rise then n else x.start) < pt)) ∧
      called 0xFFFF0010 4 (i && decide (¬ p)) ∧ called 0xFFFF0011 4 (!i && decide p))

/-- A write that its block accepts answers OKAY with the block's effect; an alias write writes one bit; window
descriptors are written in Provision; a host session's write of a control-plane block waits as an item and is made
with its batch; LOCK.SET locks; SNAP.GO starts a snapshot that SNAP_COMPLETE takes; a mailbox request is captured,
delivered, read and expires (a stamp of the TIME block that expires unread counts in TIME_OVR); a token of the event
fabric is taken and its credit returned. (R25, R61, R70, R71, R72, R73, R74, R75, R78, R80, R231, R425) -/
def Obligations.RegisterCommandsComplete : Prop :=
  ∀ (m : Master) (k : Block) (a w : Word) (v : Bool) (n : Fin 64) (item : BitVec 8) (index : BitVec 16) (q : Fin 25) (s : State),
    s.mode ≠ .dark →
    let b := s.begin
    let word := BitVec.ofNat 32 (index.toNat * 256 + item.toNat)
    let x := b.mailbox k
    let own := masterId m
    let atOnce := ∀ j, admitBlock a.toNat = some j → hostAdmits m j b = none
    (∀ o t, specified (touched a.toNat) s → atOnce → busWrite m a.toNat 4 w.toNat b = (.ok o, t) →
      exec (.registerWrite m a w) s = .next (s.finish (t.say (.resp (.ok o))))) ∧
    (∀ o t, specified (touched a.toNat) s → atOnce → wordMapped (a.toNat / 4 * 4) = true → a.toNat % 4 = 0 →
      aliasWrite m a.toNat v b = (.ok o, t) →
      exec (.bitAliasWrite m a v) s = .next (s.finish (t.say (.resp (.ok o))))) ∧
    (∀ j i r, specified (touched a.toNat) s → admitBlock a.toNat = some j → hostAdmits m j b = some (i, r) →
      exec (.registerWrite m a w) s = .next (s.finish (b.pushItem (312 + i) b.now (.hostWrite i 0 a.toNat r [w]))) ∧
      exec (.bitAliasWrite m a v) s = .next (s.finish
        (b.pushItem (312 + i) b.now (.hostWrite i 0 a.toNat r [BitVec.ofNat 32 (b2n v)])))) ∧
    (∀ at_ i r stamp arr num,
      let y := busWrite (.hostItem (BitVec.ofNat 6 i).toFin (Role.ofCode r)) a.toNat 4 w.toNat b
      let code := match y.1 with | .ok _ => codeDone | .err e => reasonCode e
      let done := match y.1 with | .ok _ => 1 | .err _ => 0
      applyItem at_ { src := 312 + i, stamp := stamp, arr := arr, num := num, kind := .hostWrite i 0 a.toNat r [w] } b =
        itemDone i 0 (.write a.toNat [w]) code [done] y.2) ∧
    (specified [.sys] s → b.mode = .provision → Granted m SYS_WINB [n.val] w b → b.fld SYS_WINS_SIZE [n.val] = 0 →
      SYS_WINB_OWNER.of w ≠ 3 →
      exec (.windowDescriptorWrite m n false w) s = .next (s.finish (b.store SYS_WINB [n.val] w).ack)) ∧
    (specified [.sys] s → b.mode = .provision → Granted m SYS_WINS [n.val] w b →
      (SYS_WINS_SIZE.of w ≠ 0 → windowClash b n.val (b.fld SYS_WINB_BASE [n.val]) (SYS_WINS_SIZE.of w) = false) →
      exec (.windowDescriptorWrite m n true w) s = .next (s.finish (b.store SYS_WINS [n.val] w).ack)) ∧
    (specified [k] s → hasLock k = true → GrantedAt k (tailGuard k) false m TAIL_LOCK [k.index] 1 b → k.index ∉ b.locked →
      TakesEffectAt (.lockSet m k) m k (TAIL_LOCK.addr [k.index]) 1
        (regWriteAt k (tailGuard k) false (tailAct k 0x08) m TAIL_LOCK [k.index] 1) s
        (({ b with locked := k.index :: b.locked } : State).raise TAIL_LOCK_SET [k.index])) ∧
    (specified [k] s → (snapPairs k).isEmpty = false → GrantedAt k .g0 false m TAIL_SNAP [k.index] 1 b →
      TakesEffectAt (.snapGo m k) m k (TAIL_SNAP.addr [k.index]) 1
        (regWriteAt k .g0 false (tailAct k 0) m TAIL_SNAP [k.index] 1) s { b.lower TAIL_SNAP_DONE [k.index] with
        snaps := if b.snaps.contains k.index then b.snaps else k.index :: b.snaps }) ∧
    (specified [k] s → k ≠ .disp → b.snaps.contains k.index = true →
      exec (.snapComplete k) s = .next (s.finish (takeSnap k b))) ∧
    (specified [k] s → hasMailbox k = true → GrantedAt k (mbxGuard k item.toNat) true m TAIL_MBX_REQ [k.index] word b →
      x.owner = none ∨ x.owner = some own →
      TakesEffectAt (.mbxRequest m k item index) m k (TAIL_MBX_REQ.addr [k.index]) word
        (regWriteAt k (mbxGuard k item.toNat) true (tailAct k 0x10) m TAIL_MBX_REQ [k.index] word) s (b.setMailbox k
        { owner := some own, req := some (bits word.toNat 7 0, bits word.toNat 23 8), reqAt := b.now, words := [],
          err := 0, valid := false, expire := 0, refused := x.refused.filter (· ≠ own) })) ∧
    (∀ i j, specified [k] s → x.req = some (i, j) →
      let c := mbxCapture k i j x.reqAt b
      exec (.mbxCaptureDone k) s = .next (s.finish (mbxDeliver k c.1 c.2))) ∧
    (specified [k] s → hasMailbox k = true → b.powered k = true → qualifies b m .g0 = true → x.valid = true → x.owner = some own →
      x.words ≠ [] →
      exec (.mbxLastWordRead m k) s = .next (s.finish ((b.setMailbox k { x with owner := none, valid := false }).say
        (.resp (.ok (nth x.words (x.words.length - 1) 0).toNat))))) ∧
    (specified [k] s → x.valid = true →
      let t := advanceTo x.expire b
      let u := if k = .time ∧ stampHeld (t.mailbox k) = true then t.incrSat TIME_OVR_STAMP else t
      exec (.mbxExpiry k) s = .next (s.finish
        (u.setMailbox k { u.mailbox k with owner := none, valid := false, err := 4, words := [] }))) ∧
    (∀ e t, specified [.sys] s → b.popToken q.val = some (.event e, t) → b.evq.length < 1024 →
      exec (.tokenTaken q) s = .next (s.finish (kprSync (enterClassE e t)))) ∧
    (∀ c i t, specified [.sys] s → b.popToken q.val = some (.arm c i, t) → acqModeOk t = true → acqActionCode t c = 0 →
      exec (.tokenTaken q) s = .next (s.finish (rcpOutcome i 0 (acqArm c t))))

/-- A clock window judges the inputs and relocks; the time-base reference switches and returns; a PLL unlocks; writes of
TIME_INCR, TIME_INCR_ALT, TIME_ALTCNT, ALTSTOP and STEP wait for their instant of effect and take it; PTP stamps
enter; Beacons arm, fire, end their pulse and disarm; trigger inputs are filtered and accepted. (R83, R84, R85, R89,
R90, R91, R97, R99, R102, R103, R104, R107) -/
def Obligations.TimeCommandsComplete : Prop :=
  ∀ (m : Master) (w : Word) (p : Fin 6) (n : Fin 16) (e : Fin 12) (x : Fin 3) (seq c0 c1 c2 c3 : BitVec 16) (d0 d1 d2 d3 : Word)
    (dom : BitVec 8) (typ : BitVec 4) (one : Bool) (msg : SyncText) (o mpd : Int) (loc mas : Nat) (sync : SyncMsg)
    (edge : BallEdge) (s : State), Live [.time, .clk] s →
    let b := s.begin
    let free := kownBars m b = false
    let bcn := nth b.beacons n.val {}
    let edgeAt := fun (u : State) => (nth u.beacons n.val {}).nextAt
    let dueAt := fun (u : State) => u.tb.started = true ∧ u.isSet TIME_BCN_STAT_ARMED [n.val] = true ∧
      (nth u.beacons n.val {}).pulse = none
    let stepped := stepsFirst edgeAt b.tb.pend.length b
    let arm := ctlWord b TIME_BCN_CTL [n.val] 1
    let off := ctlWord b TIME_BCN_CTL [n.val] 2
    let v := beaconSet b n.val
    let tctl := timeCtlWord b
    let kown := fun (bits : Nat) => if masterId m = 16 then b.setFld TIME_CTL_KOWN (TIME_CTL_KOWN.of (tctl bits)) else b
    let settled := tbusSettle b.now b
    let seen := settled.modTrig e.val (fun x => { x with ext := edge.level })
    let own := decide (8 ≤ e.val) && tbusOwn seen (e.val - 8)
    let windows := judgeClock 3 c3.toNat d3 (judgeClock 2 c2.toNat d2 (judgeClock 1 c1.toNat d1 (judgeClock 0 c0.toNat d0 b)))
    (exec (.clockWindow c0 c1 c2 c3 d0 d1 d2 d3) s = .next (s.finish
      (if windows.mode = .seed ∧ windows.seed.step ≤ 4 then windows else (List.range 6).foldl relock windows))) ∧
    (∀ t, b.tbPll.holdFrom = some t →
      let u := advanceTo (t + 10000000 * nsF) b
      let z := ((u.setFld CLK_STAT_HOLDOVER (b2n !(u.clkPresent 0))).lower CLK_STAT_TBSRC).raise CLK_FLAGS_TB_SWITCH
      exec .tbRefSwitch s = .next (s.finish { z with tbPll := { z.tbPll with holdFrom := none } })) ∧
    (∀ t, b.tbPll.trefFrom = some t → b.isSet CLK_TBSEL_AUTORET = true → b.isSet CLK_TBSEL_USETREF = true →
      b.isSet CLK_STAT_TBSRC = false → exec .tbRefReturn s = .next (s.finish
        ((((advanceTo (t + 100000000 * nsF) b).raise CLK_STAT_TBSRC).lower CLK_STAT_HOLDOVER).raise CLK_FLAGS_TB_SWITCH))) ∧
    (bit (b.fld CLK_STAT_LOCK) p.val = true →
      let u := b.setFld CLK_STAT_LOCK (putBits (b.fld CLK_STAT_LOCK) p.val p.val 0)
      exec (.pllUnlock p) s = .next (s.finish
        (if p.val < 4 then clockEvent 6 16 ((u.raise CLK_FLAGS_PLL_UNLOCK).raiseSafe 3) else clockLost (p.val - 2) u))) ∧
    (free → Granted m TIME_INCR [] w b → incrOk w.toNat = true → b.tb.started = true → exec (.timeIncrWrite m w) s =
      .next (s.finish (pendTb (.incr w.toNat) (b.store TIME_INCR [] w)).ack)) ∧
    (free → Granted m TIME_INCR_ALT [] w b → incrOk w.toNat = true → b.tb.started = true → exec (.timeIncrAltWrite m w) s =
      .next (s.finish (pendTb (.alt w.toNat) (b.store TIME_INCR_ALT [] w)).ack)) ∧
    (free → Granted m TIME_ALTCNT [] w b → TIME_ALTCNT_COUNT.of w ≠ 0 → b.tb.started = true → exec (.timeAltcntWrite m w) s =
      .next (s.finish (pendTb (.cnt (TIME_ALTCNT_COUNT.of w)) b).ack)) ∧
    (free → Granted m TIME_CTL [] (tctl 2) b → b.altCnt ≠ 0 → b.tb.started = true → exec (.altstop m) s =
      .next (s.finish (pendTb .stop (kown 2)).ack)) ∧
    (free → Granted m TIME_CTL [] (tctl 1) b → stepMode b.mode = true → bits (timeSet b) 45 16 < 1000000000 →
      exec (.step m) s = .next (s.finish (pendTb (.step (ofTime96 (timeSet (kown 1)) * 4096 % dtWrap)) (kown 1)).ack)) ∧
    exec .incrementTakesEffect s = .next (s.finish (toPending (fun o => !o.isStep) b)) ∧
    exec .timeStepEdge s = .next (s.finish (toPending TbOp.isStep b)) ∧
    (b.tb.started = true → b.altCnt ≠ 0 → exec .alternateIncrementEnd s =
      .next (s.finish (advanceLoop b.tb.pend.length (b.tb.dt + b.altCnt * b.tb.alt) b))) ∧
    (exec (.ptpIngressStamp p seq dom typ x) s =
      .next (s.finish (ptpIngress p.val seq.toNat dom.toNat typ.toNat x.val b))) ∧
    (exec (.ptpEgressStamp p seq dom typ x one msg) s =
      .next (s.finish
        (ptpEgress p.val seq.toNat dom.toNat typ.toNat x.val one msg.corr.toNat msg.org.toNat msg.sum.toNat b))) ∧
    exec (.ptpSyncReceived o mpd loc mas sync) s = .next (s.finish (ptpSync o mpd loc mas sync b)) ∧
    (Granted m TIME_BCN_CTL [n.val] arm b → beaconBad v.2.1 v.2.2 = false → exec (.beaconArm m n) s =
      .next (s.finish (beaconArm n.val v (beaconActs n.val 9 (b.store TIME_BCN_CTL [n.val] arm))).ack)) ∧
    (Granted m TIME_BCN_CTL [n.val] off b → exec (.beaconDisarm m n) s =
      .next (s.finish (beaconDisarm n.val (beaconActs n.val 8 (b.store TIME_BCN_CTL [n.val] off))).ack)) ∧
    (dueAt b → dueAt stepped → exec (.beaconEdge n) s = .next (s.finish
      (beaconFire n.val (edgeAt stepped) (advanceTo (edgeAt stepped) stepped)))) ∧
    (dueAt b → ¬ dueAt stepped → exec (.beaconEdge n) s = .next (s.finish stepped)) ∧
    (∀ t, bcn.pulse = some t →
      let u := advanceTo t b
      let z := beaconShow n.val false (({ u with beacons := modNth u.beacons n.val (fun y => { y with pulse := none }) } : State).lower
        TIME_BCN_STAT_ACTIVE [n.val])
      exec (.beaconTrailingEdge n) s = .next (s.finish (match (nth u.beacons n.val {}).next with
        | some f => beaconLoad n.val f.2.2.2 (f.1, f.2.1, f.2.2.1) z
        | none => z))) ∧
    (∀ f t, (settled.trig e.val).filt = some (f, t) →
      exec (.trigAccept e) s = .next (s.finish (trigAccept e.val (advanceTo (t.1 + trigFilt settled e.val) settled)))) ∧
    exec (.trigEdge e edge) s = .next (s.finish
      (trigLevel e.val (seen.now + edge.quarter.val * (nsF / 4)) (edge.level && !own) own seen))

/-- START of a startable thread in Run or Trial, ABORT, CLEAR of an ENDED or FAULTED thread, a load that checks, its end,
a journal write, the commit of the earliest pending step, a step timeout, a resume request and its decisions have
their effect. (R118, R126, R129, R136, R147, R149) -/
def Obligations.RecipeCommandsComplete : Prop :=
  ∀ (m : Master) (n : Fin 64) (step : BitVec 13) (count : BitVec 17) (s : State), Live [.rcp, .nvm] s →
    let b := s.begin
    let word := BitVec.ofNat 32 (step.toNat * 2 ^ 16 + 1)
    let load := BitVec.ofNat 32 (2 ^ 31 + count.toNat)
    let loaded := b.store RCP_LOAD_CNT [] load
    let resume := BitVec.ofNat 32 (b.fld RCP_RESUME_TWAIT * 256 + b.fld RCP_RESUME_AUTO * 2 + 1)
    let runs := b.effMode ≠ .dark ∧ b.effMode ≠ .seed ∧ b.effMode ≠ .keeper ∧ b.effMode ≠ .provision
    let t := b.thread n.val
    let head := nth t.recs 0 0
    let timeUp := advanceTo (tickAt (t.commit + 2 * ((hTmax head : Int) - t.ofs).toNat)) b
    let commits := (List.range 64).filterMap (fun k => if b.thrState k = thrPending then (b.thread k).dec.map (·.at_) else none)
    (Granted m RCP_THR_CMD [n.val] word b → (b.effMode = .run ∨ b.effMode = .trial) → (b.mode = .follow → masterId m = 18) →
      startable b n.val = true →
      TakesEffect (.rcpStart m n step) m RCP_THR_CMD [n.val] word s (b.queueCmd n.val (1, step.toNat))) ∧
    (Granted m RCP_THR_CMD [n.val] 2 b → runs →
      TakesEffect (.rcpAbort m n) m RCP_THR_CMD [n.val] 2 s (b.queueCmd n.val (2, 0))) ∧
    (Granted m RCP_THR_CMD [n.val] 3 b → runs → b.thrState n.val = thrEnded ∨ b.thrState n.val = thrFaulted →
      TakesEffect (.rcpClear m n) m RCP_THR_CMD [n.val] 3 s (b.queueCmd n.val (3, 0))) ∧
    (Granted m RCP_LOAD_CNT [] load b → b.isSet RCP_LOAD_STAT_BUSY = false → (loadCheck loaded).1 = 0 →
      let u := ((loaded.setReg RCP_LOAD_STAT 0).setFld RCP_LOAD_STAT_ERR 0).raise RCP_LOAD_STAT_BUSY
      TakesEffect (.rcpLoadGo m count) m RCP_LOAD_CNT [] load s { u with rcp := { u.rcp with load := true } }) ∧
    exec .rcpLoadDone s = .next (s.finish (loadDone b)) ∧
    exec .journalWrite s = .next (s.finish (journalWrite b)) ∧
    (∀ d ds, rcpRuns b = true → commits = d :: ds →
      exec .stepCommit s = .next (s.finish (rcpPhase1 (ds.foldl min d) (advanceTo (tickAt (ds.foldl min d)) b)))) ∧
    (b.thrState n.val = thrRunning → hTomode head ≠ 0 → rcpRuns b = true →
      (b.effMode = .hold → b.isSet RCP_CTL_DBGHOLD = false) →
      let k := max (t.commit + 2 * ((hTmax head : Int) - t.ofs).toNat) (timeUp.tick + timeUp.tick % 2)
      exec (.stepTimeout n) s = .next (s.finish (evalThread timeUp k timeUp n.val))) ∧
    (Granted m RCP_RESUME [] resume b → RCP_RESUME_TWAIT.of resume ≠ 0 → b.effMode = .run → b.rcp.resume = none →
      RCP_RESUME_GO.on resume = true →
      TakesEffect (.rcpResumeGo m) m RCP_RESUME [] resume s (resumeRequest (b.store RCP_RESUME [] resume))) ∧
    (b.rcp.resume ≠ none → rcpRuns b = true → exec .resumeDecision s =
      .next (s.finish (resumeDue (evenTick b.now) (advanceTo (tickAt (evenTick b.now)) b)))) ∧
    (∀ q, b.rcp.resume = some q → rcpRuns b = true →
      let d := evenTick (q.from_ + b.fld RCP_RESUME_TWAIT * secF)
      exec .resumeTwaitExpiry s = .next (s.finish (resumeDue d (advanceTo (tickAt d) b))))

/-- BIND, UNBIND and CHECK in Provision or Stop, the end of a check, the frame start, a period start, the next execution
of a lane, the earliest release and the earliest deadline fault have their effect; Lens channels arm, disarm and are
forced. (R159, R160, R161, R163, R178, R179, R180, R201, R202, R204) -/
def Obligations.LoopCommandsComplete : Prop :=
  ∀ (m : Master) (n : Fin 1024) (c : Fin 8) (h : Fin 64) (s : State), Live [.loop, .lens] s →
    let b := s.begin
    let word := fun (op : Nat) => BitVec.ofNat 32 (2 ^ 31 + op * 2 ^ 16 + n.val)
    let asked := fun (op : Nat) => Granted m LOOP_CMD [] (word op) b ∧ b.isSet LOOP_CHK_BUSY = false ∧
      (b.effMode = .provision ∨ b.effMode = .stop)
    let checking := fun (op : Nat) => ((b.store LOOP_CMD [] (word op)).setReg LOOP_CHK 0).raise LOOP_CHK_BUSY
    let unbound := ((checking 2).lower LOOP_CFG_BOUND [n.val]).setLoopBit LOOP_BOUND_BOUND n.val false
    let class_ := loopClass unbound n.val
    let left := (boundLoops unbound).any (fun m => loopClass unbound m = class_)
    let f := max 1 (b.fld LOOP_FRAME_F)
    let frame := ceilDiv (ceilDiv b.now (tickAt 1)) f * f
    let per := nextPeriod b c.val (max (nth b.le.latched c.val 0) b.tick)
    let soonest := fun (xs : List Nat) => xs.foldl (fun (z : Option Nat) x => some (min (z.getD x) x)) none
    let late := (b.le.staged.filter (fun g => g.due ≤ g.last / 2900)).map (·.due) ++
      b.le.lanes.flatMap (fun l => (l.runs.filter (fun p => p.1.en && p.1.due * 2900 ≤ p.2)).map (·.1.due) ++
        (l.queue.filter (fun e => e.en && e.due * 2900 ≤ max l.free (eligibleAt e.start))).map (·.due))
    let does := fun (i : Instr) (op : Nat) => TakesEffect i m LOOP_CMD [] (word op) s
    (asked 1 → does (.loopBind m n) 1 (checking 1)) ∧
    (asked 2 → does (.loopUnbind m n) 2
      (lensLostLoop n.val (if left then unbound else unbound.setReg LOOP_CLS_WCF 0 [class_]))) ∧
    (asked 3 → does (.loopCheck m n) 3 (checking 3)) ∧
    exec .loopCheckDone s = .next (s.finish (loopCheckDone b)) ∧
    (b.isSet LOOP_STAT_WAITFRAME = true → exec .laneFrameStart s = .next (s.finish (frameStart frame (advanceTo (tickAt frame) b)))) ∧
    (b.isSet LOOP_STAT_RUNNING = true → b.fld LOOP_CLS_PER_PER [c.val] ≠ 0 →
      exec (.loopPeriodStart c) s = .next (s.finish (latchClass per (advanceTo (tickAt per) b) c.val))) ∧
    (∀ t l, nextEnd b = some (t, l) →
      let u := if (nth b.le.lanes l {}).runs = [] then laneGo (t + 1) l 1 b else b
      exec .loopExecution s = .next (s.finish (laneDone (t + 1) l (advanceTo (slotEnd t) u)))) ∧
    (∀ r, soonest (b.le.staged.map releaseTick) = some r →
      exec .loopRelease s = .next (s.finish (loopReleases r (advanceTo (tickAt r) b)))) ∧
    (∀ r, soonest late = some r → exec .loopDeadlineFault s = .next (s.finish (deadlines r (advanceTo (tickAt r) b)))) ∧
    (Granted m LENS_CH_CTL [h.val] 1 b → exec (.lensArm m h) s = .next (s.finish (lensArm h.val b).ack)) ∧
    (Granted m LENS_CH_CTL [h.val] 2 b → exec (.lensDisarm m h) s = .next (s.finish (lensDisarm h.val b).ack)) ∧
    (Granted m LENS_CH_CTL [h.val] 4 b → exec (.lensForce m h) s = .next (s.finish (lensTriggerGroup h.val b.now 2 b).ack))

/-- A calibration block that does not qualify only records its residual; one that qualifies counts and keeps or adapts the
estimate; feed-forward, RESTART, SAMPLE and its completion, tone items, the last tones of a disabled channel, the
assertion and the end of ARC_OUT have their effect. (R210, R212, R213, R214, R217, R219, R221, R222, R223, R224) -/
def Obligations.RfCommandsComplete : Prop :=
  ∀ (m : Master) (n : Fin 4) (codes : List (BitVec 12)) (age : BitVec 32) (errA errB : List Int) (resid : BitVec 8)
    (phase : List (BitVec 32)) (ref : Option (BitVec 28)) (s : State), Live [.rfa, .acq] s →
    let b := s.begin
    let c := b.rfCh n.val
    let on := rfRuns b n.val = true
    let ovr := codes.any overRange
    let over_ := if ovr then b.raise RFA_STAT_OVRF else b
    let at_ := b.now - age.toNat
    let soon := c.lastBlk.any (fun t => at_ < t + 32000 * nsF)
    let block := over_.modRf n.val (fun c => { c with lastBlk := some at_ })
    let judged := block.setFld RFA_CH_CALSTAT_RESID resid.toNat [n.val]
    let est := fun (q i : Nat) => estReg (nth c.est (4 * q + i) 0)
    let heard := match ref with
      | some r => if ovr then (b.modRf n.val (fun c => { c with arcRef := some r.toNat })).raise RFA_STAT_OVRF
          else b.modRf n.val (fun c => { c with arcRef := some r.toNat })
      | none => over_
    let es := envelope codes.length (corrected heard n.val codes)
    (on → soon = false → loudBlock codes = false ∨ ovr = true ∨ spreadBlock codes = false →
      exec (.calBlock n codes age errA errB resid) s = .next (s.finish (setFrozen n.val judged))) ∧
    (on → soon = false → loudBlock codes = true → ovr = false → spreadBlock codes = true →
      exec (.calBlock n codes age errA errB resid) s = .next (s.finish (calQualified n.val (blockError errA errB) judged))) ∧
    (exec .calFeedforward s = .next (s.finish ((List.range 4).foldl (fun s n =>
      if rfRuns s n = true then
        setFrozen n (if s.fld RFA_CH_CFG_CALMODE [n] = 2 then s
          else (drawEst s).2.modRf n (fun c => { c with ff := (drawEst s).1 }))
      else s) b))) ∧
    (Granted m RFA_CH_CALCTL [n.val] 2 b → TakesEffect (.calRestart m n) m RFA_CH_CALCTL [n.val] 2 s (loadTrim n.val b)) ∧
    (Granted m RFA_CH_CALCTL [n.val] 1 b → TakesEffect (.calSample m n) m RFA_CH_CALCTL [n.val] 1 s
      ((b.lower RFA_CH_CALSTAT_SAMPLED [n.val]).modRf n.val (fun c => { c with sample := true }))) ∧
    (c.sample = true →
      let u := (List.range 8).foldl (fun s q =>
        (s.setReg RFA_CH_EST_A (BitVec.ofNat 32 (est q 0 * 65536 + est q 1)) [n.val, q]).setReg RFA_CH_EST_B
          (BitVec.ofNat 32 (est q 2 * 65536 + est q 3)) [n.val, q]) b
      exec (.calSampleDone n) s = .next (s.finish
        ((u.raise RFA_CH_CALSTAT_SAMPLED [n.val]).modRf n.val (fun c => { c with sample := false })))) ∧
    (b.domOn 7 = true → b.isSet RFA_CH_CFG_EN [n.val] = true →
      exec (.toneItem n codes phase) s = .next (s.finish (toneDue n.val (toneSums b n.val codes phase) ovr b))) ∧
    (c.ends = true → b.domOn 7 = true →
      exec (.rfChannelDisable n) s = .next (s.finish (lastTone n.val b))) ∧
    (on → exec (.arcAssert n ref codes age) s = .next (s.finish
      ((es.zipIdx.map (fun p => (p.1, at_ - (es.length - 1 - p.2) * 4 * nsF))).foldl (arcBlock n.val) heard))) ∧
    (∀ e t, c.arc = true → (arcConds b n.val e (c.arcRef.getD (e * 65536))).1 = true ∨
        (arcConds b n.val e (c.arcRef.getD (e * 65536))).2 = true →
      arcBlock n.val b (e, t) = b.modRf n.val (fun c => { c with arcHold := t })) ∧
    (∀ e t, c.arc = true → (arcConds b n.val e (c.arcRef.getD (e * 65536))).1 = false →
        (arcConds b n.val e (c.arcRef.getD (e * 65536))).2 = false → arcBlock n.val b (e, t) = b) ∧
    (c.arc = true → b.clkPresent 2 = true → exec (.arcDeassert n) s = .next (s.finish
      (arcLine n.val false (advanceTo (c.arcHold + b.fld RFA_CH_ARCOUT_HOLD [n.val] * 100 * nsF) b))))

/-- LOAD of a set whose configuration checks, UNLOAD, ARM, DISARM, FORCE, an ARM token of the recipe engine, a trigger,
the completion of a segment, the rearming or the end of a capture, RELEASE and a queue overflow have their effect.
(R228, R230, R231, R232, R233, R237, R240) -/
def Obligations.AcquisitionCommandsComplete : Prop :=
  ∀ (m : Master) (feed : CmpFeed) (k : Fin 64) (feeds : List StreamFeed) (count : BitVec 15) (s : State), Live [.acq] s →
    let b := s.begin
    let x := b.acqSet k.val
    let ncap := b.fld ACQ_SET_PRE_NCAP [k.val]
    let vs := cmpValues b k.val feed.feed
    let spacing := sampleStep b k.val (b.fld ACQ_SET_TRG_CSTR [k.val])
    let freed := ((x.order.take count.toNat).foldl (fun u i => u.modDesc k.val i (fun _ => {})) b).modAcq k.val
      (fun x => { x with order := x.order.drop count.toNat })
    (Granted m ACQ_SET_CTL [k.val] 1 b → acqModeOk b = true → acqErr b k.val = 0 →
      exec (.acqLoad m k) s = .next (s.finish (acqLoad k.val b).ack)) ∧
    (Granted m ACQ_SET_CTL [k.val] 2 b → b.acqState k.val = 1 →
      exec (.acqUnload m k) s = .next (s.finish (acqUnload k.val b).ack)) ∧
    (Granted m ACQ_SET_CTL [k.val] 4 b → acqModeOk b = true → b.acqState k.val ≠ 0 →
      exec (.acqArm m k) s = .next (s.finish (acqArm k.val b).ack)) ∧
    (Granted m ACQ_SET_CTL [k.val] 8 b → 2 ≤ b.acqState k.val →
      exec (.acqDisarm m k) s = .next (s.finish (acqDisarm k.val b).ack)) ∧
    (Granted m ACQ_SET_CTL [k.val] 16 b → 2 ≤ b.acqState k.val →
      exec (.acqForce m k) s = .next (s.finish (acqSync (acqTrigger 64 k.val b.now true b)).ack)) ∧
    (∀ c i t, b.popToken 24 = some (.arm c i, t) → acqModeOk t = true → acqActionCode t c = 0 →
      exec .acqArmToken s = .next (s.finish (rcpOutcome i 0 (acqArm c t)))) ∧
    (3 ≤ b.fld ACQ_SET_TRG_SRC [k.val] → b.fld ACQ_SET_TRG_SRC [k.val] ≤ 6 → 2 ≤ b.acqState k.val → b.clkPresent 2 = true →
      exec (.acqTrigger k feed) s = .next (s.finish (acqSync
        ((vs.zipIdx.map (fun p => (p.1, b.now - feed.age.toNat - (vs.length - 1 - p.2) * spacing))).foldl (cmpTake k.val) b)))) ∧
    (∀ x, let a := b.acqSet k.val
      let far := fun (y : AcqSet) => if cmpMet b k.val a.hist x.1 = none then y.away
        else decide (cmpMet b k.val a.hist x.1 = some false)
      let seen := b.modAcq k.val
        (fun y => { y with hist := (x.1 :: y.hist).take (b.fld ACQ_SET_TRG_W [k.val]), away := far y })
      (cmpMet b k.val a.hist x.1 ≠ some true → cmpTake k.val b x = seen) ∧
      (cmpMet b k.val a.hist x.1 = some true → a.away = false → cmpTake k.val b x = seen) ∧
      (cmpMet b k.val a.hist x.1 = some true → a.away = true → cmpTake k.val b x = acqTrigger 64 k.val x.2 false seen)) ∧
    (∀ i, b.clkPresent 2 = true → descIn b k.val .filling = some i →
      let d := nth x.descs i {}
      let fs := (streamFrames b k.val feeds).take (lastFrame b k.val d - d.frames)
      let n := d.frames + fs.length
      let z := (writeFrames k.val i d.frames fs b).modDesc k.val i (fun d => { d with frames := n })
      let u := advanceTo (sampleInstant z k.val d.armedAt n 0) z
      exec (.segmentComplete k feeds) s = .next (s.finish
        (if lastFrame u k.val d ≤ n then completeSegment k.val false false u else u))) ∧
    (∀ i, b.clkPresent 2 = true → descIn b k.val .filling = none → descIn b k.val .armed = some i →
      exec (.segmentComplete k feeds) s = .next (s.finish (takeFrames k.val i (streamFrames b k.val feeds) b))) ∧
    (x.rearm = true → b.clkPresent 2 = true → x.ending = true ∨ (ncap ≠ 0 ∧ ncap ≤ x.ncap) →
      exec (.segmentRearm k) s = .next (s.finish
        ((b.modAcq k.val (fun x => { x with ending := false, rearm := false })).setFld ACQ_SET_STAT_STATE 1 [k.val]))) ∧
    (x.rearm = true → b.clkPresent 2 = true → x.ending = false → (ncap = 0 ∨ x.ncap < ncap) →
      exec (.segmentRearm k) s = .next (s.finish (acqSync (armSegment k.val b)))) ∧
    (Granted m ACQ_SET_REL [k.val] (BitVec.ofNat 32 count.toNat) b → count.toNat ≤ x.order.length →
      exec (.acqRelease m k count) s = .next (s.finish (acqSync (if count.toNat ≠ 0 && freed.acqState k.val = 3 then
        freed.modAcq k.val (fun x => { x with rearm := true }) else freed)).ack)) ∧
    (2 ≤ b.acqState k.val → exec (.acqQueueOverflow k) s = .next (s.finish
      (((completeSegment k.val true false b).raise ACQ_STAT_OVF).emitUnit 6 .acq k.val ACQ_STAT [])))

/-- A scan trigger of source 1 or 4 (a source 2 or 3 triggers with the compare or the Beacon edge itself, log 215),
SWTRIG, the end of a conversion with its code clamped to the format, a diagnosis request and its result, a DAC code
and its load have their effect. (R246, R247, R248, R249, R251, R254, R256, R257, R259, R260) -/
def Obligations.AnalogCommandsComplete : Prop :=
  ∀ (m : Master) (c : Fin 32) (raw : Int) (t : Fin 4) (conv : Fin 8) (pos : Fin 4) (chk : BitVec 3)
    (d1 m1 d2 m2 i1 i2 np nm : BitVec 16) (d : Fin 16) (code : BitVec 16) (s : State), Live [.sar] s →
    let b := s.begin
    let x := b.sarConv c.val
    let src := b.fld SAR_CONV_TRG_SRC [c.val]
    let next := nextTickTrig b c.val
    let at_ := tickAt next + b.fld SAR_CONV_TRG_DELAY [c.val] * nsF
    let word := BitVec.ofNat 32 (2 ^ 31 + chk.toNat * 256 + pos.val * 16 + conv.val)
    let asked := (b.store SAR_TDAC_REQ [t.val] word).raise SAR_TDAC_REQ_PEND [t.val]
    let cleared := (asked.setReg SAR_TDAC_RES 0 [t.val]).setFld SAR_TDAC_RES_ERR (asked.fld SAR_TDAC_RES_ERR [t.val]) [t.val]
    let q : DiagReq := { conv := conv.val, pos := pos.val, chk := chk.toNat, started := false }
    (sarRuns b = true → src = 1 → exec (.scanTrigger c) s = .next (s.finish
      (sarTrigger c.val at_ ((advanceTo at_ b).modConv c.val (fun x => { x with trigTick := some next }))))) ∧
    (sarRuns b = true → src = 4 → x.busy = false →
      exec (.scanTrigger c) s = .next (s.finish (sarTrigger c.val b.now b))) ∧
    (src = 2 ∨ src = 3 → exec (.scanTrigger c) s = .next (s.finish b)) ∧
    (Granted m SAR_CONV_CTL [c.val] 1 b → TakesEffect (.swtrig m c) m SAR_CONV_CTL [c.val] 1 s (sarTrigger c.val b.now b)) ∧
    (∀ j rest, x.busy = true → x.jobs.drop x.done = j :: rest →
      let lo : Int := if j.2 then -32768 else 0
      let hi : Int := if j.2 then 32767 else 65535
      let v := max lo (min hi raw)
      let start := x.start + x.done * usF
      let u := ((advanceTo (start + usF) b).incr SAR_CONVTOT_COUNT).modConv c.val
        (fun x => { x with done := x.done + 1, codes := x.codes ++ [(j.1, v)] })
      let z := sarStatus c.val (sarItem c.val j.1 v (v = lo || v = hi) j.2 (start + 8 * sarClk) (start + usF) u)
      exec (.conversionComplete c raw) s = .next (s.finish (if rest = [] ∧ x.diag = none then sarEnd c.val z else z))) ∧
    (Granted m SAR_TDAC_REQ [t.val] word b → diagErr b t.val conv.val pos.val chk.toNat = 0 →
      TakesEffect (.diagRequest m t conv pos chk) m SAR_TDAC_REQ [t.val] word s
        { cleared with sar := { cleared.sar with tdac := modNth cleared.sar.tdac t.val (fun _ => some q) } }) ∧
    (∀ q, nth b.sar.tdac t.val none = some q → diagEnds b t.val q = true →
      exec (.diagComplete t d1 m1 d2 m2 i1 i2 np nm) s = .next (s.finish
        (diagJudge t.val q d1 m1 d2 m2 i1 i2 np nm b))) ∧
    (Granted m SAR_DAC_CODE [d.val] (BitVec.ofNat 32 code.toNat) b → (b.effMode = .safe → b.isSet SAR_DAC_CFG_SAFEACT [d.val] = false) →
      TakesEffect (.dacCodeWrite m d code) m SAR_DAC_CODE [d.val] (BitVec.ofNat 32 code.toNat) s
        (dacPut d.val code.toNat 100 false b)) ∧
    exec (.dacLoad d) s = .next (s.finish (dacLoad d.val b))

/-- DISC, START and STOP of a port have their effect when granted; a received frame with a good FCS that parses acts as
its type says, one with a bad FCS is counted; discovery ends, cycles start and close. (R269, R270, R271, R272, R275,
R276, R277) -/
def Obligations.RemoteCommandsComplete : Prop :=
  ∀ (m : Master) (p : Fin 4) (frame : List Byte) (s : State),
    Live [.sys, .time, .disp, .loop, .rcp, .rio, .sar, .rfa, .pwm, .mot, .can, .cpu, .twin] s →
    let b := s.begin
    let q := p.val
    let x := b.rioPort q
    let up := b.powered .rio = true ∧ b.isSet RIO_P_CTL_EN [q] = true
    let written := fun (w : Word) => b.store RIO_P_CTL [q] w
    (Granted m RIO_P_CTL [q] 3 b → rioMode b = true →
      TakesEffect (.rioDisc m p) m RIO_P_CTL [q] 3 s (portEnded q (rioDisc q (written 3)))) ∧
    (Granted m RIO_P_CTL [q] 5 b → rioMode b = true → (2 ≤ q → islPorts b = false) →
      TakesEffect (.rioStart m p) m RIO_P_CTL [q] 5 s (portEnded q (rioStart q (written 5)))) ∧
    (Granted m RIO_P_CTL [q] 9 b → TakesEffect (.rioStop m p) m RIO_P_CTL [q] 9 s (portEnded q (rioStop q (written 9)))) ∧
    (∀ f, up → buoyParse b frame = some f →
      exec (.drep p true frame) s = .next (s.finish (drepTaken q f b)) ∧
      exec (.cack p true frame) s = .next (s.finish (cackTaken q f b)) ∧
      exec (.hello p true frame) s = .next (s.finish (helloTaken q f b)) ∧
      exec (.ifr p true frame) s = .next (s.finish (ifrTaken q f b))) ∧
    (up →
      exec (.drep p false frame) s = .next (s.finish (b.incr RIO_P_FCSERR_COUNT [q])) ∧
      exec (.cack p false frame) s = .next (s.finish (b.incr RIO_P_FCSERR_COUNT [q])) ∧
      exec (.hello p false frame) s = .next (s.finish (b.incr RIO_P_FCSERR_COUNT [q])) ∧
      exec (.ifr p false frame) s = .next (s.finish (b.incr RIO_P_FCSERR_COUNT [q]))) ∧
    (b.fld RIO_P_STAT_STATE [q] = 1 →
      exec (.discoveryEnd p) s = .next (s.finish (discoveryEnd q (advanceTo (x.drepAt + 1000000 * nsF) b)))) ∧
    ((b.fld RIO_P_STAT_STATE [q] = 3 ∧ x.stop = false) ∨ x.start = true → exec (.rioCycleStart p) s =
      .next (s.finish (startCycle q (nextCycle b q) (advanceTo (tickAt (nextCycle b q)) b)))) ∧
    (∀ c cs d ds, x.open_ = c :: cs →
      let at_ := closeTick b q c
      let u := ticksTo at_ (at_ + 1 - nextTick b) b
      (u.rioPort q).open_ = d :: ds →
      exec (.cycleClose p) s = .next (s.finish (if d.cseq = c.cseq then closeCycle q at_ (advanceTo (tickAt at_) u) else u)))

/-- A reload, a restart, the end of the on time and of a dead time, a switch-node crossing, a compare, trips, the end of
blanking, a fast-cut source, COMMIT, shadow writes, static levels, the latch-off clear and the clear of a fast cut
have their effect. (R288, R289, R290, R292, R293, R298, R299, R300, R301, R302, R303, R304) -/
def Obligations.PowerStageCommandsComplete : Prop :=
  ∀ (m : Master) (k : Fin 64) (j : Fin 4) (g : Fin 4) (w : Word) (n : Fin 16) (on : Bool) (s : State), Live [.pwm] s →
    let b := s.begin
    let i := k.val
    let x := b.pair i
    let dt := fun (toH : Bool) (f : Fld) => deadSpan f (deadWord b i toH)
    let adt := fun (toH : Bool) => PWM_PR_DTHL_ADT.on (deadWord b i toH)
    let onEnd := x.ps + b.fld PWM_PR_ON_VALUE [i] * pwmStep
    let fires := x.ps + ((if b.isSet PWM_PR_CMP_REF [i, j.val] then b.fld PWM_PR_ON_VALUE [i] else 0) +
      b.fld PWM_PR_CMP_VALUE [i, j.val]) * pwmStep
    let groups := bits w.toNat 15 0
    let clear := BitVec.ofNat 32 (256 + (b.reg PWM_PR_FCCTL [i]).toNat % 8)
    (∀ t, nextPS b i = some t → exec (.pwmReload k) s = .next (s.finish (startPeriod i t (advanceTo t b)))) ∧
    (let u := setSource (b.fld PWM_PR_CFG_RSTSRC [i]) true b
      ∀ t, hasPeriods b i = true → pairMode b i = 1 ∨ pairMode b i = 2 → nextPS u i = some t →
      exec (.pwmRestart k) s = .next (s.finish (startPeriod i t (advanceTo t u)))) ∧
    (hasPeriods b i = true → x.onEnded = false → (b.fld PWM_PR_ON_VALUE [i] = 0 → pairMode b i = 2) →
      exec (.pwmOnEnd k) s = .next (s.finish (onTimeEnds i onEnd (advanceTo onEnd b)))) ∧
    (∀ toH off, x.dead = some (toH, off) → adt toH = false →
      let t := off + dt toH PWM_PR_DTHL_DTMIN
      exec (.deadTimeEnd k) s = .next (s.finish (turnOn i toH t (advanceTo t b)))) ∧
    (∀ toH off, x.dead = some (toH, off) → adt toH = true →
      let t := off + dt toH PWM_PR_DTHL_DTMAX
      exec (.deadTimeEnd k) s = .next (s.finish (turnOn i toH t ((advanceTo t b).incrSat PWM_PR_CNT_ADTMISS [i])))) ∧
    (∀ toH off, x.dead = some (toH, off) → adt toH = true → off ≤ b.now → b.now < off + dt toH PWM_PR_DTHL_DTMAX →
      let t := min (off + dt toH PWM_PR_DTHL_DTMAX) (max (off + dt toH PWM_PR_DTHL_DTMIN)
        (b.now / pwmStep * pwmStep + dt toH PWM_PR_DTHL_MARGIN))
      exec (.swsCrossing k toH) s = .next (s.finish (turnOn i toH t (advanceTo t b)))) ∧
    (∀ e, hasPeriods b i = true → b.isSet PWM_PR_CMP_EN [i, j.val] = true → x.fired.contains j.val = false →
      nextPS b i = some e → fires < e →
      exec (.compareFire k j) s = .next (s.finish (sarSource 2 i j.val fires
        ((advanceTo fires b).modPair i (fun x => { x with fired := j.val :: x.fired }))))) ∧
    exec (.tripAssert n on) s = .next (s.finish (setTrip n.val on b)) ∧
    (∀ e, blankEnd b i = some e → exec (.blankingWindowClose k) s = .next (s.finish (tripCheck i e (advanceTo e b)))) ∧
    exec (.fastCut k on) s = .next (s.finish (if i < 16 then setTrip i (on != bit (b.fld PWM_TRIPPOL_INV) i) b
      else setSource i on b)) ∧
    (Granted m PWM_COMMIT [] (BitVec.ofNat 32 groups) b →
      TakesEffect (.pwmCommit m (BitVec.ofNat 16 groups)) m PWM_COMMIT [] (BitVec.ofNat 32 groups) s ((List.range 16).foldl
        (fun u h => if bit groups h then commitGroup h u.now u else u) b)) ∧
    (Granted m PWM_PR_PER [i] w b → perOk (PWM_PR_PER_VALUE.of w) = true →
      TakesEffect (.shadowWrite m k 0 w) m PWM_PR_PER [i] w s (shadowPer i (PWM_PR_PER_VALUE.of w) b)) ∧
    (Granted m PWM_PR_ON [i] w b →
      TakesEffect (.shadowWrite m k 1 w) m PWM_PR_ON [i] w s (shadowOn i (PWM_PR_ON_VALUE.of w) b)) ∧
    (Granted m PWM_PR_CMP [i, j.val] w b →
      TakesEffect (.shadowWrite m k ⟨j.val + 2, by omega⟩ w) m PWM_PR_CMP [i, j.val] w s
        (b.modPair i (fun x => { x with shCmp := modNth x.shCmp j.val (fun l => pushShadow l b.now w.toNat) }))) ∧
    (Granted m PWM_LVL [g.val] w b →
      TakesEffect (.staticLevelWrite m g w) m PWM_LVL [g.val] w s (setLevels g.val 0xFFFFFFFF w.toNat b)) ∧
    (Granted m PWM_PR_STAT [i] 0x10000 b →
      TakesEffect (.latchoffClear m k) m PWM_PR_STAT [i] 0x10000 s (pairRefresh i (b.store PWM_PR_STAT [i] 0x10000))) ∧
    (Granted m PWM_PR_FCCTL [i] clear b → PWM_PR_FCCTL_ACT.of clear < 2 →
      let u := b.store PWM_PR_FCCTL [i] clear
      (u.pair i).cut = true → u.pwm.src &&& cutMask u i = 0 →
      TakesEffect (.fastCutClear m k) m PWM_PR_FCCTL [i] clear s (idleCutEnd i (u.modPair i (fun x => { x with clr := true }))))

/-- A pushed move, STOP, FCLR, SETPOS of a standing axis without moves, the action on a fault at the next tick, a drive
period, a stall, the hold current 100 ms after standstill and a step have their effect. (R311, R312, R316, R318, R319,
R320, R321, R322, R323, R327) -/
def Obligations.MotionCommandsComplete : Prop :=
  ∀ (m : Master) (k : Fin 64) (j : Fin 12) (kind : Fin 4) (prof : Fin 16) (tag : BitVec 16) (ia ib : Int) (s : State),
    Live [.mot] s →
    let b := s.begin
    let i := k.val
    let x := b.axis i
    let word := BitVec.ofNat 32 (2 ^ 31 + prof.val * 2 ^ 24 + kind.val * 2 ^ 16 + tag.toNat)
    let pushed := b.store MOT_AX_MVC [i] word
    let next := tickAt (b.tick + 1)
    let per : Rat := (b.fld PWM_PR_PER_VALUE [4 * j.val] : Rat) * 15625 / 100000000000000
    let at_ := sx 32 (b.reg MOT_AX_SETPOS [i]).toNat
    (Granted m MOT_AX_MVC [i] word b → b.effMode ≠ .stop → b.effMode ≠ .safe →
      TakesEffect (.movePush m k kind prof tag) m MOT_AX_MVC [i] word s (pushMove i
        { kind := kind.val, p0 := sx 32 (pushed.reg MOT_AX_MVP [i]).toNat, prof := prof.val, tag := tag.toNat,
          act := none, atick := pushed.tick, target := none, told := false } pushed)) ∧
    (Granted m MOT_AX_CMD [i] 1 b → TakesEffect (.axisStop m k) m MOT_AX_CMD [i] 1 s (stopRequest i codeAborted false b)) ∧
    (Granted m MOT_AX_CMD [i] 2 b → TakesEffect (.fclr m k) m MOT_AX_CMD [i] 2 s (faultClear i b)) ∧
    (Granted m MOT_AX_CMD [i] 4 b → standing x = true → x.cur = none → x.queue = [] →
      TakesEffect (.setpos m k) m MOT_AX_CMD [i] 4 s (axisStatus i ((b.lower MOT_AX_STAT_UNREF [i]).modAxis i (fun x =>
        { x with pos := at_ * 2 ^ 32, prev := at_ * 2 ^ 32, steps := at_, plan := {} })))) ∧
    (x.faults ≠ [] →
      exec (.axisFault k) s = .next (s.finish (axisStatus i (actFaults i (b.tick + 1) (advanceTo next b))))) ∧
    (axisKind b j.val = kindInt → axisOn b j.val = true → per ≠ 0 →
      exec (.drivePeriod j ia ib) s = .next (s.finish (drivePeriod j.val per ia ib b))) ∧
    (stallDue b j.val = true → exec (.stallDetect j) s = .next (s.finish (stall j.val b))) ∧
    (axisKind b j.val = kindInt → axisOn b j.val = true → standing (b.axis j.val) = true →
      exec (.holdCurrent j) s = .next (s.finish
        (holdCurrent j.val (advanceTo ((b.axis j.val).since + 100000000 * nsF) b)))) ∧
    (axisKind b i = kindStep → axisOn b i = true → axisSto b i = false →
      ratRound (counts x.pos) ≠ x.steps → x.pos ≠ x.prev →
      exec (.stepIssue k) s = .next (s.finish (issueStep i b)))

/-- TXREQ, ABORT, RECOVER, the change to error passive, bus-off and its recovery, a received frame (good, in error, or a
protocol exception), the end of a transmission attempt and the two timeouts have their effect. (R329, R332, R333,
R335, R336, R338, R339) -/
def Obligations.CanCommandsComplete : Prop :=
  ∀ (m : Master) (c : Fin 8) (x : Fin 64) (ide rtr fdf brs esi : Bool) (id : BitVec 29) (dlc : BitVec 4) (data : List Byte)
    (res : CanTxEnd) (s : State), Live [.can] s →
    let b := s.begin
    let n := c.val
    let mb := [n, x.val]
    let tec := b.fld CAN_ERR_TEC [n]
    let rec_ := b.fld CAN_ERR_REC [n]
    let word := BitVec.ofNat 32 ((b.reg CAN_CTL [n]).toNat ||| 64)
    let running := b.isSet CAN_CTL_EN [n] = true ∧ b.isSet CAN_CTL_INIT [n] = false
    let received := fun (r : CanEnd) => exec (.canFrameRx c r ide rtr fdf brs esi id dlc data) s
    (Granted m CAN_MB_STAT mb 1 b → b.isSet CAN_MB_STAT_TXPEND mb = false → b.fld CAN_MB_CFG_ROLE mb = 2 →
      TakesEffect (.txreq m c x) m CAN_MB_STAT mb 1 s (canRequest n x.val b)) ∧
    (Granted m CAN_MB_STAT mb 2 b → b.isSet CAN_MB_STAT_TXPEND mb = true →
      TakesEffect (.canAbort m c x) m CAN_MB_STAT mb 2 s (canStop n x.val codeAborted b)) ∧
    (Granted m CAN_CTL [n] word b → CAN_CTL_OPMODE.of word ≠ 3 → CAN_CTL_RECOVER.on word = true → b.fld CAN_ERR_STATE [n] = 2 →
      running → TakesEffect (.recover m c) m CAN_CTL [n] word s ((b.store CAN_CTL [n] word).setFld CAN_ERR_STATE 3 [n])) ∧
    (canOn b n = true → canRestricted b n = false → b.fld CAN_ERR_STATE [n] = 0 →
      exec (.errorPassive c true) s = .next (s.finish (canCounters n (max 128 tec) rec_ b)) ∧
      exec (.errorPassive c false) s = .next (s.finish (canCounters n tec (max 128 rec_) b))) ∧
    (canOn b n = true → canRestricted b n = false → exec (.busOff c) s = .next (s.finish (canCounters n 256 rec_ b))) ∧
    (b.powered .can = true → canMode b = true → b.fld CAN_ERR_STATE [n] = 3 →
      exec (.canRecoveryDone c) s = .next (s.finish ((b.setReg CAN_ERR 0 [n]).lower CAN_FLAGS_BUSOFF [n]))) ∧
    (canOn b n = true → received .exception = .next (s.finish (b.raise CAN_FLAGS_PXE [n]))) ∧
    (canOn b n = true → canRestricted b n = false → received .error = .next (s.finish (canCounters n tec (rec_ + 1) b))) ∧
    (canOn b n = true → canRestricted b n = true → received .error = .next (s.finish b)) ∧
    (canOn b n = true → received .good = .next (s.finish (canFrameTaken n ide rtr fdf brs esi id dlc data b))) ∧
    (canSending b n x.val = true →
      exec (.canTxComplete c x res) s = .next (s.finish (canAttemptEnds n x.val res b))) ∧
    (∀ d, ((b.canCtl n).pend.find? (fun t => t.buf = x.val)).bind (canDeadline b n) = some d →
      exec (.canTxTimeout c x) s = .next (s.finish (canStop n x.val codeTimeout (advanceTo d b)))) ∧
    (∀ d, canRxDeadline b n x.val = some d →
      exec (.canRxTimeout c x) s = .next (s.finish (canRxTimeout n x.val (tickNo d + 1) (advanceTo (tickAt (tickNo d + 1)) b))))

/-- The lockstep mismatch, power-up after no fault of its supply, the end of the start-up tests, a configuration
write, input samples, test pulses, a connection timeout, telegrams sent and received, a switch test, the island tick,
the tick window, the silence and the mirror read have their effect. (R430, R433, R434, R436, R443, R446, R451, R455,
R456, R457, R462, R463) -/
def Obligations.IslandCommandsComplete : Prop :=
  ∀ (c : Fin 8) (o : Fin 16) (a b' : BitVec 32) (net pass hsc hso lsc lso : Bool) (pa pb ca cb qa qb : BitVec 32)
    (sa sb rh rl ticks : BitVec 16) (bs : List Byte) (s : State), Live [.safe, .mot, .kpr] s →
    let b := s.begin
    let i := b.isl
    let x := b.conn c.val
    let y := b.sout o.val
    let num := fun (k n : Nat) => ofLE ((bs.drop k).take n)
    let on := i.on = true
    let works := islEvaluates b = true
    let silence := ceilDiv (islSilenceFrom b + 1250000 * nsF) (5000 * nsF)
    let then_ := advanceTo (tickAt silence) b
    exec .lockstepMismatch s = .next (s.finish (islHard 1 b)) ∧
    (i.on = false → i.cause ≠ 8 → exec .islandPowerUp s = .next (s.finish (islPowerUp b))) ∧
    (on → i.st = islStart → exec (.islandStartDone pass) s = .next (s.finish (islStarted pass b))) ∧
    (on → i.st = islComm → exec .configWriteDone s = .next (s.finish (mirror (pulsesHigh (connsBegin (islReadCfg b)))))) ∧
    (works → exec (.safeInputSample a b') s = .next (s.finish (sampleInputs a b' b))) ∧
    (works → (islEn b 2 o.val).isSome = true →
      exec (.testPulse o pa pb ca cb qa qb) s = .next (s.finish (testPulse o.val pa pb ca cb qa qb b))) ∧
    (∀ r, islEn b 6 c.val = some r → works → x.rxseq.isSome = true → x.st ≠ 4 →
      exec (.connectionTimeout c) s = .next (s.finish
        (mirror (connFault c.val 1 (b.modIsl (fun y => { y with tick := max y.tick (x.acc + recN b r 6 2) })))))) ∧
    (∀ r, islEn b 6 c.val = some r → works → x.sent.any (fun t => i.tick < t + recN b r 4 2) = false →
      exec (.telegramSend c) s = .next (s.finish (telegramSent c.val r b))) ∧
    (∀ k r, connOf b (num 0 2) = some k → islEn b 6 k = some r → works →
      bs.length = 36 → num 2 1 = 1 → ((num 3 1 % 2 = 1) = (net = true)) →
      num 32 4 = crc32c (recN b r 8 4) (bs.take 32) →
      exec (.telegram net bs) s = .next (s.finish (telegramTaken k r net bs num b))) ∧
    (∀ r, islEn b 3 o.val = some r → works → recN b r 8 2 ≠ 0 → y.on = false → bit i.rb o.val = false →
      bit i.rb (16 + o.val) = false →
      exec (.switchTest o hsc hso lsc lso) s = .next (s.finish
        (switchTested o.val (recN b r 8 2) (recN b r 6 2) (hsc && hso && lsc && lso) b))) ∧
    (on → exec (.islandTick sa sb rh rl) s = .next (s.finish (islandTick sa sb rh rl b))) ∧
    (on → i.held = false → i.st ≠ 0 → exec (.tickWindow ticks) s = .next (s.finish (tickWindowEnds ticks.toNat b))) ∧
    (islApplies b = true → b.islv.silent = false →
      exec .islandSilence s = .next (s.finish (islSilence (max silence then_.tick) then_))) ∧
    exec .safeMirrorRead s = .next (s.finish (mirrorRead b))

/-- A HELLO that matches and one that does not, a lane lost, RESYNC, SWAP and ABORTRS, the messages CLOSE, ITEM, FWD,
HBEAT, DIGEST and STATE, a missed heartbeat on either side, takeover, the swap handover, the cut and the timeout of a
resynchronisation, the anchor takeback and a leader stall have their effect; a CLOSE starts a resynchronisation that
is due. (R466, R467, R468, R470, R472, R473, R476, R478, R484, R491, R493, R495) -/
def Obligations.TwinCommandsComplete : Prop :=
  ∀ (m : Master) (lv : BitVec 4) (grp : Fin 4) (pair : BitVec 12) (h : Hello) (d0 d1 : BitVec 10) (lane : Fin 2)
    (n k seq cut stamp : Nat) (crc : Word) (outs : List Outcome) (mode : Fin 12) (epoch mib : BitVec 16) (swap inStep : Bool)
    (mirrors : List Mirror) (src : Fin 378) (kind : ItemKind) (phase : Fin 5) (rounds : BitVec 8) (parts : List StatePart)
    (dig : List Word) (s : State), Live [.twin] s →
    let b := s.begin
    let t := b.twin
    let enabled := b.isSet TWIN_CTL_EN = true
    let role := b.fld TWIN_STAT_ROLE
    let opens := fun (u : State) => if u.twin.openTick.isNone then runNextTick u else u
    let seen := b.setFld TWIN_STAT_PEEROWN lv.toNat
    let filled := ((b.setFld TWIN_RS_PHASE phase.val).setFld TWIN_RS_SENT mib.toNat).setFld TWIN_RS_ROUNDS rounds.toNat
    (enabled → b.domOn 9 = true → pair.toNat ≠ b.fld TWIN_CTL_PAIRID ∨ h.dev ≠ b.fld TWIN_CTL_PEERDEV →
      exec (.twinHello pair h d0 d1) s = .next (s.finish (twinEvent 5 1 1 0 (b.setFld TWIN_RS_CAUSE 1)))) ∧
    (enabled → b.domOn 9 = true → pair.toNat = b.fld TWIN_CTL_PAIRID → h.dev = b.fld TWIN_CTL_PEERDEV →
      exec (.twinHello pair h d0 d1) s = .next (s.finish (twinLinked h d0.toNat d1.toNat b))) ∧
    (seen.leader = true ∨ inStepFollower seen = true → exec (.ownsnsFall lv) s = .next (s.finish ((List.range 4).foldl
        (fun v j => if bit (b.fld TWIN_STAT_PEEROWN) j && !lv.getLsbD j then claim j v else v) seen))) ∧
    (b.isSet TWIN_LINK_UP0 = true → b.isSet TWIN_LINK_UP1 = true → exec (.laneDown lane) s = .next (s.finish
      (twinEvent 4 2 lane.val 0 (b.lower (if lane.val = 0 then TWIN_LINK_UP0 else TWIN_LINK_UP1))))) ∧
    (Granted m TWIN_CMD [] 1 b → enabled → b.isSet TWIN_STAT_INSTEP = false → b.leader = false →
      TakesEffect (.twinResync m) m TWIN_CMD [] 1 s (resyncStart b)) ∧
    (Granted m TWIN_CMD [] 2 b → b.leader = true → b.isSet TWIN_STAT_INSTEP = true → t.matched = true →
      TakesEffect (.twinSwap m) m TWIN_CMD [] 2 s (b.modTwin (fun t => { t with swap := some b.tick }))) ∧
    (Granted m TWIN_CMD [] 4 b → b.fld TWIN_RS_PHASE ≠ 0 → b.fld TWIN_RS_PHASE ≠ 5 →
      TakesEffect (.abortrs m) m TWIN_CMD [] 4 s (resyncEnd 6 b)) ∧
    (∀ f, t.rsFrom = some f → (advanceTo (f + 2 * secF) b).fld TWIN_STAT_ROLE = 3 →
      exec .resyncTimeout s = .next (s.finish (resyncStart (resyncEnd 4 (advanceTo (f + 2 * secF) b))))) ∧
    (b.leader = true → exec (.state phase mib rounds cut parts) s = .next (s.finish (stateServe phase.val cut b))) ∧
    (role = 3 → 2 ≤ b.fld TWIN_RS_PHASE → 2 ≤ phase.val →
      exec (.state phase mib rounds cut parts) s = .next (s.finish (parts.foldl fillPart
        (if phase.val = 4 then filled.modTwin (fun t => { t with cut := some cut }) else filled)))) ∧
    (∀ j, b.adm.lastTick = some j → j % 200 = 0 → enabled → exec .digestForm s = .next (s.finish (digestFormed j b))) ∧
    (enabled → dig.length = 8 → exec (.digest n dig) s =
      .next (s.finish (digestCompare (b.modTwin (fun t => { t with peerDig := some (n, dig) }))))) ∧
    (b.leader = true → exec (.hbeat n inStep) s =
      .next (s.finish (hbeatTaken n inStep b))) ∧
    (b.leader = true → exec .leaderStall s = .next (s.finish (leaderStalls b))) ∧
    (b.isSet TWIN_GRP_ANCHOR [grp.val] = true → b.isSet TWIN_STAT_INSTEP = true → b.isSet TWIN_GRP_USETHR [grp.val] = false →
      let u := advanceTo (tickAt (ceilDiv (ceilDiv b.now (tickAt 1)) 200 * 200)) b
      (u.follower = true → homeOf u grp.val = true → exec (.anchorTakeback grp) s = .next (s.finish (claim grp.val u))) ∧
      (u.follower = false → u.leader = true → homeOf u grp.val = false →
        exec (.anchorTakeback grp) s = .next (s.finish (give grp.val (advanceTo (u.now + 20 * nsF) u))))) ∧
    (enabled → role = 3 ∨ role = 4 → t.rsFrom = none → b.fld TWIN_RS_CAUSE = 0 →
      exec (.closeMsg n k seq crc outs mode epoch swap mirrors) s = .next (s.finish (resyncStart b))) ∧
    (enabled → b.follower = true → exec (.closeMsg n k seq crc outs mode epoch swap mirrors) s =
      .next (s.finish (closeTaken n k seq crc.toNat outs mode.val epoch.toNat swap mirrors b))) ∧
    (enabled → b.follower = true ∨ role = 3 → exec (.item src stamp seq kind) s = .next (s.finish (b.modTwin (fun t =>
      { t with staged := t.staged ++ [{ src := src.val, stamp := stamp, arr := 0, num := seq, kind := kind }] })))) ∧
    (enabled → b.leader = true → exec (.fwd src stamp (some kind) outs) s =
      .next (s.finish ((b.pushItem src.val stamp kind).modTwin (fun t =>
        { t with outs := t.outs ++ outs.filter (fun o => !t.outs.contains o) })))) ∧
    (∀ j, enabled → b.follower = true → (opens b).twin.openTick = some j →
      exec .heartbeatMiss s = .next (s.finish (followerMiss j (opens b)))) ∧
    (∀ j, enabled → b.follower = false → b.leader = true → b.adm.lastTick = some j →
      exec .heartbeatMiss s = .next (s.finish (leaderMiss j b))) ∧
    (b.follower = true → t.takeover = true → exec .takeover s = .next (s.finish (runNextTick b))) ∧
    (∀ j, t.swap = some j → nextTick b = j + 2 → t.openTick = none → b.isSet TWIN_STAT_INSTEP = true →
      exec .swapHandover s = .next (s.finish (baseTick (j + 2) b))) ∧
    (∀ j, t.cut = some j → role = 3 → b.fld TWIN_RS_PHASE = 4 → b.tb.started = true →
      exec .resyncCut s = .next (s.finish (resyncCutAt j b)))

/-- A mode request is refused MODE in Seed, judged in Keeper and Resync and filed with the Keeper elsewhere; a mode
transition, a reboot, a Safe trigger, Brace
entered and left, the base tick, a token taken, the conservation check at a tick divisible by 200 and an uncorrectable
memory error have their effect; one read by a running core is a precise exception of cause 11 there; the island's own memory
stops the island. (R25, R39, R46,
R48, R231, R394, R430, R499, R501, R502, R504, R506) -/
def Obligations.SystemCommandsComplete : Prop :=
  ∀ (q : Fin 25) (target : Fin 17) (role : Role) (id : BitVec 32) (cause : Fin 8) (mem : Fin 7) (a : Word) (blk : Block) (c : Fin 18)
    (s : State), Live [.sys, .time, .disp, .loop, .rcp, .rio, .sar, .rfa, .pwm, .mot, .can, .cpu, .twin, .pwr] s →
    let b := s.begin
    let logged := (b.emit 6 0x04 blk 0xFFFF 0xFF a.toNat (mem.val + 1)).raiseSafe 2
    let x := logged.core c.val
    let req := fun (t n : Nat) => ({ target := t, role := role, id := n, path := 69, seq := 0 } : ModeReq)
    let asked := fun (t n : Nat) => judgeRequest (req t n) b
    let filed := fun (t n : Nat) => kprSync (b.modKpr (fun k => { k with qM := k.qM ++ [req t n] }))
    let waits := b.mc.pendMode.any (fun r => r.target = 16) = true
    (b.mode = .seed → exec (.modeRequest target role id) s = .next (s.finish (modeReply 69 0 target.val codeMode b))) ∧
    (b.mode = .keeper ∨ b.mode = .resync →
      exec (.modeRequest target role id) s = .next (s.finish (asked target.val id.toNat))) ∧
    (b.mode ≠ .seed → b.mode ≠ .keeper → b.mode ≠ .resync → b.kpr.qM.length < 16 →
      exec (.modeRequest target role id) s = .next (s.finish (filed target.val id.toNat))) ∧
    exec .modeTransition s = .next (s.finish (nextTickMode b)) ∧
    (waits → exec (.reboot role) s = .next (s.finish (nextTickMode b))) ∧
    (¬ waits → b.mode = .keeper → b.mc.pendMode = none → requestCode b 16 role = codeDone →
      exec (.reboot role) s = .next (s.finish (nextTickMode (asked 16 0)))) ∧
    (¬ waits → b.mode ≠ .seed → b.mode ≠ .keeper → b.mode ≠ .resync → b.kpr.qM.length < 16 →
      exec (.reboot role) s = .next (s.finish (filed 16 0))) ∧
    exec (.safeTrigger cause) s = .next (s.finish (nextTickMode (b.raiseSafe (cause.val + 1)))) ∧
    (b.isSet PWR_STAT_WARN = true → b.mode ≠ .brace → exec .braceEntry s = .next (s.finish (nextTickMode b))) ∧
    (b.isSet PWR_STAT_WARN = false → b.mode = .brace → exec .braceExit s = .next (s.finish (nextTickMode b))) ∧
    (b.tb.started = true → exec .baseTick s = .next (s.finish (runNextTick b))) ∧
    (∀ e t, b.popToken q.val = some (.event e, t) → b.evq.length < 1024 →
      exec (.tokenTaken q) s = .next (s.finish (kprSync (enterClassE e t)))) ∧
    (∀ k i t, b.popToken q.val = some (.arm k i, t) → acqModeOk t = true → acqActionCode t k = 0 →
      exec (.tokenTaken q) s = .next (s.finish (rcpOutcome i 0 (acqArm k t)))) ∧
    (∀ n, b.adm.lastTick = some n → n % 200 = 0 → exec .conservationCheck s =
      .next (s.finish (((identities b).filter (fun i => !i.holds)).foldl conservationFault b))) ∧
    exec (.uncorrectableMemoryError mem a blk none) s = .next (s.finish logged) ∧
    (mem.val = 3 → exec (.uncorrectableMemoryError mem a blk (some 17)) s = .next (s.finish (islHard 2 b))) ∧
    (¬(c.val = 17 ∧ mem.val = 3) → mem.val < 4 → x.run = .running → x.halted = false →
      exec (.uncorrectableMemoryError mem a blk (some c)) s =
        .next (s.finish (preciseException c.val 11 (mem.val + 1) x.pc a.toNat logged)))

/-- Outside Dark, the return of a feed that resets, the loss of power, a measurement, a low feed and its return, an
overvoltage and its end, the supply warning, the end of the retention commit, the end of the warning, a domain fault,
a domain switch in a permitted mode, a low I/O bank and PEAKCLR have their effect. (R529, R530, R532, R534, R540,
R541, R542, R543) -/
def Obligations.PowerCommandsComplete : Prop :=
  ∀ (m : Master) (va ca vb cb : BitVec 16) (rails : List (BitVec 12 × BitVec 16)) (banks : List (BitVec 12)) (f : Fin 2)
    (mv en : BitVec 12) (d : Fin 12) (cause : BitVec 3) (k : Fin 8) (s : State), Live [.pwr, .nvm] s →
    let b := s.begin
    let i := f.val
    let x := b.pwrs
    let seen := (b.raise PWR_STAT_OVF).modPwr (fun x => { x with ov := putBits x.ov i i 1 })
    let over_ := b.modPwr (fun x => { x with ov := putBits x.ov i i 0 })
    let bank := (b.setFld PWR_VIOSTAT_LOW (b.fld PWR_VIOSTAT_LOW ||| 2 ^ k.val))
    let w := BitVec.ofNat 32 en.toNat
    let old := b.fld PWR_DOMEN_EN
    let new_ := (PWR_DOMEN_EN.of w &&& 0xF98) ||| 0x67
    let offs := switchable.filter (fun d => bit old d && !bit new_ d)
    let ons := switchable.filter (fun d => bit new_ d && !b.domOn d && !bit (b.fld PWR_DOMSTAT_FLT) d && 3 ≤ b.mode.code)
    let chg := switchable.filter (fun d => bit old d != bit new_ d) ++ ons.filter (fun d => bit old d)
    let peak := b.store PWR_STAT [] 0x40
    (exec (.feedReset mv) s = .next (s.finish (feedReset mv.toNat b))) ∧
    (exec .dark s = .next (s.finish (goDark b))) ∧
    (exec (.feedMeasure va ca vb cb rails banks) s = .next (s.finish (measure va.toNat ca.toNat vb.toNat cb.toNat
        (rails.map (fun (r : BitVec 12 × BitVec 16) => (r.1.toNat, r.2.toNat))) (banks.map (fun r => r.toNat)) b))) ∧
    (bit x.low i = false → exec (.feedLow f) s = .next (s.finish (powerEvent 4 0 i 1 0
      ((b.raise PWR_STAT_FEEDLOSSF).modPwr (fun x => { x with low := putBits x.low i i 1 }))))) ∧
    (exec (.feedPresent f) s = .next (s.finish (b.modPwr (fun x => { x with low := putBits x.low i i 0 })))) ∧
    (bit x.ov i = false → exec (.feedOvervoltage f) s = .next (s.finish (powerEvent 4 0 i 2 0
      (seen.setFld PWR_STAT_SRC (conducting seen seen.pwrs.volt.1 seen.pwrs.volt.2))))) ∧
    (exec (.feedOvervoltageEnd f) s = .next (s.finish
      (over_.setFld PWR_STAT_SRC (conducting over_ over_.pwrs.volt.1 over_.pwrs.volt.2)))) ∧
    (exec .supplyWarning s = .next (s.finish (supplyWarning b))) ∧
    (exec .retentionCommitDone s = .next (s.finish (commitDone b))) ∧
    (exec (.warningDeassert mv) s = .next (s.finish (warningEnd mv.toNat b))) ∧
    (exec (.domainFault d cause) s = .next (s.finish (domainFault d.val cause.toNat b))) ∧
    (Granted m PWR_DOMEN [] w b → (∀ d ∈ chg, switchMode b d = true) → (∀ d ∈ offs, switchBarred b d = false) →
      exec (.domainSwitch m en) s = .next (s.finish
        (ons.foldl (fun s d => switchOn d s) (offs.foldl (fun s d => domainOff d s) (b.setFld PWR_DOMEN_EN new_))).ack)) ∧
    ((bankLevel b k.val).isSome = true → exec (.vioLow k) s = .next (s.finish (powerEvent 5 2 (k.val + 1) 1 0
      ((bank.setFld PWR_VIOSTAT_OK (putBits (bank.fld PWR_VIOSTAT_OK) k.val k.val 0)).raise PWR_STAT_VIOF)))) ∧
    (Granted m PWR_STAT [] 0x40 b →
      exec (.peakclr m) s = .next (s.finish (peak.setFld PWR_PIN_PEAK (peak.fld PWR_PIN_PIN)).ack))

/-- A packet is dropped and counted, heard, or brings its request; OPEN is judged; the requests of an open session are
served; an idle session closes, a waiting request times out; a management packet is served; a link comes up and goes
down. (R544, R545, R546, R548, R549, R550, R551, R552, R553, R554, R556, R557) -/
def Obligations.HostCommandsComplete : Prop :=
  ∀ (p : Fin 2) (n : Fin 64) (any_ : Fin 68) (sess : BitVec 8) (cookie seq peer a sid v : Word) (len : BitVec 14) (order found good : Bool)
    (port fec : Fin 3) (role : Role) (proof : List Byte) (k stat : BitVec 16) (ws : List Word) (blk item target ring most strm sev : BitVec 8)
    (index : BitVec 16) (o : StrOpen) (g : Fin 4) (op : ReqOp) (fast : Bool) (s : State), Live [.host, .kpr] s →
    let b := s.begin
    let i := p.val
    let link := [i]
    let got := b.incr HOST_P_RXPKT_COUNT [i]
    let serve := fun (op : ReqOp) (f : Bool) => Host.Outcome.next (s.finish (serveReq n.val seq.toNat op order f b))
    let known := sess.toNat < 64 ∧ (got.sess sess.toNat).isOpen = true ∧ (got.sess sess.toNat).cookie = cookie.toNat
    let u := 64 + g.val
    let fits := rxBytes (nth got.host.ports i {}) + len.toNat ≤ 0x200000
    let can := b.isSet HOST_P_CFG_EN link = true ∧ b.domOn 9 = true ∧ b.clkPresent 3 = true ∧ b.mode ≠ .seed ∧ b.mode ≠ .keeper
    let fastLink := fast && !b.isSet HOST_P_CFG_SPEED link
    exec (.hostClose n seq order) s = serve .close true ∧
    exec (.ping n seq order) s = serve .ping true ∧
    (Live (.host :: touched a.toNat) s → exec (.read n seq order a k) s = serve (.read a.toNat k.toNat) true) ∧
    (Live (.host :: touched a.toNat) s → exec (.write n seq order a ws) s = serve (.write a.toNat ws) true) ∧
    exec (.mbxread n seq order blk item index) s = serve (.mbxread blk.toNat item.toNat index.toNat) true ∧
    exec (.sigread n seq order sid k) s = serve (.sigread sid.toNat k.toNat) true ∧
    exec (.sigwrite n seq order sid v stat) s = serve (.sigwrite sid.toNat v.toNat stat.toNat) true ∧
    exec (.hostMode n seq order target) s = serve (.mode target.toNat) true ∧
    exec (.ringread n seq order ring most) s = serve (.ringread ring.toNat most.toNat) true ∧
    exec (.stropen n seq order o found) s = serve (.stropen o) found ∧
    exec (.strclose n seq order strm) s = serve (.strclose strm.toNat) true ∧
    exec (.evsub n seq order sev) s = serve (.evsub sev.toNat) true ∧
    (portUp b i = true → good = false ∨ ¬ fits ∨ (¬ known ∧ sess ≠ 0xFF) →
      exec (.hostPacketRx p good sess cookie seq len none) s = .next (s.finish (rxDrop i got))) ∧
    (portUp b i = true → known → fits →
      exec (.hostPacketRx p true sess cookie seq len none) s = .next (s.finish (heard sess.toNat got))) ∧
    (portUp b i = true → known → fits → exec (.hostPacketRx p true sess cookie seq len (some (op, order))) s =
      .next (s.finish (requestArrives i sess.toNat seq.toNat len.toNat op order got))) ∧
    (portOpen b port.val = true → exec (.openReq port peer seq role proof) s =
      .next (s.finish (openSession port.val peer.toNat seq.toNat role proof b))) ∧
    ((b.sess any_.val).isOpen = true → exec (.sessionIdleTimeout any_) s = .next (s.finish (sessClose any_.val false
      (advanceTo ((b.sess any_.val).lastRx + b.fld HOST_CTL_IDLE * secF) b)))) ∧
    (∀ r, (b.sess any_.val).reqs.find? (fun r => r.seq = seq.toNat) = some r → r.held = true →
      exec (.requestTimeout any_ seq) s = .next (s.finish (requestExpires any_.val r b))) ∧
    (portOpen b 2 = true → (b.sess u).isOpen = true → (b.sess u).cookie = cookie.toNat → b.kpr.qQ.length < 64 →
      exec (.mgmtPacketRx g cookie seq order op) s = .next (s.finish (serveReq u seq.toNat op order true b))) ∧
    (can → exec (.hostLinkChange p true fast fec) s = .next (s.finish
      (((b.raise HOST_P_STAT_LINK link).setFld HOST_P_STAT_SPEED (if fastLink then 2 else 1) link).setFld HOST_P_STAT_FEC
        (linkFec fastLink fec.val) link))) ∧
    exec (.hostLinkChange p false fast fec) s = .next (s.finish
      (((b.lower HOST_P_STAT_LINK link).setFld HOST_P_STAT_SPEED 0 link).setFld HOST_P_STAT_FEC 0 link))

/-- A stream row, a packet sent, an acknowledgement, a retransmission, an unresolved destination and a forced close act on
the stream; an event occurrence, the end of a fumarole window and of an idle key, the write of a record and the repeat
write-back act on the event log. (R545, R558, R559, R560, R563, R580, R581, R583, R584, R586) -/
def Obligations.RecorderAndLogComplete : Prop :=
  ∀ (m : Master) (k : Fin 64) (nrow : BitVec 12) (cum : Word) (naks : List Word) (s : State),
    Live [.recs, .host, .evl, .kpr, .nvm] s →
    let b := s.begin
    let n := k.val
    let x := b.stream n
    let idle := (b.evl.keys.filter (fun e => e.win.isNone)).foldl (fun (z : Option Nat) e => some (min (z.getD e.seen) e.seen)) none
    let pulled := pullEvent b
    (∀ t, b.adm.lastTick = some t → b.domOn 11 = true → exec (.streamRow k) s = .next (s.finish (takeRow t n b))) ∧
    exec (.streamPacketSend k nrow) s = .next (s.finish (sendStream n nrow.toNat b)) ∧
    (streamOpen b n = true → streamOpt b n 2 = true → naks.length ≤ 16 →
      exec (.streamAck k cum naks) s = .next (s.finish (streamAcked n cum.toNat naks b))) ∧
    (∀ q, streamOpen b n = true → oldestSent b n = some q → exec (.streamRetransmit k) s =
      .next (s.finish (resend n q (advanceTo (q.at_ + b.fld REC_CTL_RTO * 1000000 * nsF) b)))) ∧
    (streamOpen b n = true → x.found = false → x.late = false →
      exec (.destResolveTimeout k) s = .next (s.finish (destUnresolved n b))) ∧
    (Granted m REC_ST_CTL [n] 1 b → exec (.streamForceClose m k) s = .next (s.finish (streamEnd n 5 false b).ack)) ∧
    (∀ e es, pulled.evq = e :: es → exec .eventOccurrence s = .next (s.finish (kprSync (occurrence e { pulled with evq := es })))) ∧
    exec .fumaroleWindowClose s = .next (s.finish (fumClose b)) ∧
    (∀ t, idle = some t →
      let u := advanceTo (t + 10 * secF) b
      exec .fumaroleKeyExpiry s = .next (s.finish (fumSync (u.modEvl (fun x =>
        { x with keys := x.keys.filter (fun e => e.win.isSome || u.now < e.seen + 10 * secF) }))))) ∧
    exec .eventRecordWrite s = .next (s.finish (writeNext b)) ∧
    (b.evl.held ≠ [] → exec .repeatWriteback s = .next (s.finish (writeBack (advanceTo (b.evl.wbAt + 10000000 * nsF) b))))

/-- D0 power-good begins a Seed from Dark with the power-up values and after a FEED reset; a step of the Seed passes or
fails, the Seed ends at the next tick; nRESET is accepted, released, found stuck and armed again; a block soft reset
is refused to an operator, admitted as an item for a control block in Stop and Provision, and done at once for a data
or management block. (R504, R510, R511, R513, R515, R516, R517) -/
def Obligations.SeedCommandsComplete : Prop :=
  ∀ (low : Bool) (flt : BitVec 12) (cause : BitVec 3) (blk : Block) (role : Role) (s : State),
    specified [.sys, .pwr, .kpr] s →
    let b := s.begin
    let x := b.seed
    let pin := fun (s : State) => s.modSeed (fun x => { x with pinLow := low, pinAt := none })
    let blank := (powerReset true b).setFld SYS_MODE_CUR 1
    let stuck := match x.pinAt with
      | some t => advanceTo (t + stuckF) b
      | none => b
    let live := s.mode ≠ .dark
    let open_ := fun (l : List Mode) => b.effMode ∈ l
    let asks := role ≠ .operator
    (s.mode = .dark → exec (.d0PowerGood low) s = .next (s.finish (pin (beginSeed 1 true true true
      { blank with pwrs := { cut := b.pwrs.cut }, seed := { record := 1 } })))) ∧
    (live → b.pwrs.fed = true → exec (.d0PowerGood low) s = .next (s.finish (pin (beginSeed 1 true true true
      { b.lower PWR_STAT_WARN with pwrs := { b.pwrs with fed := false } })))) ∧
    (live → seeding b = true → (x.step = 5 → pinHolds b = false) →
      exec (.seedStepDone true flt cause) s = .next (s.finish (seedStep flt.toNat cause.toNat b)) ∧
      exec (.seedStepDone false flt cause) s = .next (s.finish (seedFail b))) ∧
    (live → seeding b = true → x.step = 9 → exec .seedEnd s = .next (s.finish
      (seedEnd (if b.tb.started then b.tick + 1 else b.tick) (advanceTo (tickAt (b.tick + 1)) b)))) ∧
    (live → x.pinLow = false → x.ignored = false → exec .nresetAccept s = .next (s.finish (pinAccept b))) ∧
    (live → x.pinLow = false → x.ignored = true →
      exec .nresetAccept s = .next (s.finish (b.modSeed (fun x => { x with pinLow := true, highAt := none })))) ∧
    (live → x.pinLow = true → exec .nresetRelease s = .next (s.finish (b.modSeed (fun x =>
      { x with pinLow := false, pinAt := none, highAt := if x.ignored then some b.now else none })))) ∧
    (live → pinHolds b = true → b.pwrs.fed = false → exec .nresetStuck s = .next (s.finish
      ((resetEvent 5 16 (stuck.raise SYS_RSTCAUSE_RESET_STUCK)).modSeed (fun x =>
        { x with ignored := true, pinAt := none, highAt := none })))) ∧
    (∀ t, live → x.highAt = some t → exec .nresetRearm s = .next (s.finish
      ((advanceTo (t + 100000000 * nsF) b).modSeed (fun x => { x with ignored := false, highAt := none })))) ∧
    (live → role = .operator → exec (.blockSoftReset blk role) s = .next (s.finish (modeReply 69 0 0 codeGuard b))) ∧
    (live → asks → blockPlane blk = .control → open_ [.stop, .provision] →
      exec (.blockSoftReset blk role) s = .next (s.finish (b.pushItem 376 b.now (.softReset blk.index 69)))) ∧
    (live → asks → blockPlane blk = .data ∨ blockPlane blk = .management → 3 ≤ b.mode.code →
      exec (.blockSoftReset blk role) s = .next (s.finish (modeReply 69 0 0 codeDone (blockReset blk b))))

/-- KICK restarts the watchdog time; temperature samples, averages and the ageing are taken; the first lockout ends; a
credential is stored in Provision; the oldest query times out with BUSY; the watchdog resets the Keeper and ends a
pending trial. (R571, R572, R573, R575, R576, R590, R592) -/
def Obligations.KeeperCommandsComplete : Prop :=
  ∀ (m : Master) (t : List (BitVec 16)) (ro em : List (BitVec 16)) (mw : List Nat) (role : Fin 4) (s : State),
    Live [.kpr, .sys] s →
    let b := s.begin
    let k := b.kpr
    let kick := b.reg KPR_WDT ||| 0x80000000
    let held := b.store KPR_WDT [] (kick &&& 0x7FFFFFFF)
    let cred := BitVec.ofNat 32 (2 ^ 31 + b.fld KPR_CRED_KEYSET * 16 + role.val)
    let first := k.locks.foldl (fun (z : Option Nat) l => some (min (z.getD l.2) l.2)) none
    let bitten := watchdog (advanceTo (k.kickAt + b.fld KPR_WDT_PER * 1000000 * nsF) b)
    (Granted .keeper KPR_WDT [] kick b → KPR_WDT_PER.of kick ≠ 0 → KPR_WDT_KICK.on kick = true →
      exec (.kick .keeper) s = .next (s.finish (held.modKpr (fun k => { k with kickAt := held.now })).ack)) ∧
    exec (.tempSample t) s = .next (s.finish ((t.take 24).zipIdx.foldl takeTemp b)) ∧
    (∀ j, junction b = some j →
      let u := b.modKpr (fun k => { k with tsum := k.tsum + j, tsecs := k.tsecs + 1 })
      let v := u.setFld KPR_TAVG_AVG (ofInt 16 (u.kpr.tsum / (u.kpr.tsecs : Int)))
      exec .tavgUpdate s = .next (s.finish (v.setFld KPR_TAVG_HOURS (min 0xFFFF (v.kpr.tsecs / (3600 * 16)))))) ∧
    exec (.ageingUpdate ro em mw) s = .next (s.finish (ageing ro em mw b)) ∧
    (∀ e, first = some e →
      let u := advanceTo e b
      exec .lockoutExpiry s = .next (s.finish (u.modKpr (fun k => { k with locks := k.locks.filter (fun l => u.now < l.2) })))) ∧
    (Granted m KPR_CRED [] cred b → b.mode = .provision → KPR_CRED_SET.on cred = true → KPR_CRED_ROLE.of cred < 2 →
      exec (.credSet m role) s = .next (s.finish
        (credStore (Role.ofCode (KPR_CRED_ROLE.of cred)) (b.store KPR_CRED [] (cred &&& 0x7FFFFFFF))).ack)) ∧
    (∀ seq a rest, k.qQ = (68, seq, a) :: rest → exec .queryTimeout s = .next (s.finish (State.say (kprSync
      (queryBusy ((advanceTo (a + 100000000 * nsF) b).modKpr (fun k => { k with qQ := rest })))) (.line [1, codeBusy])))) ∧
    (b.pwrs.fed = false → (trialPending b = false ∨ bitten.mode = .seed) → exec .keeperWatchdog s = .next (s.finish bitten)) ∧
    (b.pwrs.fed = false → trialPending b = true → bitten.mode ≠ .seed → exec .keeperWatchdog s = .next (s.finish
      (nextTickMode { bitten with seed := { bitten.seed with reboot := some 2 } })))

/-- While the Keeper runs a line is parsed and served; login, auth, logout, mode, peek, poke, log, sense, time, twin,
update status, update data, baud and help are each served by the monitor; a login idle for 600 s ends. (R590, R591,
R613, R614, R615) -/
def Obligations.MonitorCommandsComplete : Prop :=
  ∀ (cs : List Byte) (r : Role) (resp bs : List Byte) (target : Option (Fin 17)) (a v : Word) (words n sev ofs rate : Nat)
    (keel : Bool) (c : Option (Fin 13)) (s : State), Live [.kpr, .upd, .sys, .evl, .pwr, .time, .twin] s →
    Live (.kpr :: touched a.toNat) s → s.pwrs.fed = false →
    let serve := fun (x : MonCmd) => Host.Outcome.next (s.finish (monServe x s.begin))
    exec (.monitorLine cs) s = .next (s.finish (monLine (cs.map (fun c => c.toNat)) s.begin)) ∧
    exec (.monLogin r) s = serve (.login r) ∧
    exec (.auth resp) s = serve (.auth resp) ∧
    exec .logout s = serve .logout ∧
    exec (.monMode target) s = serve (.mode (target.map (fun t => t.val))) ∧
    exec (.peek a words) s = serve (.peek a.toNat words) ∧
    exec (.poke a v) s = serve (.poke a.toNat v.toNat) ∧
    exec (.log n sev keel) s = serve (.log n sev keel) ∧
    exec .sense s = serve .sense ∧
    exec .time s = serve .time ∧
    exec .twin s = serve .twin ∧
    exec .updateStatus s = serve .updStatus ∧
    exec (.updateData ofs bs) s = serve (.updData ofs bs) ∧
    exec (.baud rate) s = serve (.baud rate) ∧
    exec (.help c) s = serve (.help (c.map (fun t => t.val))) ∧
    (∀ l t, s.begin.kpr.login = some (l, t) →
      exec .monitorIdleTimeout s = .next (s.finish (monLogout (advanceTo (t + 600 * secF) s.begin))))

/-- The update commands act when the block is not BUSY and end as UPD_CMD_DONE says; SAVE and the erasures set BUSY in the
modes that permit them and take effect when they are done; a trial falls back when its deadline has passed or a grave
event came, and is confirmed when its checks are good. (R598, R599, R600, R601, R603, R604, R605, R608, R610, R612) -/
def Obligations.UpdateCommandsComplete : Prop :=
  ∀ (m : Master) (ok : Bool) (s : State), Live [.upd, .nvm] s →
    let b := s.begin
    let word := fun (op : Nat) => BitVec.ofNat 32 (2 ^ 31 + op)
    let asked := fun (op : Nat) => Granted m UPD_CMD [] (word op) b ∧ b.isSet UPD_STAT_BUSY = false
    let begun := fun (op : Nat) => s.finish (updCommand op (b.store UPD_CMD [] (word op &&& 0x7FFFFFFF))).ack
    let stored := fun (op : Nat) => Granted m NVM_CMD [] (word op) b ∧ b.isSet NVM_STAT_BUSY = false ∧
      nvmModeOk (b.store NVM_CMD [] (word op &&& 0x7FFFFFFF)) op = true
    let busy := fun (op : Nat) => s.finish (((b.store NVM_CMD [] (word op &&& 0x7FFFFFFF)).raise NVM_STAT_BUSY).lower
      NVM_STAT_DONE |>.modUpd (fun u => { u with nvmOp := some op })).ack
    let runs := trialPending b = true ∧ b.mode ≠ .seed
    (asked 1 → exec (.begin m) s = .next (begun 1)) ∧
    (asked 2 → exec (.chunk m) s = .next (begun 2)) ∧
    (asked 3 → exec (.finish m) s = .next (begun 3)) ∧
    (asked 4 → exec (.activate m) s = .next (begun 4)) ∧
    (asked 5 → exec (.confirm m) s = .next (begun 5)) ∧
    (asked 6 → exec (.updCancel m) s = .next (begun 6)) ∧
    exec (.updCmdDone ok) s = .next (s.finish (updDone ok b)) ∧
    (stored 1 → exec (.save m) s = .next (busy 1)) ∧
    (stored 2 → exec (.eraseLog m) s = .next (busy 2)) ∧
    (stored 3 → exec (.eraseRet m) s = .next (busy 3)) ∧
    (stored 4 → exec (.eraseDev m) s = .next (busy 4)) ∧
    (stored 5 → qualifies b m .g3 = true → exec (.eraseAge m) s = .next (busy 5)) ∧
    (∀ op, b.upd.nvmOp = some op →
      let u := nvmEffect op (b.modUpd (fun u => { u with nvmOp := none }))
      let v := if op = 1 then u else updateEvent 3 9 op 0 [] u
      exec .nvmCmdDone s = .next (s.finish (((v.lower NVM_STAT_BUSY).raise NVM_STAT_DONE).setFld NVM_STAT_CODE codeDone))) ∧
    (runs → b.upd.due.any (fun t => t ≤ b.now) = true → exec .trialHealthCheck s = .next (s.finish (fallBack 1 b))) ∧
    (runs → b.upd.due.any (fun t => t ≤ b.now) = false → b.upd.grave = true →
      exec .trialHealthCheck s = .next (s.finish (fallBack 2 b))) ∧
    (runs → b.upd.due.any (fun t => t ≤ b.now) = false → b.upd.grave = false → trialGood b = true →
      exec .trialHealthCheck s = .next (s.finish (trialConfirm b))) ∧
    (∀ t, runs → b.upd.grave = false → b.upd.due = some t →
      exec .trialFallback s = .next (s.finish (fallBack 1 (advanceTo t b))))
end

