-- ==== Sys2Proof/Laws/Run.lean ====
section
/-!
SUPPORT. What the frame of a meaning does, once: `run`, `runAlways`, `regCmd` and `begin`.
-/
namespace Sys2Proof.Machine

@[simp] theorem State.begin_out (s : State) : s.begin.out = [] := rfl
@[simp] theorem State.begin_mem (s : State) : s.begin.mem = s.mem := rfl
@[simp] theorem State.begin_regs (s : State) : s.begin.regs = s.regs := rfl
@[simp] theorem State.begin_pending (s : State) : s.begin.pending = s.pending := rfl
@[simp] theorem State.begin_tainted (s : State) : s.begin.tainted = s.tainted := rfl
@[simp] theorem State.begin_mode (s : State) : s.begin.mode = s.mode := rfl
@[simp] theorem State.finish_pending (s t : State) : (s.finish t).pending = s.pending := rfl
@[simp] theorem State.finish_mem (s t : State) : (s.finish t).mem = Memory.canon t.mem := rfl
@[simp] theorem State.finish_regs (s t : State) : (s.finish t).regs = t.regs := rfl
@[simp] theorem State.finish_out (s t : State) : (s.finish t).out = t.out := rfl
@[simp] theorem State.finish_cores (s t : State) : (s.finish t).cores = t.cores := rfl

/-- No block of the list shows unspecified behaviour, as `run` asks it. -/
theorem any_tainted_eq_false {bs : List Block} {s : State} (h : specified bs s) :
    bs.any (fun b => s.tainted.contains b.index) = false := by
  simpa [specified] using h

/-- Fewer blocks are live too. -/
theorem Live.mono {bs cs : List Block} {s : State} (h : Live bs s) (hc : ∀ b ∈ cs, b ∈ bs) : Live cs s :=
  ⟨fun b hb => h.1 b (hc b hb), h.2⟩

/-- A meaning of live blocks has its effect. -/
theorem run_next {bs : List Block} {s : State} (f : State → State) (h : Live bs s) :
    run bs f s = .next (s.finish (f s.begin)) := by
  simp only [run, any_tainted_eq_false h.1, Bool.false_eq_true, if_false, if_neg h.2]

/-- A meaning of the supplies has its effect in every mode. -/
theorem runAlways_next {bs : List Block} {s : State} (f : State → State) (h : specified bs s) :
    runAlways bs f s = .next (s.finish (f s.begin)) := by
  simp only [runAlways, any_tainted_eq_false h, Bool.false_eq_true, if_false]

/-- Everything that `run` can answer. -/
theorem run_cases (bs : List Block) (f : State → State) (s : State) :
    (¬ specified bs s ∧ run bs f s = .fault .unspecifiedBehaviour) ∨
    (specified bs s ∧ s.mode = .dark ∧ run bs f s = .next (s.finish s.begin)) ∨
    (Live bs s ∧ run bs f s = .next (s.finish (f s.begin))) := by
  by_cases h : specified bs s
  · by_cases d : s.mode = .dark
    · exact .inr (.inl ⟨h, d, by simp only [run, any_tainted_eq_false h, Bool.false_eq_true, if_false, if_pos d]⟩)
    · exact .inr (.inr ⟨⟨h, d⟩, run_next f ⟨h, d⟩⟩)
  · refine .inl ⟨h, ?_⟩
    have : bs.any (fun b => s.tainted.contains b.index) = true := by
      simpa [specified] using h
    simp only [run, this, if_true]

/-- Whatever a meaning answers, a next state is what `finish` leaves of some state. -/
theorem run_finish {bs : List Block} {f : State → State} {s t : State} (h : run bs f s = .next t) :
    ∃ u, t = s.finish u := by
  rcases run_cases bs f s with ⟨_, e⟩ | ⟨_, _, e⟩ | ⟨_, e⟩ <;> rw [e] at h <;> cases h <;> exact ⟨_, rfl⟩

/-- The same of a meaning of the supplies. -/
theorem runAlways_finish {bs : List Block} {f : State → State} {s t : State} (h : runAlways bs f s = .next t) :
    ∃ u, t = s.finish u := by
  unfold runAlways at h
  split at h
  · cases h
  · cases h; exact ⟨_, rfl⟩

/-- A granted write that its block accepts answers OKAY and has the block's effect. -/
theorem regWriteAt_granted {k : Block} {g : Guard} {free : Bool} {act : Act} {m : Master} {r : Reg} {ix : List Nat} {w : Word}
    {s t : State} (h : GrantedAt k g free m r ix w s) (ha : act m ix w s = .ok t) :
    regWriteAt k g free act m r ix w s = (.ok 0, t) := by
  obtain ⟨h1, h2, h3, h4, h5, h6⟩ := h
  simpa [regWriteAt, h1, h2, h3, h4, h6, ha] using h5

/-- The same of a register of the tables. -/
theorem regWrite_granted {act : Act} {m : Master} {r : Reg} {ix : List Nat} {w : Word} {s t : State}
    (h : Granted m r ix w s) (ha : act m ix w s = .ok t) : regWrite act m r ix w s = (.ok 0, t) :=
  regWriteAt_granted h ha

/-- What `writeCmd` leaves of a write that answers OKAY: the answer, or the item that waits. -/
theorem writeCmd_ok {m : Master} {b : Block} {a : Nat} {w : Word} {f : State → Resp × State} {s t : State} (h : f s = (.ok 0, t)) :
    writeCmd m b a w f s = match hostAdmits m b s with
      | some (n, r) => s.pushItem (312 + n) s.now (.hostWrite n 0 a r [w])
      | none => t.ack := by
  unfold writeCmd
  split <;> rename_i e <;> simp only [e, h]
  rfl

/-- A command that is one write of live blocks takes effect where the write answers OKAY. -/
theorem takesEffectAt {i : Instr} {bs : List Block} {m : Master} {k : Block} {a : Nat} {w : Word} {f : State → Resp × State}
    {s t : State} (hl : Live bs s) (he : exec i s = run bs (writeCmd m k a w f) s) (hf : f s.begin = (.ok 0, t)) :
    TakesEffectAt i m k a w f s t :=
  ⟨hf, by rw [he, run_next _ hl, writeCmd_ok hf] <;> rfl⟩

/-- The same of a register of the tables, which accepts a granted write. -/
theorem takesEffect {i : Instr} {bs : List Block} {m : Master} {r : Reg} {ix : List Nat} {w : Word} {s t : State}
    (hl : Live bs s) (he : exec i s = run bs (regCmd (actOf r) m r ix w) s) (h : Granted m r ix w s.begin)
    (ha : actOf r m ix w s.begin = .ok t) : TakesEffect i m r ix w s t :=
  takesEffectAt hl he (regWrite_granted h ha)

/-- A granted write that does not wait as an item (a block outside the control plane, or no host session) leaves its effect
and the answer. -/
theorem regCmd_granted {act : Act} {m : Master} {r : Reg} {ix : List Nat} {w : Word} {s t : State}
    (hn : hostAdmits m r.blk s = none) (h : Granted m r ix w s) (ha : act m ix w s = .ok t) : regCmd act m r ix w s = t.ack := by
  rw [regCmd, writeCmd_ok (regWrite_granted h ha), hn]

end Sys2Proof.Machine
end

