-- ==== Sys2Proof/Laws/Memory.lean ====
section
/-!
SUPPORT. Sparse lists by key, and the memory: a read after a write, and the canonical form that every operation keeps.
-/
namespace Sys2Proof.Machine

variable {β : Type}

@[simp] theorem getKey_putKey_self (l : List (Nat × β)) (k : Nat) (v : β) : getKey (putKey l k v) k = some v := by
  induction l with
  | nil => simp [putKey, getKey]
  | cons e t ih =>
    obtain ⟨k', v'⟩ := e
    simp only [putKey]
    split
    · simp [getKey]
    · split
      · simp [getKey]
      · next h => simp [getKey, h, ih]

theorem getKey_putKey_ne (l : List (Nat × β)) {k a : Nat} (v : β) (h : a ≠ k) : getKey (putKey l k v) a = getKey l a := by
  induction l with
  | nil => simp [putKey, getKey, h]
  | cons e t ih =>
    obtain ⟨k', v'⟩ := e
    simp only [putKey]
    split
    · simp [getKey, h]
    · split
      · next h' => subst h'; simp [getKey, h]
      · simp [getKey, ih]

@[simp] theorem getKey_delKey_self (l : List (Nat × β)) (k : Nat) : getKey (delKey l k) k = none := by
  induction l with
  | nil => rfl
  | cons e t ih =>
    obtain ⟨k', v'⟩ := e
    by_cases h : k' = k
    · simpa [delKey, h] using ih
    · have h' : k ≠ k' := fun e => h e.symm
      simpa [delKey, h, getKey, h'] using ih

theorem getKey_delKey_ne (l : List (Nat × β)) {k a : Nat} (h : a ≠ k) : getKey (delKey l k) a = getKey l a := by
  induction l with
  | nil => rfl
  | cons e t ih =>
    obtain ⟨k', v'⟩ := e
    by_cases hk : k' = k
    · subst hk; simpa [delKey, getKey, h] using ih
    · have e : delKey ((k', v') :: t) k = (k', v') :: delKey t k := by simp [delKey, hk]
      simp only [e, getKey, ih]

/-! ### The canonical form -/

/-- The canonical form as order and content: addresses strictly rising, and no byte that an unlisted address reads as. -/
def Memory.Canonical (m : List Host.Cell) : Prop :=
  (m.map Prod.fst).Pairwise (· < ·) ∧ ∀ c ∈ m, c.2 ≠ Config.emptyByte

theorem Memory.wf_iff (m : List Host.Cell) : Memory.wf m = true ↔ Memory.Canonical m := by
  induction m with
  | nil => simp [Memory.wf, Memory.Canonical]
  | cons c t ih =>
    cases t with
    | nil => simp [Memory.wf, Memory.Canonical]
    | cons d u =>
      simp only [Memory.wf, Bool.and_eq_true, decide_eq_true_eq, ih, Memory.Canonical, List.map_cons,
        List.pairwise_cons, List.mem_cons, forall_eq_or_imp] at *
      constructor
      · rintro ⟨⟨h1, h2⟩, ⟨h3, h4⟩, h5, h6⟩
        exact ⟨⟨⟨h2, fun a ha => lt_trans h2 (h3 a ha)⟩, h3, h4⟩, h1, h5, h6⟩
      · rintro ⟨⟨⟨h2, _⟩, h3, h4⟩, h1, h5, h6⟩
        exact ⟨⟨h1, h2⟩, ⟨h3, h4⟩, h5, h6⟩

theorem Memory.canonical_nil : Memory.Canonical [] := by simp [Memory.Canonical]

theorem Memory.Canonical.filter {m : List Host.Cell} (h : Memory.Canonical m) (p : Host.Cell → Bool) :
    Memory.Canonical (m.filter p) :=
  ⟨h.1.sublist ((List.filter_sublist).map _), fun c hc => h.2 c (List.mem_of_mem_filter hc)⟩

theorem putKey_keys (l : List (Nat × β)) (k : Nat) (v : β) :
    ∀ a ∈ (putKey l k v).map Prod.fst, a = k ∨ a ∈ l.map Prod.fst := by
  induction l with
  | nil => simp [putKey]
  | cons e t ih =>
    obtain ⟨k', v'⟩ := e
    simp only [putKey]
    split
    · simp
    · split
      · simp; tauto
      · intro a ha
        simp only [List.map_cons, List.mem_cons] at ha ⊢
        rcases ha with rfl | ha
        · exact .inr (.inl rfl)
        · rcases ih a ha with h | h
          · exact .inl h
          · exact .inr (.inr h)

theorem putKey_sorted {l : List (Nat × β)} (h : (l.map Prod.fst).Pairwise (· < ·)) (k : Nat) (v : β) :
    ((putKey l k v).map Prod.fst).Pairwise (· < ·) := by
  induction l with
  | nil => simp [putKey]
  | cons e t ih =>
    obtain ⟨k', v'⟩ := e
    simp only [List.map_cons, List.pairwise_cons] at h
    simp only [putKey]
    split
    · next hk =>
      simp only [List.map_cons, List.pairwise_cons, List.mem_cons]
      exact ⟨by rintro a (rfl | ha); exacts [hk, lt_trans hk (h.1 a ha)], h.1, h.2⟩
    · next hk =>
      split
      · next he => subst he; simpa using h
      · next he =>
        simp only [List.map_cons, List.pairwise_cons]
        refine ⟨fun a ha => ?_, ih h.2⟩
        rcases putKey_keys t k v a ha with rfl | ha'
        · omega
        · exact h.1 a ha'

theorem putKey_mem {l : List (Nat × β)} {k : Nat} {v : β} {c : Nat × β} (h : c ∈ putKey l k v) : c = (k, v) ∨ c ∈ l := by
  induction l with
  | nil => simpa [putKey] using h
  | cons e t ih =>
    obtain ⟨k', v'⟩ := e
    simp only [putKey] at h
    split at h
    · simpa using h
    · split at h
      · simp only [List.mem_cons] at h ⊢; tauto
      · simp only [List.mem_cons] at h ⊢
        rcases h with h | h
        · tauto
        · rcases ih h with h | h <;> tauto

/-- Writing one byte keeps the canonical form. -/
theorem Memory.Canonical.memSet {m : List Host.Cell} (h : Memory.Canonical m) (a : Nat) (b : Byte) :
    Memory.Canonical (memSet m a b) := by
  unfold Machine.memSet
  split
  · exact h.filter _
  · next hb =>
    refine ⟨putKey_sorted h.1 a b, fun c hc => ?_⟩
    rcases putKey_mem hc with rfl | hc
    · exact hb
    · exact h.2 c hc

/-- What `Memory.canon` leaves has the canonical form. -/
theorem Memory.canon_canonical (m : List Host.Cell) : Memory.Canonical (Memory.canon m) := by
  induction m with
  | nil => exact Memory.canonical_nil
  | cons c t ih => exact ih.memSet c.1 c.2

theorem Memory.canon_wf (m : List Host.Cell) : Memory.wf (Memory.canon m) = true :=
  (Memory.wf_iff _).2 (Memory.canon_canonical m)

/-- A memory in canonical form stays as it is. -/
theorem Memory.canon_of_canonical {m : List Host.Cell} (h : Memory.Canonical m) : Memory.canon m = m := by
  induction m with
  | nil => rfl
  | cons c t ih =>
    obtain ⟨hs, hb⟩ := h
    simp only [List.map_cons, List.pairwise_cons, List.forall_mem_cons] at hs hb
    rw [Memory.canon, ih ⟨hs.2, hb.2⟩, memSet, if_neg hb.1]
    cases t with
    | nil => rfl
    | cons d u => simp [putKey, hs.1 d.1 (by simp)]

theorem getKey_memSet (m : List Host.Cell) (k a : Nat) (b : Byte) :
    (getKey (memSet m k b) a).getD Config.emptyByte = if a = k then b else (getKey m a).getD Config.emptyByte := by
  unfold memSet
  split
  · next hb =>
    by_cases h : a = k
    · subst h; simp [hb]
    · simp [h, getKey_delKey_ne m h]
  · by_cases h : a = k
    · subst h; simp
    · simp [h, getKey_putKey_ne m b h]

/-- `Memory.canon` changes no byte. -/
theorem getKey_canon (m : List Host.Cell) (a : Nat) :
    (getKey (Memory.canon m) a).getD Config.emptyByte = (getKey m a).getD Config.emptyByte := by
  induction m with
  | nil => rfl
  | cons c t ih =>
    obtain ⟨k, b⟩ := c
    rw [Memory.canon, getKey_memSet, ih]
    by_cases h : a = k <;> simp [getKey, h]

/-! ### Bytes of the state -/

@[simp] theorem State.byte_setByte (s : State) (k a : Nat) (b : Byte) :
    (s.setByte k b).byte a = if a = k then b else s.byte a := getKey_memSet s.mem k a b

/-- A byte that follows, or precedes, what is written stays. -/
theorem State.byte_setBytes_of_not_mem (bs : List Byte) (s : State) (k a : Nat) (h : a < k ∨ k + bs.length ≤ a) :
    (s.setBytes k bs).byte a = s.byte a := by
  induction bs generalizing s k with
  | nil => rfl
  | cons b bs ih =>
    simp only [List.length_cons] at h
    rw [State.setBytes, ih _ _ (by omega), State.byte_setByte, if_neg (by omega)]

/-- A byte of what is written. -/
theorem State.byte_setBytes (bs : List Byte) (s : State) (k i : Nat) (h : i < bs.length) :
    (s.setBytes k bs).byte (k + i) = bs[i] := by
  induction bs generalizing s k i with
  | nil => simp at h
  | cons b bs ih =>
    rw [State.setBytes]
    cases i with
    | zero => rw [State.byte_setBytes_of_not_mem _ _ _ _ (by omega)]; simp
    | succ i =>
      have := ih (s.setByte k b) (k + 1) i (by simpa using h)
      rw [show k + (i + 1) = k + 1 + i by omega, this]; simp

theorem State.length_bytes (s : State) (a n : Nat) : (s.bytes a n).length = n := by
  induction n generalizing a with
  | zero => rfl
  | succ n ih => simp [State.bytes, ih]

/-- Reading back what was written. -/
theorem State.bytes_setBytes (bs : List Byte) (s : State) (k : Nat) : (s.setBytes k bs).bytes k bs.length = bs := by
  induction bs generalizing s k with
  | nil => rfl
  | cons b bs ih =>
    simp only [State.setBytes, List.length_cons, State.bytes, ih]
    rw [State.byte_setBytes_of_not_mem _ _ _ _ (by omega)]; simp

@[simp] theorem State.length_leBytes (n v : Nat) : (leBytes n v).length = n := by
  induction n generalizing v with
  | zero => rfl
  | succ n ih => simp [leBytes, ih]

theorem ofLE_leBytes (n v : Nat) : ofLE (leBytes n v) = v % 256 ^ n := by
  induction n generalizing v with
  | zero => simp [leBytes, ofLE, Nat.mod_one]
  | succ n ih =>
    rw [leBytes, ofLE, ih, BitVec.toNat_ofNat, pow_succ' 256 n, Nat.mod_mul (a := 256)]

/-- A number read after it was written (00 R13). -/
theorem State.peek_poke (s : State) (a n v : Nat) : (s.poke a n v).peek a n = v % 256 ^ n := by
  have h := State.bytes_setBytes (leBytes n v) s a
  rw [State.length_leBytes] at h
  rw [State.peek, State.poke, h, ofLE_leBytes]

theorem State.memOk_setByte {s : State} (h : MemOk s) (a : Nat) (b : Byte) : MemOk (s.setByte a b) :=
  (Memory.wf_iff _).2 (((Memory.wf_iff _).1 h).memSet a b)

theorem State.memOk_setBytes {s : State} (h : MemOk s) (a : Nat) (bs : List Byte) : MemOk (s.setBytes a bs) := by
  induction bs generalizing s a with
  | nil => exact h
  | cons b bs ih => exact ih (State.memOk_setByte h a b) (a + 1)

theorem State.memOk_poke {s : State} (h : MemOk s) (a n v : Nat) : MemOk (s.poke a n v) := State.memOk_setBytes h a _

theorem State.memOk_setSig {s : State} (h : MemOk s) (sid val stat n : Nat) : MemOk (s.setSig sid val stat n) :=
  State.memOk_poke h _ _ _

/-- What a command leaves has its memory in canonical form. -/
theorem State.memOk_finish (s t : State) : MemOk (s.finish t) := Memory.canon_wf t.mem

@[simp] theorem State.byte_finish (s t : State) (a : Nat) : (s.finish t).byte a = t.byte a := getKey_canon t.mem a

/-- Where the memory is canonical already, `finish` changes nothing but the queue. -/
theorem State.finish_of_memOk {s t : State} (h : MemOk t) : s.finish t = { t with pending := s.pending } := by
  rw [State.finish, Memory.canon_of_canonical ((Memory.wf_iff _).1 h)]

end Sys2Proof.Machine
end

