-- ==== Sys2Proof/Laws/Exec.lean ====
section
/-!
SUPPORT. What every command does, once: it answers a next state that `State.finish` made (the queue's rest, and memory in its
canonical form), or it stops on a block that is not specified.
-/
namespace Sys2Proof.Machine

/-- An outcome of `State.finish`, or a stop that a tainted block explains. -/
def Framed (s : State) (o : Host.Outcome State Fault Refusal) : Prop :=
  (o = .fault .unspecifiedBehaviour ∧ s.tainted ≠ []) ∨ ∃ t, o = .next (s.finish t)

theorem ne_nil_of_any_tainted {bs : List Block} {s : State} (h : bs.any (fun b => s.tainted.contains b.index) = true) :
    s.tainted ≠ [] := by
  intro e
  rw [List.any_eq_true] at h
  obtain ⟨b, _, h⟩ := h
  simp [e] at h

theorem run_framed (bs : List Block) (f : State → State) (s : State) : Framed s (run bs f s) := by
  unfold run
  split
  · next h => exact Or.inl ⟨rfl, ne_nil_of_any_tainted h⟩
  · split <;> exact Or.inr ⟨_, rfl⟩

theorem runAlways_framed (bs : List Block) (f : State → State) (s : State) : Framed s (runAlways bs f s) := by
  unfold runAlways
  split
  · next h => exact Or.inl ⟨rfl, ne_nil_of_any_tainted h⟩
  · exact Or.inr ⟨_, rfl⟩

theorem Framed.pending {s t : State} {o : Host.Outcome State Fault Refusal} (h : Framed s o) (e : o = .next t) :
    t.pending = s.pending := by
  rcases h with ⟨h, _⟩ | ⟨u, h⟩
  · rw [e] at h; cases h
  · rw [e] at h; cases h; rfl

theorem Framed.memOk {s t : State} {o : Host.Outcome State Fault Refusal} (h : Framed s o) (e : o = .next t) : MemOk t := by
  rcases h with ⟨h, _⟩ | ⟨u, h⟩
  · rw [e] at h; cases h
  · rw [e] at h; cases h; exact State.memOk_finish s u


theorem framed_baseTick {s : State} : Framed s (exec (.baseTick) s) := by
  show Framed s (execBaseTick s)
  unfold execBaseTick; exact run_framed _ _ _
theorem framed_conservationCheck {s : State} : Framed s (exec (.conservationCheck) s) := by
  show Framed s (execConservationCheck s)
  unfold execConservationCheck; exact run_framed _ _ _
theorem framed_uncorrectableMemoryError {mem} {a} {b} {reader} {s : State} : Framed s (exec (.uncorrectableMemoryError mem a b reader) s) := by
  show Framed s (execUncorrectableMemoryError mem a b reader s)
  unfold execUncorrectableMemoryError; exact run_framed _ _ _
theorem framed_tokenTaken {q} {s : State} : Framed s (exec (.tokenTaken q) s) := by
  show Framed s (execTokenTaken q s)
  unfold execTokenTaken; exact run_framed _ _ _
theorem framed_registerWrite {m} {a} {w} {s : State} : Framed s (exec (.registerWrite m a w) s) := by
  show Framed s (execRegisterWrite m a w s)
  unfold execRegisterWrite; exact run_framed _ _ _
theorem framed_bitAliasWrite {m} {a} {v} {s : State} : Framed s (exec (.bitAliasWrite m a v) s) := by
  show Framed s (execBitAliasWrite m a v s)
  unfold execBitAliasWrite; exact run_framed _ _ _
theorem framed_lockSet {m} {b} {s : State} : Framed s (exec (.lockSet m b) s) := by
  show Framed s (execLockSet m b s)
  unfold execLockSet; exact run_framed _ _ _
theorem framed_snapGo {m} {b} {s : State} : Framed s (exec (.snapGo m b) s) := by
  show Framed s (execSnapGo m b s)
  unfold execSnapGo; exact run_framed _ _ _
theorem framed_snapComplete {b} {s : State} : Framed s (exec (.snapComplete b) s) := by
  show Framed s (execSnapComplete b s)
  unfold execSnapComplete; exact run_framed _ _ _
theorem framed_mbxRequest {m} {b} {item} {index} {s : State} : Framed s (exec (.mbxRequest m b item index) s) := by
  show Framed s (execMbxRequest m b item index s)
  unfold execMbxRequest; exact run_framed _ _ _
theorem framed_mbxCaptureDone {b} {s : State} : Framed s (exec (.mbxCaptureDone b) s) := by
  show Framed s (execMbxCaptureDone b s)
  unfold execMbxCaptureDone; exact run_framed _ _ _
theorem framed_mbxLastWordRead {m} {b} {s : State} : Framed s (exec (.mbxLastWordRead m b) s) := by
  show Framed s (execMbxLastWordRead m b s)
  unfold execMbxLastWordRead; exact run_framed _ _ _
theorem framed_mbxExpiry {b} {s : State} : Framed s (exec (.mbxExpiry b) s) := by
  show Framed s (execMbxExpiry b s)
  unfold execMbxExpiry; exact run_framed _ _ _
theorem framed_windowDescriptorWrite {m} {n} {size} {w} {s : State} : Framed s (exec (.windowDescriptorWrite m n size w) s) := by
  show Framed s (execWindowDescriptorWrite m n size w s)
  unfold execWindowDescriptorWrite; exact run_framed _ _ _
theorem framed_clockWindow {c0} {c1} {c2} {c3} {d0} {d1} {d2} {d3} {s : State} : Framed s (exec (.clockWindow c0 c1 c2 c3 d0 d1 d2 d3) s) := by
  show Framed s (execClockWindow c0 c1 c2 c3 d0 d1 d2 d3 s)
  unfold execClockWindow; exact run_framed _ _ _
theorem framed_tbRefSwitch {s : State} : Framed s (exec (.tbRefSwitch) s) := by
  show Framed s (execTbRefSwitch s)
  unfold execTbRefSwitch; exact run_framed _ _ _
theorem framed_tbRefReturn {s : State} : Framed s (exec (.tbRefReturn) s) := by
  show Framed s (execTbRefReturn s)
  unfold execTbRefReturn; exact run_framed _ _ _
theorem framed_pllUnlock {p} {s : State} : Framed s (exec (.pllUnlock p) s) := by
  show Framed s (execPllUnlock p s)
  unfold execPllUnlock; exact run_framed _ _ _
theorem framed_timeIncrWrite {m} {w} {s : State} : Framed s (exec (.timeIncrWrite m w) s) := by
  show Framed s (execTimeIncrWrite m w s)
  unfold execTimeIncrWrite; exact run_framed _ _ _
theorem framed_timeIncrAltWrite {m} {w} {s : State} : Framed s (exec (.timeIncrAltWrite m w) s) := by
  show Framed s (execTimeIncrAltWrite m w s)
  unfold execTimeIncrAltWrite; exact run_framed _ _ _
theorem framed_timeAltcntWrite {m} {w} {s : State} : Framed s (exec (.timeAltcntWrite m w) s) := by
  show Framed s (execTimeAltcntWrite m w s)
  unfold execTimeAltcntWrite; exact run_framed _ _ _
theorem framed_altstop {m} {s : State} : Framed s (exec (.altstop m) s) := by
  show Framed s (execAltstop m s)
  unfold execAltstop; exact run_framed _ _ _
theorem framed_incrementTakesEffect {s : State} : Framed s (exec (.incrementTakesEffect) s) := by
  show Framed s (execIncrementTakesEffect s)
  unfold execIncrementTakesEffect; exact run_framed _ _ _
theorem framed_alternateIncrementEnd {s : State} : Framed s (exec (.alternateIncrementEnd) s) := by
  show Framed s (execAlternateIncrementEnd s)
  unfold execAlternateIncrementEnd; exact run_framed _ _ _
theorem framed_step {m} {s : State} : Framed s (exec (.step m) s) := by
  show Framed s (execStep m s)
  unfold execStep; exact run_framed _ _ _
theorem framed_timeStepEdge {s : State} : Framed s (exec (.timeStepEdge) s) := by
  show Framed s (execTimeStepEdge s)
  unfold execTimeStepEdge; exact run_framed _ _ _
theorem framed_ptpIngressStamp {p} {seq} {dom} {typ} {x} {s : State} : Framed s (exec (.ptpIngressStamp p seq dom typ x) s) := by
  show Framed s (execPtpIngressStamp p seq dom typ x s)
  unfold execPtpIngressStamp; exact run_framed _ _ _
theorem framed_ptpEgressStamp {p} {seq} {dom} {typ} {x} {oneStep} {corr} {s : State} : Framed s (exec (.ptpEgressStamp p seq dom typ x oneStep corr) s) := by
  show Framed s (execPtpEgressStamp p seq dom typ x oneStep corr s)
  unfold execPtpEgressStamp; exact run_framed _ _ _
theorem framed_ptpSyncReceived {o} {mpd} {loc} {mas} {t} {s : State} : Framed s (exec (.ptpSyncReceived o mpd loc mas t) s) := by
  show Framed s (execPtpSyncReceived o mpd loc mas t s)
  unfold execPtpSyncReceived; exact run_framed _ _ _
theorem framed_beaconArm {m} {n} {s : State} : Framed s (exec (.beaconArm m n) s) := by
  show Framed s (execBeaconArm m n s)
  unfold execBeaconArm; exact run_framed _ _ _
theorem framed_beaconDisarm {m} {n} {s : State} : Framed s (exec (.beaconDisarm m n) s) := by
  show Framed s (execBeaconDisarm m n s)
  unfold execBeaconDisarm; exact run_framed _ _ _
theorem framed_beaconEdge {n} {s : State} : Framed s (exec (.beaconEdge n) s) := by
  show Framed s (execBeaconEdge n s)
  unfold execBeaconEdge; exact run_framed _ _ _
theorem framed_beaconTrailingEdge {n} {s : State} : Framed s (exec (.beaconTrailingEdge n) s) := by
  show Framed s (execBeaconTrailingEdge n s)
  unfold execBeaconTrailingEdge; exact run_framed _ _ _
theorem framed_trigEdge {n} {level} {s : State} : Framed s (exec (.trigEdge n level) s) := by
  show Framed s (execTrigEdge n level s)
  unfold execTrigEdge; exact run_framed _ _ _
theorem framed_trigAccept {n} {s : State} : Framed s (exec (.trigAccept n) s) := by
  show Framed s (execTrigAccept n s)
  unfold execTrigAccept; exact run_framed _ _ _
theorem framed_rcpStart {m} {n} {step} {s : State} : Framed s (exec (.rcpStart m n step) s) := by
  show Framed s (execRcpStart m n step s)
  unfold execRcpStart; exact run_framed _ _ _
theorem framed_rcpAbort {m} {n} {s : State} : Framed s (exec (.rcpAbort m n) s) := by
  show Framed s (execRcpAbort m n s)
  unfold execRcpAbort; exact run_framed _ _ _
theorem framed_rcpClear {m} {n} {s : State} : Framed s (exec (.rcpClear m n) s) := by
  show Framed s (execRcpClear m n s)
  unfold execRcpClear; exact run_framed _ _ _
theorem framed_stepTimeout {n} {s : State} : Framed s (exec (.stepTimeout n) s) := by
  show Framed s (execStepTimeout n s)
  unfold execStepTimeout; exact run_framed _ _ _
theorem framed_stepCommit {s : State} : Framed s (exec (.stepCommit) s) := by
  show Framed s (execStepCommit s)
  unfold execStepCommit; exact run_framed _ _ _
theorem framed_rcpLoadGo {m} {count} {s : State} : Framed s (exec (.rcpLoadGo m count) s) := by
  show Framed s (execRcpLoadGo m count s)
  unfold execRcpLoadGo; exact run_framed _ _ _
theorem framed_rcpLoadDone {s : State} : Framed s (exec (.rcpLoadDone) s) := by
  show Framed s (execRcpLoadDone s)
  unfold execRcpLoadDone; exact run_framed _ _ _
theorem framed_journalWrite {s : State} : Framed s (exec (.journalWrite) s) := by
  show Framed s (execJournalWrite s)
  unfold execJournalWrite; exact run_framed _ _ _
theorem framed_rcpResumeGo {m} {s : State} : Framed s (exec (.rcpResumeGo m) s) := by
  show Framed s (execRcpResumeGo m s)
  unfold execRcpResumeGo; exact run_framed _ _ _
theorem framed_resumeDecision {s : State} : Framed s (exec (.resumeDecision) s) := by
  show Framed s (execResumeDecision s)
  unfold execResumeDecision; exact run_framed _ _ _
theorem framed_resumeTwaitExpiry {s : State} : Framed s (exec (.resumeTwaitExpiry) s) := by
  show Framed s (execResumeTwaitExpiry s)
  unfold execResumeTwaitExpiry; exact run_framed _ _ _
theorem framed_loopBind {m} {n} {s : State} : Framed s (exec (.loopBind m n) s) := by
  show Framed s (execLoopBind m n s)
  unfold execLoopBind; exact run_framed _ _ _
theorem framed_loopUnbind {m} {n} {s : State} : Framed s (exec (.loopUnbind m n) s) := by
  show Framed s (execLoopUnbind m n s)
  unfold execLoopUnbind; exact run_framed _ _ _
theorem framed_loopCheck {m} {n} {s : State} : Framed s (exec (.loopCheck m n) s) := by
  show Framed s (execLoopCheck m n s)
  unfold execLoopCheck; exact run_framed _ _ _
theorem framed_loopCheckDone {s : State} : Framed s (exec (.loopCheckDone) s) := by
  show Framed s (execLoopCheckDone s)
  unfold execLoopCheckDone; exact run_framed _ _ _
theorem framed_laneFrameStart {s : State} : Framed s (exec (.laneFrameStart) s) := by
  show Framed s (execLaneFrameStart s)
  unfold execLaneFrameStart; exact run_framed _ _ _
theorem framed_loopPeriodStart {c} {s : State} : Framed s (exec (.loopPeriodStart c) s) := by
  show Framed s (execLoopPeriodStart c s)
  unfold execLoopPeriodStart; exact run_framed _ _ _
theorem framed_loopExecution {s : State} : Framed s (exec (.loopExecution) s) := by
  show Framed s (execLoopExecution s)
  unfold execLoopExecution; exact run_framed _ _ _
theorem framed_loopRelease {s : State} : Framed s (exec (.loopRelease) s) := by
  show Framed s (execLoopRelease s)
  unfold execLoopRelease; exact run_framed _ _ _
theorem framed_loopDeadlineFault {s : State} : Framed s (exec (.loopDeadlineFault) s) := by
  show Framed s (execLoopDeadlineFault s)
  unfold execLoopDeadlineFault; exact run_framed _ _ _
theorem framed_lensArm {m} {c} {s : State} : Framed s (exec (.lensArm m c) s) := by
  show Framed s (execLensArm m c s)
  unfold execLensArm; exact run_framed _ _ _
theorem framed_lensDisarm {m} {c} {s : State} : Framed s (exec (.lensDisarm m c) s) := by
  show Framed s (execLensDisarm m c s)
  unfold execLensDisarm; exact run_framed _ _ _
theorem framed_lensForce {m} {c} {s : State} : Framed s (exec (.lensForce m c) s) := by
  show Framed s (execLensForce m c s)
  unfold execLensForce; exact run_framed _ _ _
theorem framed_calBlock {n} {loud} {ovr} {clear} {err} {resid} {s : State} : Framed s (exec (.calBlock n loud ovr clear err resid) s) := by
  show Framed s (execCalBlock n loud ovr clear err resid s)
  unfold execCalBlock; exact run_framed _ _ _
theorem framed_calFeedforward {s : State} : Framed s (exec (.calFeedforward) s) := by
  show Framed s (execCalFeedforward s)
  unfold execCalFeedforward; exact run_framed _ _ _
theorem framed_calRestart {m} {n} {s : State} : Framed s (exec (.calRestart m n) s) := by
  show Framed s (execCalRestart m n s)
  unfold execCalRestart; exact run_framed _ _ _
theorem framed_calSample {m} {n} {s : State} : Framed s (exec (.calSample m n) s) := by
  show Framed s (execCalSample m n s)
  unfold execCalSample; exact run_framed _ _ _
theorem framed_calSampleDone {n} {s : State} : Framed s (exec (.calSampleDone n) s) := by
  show Framed s (execCalSampleDone n s)
  unfold execCalSampleDone; exact run_framed _ _ _
theorem framed_rfChannelDisable {n} {s : State} : Framed s (exec (.rfChannelDisable n) s) := by
  show Framed s (execRfChannelDisable n s)
  unfold execRfChannelDisable; exact run_framed _ _ _
theorem framed_toneItem {n} {res} {ovr} {s : State} : Framed s (exec (.toneItem n res ovr) s) := by
  show Framed s (execToneItem n res ovr s)
  unfold execToneItem; exact run_framed _ _ _
theorem framed_arcAssert {n} {rise} {ratio} {age} {s : State} : Framed s (exec (.arcAssert n rise ratio age) s) := by
  show Framed s (execArcAssert n rise ratio age s)
  unfold execArcAssert; exact run_framed _ _ _
theorem framed_arcDeassert {n} {s : State} : Framed s (exec (.arcDeassert n) s) := by
  show Framed s (execArcDeassert n s)
  unfold execArcDeassert; exact run_framed _ _ _
theorem framed_acqLoad {m} {k} {s : State} : Framed s (exec (.acqLoad m k) s) := by
  show Framed s (execAcqLoad m k s)
  unfold execAcqLoad; exact run_framed _ _ _
theorem framed_acqUnload {m} {k} {s : State} : Framed s (exec (.acqUnload m k) s) := by
  show Framed s (execAcqUnload m k s)
  unfold execAcqUnload; exact run_framed _ _ _
theorem framed_acqArm {m} {k} {s : State} : Framed s (exec (.acqArm m k) s) := by
  show Framed s (execAcqArm m k s)
  unfold execAcqArm; exact run_framed _ _ _
theorem framed_acqArmToken {s : State} : Framed s (exec (.acqArmToken) s) := by
  show Framed s (execAcqArmToken s)
  unfold execAcqArmToken; exact run_framed _ _ _
theorem framed_acqDisarm {m} {k} {s : State} : Framed s (exec (.acqDisarm m k) s) := by
  show Framed s (execAcqDisarm m k s)
  unfold execAcqDisarm; exact run_framed _ _ _
theorem framed_acqForce {m} {k} {s : State} : Framed s (exec (.acqForce m k) s) := by
  show Framed s (execAcqForce m k s)
  unfold execAcqForce; exact run_framed _ _ _
theorem framed_acqTrigger {k} {age} {s : State} : Framed s (exec (.acqTrigger k age) s) := by
  show Framed s (execAcqTrigger k age s)
  unfold execAcqTrigger; exact run_framed _ _ _
theorem framed_segmentComplete {k} {data} {s : State} : Framed s (exec (.segmentComplete k data) s) := by
  show Framed s (execSegmentComplete k data s)
  unfold execSegmentComplete; exact run_framed _ _ _
theorem framed_segmentRearm {k} {s : State} : Framed s (exec (.segmentRearm k) s) := by
  show Framed s (execSegmentRearm k s)
  unfold execSegmentRearm; exact run_framed _ _ _
theorem framed_acqRelease {m} {k} {count} {s : State} : Framed s (exec (.acqRelease m k count) s) := by
  show Framed s (execAcqRelease m k count s)
  unfold execAcqRelease; exact run_framed _ _ _
theorem framed_acqQueueOverflow {k} {s : State} : Framed s (exec (.acqQueueOverflow k) s) := by
  show Framed s (execAcqQueueOverflow k s)
  unfold execAcqQueueOverflow; exact run_framed _ _ _
theorem framed_scanTrigger {c} {s : State} : Framed s (exec (.scanTrigger c) s) := by
  show Framed s (execScanTrigger c s)
  unfold execScanTrigger; exact run_framed _ _ _
theorem framed_swtrig {m} {c} {s : State} : Framed s (exec (.swtrig m c) s) := by
  show Framed s (execSwtrig m c s)
  unfold execSwtrig; exact run_framed _ _ _
theorem framed_conversionComplete {c} {raw} {s : State} : Framed s (exec (.conversionComplete c raw) s) := by
  show Framed s (execConversionComplete c raw s)
  unfold execConversionComplete; exact run_framed _ _ _
theorem framed_diagRequest {m} {t} {conv} {pos} {chk} {s : State} : Framed s (exec (.diagRequest m t conv pos chk) s) := by
  show Framed s (execDiagRequest m t conv pos chk s)
  unfold execDiagRequest; exact run_framed _ _ _
theorem framed_diagComplete {t} {d1} {m1} {d2} {m2} {i1} {i2} {np} {nm} {s : State} : Framed s (exec (.diagComplete t d1 m1 d2 m2 i1 i2 np nm) s) := by
  show Framed s (execDiagComplete t d1 m1 d2 m2 i1 i2 np nm s)
  unfold execDiagComplete; exact run_framed _ _ _
theorem framed_dacCodeWrite {m} {d} {code} {s : State} : Framed s (exec (.dacCodeWrite m d code) s) := by
  show Framed s (execDacCodeWrite m d code s)
  unfold execDacCodeWrite; exact run_framed _ _ _
theorem framed_dacLoad {d} {s : State} : Framed s (exec (.dacLoad d) s) := by
  show Framed s (execDacLoad d s)
  unfold execDacLoad; exact run_framed _ _ _
theorem framed_rioDisc {m} {p} {s : State} : Framed s (exec (.rioDisc m p) s) := by
  show Framed s (execRioDisc m p s)
  unfold execRioDisc; exact run_framed _ _ _
theorem framed_drep {p} {fcs} {frame} {s : State} : Framed s (exec (.drep p fcs frame) s) := by
  show Framed s (execDrep p fcs frame s)
  unfold execDrep; exact run_framed _ _ _
theorem framed_discoveryEnd {p} {s : State} : Framed s (exec (.discoveryEnd p) s) := by
  show Framed s (execDiscoveryEnd p s)
  unfold execDiscoveryEnd; exact run_framed _ _ _
theorem framed_cack {p} {fcs} {frame} {s : State} : Framed s (exec (.cack p fcs frame) s) := by
  show Framed s (execCack p fcs frame s)
  unfold execCack; exact run_framed _ _ _
theorem framed_hello {p} {fcs} {frame} {s : State} : Framed s (exec (.hello p fcs frame) s) := by
  show Framed s (execHello p fcs frame s)
  unfold execHello; exact run_framed _ _ _
theorem framed_rioStart {m} {p} {s : State} : Framed s (exec (.rioStart m p) s) := by
  show Framed s (execRioStart m p s)
  unfold execRioStart; exact run_framed _ _ _
theorem framed_rioStop {m} {p} {s : State} : Framed s (exec (.rioStop m p) s) := by
  show Framed s (execRioStop m p s)
  unfold execRioStop; exact run_framed _ _ _
theorem framed_rioCycleStart {p} {s : State} : Framed s (exec (.rioCycleStart p) s) := by
  show Framed s (execRioCycleStart p s)
  unfold execRioCycleStart; exact run_framed _ _ _
theorem framed_ifr {p} {fcs} {frame} {s : State} : Framed s (exec (.ifr p fcs frame) s) := by
  show Framed s (execIfr p fcs frame s)
  unfold execIfr; exact run_framed _ _ _
theorem framed_cycleClose {p} {s : State} : Framed s (exec (.cycleClose p) s) := by
  show Framed s (execCycleClose p s)
  unfold execCycleClose; exact run_framed _ _ _
theorem framed_pwmCommit {m} {groups} {s : State} : Framed s (exec (.pwmCommit m groups) s) := by
  show Framed s (execPwmCommit m groups s)
  unfold execPwmCommit; exact run_framed _ _ _
theorem framed_shadowWrite {m} {k} {which} {w} {s : State} : Framed s (exec (.shadowWrite m k which w) s) := by
  show Framed s (execShadowWrite m k which w s)
  unfold execShadowWrite; exact run_framed _ _ _
theorem framed_pwmReload {k} {s : State} : Framed s (exec (.pwmReload k) s) := by
  show Framed s (execPwmReload k s)
  unfold execPwmReload; exact run_framed _ _ _
theorem framed_pwmRestart {k} {s : State} : Framed s (exec (.pwmRestart k) s) := by
  show Framed s (execPwmRestart k s)
  unfold execPwmRestart; exact run_framed _ _ _
theorem framed_tripAssert {i0} {level} {s : State} : Framed s (exec (.tripAssert i0 level) s) := by
  show Framed s (execTripAssert i0 level s)
  unfold execTripAssert; exact run_framed _ _ _
theorem framed_latchoffClear {m} {k} {s : State} : Framed s (exec (.latchoffClear m k) s) := by
  show Framed s (execLatchoffClear m k s)
  unfold execLatchoffClear; exact run_framed _ _ _
theorem framed_swsCrossing {k} {rising} {s : State} : Framed s (exec (.swsCrossing k rising) s) := by
  show Framed s (execSwsCrossing k rising s)
  unfold execSwsCrossing; exact run_framed _ _ _
theorem framed_deadTimeEnd {k} {s : State} : Framed s (exec (.deadTimeEnd k) s) := by
  show Framed s (execDeadTimeEnd k s)
  unfold execDeadTimeEnd; exact run_framed _ _ _
theorem framed_compareFire {k} {j} {s : State} : Framed s (exec (.compareFire k j) s) := by
  show Framed s (execCompareFire k j s)
  unfold execCompareFire; exact run_framed _ _ _
theorem framed_staticLevelWrite {m} {g} {w} {s : State} : Framed s (exec (.staticLevelWrite m g w) s) := by
  show Framed s (execStaticLevelWrite m g w s)
  unfold execStaticLevelWrite; exact run_framed _ _ _
theorem framed_fastCut {n} {on} {s : State} : Framed s (exec (.fastCut n on) s) := by
  show Framed s (execFastCut n on s)
  unfold execFastCut; exact run_framed _ _ _
theorem framed_fastCutClear {m} {k} {s : State} : Framed s (exec (.fastCutClear m k) s) := by
  show Framed s (execFastCutClear m k s)
  unfold execFastCutClear; exact run_framed _ _ _
theorem framed_movePush {m} {k} {kind} {prof} {tag} {s : State} : Framed s (exec (.movePush m k kind prof tag) s) := by
  show Framed s (execMovePush m k kind prof tag s)
  unfold execMovePush; exact run_framed _ _ _
theorem framed_axisStop {m} {k} {s : State} : Framed s (exec (.axisStop m k) s) := by
  show Framed s (execAxisStop m k s)
  unfold execAxisStop; exact run_framed _ _ _
theorem framed_fclr {m} {k} {s : State} : Framed s (exec (.fclr m k) s) := by
  show Framed s (execFclr m k s)
  unfold execFclr; exact run_framed _ _ _
theorem framed_setpos {m} {k} {s : State} : Framed s (exec (.setpos m k) s) := by
  show Framed s (execSetpos m k s)
  unfold execSetpos; exact run_framed _ _ _
theorem framed_stepIssue {k} {s : State} : Framed s (exec (.stepIssue k) s) := by
  show Framed s (execStepIssue k s)
  unfold execStepIssue; exact run_framed _ _ _
theorem framed_drivePeriod {j} {ia} {ib} {s : State} : Framed s (exec (.drivePeriod j ia ib) s) := by
  show Framed s (execDrivePeriod j ia ib s)
  unfold execDrivePeriod; exact run_framed _ _ _
theorem framed_holdCurrent {j} {s : State} : Framed s (exec (.holdCurrent j) s) := by
  show Framed s (execHoldCurrent j s)
  unfold execHoldCurrent; exact run_framed _ _ _
theorem framed_stallDetect {j} {s : State} : Framed s (exec (.stallDetect j) s) := by
  show Framed s (execStallDetect j s)
  unfold execStallDetect; exact run_framed _ _ _
theorem framed_axisFault {k} {s : State} : Framed s (exec (.axisFault k) s) := by
  show Framed s (execAxisFault k s)
  unfold execAxisFault; exact run_framed _ _ _
theorem framed_canFrameRx {c} {res} {ide} {rtr} {fdf} {brs} {esi} {id} {dlc} {data} {s : State} : Framed s (exec (.canFrameRx c res ide rtr fdf brs esi id dlc data) s) := by
  show Framed s (execCanFrameRx c res ide rtr fdf brs esi id dlc data s)
  unfold execCanFrameRx; exact run_framed _ _ _
theorem framed_txreq {m} {c} {b} {s : State} : Framed s (exec (.txreq m c b) s) := by
  show Framed s (execTxreq m c b s)
  unfold execTxreq; exact run_framed _ _ _
theorem framed_canAbort {m} {c} {b} {s : State} : Framed s (exec (.canAbort m c b) s) := by
  show Framed s (execCanAbort m c b s)
  unfold execCanAbort; exact run_framed _ _ _
theorem framed_canTxComplete {c} {b} {res} {s : State} : Framed s (exec (.canTxComplete c b res) s) := by
  show Framed s (execCanTxComplete c b res s)
  unfold execCanTxComplete; exact run_framed _ _ _
theorem framed_canTxTimeout {c} {b} {s : State} : Framed s (exec (.canTxTimeout c b) s) := by
  show Framed s (execCanTxTimeout c b s)
  unfold execCanTxTimeout; exact run_framed _ _ _
theorem framed_errorPassive {c} {tx} {s : State} : Framed s (exec (.errorPassive c tx) s) := by
  show Framed s (execErrorPassive c tx s)
  unfold execErrorPassive; exact run_framed _ _ _
theorem framed_busOff {c} {s : State} : Framed s (exec (.busOff c) s) := by
  show Framed s (execBusOff c s)
  unfold execBusOff; exact run_framed _ _ _
theorem framed_recover {m} {c} {s : State} : Framed s (exec (.recover m c) s) := by
  show Framed s (execRecover m c s)
  unfold execRecover; exact run_framed _ _ _
theorem framed_canRecoveryDone {c} {s : State} : Framed s (exec (.canRecoveryDone c) s) := by
  show Framed s (execCanRecoveryDone c s)
  unfold execCanRecoveryDone; exact run_framed _ _ _
theorem framed_canRxTimeout {c} {b} {s : State} : Framed s (exec (.canRxTimeout c b) s) := by
  show Framed s (execCanRxTimeout c b s)
  unfold execCanRxTimeout; exact run_framed _ _ _
theorem framed_cyclicTaskStart {t} {s : State} : Framed s (exec (.cyclicTaskStart t) s) := by
  show Framed s (execCyclicTaskStart t s)
  unfold execCyclicTaskStart; exact run_framed _ _ _
theorem framed_errmaxExpiry {s : State} : Framed s (exec (.errmaxExpiry) s) := by
  show Framed s (execErrmaxExpiry s)
  unfold execErrmaxExpiry; exact run_framed _ _ _
theorem framed_evtGo {m} {t} {s : State} : Framed s (exec (.evtGo m t) s) := by
  show Framed s (execEvtGo m t s)
  unfold execEvtGo; exact run_framed _ _ _
theorem framed_taskPublish {t} {s : State} : Framed s (exec (.taskPublish t) s) := by
  show Framed s (execTaskPublish t s)
  unfold execTaskPublish; exact run_framed _ _ _
theorem framed_taskOverrun {t} {s : State} : Framed s (exec (.taskOverrun t) s) := by
  show Framed s (execTaskOverrun t s)
  unfold execTaskOverrun; exact run_framed _ _ _
theorem framed_programLoad {m} {s : State} : Framed s (exec (.programLoad m) s) := by
  show Framed s (execProgramLoad m s)
  unfold execProgramLoad; exact run_framed _ _ _
theorem framed_programLoadDone {s : State} : Framed s (exec (.programLoadDone) s) := by
  show Framed s (execProgramLoadDone s)
  unfold execProgramLoadDone; exact run_framed _ _ _
theorem framed_exchange {m} {align} {s : State} : Framed s (exec (.exchange m align) s) := by
  show Framed s (execExchange m align s)
  unfold execExchange; exact run_framed _ _ _
theorem framed_exchangeFreeze {s : State} : Framed s (exec (.exchangeFreeze) s) := by
  show Framed s (execExchangeFreeze s)
  unfold execExchangeFreeze; exact run_framed _ _ _
theorem framed_exchangeMigrate {s : State} : Framed s (exec (.exchangeMigrate) s) := by
  show Framed s (execExchangeMigrate s)
  unfold execExchangeMigrate; exact run_framed _ _ _
theorem framed_migrationDone {s : State} : Framed s (exec (.migrationDone) s) := by
  show Framed s (execMigrationDone s)
  unfold execMigrationDone; exact run_framed _ _ _
theorem framed_exchangeDurable {s : State} : Framed s (exec (.exchangeDurable) s) := by
  show Framed s (execExchangeDurable s)
  unfold execExchangeDurable; exact run_framed _ _ _
theorem framed_cold {m} {s : State} : Framed s (exec (.cold m) s) := by
  show Framed s (execCold m s)
  unfold execCold; exact run_framed _ _ _
theorem framed_discard {m} {s : State} : Framed s (exec (.discard m) s) := by
  show Framed s (execDiscard m s)
  unfold execDiscard; exact run_framed _ _ _
theorem framed_retentionSetLogged {s : State} : Framed s (exec (.retentionSetLogged) s) := by
  show Framed s (execRetentionSetLogged s)
  unfold execRetentionSetLogged; exact run_framed _ _ _
theorem framed_redoApply {s : State} : Framed s (exec (.redoApply) s) := by
  show Framed s (execRedoApply s)
  unfold execRedoApply; exact run_framed _ _ _
theorem framed_add {c} {rd} {ra} {rb} {s : State} : Framed s (exec (.add c rd ra rb) s) := by
  show Framed s (execAdd c rd ra rb s)
  unfold execAdd alu2 spw; exact run_framed _ _ _
theorem framed_sub {c} {rd} {ra} {rb} {s : State} : Framed s (exec (.sub c rd ra rb) s) := by
  show Framed s (execSub c rd ra rb s)
  unfold execSub alu2 spw; exact run_framed _ _ _
theorem framed_and {c} {rd} {ra} {rb} {s : State} : Framed s (exec (.and c rd ra rb) s) := by
  show Framed s (execAnd c rd ra rb s)
  unfold execAnd alu2 spw; exact run_framed _ _ _
theorem framed_or {c} {rd} {ra} {rb} {s : State} : Framed s (exec (.or c rd ra rb) s) := by
  show Framed s (execOr c rd ra rb s)
  unfold execOr alu2 spw; exact run_framed _ _ _
theorem framed_xor {c} {rd} {ra} {rb} {s : State} : Framed s (exec (.xor c rd ra rb) s) := by
  show Framed s (execXor c rd ra rb s)
  unfold execXor alu2 spw; exact run_framed _ _ _
theorem framed_andn {c} {rd} {ra} {rb} {s : State} : Framed s (exec (.andn c rd ra rb) s) := by
  show Framed s (execAndn c rd ra rb s)
  unfold execAndn alu2 spw; exact run_framed _ _ _
theorem framed_sll {c} {rd} {ra} {rb} {s : State} : Framed s (exec (.sll c rd ra rb) s) := by
  show Framed s (execSll c rd ra rb s)
  unfold execSll alu2 spw; exact run_framed _ _ _
theorem framed_srl {c} {rd} {ra} {rb} {s : State} : Framed s (exec (.srl c rd ra rb) s) := by
  show Framed s (execSrl c rd ra rb s)
  unfold execSrl alu2 spw; exact run_framed _ _ _
theorem framed_sra {c} {rd} {ra} {rb} {s : State} : Framed s (exec (.sra c rd ra rb) s) := by
  show Framed s (execSra c rd ra rb s)
  unfold execSra alu2 spw; exact run_framed _ _ _
theorem framed_slt {c} {rd} {ra} {rb} {s : State} : Framed s (exec (.slt c rd ra rb) s) := by
  show Framed s (execSlt c rd ra rb s)
  unfold execSlt alu2 spw; exact run_framed _ _ _
theorem framed_sltu {c} {rd} {ra} {rb} {s : State} : Framed s (exec (.sltu c rd ra rb) s) := by
  show Framed s (execSltu c rd ra rb s)
  unfold execSltu alu2 spw; exact run_framed _ _ _
theorem framed_min {c} {rd} {ra} {rb} {s : State} : Framed s (exec (.min c rd ra rb) s) := by
  show Framed s (execMin c rd ra rb s)
  unfold execMin alu2 spw; exact run_framed _ _ _
theorem framed_max {c} {rd} {ra} {rb} {s : State} : Framed s (exec (.max c rd ra rb) s) := by
  show Framed s (execMax c rd ra rb s)
  unfold execMax alu2 spw; exact run_framed _ _ _
theorem framed_clz {c} {rd} {ra} {s : State} : Framed s (exec (.clz c rd ra) s) := by
  show Framed s (execClz c rd ra s)
  unfold execClz alu1 spw; exact run_framed _ _ _
theorem framed_sextb {c} {rd} {ra} {s : State} : Framed s (exec (.sextb c rd ra) s) := by
  show Framed s (execSextb c rd ra s)
  unfold execSextb alu1 spw; exact run_framed _ _ _
theorem framed_sexth {c} {rd} {ra} {s : State} : Framed s (exec (.sexth c rd ra) s) := by
  show Framed s (execSexth c rd ra s)
  unfold execSexth alu1 spw; exact run_framed _ _ _
theorem framed_mul {c} {rd} {ra} {rb} {s : State} : Framed s (exec (.mul c rd ra rb) s) := by
  show Framed s (execMul c rd ra rb s)
  unfold execMul alu2 spw; exact run_framed _ _ _
theorem framed_mulh {c} {rd} {ra} {rb} {s : State} : Framed s (exec (.mulh c rd ra rb) s) := by
  show Framed s (execMulh c rd ra rb s)
  unfold execMulh alu2 spw; exact run_framed _ _ _
theorem framed_mulhu {c} {rd} {ra} {rb} {s : State} : Framed s (exec (.mulhu c rd ra rb) s) := by
  show Framed s (execMulhu c rd ra rb s)
  unfold execMulhu alu2 spw; exact run_framed _ _ _
theorem framed_div {c} {rd} {ra} {rb} {s : State} : Framed s (exec (.div c rd ra rb) s) := by
  show Framed s (execDiv c rd ra rb s)
  unfold execDiv aluDiv spw; exact run_framed _ _ _
theorem framed_divu {c} {rd} {ra} {rb} {s : State} : Framed s (exec (.divu c rd ra rb) s) := by
  show Framed s (execDivu c rd ra rb s)
  unfold execDivu aluDiv spw; exact run_framed _ _ _
theorem framed_rem {c} {rd} {ra} {rb} {s : State} : Framed s (exec (.rem c rd ra rb) s) := by
  show Framed s (execRem c rd ra rb s)
  unfold execRem aluDiv spw; exact run_framed _ _ _
theorem framed_remu {c} {rd} {ra} {rb} {s : State} : Framed s (exec (.remu c rd ra rb) s) := by
  show Framed s (execRemu c rd ra rb s)
  unfold execRemu aluDiv spw; exact run_framed _ _ _
theorem framed_slli {c} {rd} {ra} {n} {s : State} : Framed s (exec (.slli c rd ra n) s) := by
  show Framed s (execSlli c rd ra n s)
  unfold execSlli alu1 spw; exact run_framed _ _ _
theorem framed_srli {c} {rd} {ra} {n} {s : State} : Framed s (exec (.srli c rd ra n) s) := by
  show Framed s (execSrli c rd ra n s)
  unfold execSrli alu1 spw; exact run_framed _ _ _
theorem framed_srai {c} {rd} {ra} {n} {s : State} : Framed s (exec (.srai c rd ra n) s) := by
  show Framed s (execSrai c rd ra n s)
  unfold execSrai alu1 spw; exact run_framed _ _ _
theorem framed_addi {c} {rd} {ra} {imm} {s : State} : Framed s (exec (.addi c rd ra imm) s) := by
  show Framed s (execAddi c rd ra imm s)
  unfold execAddi alu1 spw; exact run_framed _ _ _
theorem framed_andi {c} {rd} {ra} {imm} {s : State} : Framed s (exec (.andi c rd ra imm) s) := by
  show Framed s (execAndi c rd ra imm s)
  unfold execAndi alu1 spw; exact run_framed _ _ _
theorem framed_ori {c} {rd} {ra} {imm} {s : State} : Framed s (exec (.ori c rd ra imm) s) := by
  show Framed s (execOri c rd ra imm s)
  unfold execOri alu1 spw; exact run_framed _ _ _
theorem framed_xori {c} {rd} {ra} {imm} {s : State} : Framed s (exec (.xori c rd ra imm) s) := by
  show Framed s (execXori c rd ra imm s)
  unfold execXori alu1 spw; exact run_framed _ _ _
theorem framed_slti {c} {rd} {ra} {imm} {s : State} : Framed s (exec (.slti c rd ra imm) s) := by
  show Framed s (execSlti c rd ra imm s)
  unfold execSlti alu1 spw; exact run_framed _ _ _
theorem framed_sltiu {c} {rd} {ra} {imm} {s : State} : Framed s (exec (.sltiu c rd ra imm) s) := by
  show Framed s (execSltiu c rd ra imm s)
  unfold execSltiu alu1 spw; exact run_framed _ _ _
theorem framed_lui {c} {rd} {imm} {s : State} : Framed s (exec (.lui c rd imm) s) := by
  show Framed s (execLui c rd imm s)
  unfold execLui spw; exact run_framed _ _ _
theorem framed_lw {c} {rd} {ra} {imm} {s : State} : Framed s (exec (.lw c rd ra imm) s) := by
  show Framed s (execLw c rd ra imm s)
  unfold execLw load; exact run_framed _ _ _
theorem framed_lh {c} {rd} {ra} {imm} {s : State} : Framed s (exec (.lh c rd ra imm) s) := by
  show Framed s (execLh c rd ra imm s)
  unfold execLh load; exact run_framed _ _ _
theorem framed_lhu {c} {rd} {ra} {imm} {s : State} : Framed s (exec (.lhu c rd ra imm) s) := by
  show Framed s (execLhu c rd ra imm s)
  unfold execLhu load; exact run_framed _ _ _
theorem framed_lb {c} {rd} {ra} {imm} {s : State} : Framed s (exec (.lb c rd ra imm) s) := by
  show Framed s (execLb c rd ra imm s)
  unfold execLb load; exact run_framed _ _ _
theorem framed_lbu {c} {rd} {ra} {imm} {s : State} : Framed s (exec (.lbu c rd ra imm) s) := by
  show Framed s (execLbu c rd ra imm s)
  unfold execLbu load; exact run_framed _ _ _
theorem framed_sw {c} {rb} {ra} {imm} {s : State} : Framed s (exec (.sw c rb ra imm) s) := by
  show Framed s (execSw c rb ra imm s)
  unfold execSw store; exact run_framed _ _ _
theorem framed_sh {c} {rb} {ra} {imm} {s : State} : Framed s (exec (.sh c rb ra imm) s) := by
  show Framed s (execSh c rb ra imm s)
  unfold execSh store; exact run_framed _ _ _
theorem framed_sb {c} {rb} {ra} {imm} {s : State} : Framed s (exec (.sb c rb ra imm) s) := by
  show Framed s (execSb c rb ra imm s)
  unfold execSb store; exact run_framed _ _ _
theorem framed_ld {c} {rd} {ra} {imm} {s : State} : Framed s (exec (.ld c rd ra imm) s) := by
  show Framed s (execLd c rd ra imm s)
  unfold execLd; exact run_framed _ _ _
theorem framed_sd {c} {rb} {ra} {imm} {s : State} : Framed s (exec (.sd c rb ra imm) s) := by
  show Framed s (execSd c rb ra imm s)
  unfold execSd; exact run_framed _ _ _
theorem framed_beq {c} {ra} {rb} {imm} {s : State} : Framed s (exec (.beq c ra rb imm) s) := by
  show Framed s (execBeq c ra rb imm s)
  unfold execBeq branch spw; exact run_framed _ _ _
theorem framed_bne {c} {ra} {rb} {imm} {s : State} : Framed s (exec (.bne c ra rb imm) s) := by
  show Framed s (execBne c ra rb imm s)
  unfold execBne branch spw; exact run_framed _ _ _
theorem framed_blt {c} {ra} {rb} {imm} {s : State} : Framed s (exec (.blt c ra rb imm) s) := by
  show Framed s (execBlt c ra rb imm s)
  unfold execBlt branch spw; exact run_framed _ _ _
theorem framed_bge {c} {ra} {rb} {imm} {s : State} : Framed s (exec (.bge c ra rb imm) s) := by
  show Framed s (execBge c ra rb imm s)
  unfold execBge branch spw; exact run_framed _ _ _
theorem framed_bltu {c} {ra} {rb} {imm} {s : State} : Framed s (exec (.bltu c ra rb imm) s) := by
  show Framed s (execBltu c ra rb imm s)
  unfold execBltu branch spw; exact run_framed _ _ _
theorem framed_bgeu {c} {ra} {rb} {imm} {s : State} : Framed s (exec (.bgeu c ra rb imm) s) := by
  show Framed s (execBgeu c ra rb imm s)
  unfold execBgeu branch spw; exact run_framed _ _ _
theorem framed_jal {c} {rd} {imm} {s : State} : Framed s (exec (.jal c rd imm) s) := by
  show Framed s (execJal c rd imm s)
  unfold execJal spw; exact run_framed _ _ _
theorem framed_jalr {c} {rd} {ra} {imm} {s : State} : Framed s (exec (.jalr c rd ra imm) s) := by
  show Framed s (execJalr c rd ra imm s)
  unfold execJalr spw; exact run_framed _ _ _
theorem framed_qadd {c} {rd} {ra} {rb} {s : State} : Framed s (exec (.qadd c rd ra rb) s) := by
  show Framed s (execQadd c rd ra rb s)
  unfold execQadd fix spw; exact run_framed _ _ _
theorem framed_qsub {c} {rd} {ra} {rb} {s : State} : Framed s (exec (.qsub c rd ra rb) s) := by
  show Framed s (execQsub c rd ra rb s)
  unfold execQsub fix spw; exact run_framed _ _ _
theorem framed_qneg {c} {rd} {ra} {s : State} : Framed s (exec (.qneg c rd ra) s) := by
  show Framed s (execQneg c rd ra s)
  unfold execQneg fix spw; exact run_framed _ _ _
theorem framed_qabs {c} {rd} {ra} {s : State} : Framed s (exec (.qabs c rd ra) s) := by
  show Framed s (execQabs c rd ra s)
  unfold execQabs fix spw; exact run_framed _ _ _
theorem framed_qmul {c} {rd} {ra} {rb} {s : State} : Framed s (exec (.qmul c rd ra rb) s) := by
  show Framed s (execQmul c rd ra rb s)
  unfold execQmul fix spw; exact run_framed _ _ _
theorem framed_qmac {c} {rd} {ra} {rb} {s : State} : Framed s (exec (.qmac c rd ra rb) s) := by
  show Framed s (execQmac c rd ra rb s)
  unfold execQmac fix spw; exact run_framed _ _ _
theorem framed_qmulx {c} {rd} {ra} {rb} {s : State} : Framed s (exec (.qmulx c rd ra rb) s) := by
  show Framed s (execQmulx c rd ra rb s)
  unfold execQmulx fix spw; exact run_framed _ _ _
theorem framed_qmacx {c} {rd} {ra} {rb} {s : State} : Framed s (exec (.qmacx c rd ra rb) s) := by
  show Framed s (execQmacx c rd ra rb s)
  unfold execQmacx fix spw; exact run_framed _ _ _
theorem framed_qshl {c} {rd} {ra} {rb} {s : State} : Framed s (exec (.qshl c rd ra rb) s) := by
  show Framed s (execQshl c rd ra rb s)
  unfold execQshl fix spw; exact run_framed _ _ _
theorem framed_qshr {c} {rd} {ra} {rb} {s : State} : Framed s (exec (.qshr c rd ra rb) s) := by
  show Framed s (execQshr c rd ra rb s)
  unfold execQshr fix spw; exact run_framed _ _ _
theorem framed_qlim {c} {rd} {ra} {rb} {s : State} : Framed s (exec (.qlim c rd ra rb) s) := by
  show Framed s (execQlim c rd ra rb s)
  unfold execQlim fix spw; exact run_framed _ _ _
theorem framed_qxq {c} {rd} {ra} {s : State} : Framed s (exec (.qxq c rd ra) s) := by
  show Framed s (execQxq c rd ra s)
  unfold execQxq fix spw; exact run_framed _ _ _
theorem framed_qqx {c} {rd} {ra} {s : State} : Framed s (exec (.qqx c rd ra) s) := by
  show Framed s (execQqx c rd ra s)
  unfold execQqx fix spw; exact run_framed _ _ _
theorem framed_fadd {c} {rd} {ra} {rb} {s : State} : Framed s (exec (.fadd c rd ra rb) s) := by
  show Framed s (execFadd c rd ra rb s)
  unfold execFadd fp spw; exact run_framed _ _ _
theorem framed_fsub {c} {rd} {ra} {rb} {s : State} : Framed s (exec (.fsub c rd ra rb) s) := by
  show Framed s (execFsub c rd ra rb s)
  unfold execFsub fp spw; exact run_framed _ _ _
theorem framed_fmul {c} {rd} {ra} {rb} {s : State} : Framed s (exec (.fmul c rd ra rb) s) := by
  show Framed s (execFmul c rd ra rb s)
  unfold execFmul fp spw; exact run_framed _ _ _
theorem framed_fdiv {c} {rd} {ra} {rb} {s : State} : Framed s (exec (.fdiv c rd ra rb) s) := by
  show Framed s (execFdiv c rd ra rb s)
  unfold execFdiv fp spw; exact run_framed _ _ _
theorem framed_fsqrt {c} {rd} {ra} {s : State} : Framed s (exec (.fsqrt c rd ra) s) := by
  show Framed s (execFsqrt c rd ra s)
  unfold execFsqrt fp spw; exact run_framed _ _ _
theorem framed_fmadd {c} {rd} {ra} {rb} {s : State} : Framed s (exec (.fmadd c rd ra rb) s) := by
  show Framed s (execFmadd c rd ra rb s)
  unfold execFmadd spw; exact run_framed _ _ _
theorem framed_fmin {c} {rd} {ra} {rb} {s : State} : Framed s (exec (.fmin c rd ra rb) s) := by
  show Framed s (execFmin c rd ra rb s)
  unfold execFmin fp spw; exact run_framed _ _ _
theorem framed_fmax {c} {rd} {ra} {rb} {s : State} : Framed s (exec (.fmax c rd ra rb) s) := by
  show Framed s (execFmax c rd ra rb s)
  unfold execFmax fp spw; exact run_framed _ _ _
theorem framed_fneg {c} {rd} {ra} {s : State} : Framed s (exec (.fneg c rd ra) s) := by
  show Framed s (execFneg c rd ra s)
  unfold execFneg alu1 spw; exact run_framed _ _ _
theorem framed_fabs {c} {rd} {ra} {s : State} : Framed s (exec (.fabs c rd ra) s) := by
  show Framed s (execFabs c rd ra s)
  unfold execFabs alu1 spw; exact run_framed _ _ _
theorem framed_fcmpeq {c} {rd} {ra} {rb} {s : State} : Framed s (exec (.fcmpeq c rd ra rb) s) := by
  show Framed s (execFcmpeq c rd ra rb s)
  unfold execFcmpeq fp spw; exact run_framed _ _ _
theorem framed_fcmplt {c} {rd} {ra} {rb} {s : State} : Framed s (exec (.fcmplt c rd ra rb) s) := by
  show Framed s (execFcmplt c rd ra rb s)
  unfold execFcmplt fp spw; exact run_framed _ _ _
theorem framed_fcmple {c} {rd} {ra} {rb} {s : State} : Framed s (exec (.fcmple c rd ra rb) s) := by
  show Framed s (execFcmple c rd ra rb s)
  unfold execFcmple fp spw; exact run_framed _ _ _
theorem framed_fcvtws {c} {rd} {ra} {s : State} : Framed s (exec (.fcvtws c rd ra) s) := by
  show Framed s (execFcvtws c rd ra s)
  unfold execFcvtws fp spw; exact run_framed _ _ _
theorem framed_fcvtsw {c} {rd} {ra} {s : State} : Framed s (exec (.fcvtsw c rd ra) s) := by
  show Framed s (execFcvtsw c rd ra s)
  unfold execFcvtsw fp spw; exact run_framed _ _ _
theorem framed_fcvtqs {c} {rd} {ra} {s : State} : Framed s (exec (.fcvtqs c rd ra) s) := by
  show Framed s (execFcvtqs c rd ra s)
  unfold execFcvtqs spw; exact run_framed _ _ _
theorem framed_fcvtsq {c} {rd} {ra} {s : State} : Framed s (exec (.fcvtsq c rd ra) s) := by
  show Framed s (execFcvtsq c rd ra s)
  unfold execFcvtsq fp spw; exact run_framed _ _ _
theorem framed_swap {c} {rd} {ra} {rb} {s : State} : Framed s (exec (.swap c rd ra rb) s) := by
  show Framed s (execSwap c rd ra rb s)
  unfold execSwap atomic; exact run_framed _ _ _
theorem framed_aadd {c} {rd} {ra} {rb} {s : State} : Framed s (exec (.aadd c rd ra rb) s) := by
  show Framed s (execAadd c rd ra rb s)
  unfold execAadd atomic; exact run_framed _ _ _
theorem framed_fence {c} {s : State} : Framed s (exec (.fence c) s) := by
  show Framed s (execFence c s)
  unfold execFence fence spw; exact run_framed _ _ _
theorem framed_fenceAcq {c} {s : State} : Framed s (exec (.fenceAcq c) s) := by
  show Framed s (execFenceAcq c s)
  unfold execFenceAcq fence spw; exact run_framed _ _ _
theorem framed_fenceRel {c} {s : State} : Framed s (exec (.fenceRel c) s) := by
  show Framed s (execFenceRel c s)
  unfold execFenceRel fence spw; exact run_framed _ _ _
theorem framed_fenceI {c} {s : State} : Framed s (exec (.fenceI c) s) := by
  show Framed s (execFenceI c s)
  unfold execFenceI fence spw; exact run_framed _ _ _
theorem framed_mfcr {c} {rd} {n} {s : State} : Framed s (exec (.mfcr c rd n) s) := by
  show Framed s (execMfcr c rd n s)
  unfold execMfcr spw; exact run_framed _ _ _
theorem framed_mtcr {c} {ra} {n} {s : State} : Framed s (exec (.mtcr c ra n) s) := by
  show Framed s (execMtcr c ra n s)
  unfold execMtcr spw; exact run_framed _ _ _
theorem framed_svreq {c} {code} {s : State} : Framed s (exec (.svreq c code) s) := by
  show Framed s (execSvreq c code s)
  unfold execSvreq spw; exact run_framed _ _ _
theorem framed_dbgreq {c} {code} {s : State} : Framed s (exec (.dbgreq c code) s) := by
  show Framed s (execDbgreq c code s)
  unfold execDbgreq spw; exact run_framed _ _ _
theorem framed_xret {c} {s : State} : Framed s (exec (.xret c) s) := by
  show Framed s (execXret c s)
  unfold execXret spw; exact run_framed _ _ _
theorem framed_waiti {c} {s : State} : Framed s (exec (.waiti c) s) := by
  show Framed s (execWaiti c s)
  unfold execWaiti spw; exact run_framed _ _ _
theorem framed_waitiWake {c} {s : State} : Framed s (exec (.waitiWake c) s) := by
  show Framed s (execWaitiWake c s)
  unfold execWaitiWake; exact run_framed _ _ _
theorem framed_tpost {c} {rd} {ra} {rb} {slot} {s : State} : Framed s (exec (.tpost c rd ra rb slot) s) := by
  show Framed s (execTpost c rd ra rb slot s)
  unfold execTpost; exact run_framed _ _ _
theorem framed_ttake {c} {rd} {slot} {s : State} : Framed s (exec (.ttake c rd slot) s) := by
  show Framed s (execTtake c rd slot s)
  unfold execTtake spw; exact run_framed _ _ _
theorem framed_tdone {c} {ra} {s : State} : Framed s (exec (.tdone c ra) s) := by
  show Framed s (execTdone c ra s)
  unfold execTdone; exact run_framed _ _ _
theorem framed_twait {c} {ra} {s : State} : Framed s (exec (.twait c ra) s) := by
  show Framed s (execTwait c ra s)
  unfold execTwait spw; exact run_framed _ _ _
theorem framed_twaitExpiry {c} {s : State} : Framed s (exec (.twaitExpiry c) s) := by
  show Framed s (execTwaitExpiry c s)
  unfold execTwaitExpiry; exact run_framed _ _ _
theorem framed_impreciseBusst {c} {s : State} : Framed s (exec (.impreciseBusst c) s) := by
  show Framed s (execImpreciseBusst c s)
  unfold execImpreciseBusst; exact run_framed _ _ _
theorem framed_interrupt {c} {s : State} : Framed s (exec (.interrupt c) s) := by
  show Framed s (execInterrupt c s)
  unfold execInterrupt; exact run_framed _ _ _
theorem framed_timerCompare {c} {s : State} : Framed s (exec (.timerCompare c) s) := by
  show Framed s (execTimerCompare c s)
  unfold execTimerCompare; exact run_framed _ _ _
theorem framed_halt {m} {c} {s : State} : Framed s (exec (.halt m c) s) := by
  show Framed s (execHalt m c s)
  unfold execHalt; exact run_framed _ _ _
theorem framed_resume {m} {c} {s : State} : Framed s (exec (.resume m c) s) := by
  show Framed s (execResume m c s)
  unfold execResume; exact run_framed _ _ _
theorem framed_coreStep {m} {c} {s : State} : Framed s (exec (.coreStep m c) s) := by
  show Framed s (execCoreStep m c s)
  unfold execCoreStep; exact run_framed _ _ _
theorem framed_coreReset {m} {c} {s : State} : Framed s (exec (.coreReset m c) s) := by
  show Framed s (execCoreReset m c s)
  unfold execCoreReset; exact run_framed _ _ _
theorem framed_alloc {c} {s : State} : Framed s (exec (.alloc c) s) := by
  show Framed s (execAlloc c s)
  unfold execAlloc; exact run_framed _ _ _
theorem framed_dispFree {c} {d} {s : State} : Framed s (exec (.dispFree c d) s) := by
  show Framed s (execDispFree c d s)
  unfold execDispFree; exact run_framed _ _ _
theorem framed_dispArm {c} {d} {s : State} : Framed s (exec (.dispArm c d) s) := by
  show Framed s (execDispArm c d s)
  unfold execDispArm; exact run_framed _ _ _
theorem framed_cancel {c} {d} {s : State} : Framed s (exec (.cancel c d) s) := by
  show Framed s (execCancel c d s)
  unfold execCancel; exact run_framed _ _ _
theorem framed_post {c} {d} {slot} {s : State} : Framed s (exec (.post c d slot) s) := by
  show Framed s (execPost c d slot s)
  unfold execPost; exact run_framed _ _ _
theorem framed_prio {c} {d} {s : State} : Framed s (exec (.prio c d) s) := by
  show Framed s (execPrio c d s)
  unfold execPrio; exact run_framed _ _ _
theorem framed_tokenMatch {s : State} : Framed s (exec (.tokenMatch) s) := by
  show Framed s (execTokenMatch s)
  unfold execTokenMatch; exact run_framed _ _ _
theorem framed_delayRelease {s : State} : Framed s (exec (.delayRelease) s) := by
  show Framed s (execDelayRelease s)
  unfold execDelayRelease; exact run_framed _ _ _
theorem framed_taskDispatch {c} {s : State} : Framed s (exec (.taskDispatch c) s) := by
  show Framed s (execTaskDispatch c s)
  unfold execTaskDispatch; exact run_framed _ _ _
theorem framed_join {m} {c} {s : State} : Framed s (exec (.join m c) s) := by
  show Framed s (execJoin m c s)
  unfold execJoin; exact run_framed _ _ _
theorem framed_leave {m} {c} {s : State} : Framed s (exec (.leave m c) s) := by
  show Framed s (execLeave m c s)
  unfold execLeave; exact run_framed _ _ _
theorem framed_hwmclr {m} {s : State} : Framed s (exec (.hwmclr m) s) := by
  show Framed s (execHwmclr m s)
  unfold execHwmclr; exact run_framed _ _ _
theorem framed_islandTick {sealA} {sealB} {rbh} {rbl} {s : State} : Framed s (exec (.islandTick sealA sealB rbh rbl) s) := by
  show Framed s (execIslandTick sealA sealB rbh rbl s)
  unfold execIslandTick; exact run_framed _ _ _
theorem framed_islandSilence {s : State} : Framed s (exec (.islandSilence) s) := by
  show Framed s (execIslandSilence s)
  unfold execIslandSilence; exact run_framed _ _ _
theorem framed_safeInputSample {a} {b} {s : State} : Framed s (exec (.safeInputSample a b) s) := by
  show Framed s (execSafeInputSample a b s)
  unfold execSafeInputSample; exact run_framed _ _ _
theorem framed_testPulse {j} {preA} {preB} {chkA} {chkB} {postA} {postB} {s : State} : Framed s (exec (.testPulse j preA preB chkA chkB postA postB) s) := by
  show Framed s (execTestPulse j preA preB chkA chkB postA postB s)
  unfold execTestPulse; exact run_framed _ _ _
theorem framed_lockstepMismatch {s : State} : Framed s (exec (.lockstepMismatch) s) := by
  show Framed s (execLockstepMismatch s)
  unfold execLockstepMismatch; exact run_framed _ _ _
theorem framed_tickWindow {ticks} {s : State} : Framed s (exec (.tickWindow ticks) s) := by
  show Framed s (execTickWindow ticks s)
  unfold execTickWindow; exact run_framed _ _ _
theorem framed_islandPowerUp {s : State} : Framed s (exec (.islandPowerUp) s) := by
  show Framed s (execIslandPowerUp s)
  unfold execIslandPowerUp; exact run_framed _ _ _
theorem framed_islandStartDone {pass} {s : State} : Framed s (exec (.islandStartDone pass) s) := by
  show Framed s (execIslandStartDone pass s)
  unfold execIslandStartDone; exact run_framed _ _ _
theorem framed_configWriteDone {s : State} : Framed s (exec (.configWriteDone) s) := by
  show Framed s (execConfigWriteDone s)
  unfold execConfigWriteDone; exact run_framed _ _ _
theorem framed_switchTest {o} {hsClosed} {hsOpen} {lsClosed} {lsOpen} {s : State} : Framed s (exec (.switchTest o hsClosed hsOpen lsClosed lsOpen) s) := by
  show Framed s (execSwitchTest o hsClosed hsOpen lsClosed lsOpen s)
  unfold execSwitchTest; exact run_framed _ _ _
theorem framed_telegramSend {c} {s : State} : Framed s (exec (.telegramSend c) s) := by
  show Framed s (execTelegramSend c s)
  unfold execTelegramSend; exact run_framed _ _ _
theorem framed_telegram {net} {bs} {s : State} : Framed s (exec (.telegram net bs) s) := by
  show Framed s (execTelegram net bs s)
  unfold execTelegram; exact run_framed _ _ _
theorem framed_connectionTimeout {c} {s : State} : Framed s (exec (.connectionTimeout c) s) := by
  show Framed s (execConnectionTimeout c s)
  unfold execConnectionTimeout; exact run_framed _ _ _
theorem framed_closeMsg {n} {k} {seq} {crc} {outs} {mode} {epoch} {swap} {mirrors} {s : State} : Framed s (exec (.closeMsg n k seq crc outs mode epoch swap mirrors) s) := by
  show Framed s (execClose n k seq crc outs mode epoch swap mirrors s)
  unfold execClose; exact run_framed _ _ _
theorem framed_item {src} {stamp} {seq} {k} {s : State} : Framed s (exec (.item src stamp seq k) s) := by
  show Framed s (execItem src stamp seq k s)
  unfold execItem; exact run_framed _ _ _
theorem framed_fwd {src} {stamp} {k} {outs} {s : State} : Framed s (exec (.fwd src stamp k outs) s) := by
  show Framed s (execFwd src stamp k outs s)
  unfold execFwd; exact run_framed _ _ _
theorem framed_hbeat {n} {inStep} {s : State} : Framed s (exec (.hbeat n inStep) s) := by
  show Framed s (execHbeat n inStep s)
  unfold execHbeat; exact run_framed _ _ _
theorem framed_digest {n} {d} {s : State} : Framed s (exec (.digest n d) s) := by
  show Framed s (execDigest n d s)
  unfold execDigest; exact run_framed _ _ _
theorem framed_digestForm {s : State} : Framed s (exec (.digestForm) s) := by
  show Framed s (execDigestForm s)
  unfold execDigestForm; exact run_framed _ _ _
theorem framed_heartbeatMiss {s : State} : Framed s (exec (.heartbeatMiss) s) := by
  show Framed s (execHeartbeatMiss s)
  unfold execHeartbeatMiss; exact run_framed _ _ _
theorem framed_takeover {s : State} : Framed s (exec (.takeover) s) := by
  show Framed s (execTakeover s)
  unfold execTakeover; exact run_framed _ _ _
theorem framed_leaderStall {s : State} : Framed s (exec (.leaderStall) s) := by
  show Framed s (execLeaderStall s)
  unfold execLeaderStall; exact run_framed _ _ _
theorem framed_ownsnsFall {levels} {s : State} : Framed s (exec (.ownsnsFall levels) s) := by
  show Framed s (execOwnsnsFall levels s)
  unfold execOwnsnsFall; exact run_framed _ _ _
theorem framed_laneDown {lane} {s : State} : Framed s (exec (.laneDown lane) s) := by
  show Framed s (execLaneDown lane s)
  unfold execLaneDown; exact run_framed _ _ _
theorem framed_twinHello {pair} {h} {dly0} {dly1} {s : State} : Framed s (exec (.twinHello pair h dly0 dly1) s) := by
  show Framed s (execTwinHello pair h dly0 dly1 s)
  unfold execTwinHello; exact run_framed _ _ _
theorem framed_twinSwap {m} {s : State} : Framed s (exec (.twinSwap m) s) := by
  show Framed s (execTwinSwap m s)
  unfold execTwinSwap twinCmdBy; exact run_framed _ _ _
theorem framed_swapHandover {s : State} : Framed s (exec (.swapHandover) s) := by
  show Framed s (execSwapHandover s)
  unfold execSwapHandover; exact run_framed _ _ _
theorem framed_twinResync {m} {s : State} : Framed s (exec (.twinResync m) s) := by
  show Framed s (execTwinResync m s)
  unfold execTwinResync twinCmdBy; exact run_framed _ _ _
theorem framed_abortrs {m} {s : State} : Framed s (exec (.abortrs m) s) := by
  show Framed s (execAbortrs m s)
  unfold execAbortrs twinCmdBy; exact run_framed _ _ _
theorem framed_state {phase} {mib} {rounds} {cut} {parts} {s : State} : Framed s (exec (.state phase mib rounds cut parts) s) := by
  show Framed s (execState phase mib rounds cut parts s)
  unfold execState; exact run_framed _ _ _
theorem framed_resyncCut {s : State} : Framed s (exec (.resyncCut) s) := by
  show Framed s (execResyncCut s)
  unfold execResyncCut; exact run_framed _ _ _
theorem framed_resyncTimeout {s : State} : Framed s (exec (.resyncTimeout) s) := by
  show Framed s (execResyncTimeout s)
  unfold execResyncTimeout; exact run_framed _ _ _
theorem framed_anchorTakeback {g} {s : State} : Framed s (exec (.anchorTakeback g) s) := by
  show Framed s (execAnchorTakeback g s)
  unfold execAnchorTakeback; exact run_framed _ _ _
theorem framed_modeRequest {target} {role} {id} {s : State} : Framed s (exec (.modeRequest target role id) s) := by
  show Framed s (execModeRequest target role id s)
  unfold execModeRequest; exact run_framed _ _ _
theorem framed_modeTransition {s : State} : Framed s (exec (.modeTransition) s) := by
  show Framed s (execModeTransition s)
  unfold execModeTransition; exact run_framed _ _ _
theorem framed_reboot {role} {s : State} : Framed s (exec (.reboot role) s) := by
  show Framed s (execReboot role s)
  unfold execReboot; exact run_framed _ _ _
theorem framed_safeTrigger {cause} {s : State} : Framed s (exec (.safeTrigger cause) s) := by
  show Framed s (execSafeTrigger cause s)
  unfold execSafeTrigger; exact run_framed _ _ _
theorem framed_braceEntry {s : State} : Framed s (exec (.braceEntry) s) := by
  show Framed s (execBraceEntry s)
  unfold execBraceEntry; exact run_framed _ _ _
theorem framed_braceExit {s : State} : Framed s (exec (.braceExit) s) := by
  show Framed s (execBraceExit s)
  unfold execBraceExit; exact run_framed _ _ _
theorem framed_d0PowerGood {low} {s : State} : Framed s (exec (.d0PowerGood low) s) := by
  show Framed s (execD0PowerGood low s)
  unfold execD0PowerGood; exact runAlways_framed _ _ _
theorem framed_seedEnd {s : State} : Framed s (exec (.seedEnd) s) := by
  show Framed s (execSeedEnd s)
  unfold execSeedEnd; exact run_framed _ _ _
theorem framed_nresetAccept {s : State} : Framed s (exec (.nresetAccept) s) := by
  show Framed s (execNresetAccept s)
  unfold execNresetAccept; exact run_framed _ _ _
theorem framed_nresetRelease {s : State} : Framed s (exec (.nresetRelease) s) := by
  show Framed s (execNresetRelease s)
  unfold execNresetRelease; exact run_framed _ _ _
theorem framed_nresetStuck {s : State} : Framed s (exec (.nresetStuck) s) := by
  show Framed s (execNresetStuck s)
  unfold execNresetStuck; exact run_framed _ _ _
theorem framed_blockSoftReset {b} {role} {s : State} : Framed s (exec (.blockSoftReset b role) s) := by
  show Framed s (execBlockSoftReset b role s)
  unfold execBlockSoftReset; exact run_framed _ _ _
theorem framed_feedMeasure {va} {ca} {vb} {cb} {rails} {banks} {s : State} : Framed s (exec (.feedMeasure va ca vb cb rails banks) s) := by
  show Framed s (execFeedMeasure va ca vb cb rails banks s)
  unfold execFeedMeasure; exact run_framed _ _ _
theorem framed_feedLow {f} {s : State} : Framed s (exec (.feedLow f) s) := by
  show Framed s (execFeedLow f s)
  unfold execFeedLow; exact run_framed _ _ _
theorem framed_feedPresent {f} {s : State} : Framed s (exec (.feedPresent f) s) := by
  show Framed s (execFeedPresent f s)
  unfold execFeedPresent; exact run_framed _ _ _
theorem framed_feedOvervoltage {f} {s : State} : Framed s (exec (.feedOvervoltage f) s) := by
  show Framed s (execFeedOvervoltage f s)
  unfold execFeedOvervoltage; exact run_framed _ _ _
theorem framed_supplyWarning {s : State} : Framed s (exec (.supplyWarning) s) := by
  show Framed s (execSupplyWarning s)
  unfold execSupplyWarning; exact run_framed _ _ _
theorem framed_retentionCommitDone {s : State} : Framed s (exec (.retentionCommitDone) s) := by
  show Framed s (execRetentionCommitDone s)
  unfold execRetentionCommitDone; exact run_framed _ _ _
theorem framed_warningDeassert {mv} {s : State} : Framed s (exec (.warningDeassert mv) s) := by
  show Framed s (execWarningDeassert mv s)
  unfold execWarningDeassert; exact run_framed _ _ _
theorem framed_feedReset {mv} {s : State} : Framed s (exec (.feedReset mv) s) := by
  show Framed s (execFeedReset mv s)
  unfold execFeedReset; exact run_framed _ _ _
theorem framed_dark {s : State} : Framed s (exec (.dark) s) := by
  show Framed s (execDark s)
  unfold execDark; exact run_framed _ _ _
theorem framed_domainFault {d} {cause} {s : State} : Framed s (exec (.domainFault d cause) s) := by
  show Framed s (execDomainFault d cause s)
  unfold execDomainFault; exact run_framed _ _ _
theorem framed_domainSwitch {m} {en} {s : State} : Framed s (exec (.domainSwitch m en) s) := by
  show Framed s (execDomainSwitch m en s)
  unfold execDomainSwitch; exact run_framed _ _ _
theorem framed_vioLow {k} {s : State} : Framed s (exec (.vioLow k) s) := by
  show Framed s (execVioLow k s)
  unfold execVioLow; exact run_framed _ _ _
theorem framed_peakclr {m} {s : State} : Framed s (exec (.peakclr m) s) := by
  show Framed s (execPeakclr m s)
  unfold execPeakclr; exact run_framed _ _ _
theorem framed_hostPacketRx {p} {good} {sess} {cookie} {seq} {len} {op} {s : State} : Framed s (exec (.hostPacketRx p good sess cookie seq len op) s) := by
  show Framed s (execHostPacketRx p good sess cookie seq len op s)
  unfold execHostPacketRx; exact run_framed _ _ _
theorem framed_openReq {port} {peer} {seq} {role} {proof} {s : State} : Framed s (exec (.openReq port peer seq role proof) s) := by
  show Framed s (execOpen port peer seq role proof s)
  unfold execOpen; exact run_framed _ _ _
theorem framed_hostClose {n} {seq} {order} {s : State} : Framed s (exec (.hostClose n seq order) s) := by
  show Framed s (execHostClose n seq order s)
  unfold execHostClose hostReq; exact run_framed _ _ _
theorem framed_ping {n} {seq} {order} {s : State} : Framed s (exec (.ping n seq order) s) := by
  show Framed s (execPing n seq order s)
  unfold execPing hostReq; exact run_framed _ _ _
theorem framed_read {n} {seq} {order} {a} {k} {s : State} : Framed s (exec (.read n seq order a k) s) := by
  show Framed s (execRead n seq order a k s)
  unfold execRead; exact run_framed _ _ _
theorem framed_write {n} {seq} {order} {a} {ws} {s : State} : Framed s (exec (.write n seq order a ws) s) := by
  show Framed s (execWrite n seq order a ws s)
  unfold execWrite; exact run_framed _ _ _
theorem framed_mbxread {n} {seq} {order} {blk} {item} {index} {s : State} : Framed s (exec (.mbxread n seq order blk item index) s) := by
  show Framed s (execMbxread n seq order blk item index s)
  unfold execMbxread hostReq; exact run_framed _ _ _
theorem framed_sigread {n} {seq} {order} {sid} {k} {s : State} : Framed s (exec (.sigread n seq order sid k) s) := by
  show Framed s (execSigread n seq order sid k s)
  unfold execSigread hostReq; exact run_framed _ _ _
theorem framed_sigwrite {n} {seq} {order} {sid} {v} {st} {s : State} : Framed s (exec (.sigwrite n seq order sid v st) s) := by
  show Framed s (execSigwrite n seq order sid v st s)
  unfold execSigwrite hostReq; exact run_framed _ _ _
theorem framed_hostMode {n} {seq} {order} {target} {s : State} : Framed s (exec (.hostMode n seq order target) s) := by
  show Framed s (execHostMode n seq order target s)
  unfold execHostMode hostReq; exact run_framed _ _ _
theorem framed_ringread {n} {seq} {order} {ring} {most} {s : State} : Framed s (exec (.ringread n seq order ring most) s) := by
  show Framed s (execRingread n seq order ring most s)
  unfold execRingread hostReq; exact run_framed _ _ _
theorem framed_stropen {n} {seq} {order} {o} {found} {s : State} : Framed s (exec (.stropen n seq order o found) s) := by
  show Framed s (execStropen n seq order o found s)
  unfold execStropen hostReq; exact run_framed _ _ _
theorem framed_strclose {n} {seq} {order} {k} {s : State} : Framed s (exec (.strclose n seq order k) s) := by
  show Framed s (execStrclose n seq order k s)
  unfold execStrclose hostReq; exact run_framed _ _ _
theorem framed_evsub {n} {seq} {order} {sev} {s : State} : Framed s (exec (.evsub n seq order sev) s) := by
  show Framed s (execEvsub n seq order sev s)
  unfold execEvsub hostReq; exact run_framed _ _ _
theorem framed_sessionIdleTimeout {n} {s : State} : Framed s (exec (.sessionIdleTimeout n) s) := by
  show Framed s (execSessionIdleTimeout n s)
  unfold execSessionIdleTimeout; exact run_framed _ _ _
theorem framed_requestTimeout {n} {seq} {s : State} : Framed s (exec (.requestTimeout n seq) s) := by
  show Framed s (execRequestTimeout n seq s)
  unfold execRequestTimeout; exact run_framed _ _ _
theorem framed_destResolveTimeout {k} {s : State} : Framed s (exec (.destResolveTimeout k) s) := by
  show Framed s (execDestResolveTimeout k s)
  unfold execDestResolveTimeout; exact run_framed _ _ _
theorem framed_streamRow {k} {s : State} : Framed s (exec (.streamRow k) s) := by
  show Framed s (execStreamRow k s)
  unfold execStreamRow; exact run_framed _ _ _
theorem framed_streamPacketSend {k} {nrow} {s : State} : Framed s (exec (.streamPacketSend k nrow) s) := by
  show Framed s (execStreamPacketSend k nrow s)
  unfold execStreamPacketSend; exact run_framed _ _ _
theorem framed_streamAck {k} {cum} {naks} {s : State} : Framed s (exec (.streamAck k cum naks) s) := by
  show Framed s (execStreamAck k cum naks s)
  unfold execStreamAck; exact run_framed _ _ _
theorem framed_streamRetransmit {k} {s : State} : Framed s (exec (.streamRetransmit k) s) := by
  show Framed s (execStreamRetransmit k s)
  unfold execStreamRetransmit; exact run_framed _ _ _
theorem framed_streamForceClose {m} {k} {s : State} : Framed s (exec (.streamForceClose m k) s) := by
  show Framed s (execStreamForceClose m k s)
  unfold execStreamForceClose; exact run_framed _ _ _
theorem framed_eventOccurrence {s : State} : Framed s (exec (.eventOccurrence) s) := by
  show Framed s (execEventOccurrence s)
  unfold execEventOccurrence; exact run_framed _ _ _
theorem framed_fumaroleWindowClose {s : State} : Framed s (exec (.fumaroleWindowClose) s) := by
  show Framed s (execFumaroleWindowClose s)
  unfold execFumaroleWindowClose; exact run_framed _ _ _
theorem framed_fumaroleKeyExpiry {s : State} : Framed s (exec (.fumaroleKeyExpiry) s) := by
  show Framed s (execFumaroleKeyExpiry s)
  unfold execFumaroleKeyExpiry; exact run_framed _ _ _
theorem framed_eventRecordWrite {s : State} : Framed s (exec (.eventRecordWrite) s) := by
  show Framed s (execEventRecordWrite s)
  unfold execEventRecordWrite; exact run_framed _ _ _
theorem framed_repeatWriteback {s : State} : Framed s (exec (.repeatWriteback) s) := by
  show Framed s (execRepeatWriteback s)
  unfold execRepeatWriteback; exact run_framed _ _ _
theorem framed_safeMirrorRead {s : State} : Framed s (exec (.safeMirrorRead) s) := by
  show Framed s (execSafeMirrorRead s)
  unfold execSafeMirrorRead; exact run_framed _ _ _
theorem framed_tempSample {t} {s : State} : Framed s (exec (.tempSample t) s) := by
  show Framed s (execTempSample t s)
  unfold execTempSample; exact run_framed _ _ _
theorem framed_tavgUpdate {s : State} : Framed s (exec (.tavgUpdate) s) := by
  show Framed s (execTavgUpdate s)
  unfold execTavgUpdate; exact run_framed _ _ _
theorem framed_ageingUpdate {ro} {em} {mw} {s : State} : Framed s (exec (.ageingUpdate ro em mw) s) := by
  show Framed s (execAgeingUpdate ro em mw s)
  unfold execAgeingUpdate; exact run_framed _ _ _
theorem framed_queryTimeout {s : State} : Framed s (exec (.queryTimeout) s) := by
  show Framed s (execQueryTimeout s)
  unfold execQueryTimeout; exact run_framed _ _ _
theorem framed_kick {m} {s : State} : Framed s (exec (.kick m) s) := by
  show Framed s (execKick m s)
  unfold execKick; exact run_framed _ _ _
theorem framed_keeperWatchdog {s : State} : Framed s (exec (.keeperWatchdog) s) := by
  show Framed s (execKeeperWatchdog s)
  unfold execKeeperWatchdog; exact run_framed _ _ _
theorem framed_credSet {m} {role} {s : State} : Framed s (exec (.credSet m role) s) := by
  show Framed s (execCredSet m role s)
  unfold execCredSet; exact run_framed _ _ _
theorem framed_lockoutExpiry {s : State} : Framed s (exec (.lockoutExpiry) s) := by
  show Framed s (execLockoutExpiry s)
  unfold execLockoutExpiry; exact run_framed _ _ _
theorem framed_mgmtPacketRx {n} {cookie} {seq} {order} {op} {s : State} : Framed s (exec (.mgmtPacketRx n cookie seq order op) s) := by
  show Framed s (execMgmtPacketRx n cookie seq order op s)
  unfold execMgmtPacketRx; exact run_framed _ _ _
theorem framed_monitorLine {cs} {s : State} : Framed s (exec (.monitorLine cs) s) := by
  show Framed s (execMonitorLine cs s)
  unfold execMonitorLine monRun; exact run_framed _ _ _
theorem framed_monLogin {r} {s : State} : Framed s (exec (.monLogin r) s) := by
  show Framed s (execMonLogin r s)
  unfold execMonLogin monRun; exact run_framed _ _ _
theorem framed_auth {resp} {s : State} : Framed s (exec (.auth resp) s) := by
  show Framed s (execAuth resp s)
  unfold execAuth monRun; exact run_framed _ _ _
theorem framed_logout {s : State} : Framed s (exec (.logout) s) := by
  show Framed s (execLogout s)
  unfold execLogout monRun; exact run_framed _ _ _
theorem framed_monMode {target} {s : State} : Framed s (exec (.monMode target) s) := by
  show Framed s (execMonMode target s)
  unfold execMonMode monRun; exact run_framed _ _ _
theorem framed_peek {a} {words} {s : State} : Framed s (exec (.peek a words) s) := by
  show Framed s (execPeek a words s)
  unfold execPeek monRun; exact run_framed _ _ _
theorem framed_poke {a} {v} {s : State} : Framed s (exec (.poke a v) s) := by
  show Framed s (execPoke a v s)
  unfold execPoke monRun; exact run_framed _ _ _
theorem framed_log {n} {sev} {keel} {s : State} : Framed s (exec (.log n sev keel) s) := by
  show Framed s (execLog n sev keel s)
  unfold execLog monRun; exact run_framed _ _ _
theorem framed_sense {s : State} : Framed s (exec (.sense) s) := by
  show Framed s (execSense s)
  unfold execSense monRun; exact run_framed _ _ _
theorem framed_time {s : State} : Framed s (exec (.time) s) := by
  show Framed s (execTime s)
  unfold execTime monRun; exact run_framed _ _ _
theorem framed_twin {s : State} : Framed s (exec (.twin) s) := by
  show Framed s (execTwin s)
  unfold execTwin monRun; exact run_framed _ _ _
theorem framed_updateStatus {s : State} : Framed s (exec (.updateStatus) s) := by
  show Framed s (execUpdateStatus s)
  unfold execUpdateStatus monRun; exact run_framed _ _ _
theorem framed_updateData {ofs} {bs} {s : State} : Framed s (exec (.updateData ofs bs) s) := by
  show Framed s (execUpdateData ofs bs s)
  unfold execUpdateData monRun; exact run_framed _ _ _
theorem framed_baud {rate} {s : State} : Framed s (exec (.baud rate) s) := by
  show Framed s (execBaud rate s)
  unfold execBaud monRun; exact run_framed _ _ _
theorem framed_help {c} {s : State} : Framed s (exec (.help c) s) := by
  show Framed s (execHelp c s)
  unfold execHelp monRun; exact run_framed _ _ _
theorem framed_monitorIdleTimeout {s : State} : Framed s (exec (.monitorIdleTimeout) s) := by
  show Framed s (execMonitorIdleTimeout s)
  unfold execMonitorIdleTimeout; exact run_framed _ _ _
theorem framed_begin {m} {s : State} : Framed s (exec (.begin m) s) := by
  show Framed s (execBegin m s)
  unfold execBegin updCmdBy; exact run_framed _ _ _
theorem framed_chunk {m} {s : State} : Framed s (exec (.chunk m) s) := by
  show Framed s (execChunk m s)
  unfold execChunk updCmdBy; exact run_framed _ _ _
theorem framed_finish {m} {s : State} : Framed s (exec (.finish m) s) := by
  show Framed s (execFinish m s)
  unfold execFinish updCmdBy; exact run_framed _ _ _
theorem framed_activate {m} {s : State} : Framed s (exec (.activate m) s) := by
  show Framed s (execActivate m s)
  unfold execActivate updCmdBy; exact run_framed _ _ _
theorem framed_confirm {m} {s : State} : Framed s (exec (.confirm m) s) := by
  show Framed s (execConfirm m s)
  unfold execConfirm updCmdBy; exact run_framed _ _ _
theorem framed_updCancel {m} {s : State} : Framed s (exec (.updCancel m) s) := by
  show Framed s (execUpdCancel m s)
  unfold execUpdCancel updCmdBy; exact run_framed _ _ _
theorem framed_trialHealthCheck {s : State} : Framed s (exec (.trialHealthCheck) s) := by
  show Framed s (execTrialHealthCheck s)
  unfold execTrialHealthCheck; exact run_framed _ _ _
theorem framed_trialFallback {s : State} : Framed s (exec (.trialFallback) s) := by
  show Framed s (execTrialFallback s)
  unfold execTrialFallback; exact run_framed _ _ _
theorem framed_save {m} {s : State} : Framed s (exec (.save m) s) := by
  show Framed s (execSave m s)
  unfold execSave nvmCmdBy; exact run_framed _ _ _
theorem framed_eraseLog {m} {s : State} : Framed s (exec (.eraseLog m) s) := by
  show Framed s (execEraseLog m s)
  unfold execEraseLog nvmCmdBy; exact run_framed _ _ _
theorem framed_eraseRet {m} {s : State} : Framed s (exec (.eraseRet m) s) := by
  show Framed s (execEraseRet m s)
  unfold execEraseRet nvmCmdBy; exact run_framed _ _ _
theorem framed_eraseDev {m} {s : State} : Framed s (exec (.eraseDev m) s) := by
  show Framed s (execEraseDev m s)
  unfold execEraseDev nvmCmdBy; exact run_framed _ _ _
theorem framed_eraseAge {m} {s : State} : Framed s (exec (.eraseAge m) s) := by
  show Framed s (execEraseAge m s)
  unfold execEraseAge nvmCmdBy; exact run_framed _ _ _
theorem framed_nvmCmdDone {s : State} : Framed s (exec (.nvmCmdDone) s) := by
  show Framed s (execNvmCmdDone s)
  unfold execNvmCmdDone; exact run_framed _ _ _
theorem framed_pwmOnEnd {k} {s : State} : Framed s (exec (.pwmOnEnd k) s) := by
  show Framed s (execPwmOnEnd k s)
  unfold execPwmOnEnd; exact run_framed _ _ _
theorem framed_blankingWindowClose {k} {s : State} : Framed s (exec (.blankingWindowClose k) s) := by
  show Framed s (execBlankingWindowClose k s)
  unfold execBlankingWindowClose; exact run_framed _ _ _
theorem framed_feedOvervoltageEnd {f} {s : State} : Framed s (exec (.feedOvervoltageEnd f) s) := by
  show Framed s (execFeedOvervoltageEnd f s)
  unfold execFeedOvervoltageEnd; exact run_framed _ _ _
theorem framed_hostLinkChange {p} {up} {fast} {fec} {s : State} : Framed s (exec (.hostLinkChange p up fast fec) s) := by
  show Framed s (execHostLinkChange p up fast fec s)
  unfold execHostLinkChange; exact run_framed _ _ _
theorem framed_illegalInstruction {c} {w} {s : State} : Framed s (exec (.illegalInstruction c w) s) := by
  show Framed s (execIllegalInstruction c w s)
  unfold execIllegalInstruction; (repeat (first | exact run_framed _ _ _ | unfold spw | split))
theorem framed_seedStepDone {ok} {flt} {cause} {s : State} : Framed s (exec (.seedStepDone ok flt cause) s) := by
  show Framed s (execSeedStepDone ok flt cause s)
  unfold execSeedStepDone; exact run_framed _ _ _
theorem framed_nresetRearm {s : State} : Framed s (exec (.nresetRearm) s) := by
  show Framed s (execNresetRearm s)
  unfold execNresetRearm; exact run_framed _ _ _
theorem framed_updCmdDone {ok} {s : State} : Framed s (exec (.updCmdDone ok) s) := by
  show Framed s (execUpdCmdDone ok s)
  unfold execUpdCmdDone; exact run_framed _ _ _

theorem exec_framed (c : Instr) (s : State) : Framed s (exec c s) := by
  cases c
  · exact framed_baseTick
  · exact framed_conservationCheck
  · exact framed_uncorrectableMemoryError
  · exact framed_tokenTaken
  · exact framed_registerWrite
  · exact framed_bitAliasWrite
  · exact framed_lockSet
  · exact framed_snapGo
  · exact framed_snapComplete
  · exact framed_mbxRequest
  · exact framed_mbxCaptureDone
  · exact framed_mbxLastWordRead
  · exact framed_mbxExpiry
  · exact framed_windowDescriptorWrite
  · exact framed_clockWindow
  · exact framed_tbRefSwitch
  · exact framed_tbRefReturn
  · exact framed_pllUnlock
  · exact framed_timeIncrWrite
  · exact framed_timeIncrAltWrite
  · exact framed_timeAltcntWrite
  · exact framed_altstop
  · exact framed_incrementTakesEffect
  · exact framed_alternateIncrementEnd
  · exact framed_step
  · exact framed_timeStepEdge
  · exact framed_ptpIngressStamp
  · exact framed_ptpEgressStamp
  · exact framed_ptpSyncReceived
  · exact framed_beaconArm
  · exact framed_beaconDisarm
  · exact framed_beaconEdge
  · exact framed_beaconTrailingEdge
  · exact framed_trigEdge
  · exact framed_trigAccept
  · exact framed_rcpStart
  · exact framed_rcpAbort
  · exact framed_rcpClear
  · exact framed_stepTimeout
  · exact framed_stepCommit
  · exact framed_rcpLoadGo
  · exact framed_rcpLoadDone
  · exact framed_journalWrite
  · exact framed_rcpResumeGo
  · exact framed_resumeDecision
  · exact framed_resumeTwaitExpiry
  · exact framed_loopBind
  · exact framed_loopUnbind
  · exact framed_loopCheck
  · exact framed_loopCheckDone
  · exact framed_laneFrameStart
  · exact framed_loopPeriodStart
  · exact framed_loopExecution
  · exact framed_loopRelease
  · exact framed_loopDeadlineFault
  · exact framed_lensArm
  · exact framed_lensDisarm
  · exact framed_lensForce
  · exact framed_calBlock
  · exact framed_calFeedforward
  · exact framed_calRestart
  · exact framed_calSample
  · exact framed_calSampleDone
  · exact framed_rfChannelDisable
  · exact framed_toneItem
  · exact framed_arcAssert
  · exact framed_arcDeassert
  · exact framed_acqLoad
  · exact framed_acqUnload
  · exact framed_acqArm
  · exact framed_acqArmToken
  · exact framed_acqDisarm
  · exact framed_acqForce
  · exact framed_acqTrigger
  · exact framed_segmentComplete
  · exact framed_segmentRearm
  · exact framed_acqRelease
  · exact framed_acqQueueOverflow
  · exact framed_scanTrigger
  · exact framed_swtrig
  · exact framed_conversionComplete
  · exact framed_diagRequest
  · exact framed_diagComplete
  · exact framed_dacCodeWrite
  · exact framed_dacLoad
  · exact framed_rioDisc
  · exact framed_drep
  · exact framed_discoveryEnd
  · exact framed_cack
  · exact framed_hello
  · exact framed_rioStart
  · exact framed_rioStop
  · exact framed_rioCycleStart
  · exact framed_ifr
  · exact framed_cycleClose
  · exact framed_pwmCommit
  · exact framed_shadowWrite
  · exact framed_pwmReload
  · exact framed_pwmRestart
  · exact framed_tripAssert
  · exact framed_latchoffClear
  · exact framed_swsCrossing
  · exact framed_deadTimeEnd
  · exact framed_compareFire
  · exact framed_staticLevelWrite
  · exact framed_fastCut
  · exact framed_fastCutClear
  · exact framed_movePush
  · exact framed_axisStop
  · exact framed_fclr
  · exact framed_setpos
  · exact framed_stepIssue
  · exact framed_drivePeriod
  · exact framed_holdCurrent
  · exact framed_stallDetect
  · exact framed_axisFault
  · exact framed_canFrameRx
  · exact framed_txreq
  · exact framed_canAbort
  · exact framed_canTxComplete
  · exact framed_canTxTimeout
  · exact framed_errorPassive
  · exact framed_busOff
  · exact framed_recover
  · exact framed_canRecoveryDone
  · exact framed_canRxTimeout
  · exact framed_cyclicTaskStart
  · exact framed_errmaxExpiry
  · exact framed_evtGo
  · exact framed_taskPublish
  · exact framed_taskOverrun
  · exact framed_programLoad
  · exact framed_programLoadDone
  · exact framed_exchange
  · exact framed_exchangeFreeze
  · exact framed_exchangeMigrate
  · exact framed_migrationDone
  · exact framed_exchangeDurable
  · exact framed_cold
  · exact framed_discard
  · exact framed_retentionSetLogged
  · exact framed_redoApply
  · exact framed_add
  · exact framed_sub
  · exact framed_and
  · exact framed_or
  · exact framed_xor
  · exact framed_andn
  · exact framed_sll
  · exact framed_srl
  · exact framed_sra
  · exact framed_slt
  · exact framed_sltu
  · exact framed_min
  · exact framed_max
  · exact framed_clz
  · exact framed_sextb
  · exact framed_sexth
  · exact framed_mul
  · exact framed_mulh
  · exact framed_mulhu
  · exact framed_div
  · exact framed_divu
  · exact framed_rem
  · exact framed_remu
  · exact framed_slli
  · exact framed_srli
  · exact framed_srai
  · exact framed_addi
  · exact framed_andi
  · exact framed_ori
  · exact framed_xori
  · exact framed_slti
  · exact framed_sltiu
  · exact framed_lui
  · exact framed_lw
  · exact framed_lh
  · exact framed_lhu
  · exact framed_lb
  · exact framed_lbu
  · exact framed_sw
  · exact framed_sh
  · exact framed_sb
  · exact framed_ld
  · exact framed_sd
  · exact framed_beq
  · exact framed_bne
  · exact framed_blt
  · exact framed_bge
  · exact framed_bltu
  · exact framed_bgeu
  · exact framed_jal
  · exact framed_jalr
  · exact framed_qadd
  · exact framed_qsub
  · exact framed_qneg
  · exact framed_qabs
  · exact framed_qmul
  · exact framed_qmac
  · exact framed_qmulx
  · exact framed_qmacx
  · exact framed_qshl
  · exact framed_qshr
  · exact framed_qlim
  · exact framed_qxq
  · exact framed_qqx
  · exact framed_fadd
  · exact framed_fsub
  · exact framed_fmul
  · exact framed_fdiv
  · exact framed_fsqrt
  · exact framed_fmadd
  · exact framed_fmin
  · exact framed_fmax
  · exact framed_fneg
  · exact framed_fabs
  · exact framed_fcmpeq
  · exact framed_fcmplt
  · exact framed_fcmple
  · exact framed_fcvtws
  · exact framed_fcvtsw
  · exact framed_fcvtqs
  · exact framed_fcvtsq
  · exact framed_swap
  · exact framed_aadd
  · exact framed_fence
  · exact framed_fenceAcq
  · exact framed_fenceRel
  · exact framed_fenceI
  · exact framed_mfcr
  · exact framed_mtcr
  · exact framed_svreq
  · exact framed_dbgreq
  · exact framed_xret
  · exact framed_waiti
  · exact framed_waitiWake
  · exact framed_tpost
  · exact framed_ttake
  · exact framed_tdone
  · exact framed_twait
  · exact framed_twaitExpiry
  · exact framed_impreciseBusst
  · exact framed_interrupt
  · exact framed_timerCompare
  · exact framed_halt
  · exact framed_resume
  · exact framed_coreStep
  · exact framed_coreReset
  · exact framed_alloc
  · exact framed_dispFree
  · exact framed_dispArm
  · exact framed_cancel
  · exact framed_post
  · exact framed_prio
  · exact framed_tokenMatch
  · exact framed_delayRelease
  · exact framed_taskDispatch
  · exact framed_join
  · exact framed_leave
  · exact framed_hwmclr
  · exact framed_islandTick
  · exact framed_islandSilence
  · exact framed_safeInputSample
  · exact framed_testPulse
  · exact framed_lockstepMismatch
  · exact framed_tickWindow
  · exact framed_islandPowerUp
  · exact framed_islandStartDone
  · exact framed_configWriteDone
  · exact framed_switchTest
  · exact framed_telegramSend
  · exact framed_telegram
  · exact framed_connectionTimeout
  · exact framed_closeMsg
  · exact framed_item
  · exact framed_fwd
  · exact framed_hbeat
  · exact framed_digest
  · exact framed_digestForm
  · exact framed_heartbeatMiss
  · exact framed_takeover
  · exact framed_leaderStall
  · exact framed_ownsnsFall
  · exact framed_laneDown
  · exact framed_twinHello
  · exact framed_twinSwap
  · exact framed_swapHandover
  · exact framed_twinResync
  · exact framed_abortrs
  · exact framed_state
  · exact framed_resyncCut
  · exact framed_resyncTimeout
  · exact framed_anchorTakeback
  · exact framed_modeRequest
  · exact framed_modeTransition
  · exact framed_reboot
  · exact framed_safeTrigger
  · exact framed_braceEntry
  · exact framed_braceExit
  · exact framed_d0PowerGood
  · exact framed_seedEnd
  · exact framed_nresetAccept
  · exact framed_nresetRelease
  · exact framed_nresetStuck
  · exact framed_blockSoftReset
  · exact framed_feedMeasure
  · exact framed_feedLow
  · exact framed_feedPresent
  · exact framed_feedOvervoltage
  · exact framed_supplyWarning
  · exact framed_retentionCommitDone
  · exact framed_warningDeassert
  · exact framed_feedReset
  · exact framed_dark
  · exact framed_domainFault
  · exact framed_domainSwitch
  · exact framed_vioLow
  · exact framed_peakclr
  · exact framed_hostPacketRx
  · exact framed_openReq
  · exact framed_hostClose
  · exact framed_ping
  · exact framed_read
  · exact framed_write
  · exact framed_mbxread
  · exact framed_sigread
  · exact framed_sigwrite
  · exact framed_hostMode
  · exact framed_ringread
  · exact framed_stropen
  · exact framed_strclose
  · exact framed_evsub
  · exact framed_sessionIdleTimeout
  · exact framed_requestTimeout
  · exact framed_destResolveTimeout
  · exact framed_streamRow
  · exact framed_streamPacketSend
  · exact framed_streamAck
  · exact framed_streamRetransmit
  · exact framed_streamForceClose
  · exact framed_eventOccurrence
  · exact framed_fumaroleWindowClose
  · exact framed_fumaroleKeyExpiry
  · exact framed_eventRecordWrite
  · exact framed_repeatWriteback
  · exact framed_safeMirrorRead
  · exact framed_tempSample
  · exact framed_tavgUpdate
  · exact framed_ageingUpdate
  · exact framed_queryTimeout
  · exact framed_kick
  · exact framed_keeperWatchdog
  · exact framed_credSet
  · exact framed_lockoutExpiry
  · exact framed_mgmtPacketRx
  · exact framed_monitorLine
  · exact framed_monLogin
  · exact framed_auth
  · exact framed_logout
  · exact framed_monMode
  · exact framed_peek
  · exact framed_poke
  · exact framed_log
  · exact framed_sense
  · exact framed_time
  · exact framed_twin
  · exact framed_updateStatus
  · exact framed_updateData
  · exact framed_baud
  · exact framed_help
  · exact framed_monitorIdleTimeout
  · exact framed_begin
  · exact framed_chunk
  · exact framed_finish
  · exact framed_activate
  · exact framed_confirm
  · exact framed_updCancel
  · exact framed_trialHealthCheck
  · exact framed_trialFallback
  · exact framed_save
  · exact framed_eraseLog
  · exact framed_eraseRet
  · exact framed_eraseDev
  · exact framed_eraseAge
  · exact framed_nvmCmdDone
  · exact framed_pwmOnEnd
  · exact framed_blankingWindowClose
  · exact framed_feedOvervoltageEnd
  · exact framed_hostLinkChange
  · exact framed_illegalInstruction
  · exact framed_seedStepDone
  · exact framed_nresetRearm
  · exact framed_updCmdDone

end Sys2Proof.Machine
end

