-- ==== Sys2Proof/Laws/State.lean ====
section
/-!
SUPPORT. What each update of the state leaves as it was: one lemma per field, so that no proof unfolds a record update.
-/
namespace Sys2Proof.Machine

variable (s : State)

@[simp] theorem State.setReg_pending (r : Reg) (w : Word) (ix : List Nat) : (s.setReg r w ix).pending = s.pending := rfl
@[simp] theorem State.setReg_out (r : Reg) (w : Word) (ix : List Nat) : (s.setReg r w ix).out = s.out := rfl
@[simp] theorem State.setReg_hiz (r : Reg) (w : Word) (ix : List Nat) : (s.setReg r w ix).hiz = s.hiz := rfl
@[simp] theorem State.setReg_free (r : Reg) (w : Word) (ix : List Nat) : (s.setReg r w ix).free = s.free := rfl
@[simp] theorem State.setReg_mem (r : Reg) (w : Word) (ix : List Nat) : (s.setReg r w ix).mem = s.mem := rfl
@[simp] theorem State.setReg_locked (r : Reg) (w : Word) (ix : List Nat) : (s.setReg r w ix).locked = s.locked := rfl
@[simp] theorem State.setReg_tainted (r : Reg) (w : Word) (ix : List Nat) : (s.setReg r w ix).tainted = s.tainted := rfl
@[simp] theorem State.setReg_stage (r : Reg) (w : Word) (ix : List Nat) : (s.setReg r w ix).stage = s.stage := rfl
@[simp] theorem State.setReg_shadow (r : Reg) (w : Word) (ix : List Nat) : (s.setReg r w ix).shadow = s.shadow := rfl
@[simp] theorem State.setReg_snaps (r : Reg) (w : Word) (ix : List Nat) : (s.setReg r w ix).snaps = s.snaps := rfl
@[simp] theorem State.setReg_mbx (r : Reg) (w : Word) (ix : List Nat) : (s.setReg r w ix).mbx = s.mbx := rfl
@[simp] theorem State.setReg_fab (r : Reg) (w : Word) (ix : List Nat) : (s.setReg r w ix).fab = s.fab := rfl
@[simp] theorem State.setReg_evq (r : Reg) (w : Word) (ix : List Nat) : (s.setReg r w ix).evq = s.evq := rfl
@[simp] theorem State.setReg_tb (r : Reg) (w : Word) (ix : List Nat) : (s.setReg r w ix).tb = s.tb := rfl
@[simp] theorem State.setReg_beacons (r : Reg) (w : Word) (ix : List Nat) : (s.setReg r w ix).beacons = s.beacons := rfl
@[simp] theorem State.setReg_trigs (r : Reg) (w : Word) (ix : List Nat) : (s.setReg r w ix).trigs = s.trigs := rfl
@[simp] theorem State.setReg_ptp (r : Reg) (w : Word) (ix : List Nat) : (s.setReg r w ix).ptp = s.ptp := rfl
@[simp] theorem State.setReg_servo (r : Reg) (w : Word) (ix : List Nat) : (s.setReg r w ix).servo = s.servo := rfl
@[simp] theorem State.setReg_clkIns (r : Reg) (w : Word) (ix : List Nat) : (s.setReg r w ix).clkIns = s.clkIns := rfl
@[simp] theorem State.setReg_tbPll (r : Reg) (w : Word) (ix : List Nat) : (s.setReg r w ix).tbPll = s.tbPll := rfl
@[simp] theorem State.setReg_adm (r : Reg) (w : Word) (ix : List Nat) : (s.setReg r w ix).adm = s.adm := rfl
@[simp] theorem State.setReg_mc (r : Reg) (w : Word) (ix : List Nat) : (s.setReg r w ix).mc = s.mc := rfl
@[simp] theorem State.setReg_rcp (r : Reg) (w : Word) (ix : List Nat) : (s.setReg r w ix).rcp = s.rcp := rfl
@[simp] theorem State.setReg_le (r : Reg) (w : Word) (ix : List Nat) : (s.setReg r w ix).le = s.le := rfl
@[simp] theorem State.setReg_lens (r : Reg) (w : Word) (ix : List Nat) : (s.setReg r w ix).lens = s.lens := rfl
@[simp] theorem State.setReg_rf (r : Reg) (w : Word) (ix : List Nat) : (s.setReg r w ix).rf = s.rf := rfl
@[simp] theorem State.setReg_acq (r : Reg) (w : Word) (ix : List Nat) : (s.setReg r w ix).acq = s.acq := rfl
@[simp] theorem State.setReg_sar (r : Reg) (w : Word) (ix : List Nat) : (s.setReg r w ix).sar = s.sar := rfl
@[simp] theorem State.setReg_pwm (r : Reg) (w : Word) (ix : List Nat) : (s.setReg r w ix).pwm = s.pwm := rfl
@[simp] theorem State.setReg_rio (r : Reg) (w : Word) (ix : List Nat) : (s.setReg r w ix).rio = s.rio := rfl
@[simp] theorem State.setReg_axes (r : Reg) (w : Word) (ix : List Nat) : (s.setReg r w ix).axes = s.axes := rfl
@[simp] theorem State.setReg_can (r : Reg) (w : Word) (ix : List Nat) : (s.setReg r w ix).can = s.can := rfl
@[simp] theorem State.setReg_cores (r : Reg) (w : Word) (ix : List Nat) : (s.setReg r w ix).cores = s.cores := rfl
@[simp] theorem State.setReg_disp (r : Reg) (w : Word) (ix : List Nat) : (s.setReg r w ix).disp = s.disp := rfl
@[simp] theorem State.setReg_rt (r : Reg) (w : Word) (ix : List Nat) : (s.setReg r w ix).rt = s.rt := rfl
@[simp] theorem State.setReg_isl (r : Reg) (w : Word) (ix : List Nat) : (s.setReg r w ix).isl = s.isl := rfl
@[simp] theorem State.setReg_islv (r : Reg) (w : Word) (ix : List Nat) : (s.setReg r w ix).islv = s.islv := rfl
@[simp] theorem State.setReg_twin (r : Reg) (w : Word) (ix : List Nat) : (s.setReg r w ix).twin = s.twin := rfl
@[simp] theorem State.setReg_sessions (r : Reg) (w : Word) (ix : List Nat) : (s.setReg r w ix).sessions = s.sessions := rfl
@[simp] theorem State.setReg_host (r : Reg) (w : Word) (ix : List Nat) : (s.setReg r w ix).host = s.host := rfl
@[simp] theorem State.setReg_kpr (r : Reg) (w : Word) (ix : List Nat) : (s.setReg r w ix).kpr = s.kpr := rfl
@[simp] theorem State.setReg_evl (r : Reg) (w : Word) (ix : List Nat) : (s.setReg r w ix).evl = s.evl := rfl
@[simp] theorem State.setReg_upd (r : Reg) (w : Word) (ix : List Nat) : (s.setReg r w ix).upd = s.upd := rfl
@[simp] theorem State.setReg_pwrs (r : Reg) (w : Word) (ix : List Nat) : (s.setReg r w ix).pwrs = s.pwrs := rfl
@[simp] theorem State.setReg_seed (r : Reg) (w : Word) (ix : List Nat) : (s.setReg r w ix).seed = s.seed := rfl

@[simp] theorem State.setFld_pending (f : Fld) (v : Nat) (ix : List Nat) : (s.setFld f v ix).pending = s.pending := rfl
@[simp] theorem State.setFld_out (f : Fld) (v : Nat) (ix : List Nat) : (s.setFld f v ix).out = s.out := rfl
@[simp] theorem State.setFld_hiz (f : Fld) (v : Nat) (ix : List Nat) : (s.setFld f v ix).hiz = s.hiz := rfl
@[simp] theorem State.setFld_free (f : Fld) (v : Nat) (ix : List Nat) : (s.setFld f v ix).free = s.free := rfl
@[simp] theorem State.setFld_mem (f : Fld) (v : Nat) (ix : List Nat) : (s.setFld f v ix).mem = s.mem := rfl
@[simp] theorem State.setFld_locked (f : Fld) (v : Nat) (ix : List Nat) : (s.setFld f v ix).locked = s.locked := rfl
@[simp] theorem State.setFld_tainted (f : Fld) (v : Nat) (ix : List Nat) : (s.setFld f v ix).tainted = s.tainted := rfl
@[simp] theorem State.setFld_stage (f : Fld) (v : Nat) (ix : List Nat) : (s.setFld f v ix).stage = s.stage := rfl
@[simp] theorem State.setFld_shadow (f : Fld) (v : Nat) (ix : List Nat) : (s.setFld f v ix).shadow = s.shadow := rfl
@[simp] theorem State.setFld_snaps (f : Fld) (v : Nat) (ix : List Nat) : (s.setFld f v ix).snaps = s.snaps := rfl
@[simp] theorem State.setFld_mbx (f : Fld) (v : Nat) (ix : List Nat) : (s.setFld f v ix).mbx = s.mbx := rfl
@[simp] theorem State.setFld_fab (f : Fld) (v : Nat) (ix : List Nat) : (s.setFld f v ix).fab = s.fab := rfl
@[simp] theorem State.setFld_evq (f : Fld) (v : Nat) (ix : List Nat) : (s.setFld f v ix).evq = s.evq := rfl
@[simp] theorem State.setFld_tb (f : Fld) (v : Nat) (ix : List Nat) : (s.setFld f v ix).tb = s.tb := rfl
@[simp] theorem State.setFld_beacons (f : Fld) (v : Nat) (ix : List Nat) : (s.setFld f v ix).beacons = s.beacons := rfl
@[simp] theorem State.setFld_trigs (f : Fld) (v : Nat) (ix : List Nat) : (s.setFld f v ix).trigs = s.trigs := rfl
@[simp] theorem State.setFld_ptp (f : Fld) (v : Nat) (ix : List Nat) : (s.setFld f v ix).ptp = s.ptp := rfl
@[simp] theorem State.setFld_servo (f : Fld) (v : Nat) (ix : List Nat) : (s.setFld f v ix).servo = s.servo := rfl
@[simp] theorem State.setFld_clkIns (f : Fld) (v : Nat) (ix : List Nat) : (s.setFld f v ix).clkIns = s.clkIns := rfl
@[simp] theorem State.setFld_tbPll (f : Fld) (v : Nat) (ix : List Nat) : (s.setFld f v ix).tbPll = s.tbPll := rfl
@[simp] theorem State.setFld_adm (f : Fld) (v : Nat) (ix : List Nat) : (s.setFld f v ix).adm = s.adm := rfl
@[simp] theorem State.setFld_mc (f : Fld) (v : Nat) (ix : List Nat) : (s.setFld f v ix).mc = s.mc := rfl
@[simp] theorem State.setFld_rcp (f : Fld) (v : Nat) (ix : List Nat) : (s.setFld f v ix).rcp = s.rcp := rfl
@[simp] theorem State.setFld_le (f : Fld) (v : Nat) (ix : List Nat) : (s.setFld f v ix).le = s.le := rfl
@[simp] theorem State.setFld_lens (f : Fld) (v : Nat) (ix : List Nat) : (s.setFld f v ix).lens = s.lens := rfl
@[simp] theorem State.setFld_rf (f : Fld) (v : Nat) (ix : List Nat) : (s.setFld f v ix).rf = s.rf := rfl
@[simp] theorem State.setFld_acq (f : Fld) (v : Nat) (ix : List Nat) : (s.setFld f v ix).acq = s.acq := rfl
@[simp] theorem State.setFld_sar (f : Fld) (v : Nat) (ix : List Nat) : (s.setFld f v ix).sar = s.sar := rfl
@[simp] theorem State.setFld_pwm (f : Fld) (v : Nat) (ix : List Nat) : (s.setFld f v ix).pwm = s.pwm := rfl
@[simp] theorem State.setFld_rio (f : Fld) (v : Nat) (ix : List Nat) : (s.setFld f v ix).rio = s.rio := rfl
@[simp] theorem State.setFld_axes (f : Fld) (v : Nat) (ix : List Nat) : (s.setFld f v ix).axes = s.axes := rfl
@[simp] theorem State.setFld_can (f : Fld) (v : Nat) (ix : List Nat) : (s.setFld f v ix).can = s.can := rfl
@[simp] theorem State.setFld_cores (f : Fld) (v : Nat) (ix : List Nat) : (s.setFld f v ix).cores = s.cores := rfl
@[simp] theorem State.setFld_disp (f : Fld) (v : Nat) (ix : List Nat) : (s.setFld f v ix).disp = s.disp := rfl
@[simp] theorem State.setFld_rt (f : Fld) (v : Nat) (ix : List Nat) : (s.setFld f v ix).rt = s.rt := rfl
@[simp] theorem State.setFld_isl (f : Fld) (v : Nat) (ix : List Nat) : (s.setFld f v ix).isl = s.isl := rfl
@[simp] theorem State.setFld_islv (f : Fld) (v : Nat) (ix : List Nat) : (s.setFld f v ix).islv = s.islv := rfl
@[simp] theorem State.setFld_twin (f : Fld) (v : Nat) (ix : List Nat) : (s.setFld f v ix).twin = s.twin := rfl
@[simp] theorem State.setFld_sessions (f : Fld) (v : Nat) (ix : List Nat) : (s.setFld f v ix).sessions = s.sessions := rfl
@[simp] theorem State.setFld_host (f : Fld) (v : Nat) (ix : List Nat) : (s.setFld f v ix).host = s.host := rfl
@[simp] theorem State.setFld_kpr (f : Fld) (v : Nat) (ix : List Nat) : (s.setFld f v ix).kpr = s.kpr := rfl
@[simp] theorem State.setFld_evl (f : Fld) (v : Nat) (ix : List Nat) : (s.setFld f v ix).evl = s.evl := rfl
@[simp] theorem State.setFld_upd (f : Fld) (v : Nat) (ix : List Nat) : (s.setFld f v ix).upd = s.upd := rfl
@[simp] theorem State.setFld_pwrs (f : Fld) (v : Nat) (ix : List Nat) : (s.setFld f v ix).pwrs = s.pwrs := rfl
@[simp] theorem State.setFld_seed (f : Fld) (v : Nat) (ix : List Nat) : (s.setFld f v ix).seed = s.seed := rfl

@[simp] theorem State.setByte_pending (a : Nat) (b : Byte) : (s.setByte a b).pending = s.pending := rfl
@[simp] theorem State.setByte_out (a : Nat) (b : Byte) : (s.setByte a b).out = s.out := rfl
@[simp] theorem State.setByte_hiz (a : Nat) (b : Byte) : (s.setByte a b).hiz = s.hiz := rfl
@[simp] theorem State.setByte_free (a : Nat) (b : Byte) : (s.setByte a b).free = s.free := rfl
@[simp] theorem State.setByte_regs (a : Nat) (b : Byte) : (s.setByte a b).regs = s.regs := rfl
@[simp] theorem State.setByte_locked (a : Nat) (b : Byte) : (s.setByte a b).locked = s.locked := rfl
@[simp] theorem State.setByte_tainted (a : Nat) (b : Byte) : (s.setByte a b).tainted = s.tainted := rfl
@[simp] theorem State.setByte_stage (a : Nat) (b : Byte) : (s.setByte a b).stage = s.stage := rfl
@[simp] theorem State.setByte_shadow (a : Nat) (b : Byte) : (s.setByte a b).shadow = s.shadow := rfl
@[simp] theorem State.setByte_snaps (a : Nat) (b : Byte) : (s.setByte a b).snaps = s.snaps := rfl
@[simp] theorem State.setByte_mbx (a : Nat) (b : Byte) : (s.setByte a b).mbx = s.mbx := rfl
@[simp] theorem State.setByte_fab (a : Nat) (b : Byte) : (s.setByte a b).fab = s.fab := rfl
@[simp] theorem State.setByte_evq (a : Nat) (b : Byte) : (s.setByte a b).evq = s.evq := rfl
@[simp] theorem State.setByte_tb (a : Nat) (b : Byte) : (s.setByte a b).tb = s.tb := rfl
@[simp] theorem State.setByte_beacons (a : Nat) (b : Byte) : (s.setByte a b).beacons = s.beacons := rfl
@[simp] theorem State.setByte_trigs (a : Nat) (b : Byte) : (s.setByte a b).trigs = s.trigs := rfl
@[simp] theorem State.setByte_ptp (a : Nat) (b : Byte) : (s.setByte a b).ptp = s.ptp := rfl
@[simp] theorem State.setByte_servo (a : Nat) (b : Byte) : (s.setByte a b).servo = s.servo := rfl
@[simp] theorem State.setByte_clkIns (a : Nat) (b : Byte) : (s.setByte a b).clkIns = s.clkIns := rfl
@[simp] theorem State.setByte_tbPll (a : Nat) (b : Byte) : (s.setByte a b).tbPll = s.tbPll := rfl
@[simp] theorem State.setByte_adm (a : Nat) (b : Byte) : (s.setByte a b).adm = s.adm := rfl
@[simp] theorem State.setByte_mc (a : Nat) (b : Byte) : (s.setByte a b).mc = s.mc := rfl
@[simp] theorem State.setByte_rcp (a : Nat) (b : Byte) : (s.setByte a b).rcp = s.rcp := rfl
@[simp] theorem State.setByte_le (a : Nat) (b : Byte) : (s.setByte a b).le = s.le := rfl
@[simp] theorem State.setByte_lens (a : Nat) (b : Byte) : (s.setByte a b).lens = s.lens := rfl
@[simp] theorem State.setByte_rf (a : Nat) (b : Byte) : (s.setByte a b).rf = s.rf := rfl
@[simp] theorem State.setByte_acq (a : Nat) (b : Byte) : (s.setByte a b).acq = s.acq := rfl
@[simp] theorem State.setByte_sar (a : Nat) (b : Byte) : (s.setByte a b).sar = s.sar := rfl
@[simp] theorem State.setByte_pwm (a : Nat) (b : Byte) : (s.setByte a b).pwm = s.pwm := rfl
@[simp] theorem State.setByte_rio (a : Nat) (b : Byte) : (s.setByte a b).rio = s.rio := rfl
@[simp] theorem State.setByte_axes (a : Nat) (b : Byte) : (s.setByte a b).axes = s.axes := rfl
@[simp] theorem State.setByte_can (a : Nat) (b : Byte) : (s.setByte a b).can = s.can := rfl
@[simp] theorem State.setByte_cores (a : Nat) (b : Byte) : (s.setByte a b).cores = s.cores := rfl
@[simp] theorem State.setByte_disp (a : Nat) (b : Byte) : (s.setByte a b).disp = s.disp := rfl
@[simp] theorem State.setByte_rt (a : Nat) (b : Byte) : (s.setByte a b).rt = s.rt := rfl
@[simp] theorem State.setByte_isl (a : Nat) (b : Byte) : (s.setByte a b).isl = s.isl := rfl
@[simp] theorem State.setByte_islv (a : Nat) (b : Byte) : (s.setByte a b).islv = s.islv := rfl
@[simp] theorem State.setByte_twin (a : Nat) (b : Byte) : (s.setByte a b).twin = s.twin := rfl
@[simp] theorem State.setByte_sessions (a : Nat) (b : Byte) : (s.setByte a b).sessions = s.sessions := rfl
@[simp] theorem State.setByte_host (a : Nat) (b : Byte) : (s.setByte a b).host = s.host := rfl
@[simp] theorem State.setByte_kpr (a : Nat) (b : Byte) : (s.setByte a b).kpr = s.kpr := rfl
@[simp] theorem State.setByte_evl (a : Nat) (b : Byte) : (s.setByte a b).evl = s.evl := rfl
@[simp] theorem State.setByte_upd (a : Nat) (b : Byte) : (s.setByte a b).upd = s.upd := rfl
@[simp] theorem State.setByte_pwrs (a : Nat) (b : Byte) : (s.setByte a b).pwrs = s.pwrs := rfl
@[simp] theorem State.setByte_seed (a : Nat) (b : Byte) : (s.setByte a b).seed = s.seed := rfl

@[simp] theorem State.modCore_pending (c : Nat) (f : Core → Core) : (s.modCore c f).pending = s.pending := rfl
@[simp] theorem State.modCore_out (c : Nat) (f : Core → Core) : (s.modCore c f).out = s.out := rfl
@[simp] theorem State.modCore_hiz (c : Nat) (f : Core → Core) : (s.modCore c f).hiz = s.hiz := rfl
@[simp] theorem State.modCore_free (c : Nat) (f : Core → Core) : (s.modCore c f).free = s.free := rfl
@[simp] theorem State.modCore_regs (c : Nat) (f : Core → Core) : (s.modCore c f).regs = s.regs := rfl
@[simp] theorem State.modCore_mem (c : Nat) (f : Core → Core) : (s.modCore c f).mem = s.mem := rfl
@[simp] theorem State.modCore_locked (c : Nat) (f : Core → Core) : (s.modCore c f).locked = s.locked := rfl
@[simp] theorem State.modCore_tainted (c : Nat) (f : Core → Core) : (s.modCore c f).tainted = s.tainted := rfl
@[simp] theorem State.modCore_stage (c : Nat) (f : Core → Core) : (s.modCore c f).stage = s.stage := rfl
@[simp] theorem State.modCore_shadow (c : Nat) (f : Core → Core) : (s.modCore c f).shadow = s.shadow := rfl
@[simp] theorem State.modCore_snaps (c : Nat) (f : Core → Core) : (s.modCore c f).snaps = s.snaps := rfl
@[simp] theorem State.modCore_mbx (c : Nat) (f : Core → Core) : (s.modCore c f).mbx = s.mbx := rfl
@[simp] theorem State.modCore_fab (c : Nat) (f : Core → Core) : (s.modCore c f).fab = s.fab := rfl
@[simp] theorem State.modCore_evq (c : Nat) (f : Core → Core) : (s.modCore c f).evq = s.evq := rfl
@[simp] theorem State.modCore_tb (c : Nat) (f : Core → Core) : (s.modCore c f).tb = s.tb := rfl
@[simp] theorem State.modCore_beacons (c : Nat) (f : Core → Core) : (s.modCore c f).beacons = s.beacons := rfl
@[simp] theorem State.modCore_trigs (c : Nat) (f : Core → Core) : (s.modCore c f).trigs = s.trigs := rfl
@[simp] theorem State.modCore_ptp (c : Nat) (f : Core → Core) : (s.modCore c f).ptp = s.ptp := rfl
@[simp] theorem State.modCore_servo (c : Nat) (f : Core → Core) : (s.modCore c f).servo = s.servo := rfl
@[simp] theorem State.modCore_clkIns (c : Nat) (f : Core → Core) : (s.modCore c f).clkIns = s.clkIns := rfl
@[simp] theorem State.modCore_tbPll (c : Nat) (f : Core → Core) : (s.modCore c f).tbPll = s.tbPll := rfl
@[simp] theorem State.modCore_adm (c : Nat) (f : Core → Core) : (s.modCore c f).adm = s.adm := rfl
@[simp] theorem State.modCore_mc (c : Nat) (f : Core → Core) : (s.modCore c f).mc = s.mc := rfl
@[simp] theorem State.modCore_rcp (c : Nat) (f : Core → Core) : (s.modCore c f).rcp = s.rcp := rfl
@[simp] theorem State.modCore_le (c : Nat) (f : Core → Core) : (s.modCore c f).le = s.le := rfl
@[simp] theorem State.modCore_lens (c : Nat) (f : Core → Core) : (s.modCore c f).lens = s.lens := rfl
@[simp] theorem State.modCore_rf (c : Nat) (f : Core → Core) : (s.modCore c f).rf = s.rf := rfl
@[simp] theorem State.modCore_acq (c : Nat) (f : Core → Core) : (s.modCore c f).acq = s.acq := rfl
@[simp] theorem State.modCore_sar (c : Nat) (f : Core → Core) : (s.modCore c f).sar = s.sar := rfl
@[simp] theorem State.modCore_pwm (c : Nat) (f : Core → Core) : (s.modCore c f).pwm = s.pwm := rfl
@[simp] theorem State.modCore_rio (c : Nat) (f : Core → Core) : (s.modCore c f).rio = s.rio := rfl
@[simp] theorem State.modCore_axes (c : Nat) (f : Core → Core) : (s.modCore c f).axes = s.axes := rfl
@[simp] theorem State.modCore_can (c : Nat) (f : Core → Core) : (s.modCore c f).can = s.can := rfl
@[simp] theorem State.modCore_disp (c : Nat) (f : Core → Core) : (s.modCore c f).disp = s.disp := rfl
@[simp] theorem State.modCore_rt (c : Nat) (f : Core → Core) : (s.modCore c f).rt = s.rt := rfl
@[simp] theorem State.modCore_isl (c : Nat) (f : Core → Core) : (s.modCore c f).isl = s.isl := rfl
@[simp] theorem State.modCore_islv (c : Nat) (f : Core → Core) : (s.modCore c f).islv = s.islv := rfl
@[simp] theorem State.modCore_twin (c : Nat) (f : Core → Core) : (s.modCore c f).twin = s.twin := rfl
@[simp] theorem State.modCore_sessions (c : Nat) (f : Core → Core) : (s.modCore c f).sessions = s.sessions := rfl
@[simp] theorem State.modCore_host (c : Nat) (f : Core → Core) : (s.modCore c f).host = s.host := rfl
@[simp] theorem State.modCore_kpr (c : Nat) (f : Core → Core) : (s.modCore c f).kpr = s.kpr := rfl
@[simp] theorem State.modCore_evl (c : Nat) (f : Core → Core) : (s.modCore c f).evl = s.evl := rfl
@[simp] theorem State.modCore_upd (c : Nat) (f : Core → Core) : (s.modCore c f).upd = s.upd := rfl
@[simp] theorem State.modCore_pwrs (c : Nat) (f : Core → Core) : (s.modCore c f).pwrs = s.pwrs := rfl
@[simp] theorem State.modCore_seed (c : Nat) (f : Core → Core) : (s.modCore c f).seed = s.seed := rfl

@[simp] theorem State.say_pending (o : Out) : (s.say o).pending = s.pending := rfl
@[simp] theorem State.say_hiz (o : Out) : (s.say o).hiz = s.hiz := rfl
@[simp] theorem State.say_free (o : Out) : (s.say o).free = s.free := rfl
@[simp] theorem State.say_regs (o : Out) : (s.say o).regs = s.regs := rfl
@[simp] theorem State.say_mem (o : Out) : (s.say o).mem = s.mem := rfl
@[simp] theorem State.say_locked (o : Out) : (s.say o).locked = s.locked := rfl
@[simp] theorem State.say_tainted (o : Out) : (s.say o).tainted = s.tainted := rfl
@[simp] theorem State.say_stage (o : Out) : (s.say o).stage = s.stage := rfl
@[simp] theorem State.say_shadow (o : Out) : (s.say o).shadow = s.shadow := rfl
@[simp] theorem State.say_snaps (o : Out) : (s.say o).snaps = s.snaps := rfl
@[simp] theorem State.say_mbx (o : Out) : (s.say o).mbx = s.mbx := rfl
@[simp] theorem State.say_fab (o : Out) : (s.say o).fab = s.fab := rfl
@[simp] theorem State.say_evq (o : Out) : (s.say o).evq = s.evq := rfl
@[simp] theorem State.say_tb (o : Out) : (s.say o).tb = s.tb := rfl
@[simp] theorem State.say_beacons (o : Out) : (s.say o).beacons = s.beacons := rfl
@[simp] theorem State.say_trigs (o : Out) : (s.say o).trigs = s.trigs := rfl
@[simp] theorem State.say_ptp (o : Out) : (s.say o).ptp = s.ptp := rfl
@[simp] theorem State.say_servo (o : Out) : (s.say o).servo = s.servo := rfl
@[simp] theorem State.say_clkIns (o : Out) : (s.say o).clkIns = s.clkIns := rfl
@[simp] theorem State.say_tbPll (o : Out) : (s.say o).tbPll = s.tbPll := rfl
@[simp] theorem State.say_adm (o : Out) : (s.say o).adm = s.adm := rfl
@[simp] theorem State.say_mc (o : Out) : (s.say o).mc = s.mc := rfl
@[simp] theorem State.say_rcp (o : Out) : (s.say o).rcp = s.rcp := rfl
@[simp] theorem State.say_le (o : Out) : (s.say o).le = s.le := rfl
@[simp] theorem State.say_lens (o : Out) : (s.say o).lens = s.lens := rfl
@[simp] theorem State.say_rf (o : Out) : (s.say o).rf = s.rf := rfl
@[simp] theorem State.say_acq (o : Out) : (s.say o).acq = s.acq := rfl
@[simp] theorem State.say_sar (o : Out) : (s.say o).sar = s.sar := rfl
@[simp] theorem State.say_pwm (o : Out) : (s.say o).pwm = s.pwm := rfl
@[simp] theorem State.say_rio (o : Out) : (s.say o).rio = s.rio := rfl
@[simp] theorem State.say_axes (o : Out) : (s.say o).axes = s.axes := rfl
@[simp] theorem State.say_can (o : Out) : (s.say o).can = s.can := rfl
@[simp] theorem State.say_cores (o : Out) : (s.say o).cores = s.cores := rfl
@[simp] theorem State.say_disp (o : Out) : (s.say o).disp = s.disp := rfl
@[simp] theorem State.say_rt (o : Out) : (s.say o).rt = s.rt := rfl
@[simp] theorem State.say_isl (o : Out) : (s.say o).isl = s.isl := rfl
@[simp] theorem State.say_islv (o : Out) : (s.say o).islv = s.islv := rfl
@[simp] theorem State.say_twin (o : Out) : (s.say o).twin = s.twin := rfl
@[simp] theorem State.say_sessions (o : Out) : (s.say o).sessions = s.sessions := rfl
@[simp] theorem State.say_host (o : Out) : (s.say o).host = s.host := rfl
@[simp] theorem State.say_kpr (o : Out) : (s.say o).kpr = s.kpr := rfl
@[simp] theorem State.say_evl (o : Out) : (s.say o).evl = s.evl := rfl
@[simp] theorem State.say_upd (o : Out) : (s.say o).upd = s.upd := rfl
@[simp] theorem State.say_pwrs (o : Out) : (s.say o).pwrs = s.pwrs := rfl
@[simp] theorem State.say_seed (o : Out) : (s.say o).seed = s.seed := rfl

@[simp] theorem State.store_pending (r : Reg) (ix : List Nat) (w : Word) : (s.store r ix w).pending = s.pending := rfl
@[simp] theorem State.store_mem (r : Reg) (ix : List Nat) (w : Word) : (s.store r ix w).mem = s.mem := rfl
@[simp] theorem State.store_locked (r : Reg) (ix : List Nat) (w : Word) : (s.store r ix w).locked = s.locked := rfl
@[simp] theorem State.store_tainted (r : Reg) (ix : List Nat) (w : Word) : (s.store r ix w).tainted = s.tainted := rfl
@[simp] theorem State.store_fab (r : Reg) (ix : List Nat) (w : Word) : (s.store r ix w).fab = s.fab := rfl
@[simp] theorem State.store_cores (r : Reg) (ix : List Nat) (w : Word) : (s.store r ix w).cores = s.cores := rfl

@[simp] theorem State.raise_pending (f : Fld) (ix : List Nat) : (s.raise f ix).pending = s.pending := rfl
@[simp] theorem State.raise_mem (f : Fld) (ix : List Nat) : (s.raise f ix).mem = s.mem := rfl
@[simp] theorem State.raise_locked (f : Fld) (ix : List Nat) : (s.raise f ix).locked = s.locked := rfl
@[simp] theorem State.raise_tainted (f : Fld) (ix : List Nat) : (s.raise f ix).tainted = s.tainted := rfl
@[simp] theorem State.raise_fab (f : Fld) (ix : List Nat) : (s.raise f ix).fab = s.fab := rfl
@[simp] theorem State.raise_cores (f : Fld) (ix : List Nat) : (s.raise f ix).cores = s.cores := rfl

@[simp] theorem State.lower_pending (f : Fld) (ix : List Nat) : (s.lower f ix).pending = s.pending := rfl
@[simp] theorem State.lower_mem (f : Fld) (ix : List Nat) : (s.lower f ix).mem = s.mem := rfl
@[simp] theorem State.lower_locked (f : Fld) (ix : List Nat) : (s.lower f ix).locked = s.locked := rfl
@[simp] theorem State.lower_tainted (f : Fld) (ix : List Nat) : (s.lower f ix).tainted = s.tainted := rfl
@[simp] theorem State.lower_fab (f : Fld) (ix : List Nat) : (s.lower f ix).fab = s.fab := rfl
@[simp] theorem State.lower_cores (f : Fld) (ix : List Nat) : (s.lower f ix).cores = s.cores := rfl

@[simp] theorem State.incr_pending (f : Fld) (ix : List Nat) (n : Nat) : (s.incr f ix n).pending = s.pending := rfl
@[simp] theorem State.incr_mem (f : Fld) (ix : List Nat) (n : Nat) : (s.incr f ix n).mem = s.mem := rfl
@[simp] theorem State.incr_locked (f : Fld) (ix : List Nat) (n : Nat) : (s.incr f ix n).locked = s.locked := rfl
@[simp] theorem State.incr_tainted (f : Fld) (ix : List Nat) (n : Nat) : (s.incr f ix n).tainted = s.tainted := rfl
@[simp] theorem State.incr_fab (f : Fld) (ix : List Nat) (n : Nat) : (s.incr f ix n).fab = s.fab := rfl
@[simp] theorem State.incr_cores (f : Fld) (ix : List Nat) (n : Nat) : (s.incr f ix n).cores = s.cores := rfl

@[simp] theorem State.incrSat_pending (f : Fld) (ix : List Nat) (n : Nat) : (s.incrSat f ix n).pending = s.pending := rfl
@[simp] theorem State.incrSat_mem (f : Fld) (ix : List Nat) (n : Nat) : (s.incrSat f ix n).mem = s.mem := rfl
@[simp] theorem State.incrSat_locked (f : Fld) (ix : List Nat) (n : Nat) : (s.incrSat f ix n).locked = s.locked := rfl
@[simp] theorem State.incrSat_tainted (f : Fld) (ix : List Nat) (n : Nat) : (s.incrSat f ix n).tainted = s.tainted := rfl
@[simp] theorem State.incrSat_fab (f : Fld) (ix : List Nat) (n : Nat) : (s.incrSat f ix n).fab = s.fab := rfl
@[simp] theorem State.incrSat_cores (f : Fld) (ix : List Nat) (n : Nat) : (s.incrSat f ix n).cores = s.cores := rfl

@[simp] theorem State.noteRing_pending (k : Nat) : (s.noteRing k).pending = s.pending := rfl
@[simp] theorem State.noteRing_regs (k : Nat) : (s.noteRing k).regs = s.regs := rfl
@[simp] theorem State.noteRing_mem (k : Nat) : (s.noteRing k).mem = s.mem := rfl
@[simp] theorem State.noteRing_locked (k : Nat) : (s.noteRing k).locked = s.locked := rfl
@[simp] theorem State.noteRing_tainted (k : Nat) : (s.noteRing k).tainted = s.tainted := rfl
@[simp] theorem State.noteRing_fab (k : Nat) : (s.noteRing k).fab = s.fab := rfl
@[simp] theorem State.noteRing_cores (k : Nat) : (s.noteRing k).cores = s.cores := rfl

@[simp] theorem State.modAcq_pending (k : Nat) (f : AcqSet → AcqSet) : (s.modAcq k f).pending = s.pending := rfl
@[simp] theorem State.modAcq_regs (k : Nat) (f : AcqSet → AcqSet) : (s.modAcq k f).regs = s.regs := rfl
@[simp] theorem State.modAcq_mem (k : Nat) (f : AcqSet → AcqSet) : (s.modAcq k f).mem = s.mem := rfl
@[simp] theorem State.modAcq_locked (k : Nat) (f : AcqSet → AcqSet) : (s.modAcq k f).locked = s.locked := rfl
@[simp] theorem State.modAcq_tainted (k : Nat) (f : AcqSet → AcqSet) : (s.modAcq k f).tainted = s.tainted := rfl
@[simp] theorem State.modAcq_fab (k : Nat) (f : AcqSet → AcqSet) : (s.modAcq k f).fab = s.fab := rfl
@[simp] theorem State.modAcq_cores (k : Nat) (f : AcqSet → AcqSet) : (s.modAcq k f).cores = s.cores := rfl

@[simp] theorem State.modCan_pending (c : Nat) (f : CanCtl → CanCtl) : (s.modCan c f).pending = s.pending := rfl
@[simp] theorem State.modCan_regs (c : Nat) (f : CanCtl → CanCtl) : (s.modCan c f).regs = s.regs := rfl
@[simp] theorem State.modCan_mem (c : Nat) (f : CanCtl → CanCtl) : (s.modCan c f).mem = s.mem := rfl
@[simp] theorem State.modCan_locked (c : Nat) (f : CanCtl → CanCtl) : (s.modCan c f).locked = s.locked := rfl
@[simp] theorem State.modCan_tainted (c : Nat) (f : CanCtl → CanCtl) : (s.modCan c f).tainted = s.tainted := rfl
@[simp] theorem State.modCan_fab (c : Nat) (f : CanCtl → CanCtl) : (s.modCan c f).fab = s.fab := rfl
@[simp] theorem State.modCan_cores (c : Nat) (f : CanCtl → CanCtl) : (s.modCan c f).cores = s.cores := rfl

@[simp] theorem State.modSess_pending (n : Nat) (f : Session → Session) : (s.modSess n f).pending = s.pending := rfl
@[simp] theorem State.modSess_regs (n : Nat) (f : Session → Session) : (s.modSess n f).regs = s.regs := rfl
@[simp] theorem State.modSess_mem (n : Nat) (f : Session → Session) : (s.modSess n f).mem = s.mem := rfl
@[simp] theorem State.modSess_locked (n : Nat) (f : Session → Session) : (s.modSess n f).locked = s.locked := rfl
@[simp] theorem State.modSess_tainted (n : Nat) (f : Session → Session) : (s.modSess n f).tainted = s.tainted := rfl
@[simp] theorem State.modSess_fab (n : Nat) (f : Session → Session) : (s.modSess n f).fab = s.fab := rfl
@[simp] theorem State.modSess_cores (n : Nat) (f : Session → Session) : (s.modSess n f).cores = s.cores := rfl

@[simp] theorem State.modLens_pending (c : Nat) (f : LensCh → LensCh) : (s.modLens c f).pending = s.pending := rfl
@[simp] theorem State.modLens_regs (c : Nat) (f : LensCh → LensCh) : (s.modLens c f).regs = s.regs := rfl
@[simp] theorem State.modLens_mem (c : Nat) (f : LensCh → LensCh) : (s.modLens c f).mem = s.mem := rfl
@[simp] theorem State.modLens_locked (c : Nat) (f : LensCh → LensCh) : (s.modLens c f).locked = s.locked := rfl
@[simp] theorem State.modLens_tainted (c : Nat) (f : LensCh → LensCh) : (s.modLens c f).tainted = s.tainted := rfl
@[simp] theorem State.modLens_fab (c : Nat) (f : LensCh → LensCh) : (s.modLens c f).fab = s.fab := rfl
@[simp] theorem State.modLens_cores (c : Nat) (f : LensCh → LensCh) : (s.modLens c f).cores = s.cores := rfl

@[simp] theorem State.modAxis_pending (k : Nat) (f : Axis → Axis) : (s.modAxis k f).pending = s.pending := rfl
@[simp] theorem State.modAxis_regs (k : Nat) (f : Axis → Axis) : (s.modAxis k f).regs = s.regs := rfl
@[simp] theorem State.modAxis_mem (k : Nat) (f : Axis → Axis) : (s.modAxis k f).mem = s.mem := rfl
@[simp] theorem State.modAxis_locked (k : Nat) (f : Axis → Axis) : (s.modAxis k f).locked = s.locked := rfl
@[simp] theorem State.modAxis_tainted (k : Nat) (f : Axis → Axis) : (s.modAxis k f).tainted = s.tainted := rfl
@[simp] theorem State.modAxis_fab (k : Nat) (f : Axis → Axis) : (s.modAxis k f).fab = s.fab := rfl
@[simp] theorem State.modAxis_cores (k : Nat) (f : Axis → Axis) : (s.modAxis k f).cores = s.cores := rfl

@[simp] theorem State.modRf_pending (n : Nat) (f : RfChan → RfChan) : (s.modRf n f).pending = s.pending := rfl
@[simp] theorem State.modRf_regs (n : Nat) (f : RfChan → RfChan) : (s.modRf n f).regs = s.regs := rfl
@[simp] theorem State.modRf_mem (n : Nat) (f : RfChan → RfChan) : (s.modRf n f).mem = s.mem := rfl
@[simp] theorem State.modRf_locked (n : Nat) (f : RfChan → RfChan) : (s.modRf n f).locked = s.locked := rfl
@[simp] theorem State.modRf_tainted (n : Nat) (f : RfChan → RfChan) : (s.modRf n f).tainted = s.tainted := rfl
@[simp] theorem State.modRf_fab (n : Nat) (f : RfChan → RfChan) : (s.modRf n f).fab = s.fab := rfl
@[simp] theorem State.modRf_cores (n : Nat) (f : RfChan → RfChan) : (s.modRf n f).cores = s.cores := rfl

@[simp] theorem State.modTrig_pending (n : Nat) (f : TrigIn → TrigIn) : (s.modTrig n f).pending = s.pending := rfl
@[simp] theorem State.modTrig_regs (n : Nat) (f : TrigIn → TrigIn) : (s.modTrig n f).regs = s.regs := rfl
@[simp] theorem State.modTrig_mem (n : Nat) (f : TrigIn → TrigIn) : (s.modTrig n f).mem = s.mem := rfl
@[simp] theorem State.modTrig_locked (n : Nat) (f : TrigIn → TrigIn) : (s.modTrig n f).locked = s.locked := rfl
@[simp] theorem State.modTrig_tainted (n : Nat) (f : TrigIn → TrigIn) : (s.modTrig n f).tainted = s.tainted := rfl
@[simp] theorem State.modTrig_fab (n : Nat) (f : TrigIn → TrigIn) : (s.modTrig n f).fab = s.fab := rfl
@[simp] theorem State.modTrig_cores (n : Nat) (f : TrigIn → TrigIn) : (s.modTrig n f).cores = s.cores := rfl

@[simp] theorem State.modDcore_pending (c : Nat) (f : DispCore → DispCore) : (s.modDcore c f).pending = s.pending := rfl
@[simp] theorem State.modDcore_regs (c : Nat) (f : DispCore → DispCore) : (s.modDcore c f).regs = s.regs := rfl
@[simp] theorem State.modDcore_mem (c : Nat) (f : DispCore → DispCore) : (s.modDcore c f).mem = s.mem := rfl
@[simp] theorem State.modDcore_locked (c : Nat) (f : DispCore → DispCore) : (s.modDcore c f).locked = s.locked := rfl
@[simp] theorem State.modDcore_tainted (c : Nat) (f : DispCore → DispCore) : (s.modDcore c f).tainted = s.tainted := rfl
@[simp] theorem State.modDcore_fab (c : Nat) (f : DispCore → DispCore) : (s.modDcore c f).fab = s.fab := rfl
@[simp] theorem State.modDcore_cores (c : Nat) (f : DispCore → DispCore) : (s.modDcore c f).cores = s.cores := rfl

@[simp] theorem State.modPair_pending (k : Nat) (f : Pair → Pair) : (s.modPair k f).pending = s.pending := rfl
@[simp] theorem State.modPair_regs (k : Nat) (f : Pair → Pair) : (s.modPair k f).regs = s.regs := rfl
@[simp] theorem State.modPair_mem (k : Nat) (f : Pair → Pair) : (s.modPair k f).mem = s.mem := rfl
@[simp] theorem State.modPair_locked (k : Nat) (f : Pair → Pair) : (s.modPair k f).locked = s.locked := rfl
@[simp] theorem State.modPair_tainted (k : Nat) (f : Pair → Pair) : (s.modPair k f).tainted = s.tainted := rfl
@[simp] theorem State.modPair_fab (k : Nat) (f : Pair → Pair) : (s.modPair k f).fab = s.fab := rfl
@[simp] theorem State.modPair_cores (k : Nat) (f : Pair → Pair) : (s.modPair k f).cores = s.cores := rfl

@[simp] theorem State.modThread_pending (n : Nat) (f : Thread → Thread) : (s.modThread n f).pending = s.pending := rfl
@[simp] theorem State.modThread_regs (n : Nat) (f : Thread → Thread) : (s.modThread n f).regs = s.regs := rfl
@[simp] theorem State.modThread_mem (n : Nat) (f : Thread → Thread) : (s.modThread n f).mem = s.mem := rfl
@[simp] theorem State.modThread_locked (n : Nat) (f : Thread → Thread) : (s.modThread n f).locked = s.locked := rfl
@[simp] theorem State.modThread_tainted (n : Nat) (f : Thread → Thread) : (s.modThread n f).tainted = s.tainted := rfl
@[simp] theorem State.modThread_fab (n : Nat) (f : Thread → Thread) : (s.modThread n f).fab = s.fab := rfl
@[simp] theorem State.modThread_cores (n : Nat) (f : Thread → Thread) : (s.modThread n f).cores = s.cores := rfl

@[simp] theorem State.modPort_pending (p : Nat) (f : RioPort → RioPort) : (s.modPort p f).pending = s.pending := rfl
@[simp] theorem State.modPort_regs (p : Nat) (f : RioPort → RioPort) : (s.modPort p f).regs = s.regs := rfl
@[simp] theorem State.modPort_mem (p : Nat) (f : RioPort → RioPort) : (s.modPort p f).mem = s.mem := rfl
@[simp] theorem State.modPort_locked (p : Nat) (f : RioPort → RioPort) : (s.modPort p f).locked = s.locked := rfl
@[simp] theorem State.modPort_tainted (p : Nat) (f : RioPort → RioPort) : (s.modPort p f).tainted = s.tainted := rfl
@[simp] theorem State.modPort_fab (p : Nat) (f : RioPort → RioPort) : (s.modPort p f).fab = s.fab := rfl
@[simp] theorem State.modPort_cores (p : Nat) (f : RioPort → RioPort) : (s.modPort p f).cores = s.cores := rfl

@[simp] theorem State.modStn_pending (n : Nat) (f : RioStn → RioStn) : (s.modStn n f).pending = s.pending := rfl
@[simp] theorem State.modStn_regs (n : Nat) (f : RioStn → RioStn) : (s.modStn n f).regs = s.regs := rfl
@[simp] theorem State.modStn_mem (n : Nat) (f : RioStn → RioStn) : (s.modStn n f).mem = s.mem := rfl
@[simp] theorem State.modStn_locked (n : Nat) (f : RioStn → RioStn) : (s.modStn n f).locked = s.locked := rfl
@[simp] theorem State.modStn_tainted (n : Nat) (f : RioStn → RioStn) : (s.modStn n f).tainted = s.tainted := rfl
@[simp] theorem State.modStn_fab (n : Nat) (f : RioStn → RioStn) : (s.modStn n f).fab = s.fab := rfl
@[simp] theorem State.modStn_cores (n : Nat) (f : RioStn → RioStn) : (s.modStn n f).cores = s.cores := rfl

@[simp] theorem State.modRtask_pending (t : Nat) (f : RtTask → RtTask) : (s.modRtask t f).pending = s.pending := rfl
@[simp] theorem State.modRtask_regs (t : Nat) (f : RtTask → RtTask) : (s.modRtask t f).regs = s.regs := rfl
@[simp] theorem State.modRtask_mem (t : Nat) (f : RtTask → RtTask) : (s.modRtask t f).mem = s.mem := rfl
@[simp] theorem State.modRtask_locked (t : Nat) (f : RtTask → RtTask) : (s.modRtask t f).locked = s.locked := rfl
@[simp] theorem State.modRtask_tainted (t : Nat) (f : RtTask → RtTask) : (s.modRtask t f).tainted = s.tainted := rfl
@[simp] theorem State.modRtask_fab (t : Nat) (f : RtTask → RtTask) : (s.modRtask t f).fab = s.fab := rfl
@[simp] theorem State.modRtask_cores (t : Nat) (f : RtTask → RtTask) : (s.modRtask t f).cores = s.cores := rfl

@[simp] theorem State.modConv_pending (c : Nat) (f : SarConv → SarConv) : (s.modConv c f).pending = s.pending := rfl
@[simp] theorem State.modConv_regs (c : Nat) (f : SarConv → SarConv) : (s.modConv c f).regs = s.regs := rfl
@[simp] theorem State.modConv_mem (c : Nat) (f : SarConv → SarConv) : (s.modConv c f).mem = s.mem := rfl
@[simp] theorem State.modConv_locked (c : Nat) (f : SarConv → SarConv) : (s.modConv c f).locked = s.locked := rfl
@[simp] theorem State.modConv_tainted (c : Nat) (f : SarConv → SarConv) : (s.modConv c f).tainted = s.tainted := rfl
@[simp] theorem State.modConv_fab (c : Nat) (f : SarConv → SarConv) : (s.modConv c f).fab = s.fab := rfl
@[simp] theorem State.modConv_cores (c : Nat) (f : SarConv → SarConv) : (s.modConv c f).cores = s.cores := rfl

@[simp] theorem State.modDac_pending (d : Nat) (f : Dac → Dac) : (s.modDac d f).pending = s.pending := rfl
@[simp] theorem State.modDac_regs (d : Nat) (f : Dac → Dac) : (s.modDac d f).regs = s.regs := rfl
@[simp] theorem State.modDac_mem (d : Nat) (f : Dac → Dac) : (s.modDac d f).mem = s.mem := rfl
@[simp] theorem State.modDac_locked (d : Nat) (f : Dac → Dac) : (s.modDac d f).locked = s.locked := rfl
@[simp] theorem State.modDac_tainted (d : Nat) (f : Dac → Dac) : (s.modDac d f).tainted = s.tainted := rfl
@[simp] theorem State.modDac_fab (d : Nat) (f : Dac → Dac) : (s.modDac d f).fab = s.fab := rfl
@[simp] theorem State.modDac_cores (d : Nat) (f : Dac → Dac) : (s.modDac d f).cores = s.cores := rfl

@[simp] theorem State.modStream_pending (k : Nat) (f : Stream → Stream) : (s.modStream k f).pending = s.pending := rfl
@[simp] theorem State.modStream_regs (k : Nat) (f : Stream → Stream) : (s.modStream k f).regs = s.regs := rfl
@[simp] theorem State.modStream_mem (k : Nat) (f : Stream → Stream) : (s.modStream k f).mem = s.mem := rfl
@[simp] theorem State.modStream_locked (k : Nat) (f : Stream → Stream) : (s.modStream k f).locked = s.locked := rfl
@[simp] theorem State.modStream_tainted (k : Nat) (f : Stream → Stream) : (s.modStream k f).tainted = s.tainted := rfl
@[simp] theorem State.modStream_fab (k : Nat) (f : Stream → Stream) : (s.modStream k f).fab = s.fab := rfl
@[simp] theorem State.modStream_cores (k : Nat) (f : Stream → Stream) : (s.modStream k f).cores = s.cores := rfl

@[simp] theorem State.modEvl_pending (f : Evl → Evl) : (s.modEvl f).pending = s.pending := rfl
@[simp] theorem State.modEvl_regs (f : Evl → Evl) : (s.modEvl f).regs = s.regs := rfl
@[simp] theorem State.modEvl_mem (f : Evl → Evl) : (s.modEvl f).mem = s.mem := rfl
@[simp] theorem State.modEvl_locked (f : Evl → Evl) : (s.modEvl f).locked = s.locked := rfl
@[simp] theorem State.modEvl_tainted (f : Evl → Evl) : (s.modEvl f).tainted = s.tainted := rfl
@[simp] theorem State.modEvl_fab (f : Evl → Evl) : (s.modEvl f).fab = s.fab := rfl
@[simp] theorem State.modEvl_cores (f : Evl → Evl) : (s.modEvl f).cores = s.cores := rfl

@[simp] theorem State.modIsl_pending (f : Island → Island) : (s.modIsl f).pending = s.pending := rfl
@[simp] theorem State.modIsl_regs (f : Island → Island) : (s.modIsl f).regs = s.regs := rfl
@[simp] theorem State.modIsl_mem (f : Island → Island) : (s.modIsl f).mem = s.mem := rfl
@[simp] theorem State.modIsl_locked (f : Island → Island) : (s.modIsl f).locked = s.locked := rfl
@[simp] theorem State.modIsl_tainted (f : Island → Island) : (s.modIsl f).tainted = s.tainted := rfl
@[simp] theorem State.modIsl_fab (f : Island → Island) : (s.modIsl f).fab = s.fab := rfl
@[simp] theorem State.modIsl_cores (f : Island → Island) : (s.modIsl f).cores = s.cores := rfl

@[simp] theorem State.modKpr_pending (f : Kpr → Kpr) : (s.modKpr f).pending = s.pending := rfl
@[simp] theorem State.modKpr_regs (f : Kpr → Kpr) : (s.modKpr f).regs = s.regs := rfl
@[simp] theorem State.modKpr_mem (f : Kpr → Kpr) : (s.modKpr f).mem = s.mem := rfl
@[simp] theorem State.modKpr_locked (f : Kpr → Kpr) : (s.modKpr f).locked = s.locked := rfl
@[simp] theorem State.modKpr_tainted (f : Kpr → Kpr) : (s.modKpr f).tainted = s.tainted := rfl
@[simp] theorem State.modKpr_fab (f : Kpr → Kpr) : (s.modKpr f).fab = s.fab := rfl
@[simp] theorem State.modKpr_cores (f : Kpr → Kpr) : (s.modKpr f).cores = s.cores := rfl

@[simp] theorem State.modPwr_pending (f : PwrSt → PwrSt) : (s.modPwr f).pending = s.pending := rfl
@[simp] theorem State.modPwr_regs (f : PwrSt → PwrSt) : (s.modPwr f).regs = s.regs := rfl
@[simp] theorem State.modPwr_mem (f : PwrSt → PwrSt) : (s.modPwr f).mem = s.mem := rfl
@[simp] theorem State.modPwr_locked (f : PwrSt → PwrSt) : (s.modPwr f).locked = s.locked := rfl
@[simp] theorem State.modPwr_tainted (f : PwrSt → PwrSt) : (s.modPwr f).tainted = s.tainted := rfl
@[simp] theorem State.modPwr_fab (f : PwrSt → PwrSt) : (s.modPwr f).fab = s.fab := rfl
@[simp] theorem State.modPwr_cores (f : PwrSt → PwrSt) : (s.modPwr f).cores = s.cores := rfl

@[simp] theorem State.modSeed_pending (f : SeedSt → SeedSt) : (s.modSeed f).pending = s.pending := rfl
@[simp] theorem State.modSeed_regs (f : SeedSt → SeedSt) : (s.modSeed f).regs = s.regs := rfl
@[simp] theorem State.modSeed_mem (f : SeedSt → SeedSt) : (s.modSeed f).mem = s.mem := rfl
@[simp] theorem State.modSeed_locked (f : SeedSt → SeedSt) : (s.modSeed f).locked = s.locked := rfl
@[simp] theorem State.modSeed_tainted (f : SeedSt → SeedSt) : (s.modSeed f).tainted = s.tainted := rfl
@[simp] theorem State.modSeed_fab (f : SeedSt → SeedSt) : (s.modSeed f).fab = s.fab := rfl
@[simp] theorem State.modSeed_cores (f : SeedSt → SeedSt) : (s.modSeed f).cores = s.cores := rfl

@[simp] theorem State.modTwin_pending (f : Twin → Twin) : (s.modTwin f).pending = s.pending := rfl
@[simp] theorem State.modTwin_regs (f : Twin → Twin) : (s.modTwin f).regs = s.regs := rfl
@[simp] theorem State.modTwin_mem (f : Twin → Twin) : (s.modTwin f).mem = s.mem := rfl
@[simp] theorem State.modTwin_locked (f : Twin → Twin) : (s.modTwin f).locked = s.locked := rfl
@[simp] theorem State.modTwin_tainted (f : Twin → Twin) : (s.modTwin f).tainted = s.tainted := rfl
@[simp] theorem State.modTwin_fab (f : Twin → Twin) : (s.modTwin f).fab = s.fab := rfl
@[simp] theorem State.modTwin_cores (f : Twin → Twin) : (s.modTwin f).cores = s.cores := rfl

@[simp] theorem State.modUpd_pending (f : Upd → Upd) : (s.modUpd f).pending = s.pending := rfl
@[simp] theorem State.modUpd_regs (f : Upd → Upd) : (s.modUpd f).regs = s.regs := rfl
@[simp] theorem State.modUpd_mem (f : Upd → Upd) : (s.modUpd f).mem = s.mem := rfl
@[simp] theorem State.modUpd_locked (f : Upd → Upd) : (s.modUpd f).locked = s.locked := rfl
@[simp] theorem State.modUpd_tainted (f : Upd → Upd) : (s.modUpd f).tainted = s.tainted := rfl
@[simp] theorem State.modUpd_fab (f : Upd → Upd) : (s.modUpd f).fab = s.fab := rfl
@[simp] theorem State.modUpd_cores (f : Upd → Upd) : (s.modUpd f).cores = s.cores := rfl

end Sys2Proof.Machine
end

