-- ==== Sys2Proof/Laws/Regs.lean ====
section
/-!
SUPPORT. Registers: a read after a write, fields, and the queues of the event fabric.
-/
namespace Sys2Proof.Machine

/-! ### Registers -/

theorem State.getKey_regs_setReg (s : State) (r : Reg) (w : Word) (ix : List Nat) (a : Nat) (h : a ≠ r.addr ix) :
    getKey (s.setReg r w ix).regs a = getKey s.regs a := by
  show getKey (if w = r.reset then delKey s.regs (r.addr ix) else putKey s.regs (r.addr ix) w) a = _
  split
  · exact getKey_delKey_ne _ h
  · exact getKey_putKey_ne _ _ h

/-- A register reads as it was last written. -/
@[simp] theorem State.reg_setReg_self (s : State) (r : Reg) (w : Word) (ix : List Nat) : (s.setReg r w ix).reg r ix = w := by
  show (getKey (if w = r.reset then delKey s.regs (r.addr ix) else putKey s.regs (r.addr ix) w) (r.addr ix)).getD r.reset = w
  split
  · next h => rw [getKey_delKey_self]; exact h.symm
  · rw [getKey_putKey_self]; rfl

/-- A write leaves every register of another address. -/
theorem State.reg_setReg_ne (s : State) (r q : Reg) (w : Word) (ix jx : List Nat) (h : q.addr jx ≠ r.addr ix) :
    (s.setReg r w ix).reg q jx = s.reg q jx := by
  unfold State.reg; rw [State.getKey_regs_setReg _ _ _ _ _ h]

theorem State.reg_setFld_ne (s : State) (f : Fld) (q : Reg) (v : Nat) (ix jx : List Nat) (h : q.addr jx ≠ f.reg.addr ix) :
    (s.setFld f v ix).reg q jx = s.reg q jx := State.reg_setReg_ne s f.reg q _ ix jx h

theorem State.fld_setFld_ne (s : State) (f g : Fld) (v : Nat) (ix jx : List Nat) (h : g.reg.addr jx ≠ f.reg.addr ix) :
    (s.setFld f v ix).fld g jx = s.fld g jx := by unfold State.fld; rw [State.reg_setFld_ne _ _ _ _ _ _ h]

/-! ### Fields -/

theorem bits_lt (v hi lo : Nat) : bits v hi lo < 2 ^ (hi + 1 - lo) := Nat.mod_lt _ (Nat.two_pow_pos _)

theorem testBit_bits (v hi lo i : Nat) : (bits v hi lo).testBit i = (decide (i < hi + 1 - lo) && v.testBit (lo + i)) := by
  simp [bits, Nat.testBit_mod_two_pow, Nat.testBit_shiftRight]

/-- `putBits` in parts: what lies above the field, the new value, what lies below it. -/
theorem putBits_parts (v hi lo x : Nat) (h : lo ≤ hi) :
    putBits v hi lo x = v / 2 ^ (hi + 1) * 2 ^ (hi + 1) + x % 2 ^ (hi + 1 - lo) * 2 ^ lo + v % 2 ^ lo := by
  have e : (2 : Nat) ^ (hi + 1) = 2 ^ lo * 2 ^ (hi + 1 - lo) := by rw [← Nat.pow_add]; congr 1; omega
  have h1 := Nat.div_add_mod v (2 ^ lo)
  have h2 := Nat.div_add_mod (v / 2 ^ lo) (2 ^ (hi + 1 - lo))
  have h3 : v / 2 ^ (hi + 1) = v / 2 ^ lo / 2 ^ (hi + 1 - lo) := by rw [e, Nat.div_div_eq_div_mul]
  have hb : bits v hi lo = v / 2 ^ lo % 2 ^ (hi + 1 - lo) := by rw [bits, Nat.shiftRight_eq_div_pow]
  have h4 : v = v / 2 ^ (hi + 1) * 2 ^ (hi + 1) + bits v hi lo * 2 ^ lo + v % 2 ^ lo := by
    rw [h3, hb, e]
    calc v = 2 ^ lo * (v / 2 ^ lo) + v % 2 ^ lo := h1.symm
      _ = 2 ^ lo * (2 ^ (hi + 1 - lo) * (v / 2 ^ lo / 2 ^ (hi + 1 - lo)) + v / 2 ^ lo % 2 ^ (hi + 1 - lo)) + v % 2 ^ lo := by
        rw [h2]
      _ = _ := by ring
  unfold putBits
  omega

/-- A field reads as it was last written, within its width. -/
theorem bits_putBits_self (v hi lo x : Nat) (h : lo ≤ hi) : bits (putBits v hi lo x) hi lo = x % 2 ^ (hi + 1 - lo) := by
  have e : (2 : Nat) ^ (hi + 1) = 2 ^ lo * 2 ^ (hi + 1 - lo) := by rw [← Nat.pow_add]; congr 1; omega
  have hr : v % 2 ^ lo < 2 ^ lo := Nat.mod_lt _ (Nat.two_pow_pos _)
  have hd : putBits v hi lo x / 2 ^ lo = v / 2 ^ (hi + 1) * 2 ^ (hi + 1 - lo) + x % 2 ^ (hi + 1 - lo) := by
    rw [putBits_parts v hi lo x h, e]
    have : v / (2 ^ lo * 2 ^ (hi + 1 - lo)) * (2 ^ lo * 2 ^ (hi + 1 - lo)) + x % 2 ^ (hi + 1 - lo) * 2 ^ lo + v % 2 ^ lo
        = v % 2 ^ lo + 2 ^ lo * (v / (2 ^ lo * 2 ^ (hi + 1 - lo)) * 2 ^ (hi + 1 - lo) + x % 2 ^ (hi + 1 - lo)) := by ring
    rw [this, Nat.add_mul_div_left _ _ (Nat.two_pow_pos lo), Nat.div_eq_of_lt hr, Nat.zero_add]
  rw [bits, Nat.shiftRight_eq_div_pow, hd, Nat.add_comm, Nat.add_mul_mod_self_right, Nat.mod_mod]

theorem putBits_lt (v hi lo x n : Nat) (h : lo ≤ hi) (hn : hi < n) (hv : v < 2 ^ n) : putBits v hi lo x < 2 ^ n := by
  have e : (2 : Nat) ^ (hi + 1) = 2 ^ lo * 2 ^ (hi + 1 - lo) := by rw [← Nat.pow_add]; congr 1; omega
  have en : (2 : Nat) ^ n = 2 ^ (hi + 1) * 2 ^ (n - (hi + 1)) := by rw [← Nat.pow_add]; congr 1; omega
  rw [putBits_parts v hi lo x h]
  have h1 : v / 2 ^ (hi + 1) < 2 ^ (n - (hi + 1)) := Nat.div_lt_of_lt_mul (by rw [← en]; exact hv)
  have h2 : x % 2 ^ (hi + 1 - lo) < 2 ^ (hi + 1 - lo) := Nat.mod_lt _ (Nat.two_pow_pos _)
  have h3 : v % 2 ^ lo < 2 ^ lo := Nat.mod_lt _ (Nat.two_pow_pos _)
  have h4 : x % 2 ^ (hi + 1 - lo) * 2 ^ lo + v % 2 ^ lo < 2 ^ (hi + 1) := by
    rw [e, Nat.mul_comm (2 ^ lo)]
    calc _ < x % 2 ^ (hi + 1 - lo) * 2 ^ lo + 2 ^ lo := by omega
      _ = (x % 2 ^ (hi + 1 - lo) + 1) * 2 ^ lo := by ring
      _ ≤ _ := Nat.mul_le_mul_right _ h2
  rw [en, Nat.mul_comm (2 ^ (hi + 1))]
  calc _ < v / 2 ^ (hi + 1) * 2 ^ (hi + 1) + 2 ^ (hi + 1) := by omega
    _ = (v / 2 ^ (hi + 1) + 1) * 2 ^ (hi + 1) := by ring
    _ ≤ _ := Nat.mul_le_mul_right _ h1

/-- A field of a register reads as it was last written, within its width. -/
theorem State.fld_setFld_self (s : State) (f : Fld) (v : Nat) (ix : List Nat) (h : f.lo ≤ f.hi) (h32 : f.hi < 32) :
    (s.setFld f v ix).fld f ix = v % 2 ^ (f.hi + 1 - f.lo) := by
  show bits ((s.setReg f.reg (BitVec.ofNat 32 (putBits (s.reg f.reg ix).toNat f.hi f.lo v)) ix).reg f.reg ix).toNat f.hi f.lo = _
  rw [State.reg_setReg_self, BitVec.toNat_ofNat,
    Nat.mod_eq_of_lt (putBits_lt _ _ _ _ 32 h h32 (s.reg f.reg ix).isLt), bits_putBits_self _ _ _ _ h]

/-! ### The event fabric -/

/-- With a credit: the token is appended, and the queue counts it as sent (01 R25, R26). -/
theorem State.sendToken_credit {s : State} {q : Nat} {f : FabQueue} (t : Token) (hf : s.fab[q]? = some f)
    (h : f.tokens.length < f.depth) :
    s.sendToken q t = { s.incr SYS_Q_SENT_COUNT [q] with
      fab := modNth s.fab q (fun g => { g with tokens := g.tokens ++ [t] }) } := by
  unfold State.sendToken; simp only [hf]; rw [if_pos h]

/-- Without one: the token is not sent, and the refusal is counted. -/
theorem State.sendToken_full {s : State} {q : Nat} {f : FabQueue} (t : Token) (hf : s.fab[q]? = some f)
    (h : ¬ f.tokens.length < f.depth) : s.sendToken q t = s.incr SYS_Q_REF_COUNT [q] := by
  unfold State.sendToken; simp only [hf]; rw [if_neg h]

/-- The receiver takes the oldest token and returns its credit. -/
theorem State.popToken_cons {s : State} {q : Nat} {f : FabQueue} {t : Token} {ts : List Token} (hf : s.fab[q]? = some f)
    (h : f.tokens = t :: ts) :
    s.popToken q = some (t, (({ s with fab := modNth s.fab q (fun g => { g with tokens := ts }) }).incr
      SYS_Q_RCVD_COUNT [q]).incr SYS_Q_RET_COUNT [q]) := by
  unfold State.popToken; simp only [hf, h]

end Sys2Proof.Machine
end

