-- ==== Sys2Proof/Laws/Spw.lean ====
section
/-!
SUPPORT. A core's instruction, once: what it leaves when it executes, when it raises an exception, and when the core does
not run.
-/
namespace Sys2Proof.Machine

/-- An instruction that has its effect. -/
theorem instruction_done {c : Nat} {f : State → SpwRes} {s t : State} (h : Executes c s) (hf : f s = .done t) :
    instruction c f s = endStep c t := by
  obtain ⟨h1, h2, h3, h4, h5, h6⟩ := h
  have h3' : ¬ ((s.core c).imp.isSome = true ∧ (s.core c).xact = false) := by
    rcases h3 with h | h <;> simp [h]
  have h4' : ¬ (((s.core c).bkpt.getLsbD 0 = true ∧ (s.core c).bkpt.toNat / 4 * 4 = (s.core c).pc) ∧
      (s.core c).xact = false) := by
    rintro ⟨⟨a, b⟩, d⟩
    simp [h4 a b] at d
  simp only [instruction, h1, h2, h5, h6, hf, Bool.false_eq_true, if_false, ne_eq, not_true_eq_false, decide_false,
    Bool.or_false, Bool.and_eq_true, Bool.not_eq_true', decide_eq_true_eq, if_neg h3', if_neg h4']

/-- An instruction that raises a precise exception while none is handled. -/
theorem instruction_exc {c : Nat} {f : State → SpwRes} {s t : State} {cause info ea : Nat} (h : Executes c s)
    (hx : (t.core c).xact = false) (hf : f s = .exc cause info ea t) :
    instruction c f s = endStep c (rtException c cause (t.core c).pc
      (enterException c cause info 0 (t.core c).pc ea t)) := by
  obtain ⟨h1, h2, h3, h4, h5, h6⟩ := h
  have h3' : ¬ ((s.core c).imp.isSome = true ∧ (s.core c).xact = false) := by
    rcases h3 with h | h <;> simp [h]
  have h4' : ¬ (((s.core c).bkpt.getLsbD 0 = true ∧ (s.core c).bkpt.toNat / 4 * 4 = (s.core c).pc) ∧
      (s.core c).xact = false) := by
    rintro ⟨⟨a, b⟩, d⟩
    simp [h4 a b] at d
  simp only [instruction, h1, h2, h5, hf, Bool.false_eq_true, if_false, ne_eq, not_true_eq_false, decide_false,
    Bool.or_false, Bool.and_eq_true, Bool.not_eq_true', decide_eq_true_eq, if_neg h3', if_neg h4']
  simp [spwRaise, preciseException, hx]

/-- A core that is halted, in reset, waiting or idle executes nothing. -/
theorem instruction_stopped {c : Nat} (f : State → SpwRes) {s : State}
    (h : (s.core c).halted = true ∨ (s.core c).run ≠ .running) : instruction c f s = s := by
  rcases h with h | h <;> simp [instruction, h]

/-- An instruction that acts on no block beyond its core. -/
theorem spw_next {c : Fin 18} {f : State → SpwRes} {s t : State} (h : Live (spwBlocks c.val) s)
    (he : Executes c.val (ready c.val s)) (hf : f (ready c.val s) = .done t) :
    spw c f s = .next (retired c.val s t) := by
  rw [spw, run_next _ h]
  exact congrArg (fun t => Host.Outcome.next (s.finish t)) (instruction_done he hf)

/-- The same, where it raises a precise exception. -/
theorem spw_exc {c : Fin 18} {f : State → SpwRes} {s t : State} {cause info ea : Nat} (h : Live (spwBlocks c.val) s)
    (he : Executes c.val (ready c.val s)) (hx : (t.core c.val).xact = false)
    (hf : f (ready c.val s) = .exc cause info ea t) :
    spw c f s = .next (retired c.val s (rtException c.val cause (t.core c.val).pc
      (enterException c.val cause info 0 (t.core c.val).pc ea t))) := by
  rw [spw, run_next _ h]
  exact congrArg (fun t => Host.Outcome.next (s.finish t)) (instruction_exc he hx hf)

/-- The same of an instruction that acts on more blocks. -/
theorem runInstruction_next {bs : List Block} {c : Nat} {f : State → SpwRes} {s t : State} (h : Live bs s)
    (he : Executes c (ready c s)) (hf : f (ready c s) = .done t) :
    run bs (fun s => instruction c f (settle c s)) s = .next (retired c s t) := by
  rw [run_next _ h]
  exact congrArg (fun t => Host.Outcome.next (s.finish t)) (instruction_done he hf)

/-- The same, where it raises a precise exception. -/
theorem runInstruction_exc {bs : List Block} {c : Nat} {f : State → SpwRes} {s t : State} {cause info ea : Nat}
    (h : Live bs s) (he : Executes c (ready c s)) (hx : (t.core c).xact = false)
    (hf : f (ready c s) = .exc cause info ea t) :
    run bs (fun s => instruction c f (settle c s)) s = .next (retired c s (rtException c cause (t.core c).pc
      (enterException c cause info 0 (t.core c).pc ea t))) := by
  rw [run_next _ h]
  exact congrArg (fun t => Host.Outcome.next (s.finish t)) (instruction_exc he hx hf)

/-! ### General registers -/

/-- g0 reads 0 (R367). -/
@[simp] theorem State.gr_zero (s : State) (c : Nat) : s.gr c 0 = 0 := rfl

/-- A write to g0 is discarded (R367). -/
@[simp] theorem State.setGr_zero (s : State) (c : Nat) (v : Word) : s.setGr c 0 v = s := rfl

theorem State.core_modCore_ne (s : State) {c d : Nat} (f : Core → Core) (h : d ≠ c) : (s.modCore c f).core d = s.core d := by
  simp [State.core, State.modCore, nth, modNth, Ne.symm h]

theorem State.core_modCore (s : State) {c : Nat} (f : Core → Core) (h : c < s.cores.length) :
    (s.modCore c f).core c = f (s.core c) := by
  simp [State.core, State.modCore, nth, modNth, h]

end Sys2Proof.Machine
end

