-- ==== Sys2Proof/WellFormed.lean ====
section
/-!
DEFINITION. Well-formed commands: operands that the interface they come from can carry. Lengths and ranges that an operand's type
does not give are checked here; a command of any operands that a type admits is judged by its meaning, not here.
-/
namespace Sys2Proof

/-- Whether an integer fits in `w` bits of two's complement. -/
def withinInt (w : Nat) (i : Int) : Bool := -(2 ^ (w - 1)) ≤ i && i < 2 ^ (w - 1)

/-- Whether the operands of a command are ones that its interface can carry. -/
def Instr.wf : Instr → Bool
  | .baseTick => true
  | .conservationCheck => true
  | .uncorrectableMemoryError _ _ _ _ => true
  | .tokenTaken _ => true
  | .registerWrite _ _ _ => true
  | .bitAliasWrite _ _ _ => true
  | .lockSet _ _ => true
  | .snapGo _ _ => true
  | .snapComplete _ => true
  | .mbxRequest _ _ _ _ => true
  | .mbxCaptureDone _ => true
  | .mbxLastWordRead _ _ => true
  | .mbxExpiry _ => true
  | .windowDescriptorWrite _ _ _ _ => true
  | .clockWindow _ _ _ _ _ _ _ _ => true
  | .tbRefSwitch => true
  | .tbRefReturn => true
  | .pllUnlock _ => true
  | .timeIncrWrite _ _ => true
  | .timeIncrAltWrite _ _ => true
  | .timeAltcntWrite _ _ => true
  | .altstop _ => true
  | .incrementTakesEffect => true
  | .alternateIncrementEnd => true
  | .step _ => true
  | .timeStepEdge => true
  | .ptpIngressStamp _ _ _ _ _ => true
  | .ptpEgressStamp _ _ _ _ _ _ _ => true
  | .ptpSyncReceived o mpd loc mas _ => withinInt 48 o && withinInt 48 mpd && loc < 2 ^ 96 && mas < 2 ^ 96
  | .beaconArm _ _ => true
  | .beaconDisarm _ _ => true
  | .beaconEdge _ => true
  | .beaconTrailingEdge _ => true
  | .trigEdge _ _ => true
  | .trigAccept _ => true
  | .rcpStart _ _ _ => true
  | .rcpAbort _ _ => true
  | .rcpClear _ _ => true
  | .stepTimeout _ => true
  | .stepCommit => true
  | .rcpLoadGo _ _ => true
  | .rcpLoadDone => true
  | .journalWrite => true
  | .rcpResumeGo _ => true
  | .resumeDecision => true
  | .resumeTwaitExpiry => true
  | .loopBind _ _ => true
  | .loopUnbind _ _ => true
  | .loopCheck _ _ => true
  | .loopCheckDone => true
  | .laneFrameStart => true
  | .loopPeriodStart _ => true
  | .loopExecution => true
  | .loopRelease => true
  | .loopDeadlineFault => true
  | .lensArm _ _ => true
  | .lensDisarm _ _ => true
  | .lensForce _ _ => true
  | .calBlock _ codes _ errA errB _ => codes.length = 65536 && errA.length = 16 && errB.length = 16
  | .calFeedforward => true
  | .calRestart _ _ => true
  | .calSample _ _ => true
  | .calSampleDone _ => true
  | .rfChannelDisable _ => true
  | .toneItem _ _ phase => phase.length = 8
  | .arcAssert _ _ codes _ => codes.length % 16 = 0
  | .arcDeassert _ => true
  | .acqLoad _ _ => true
  | .acqUnload _ _ => true
  | .acqArm _ _ => true
  | .acqArmToken => true
  | .acqDisarm _ _ => true
  | .acqForce _ _ => true
  | .acqTrigger _ feed => feed.feed.tones.all (fun r => r.length = 16)
  | .segmentComplete _ feeds => feeds.length ≤ 4 && feeds.all (fun f => f.tones.all (fun r => r.length = 16))
  | .segmentRearm _ => true
  | .acqRelease _ _ _ => true
  | .acqQueueOverflow _ => true
  | .scanTrigger _ => true
  | .swtrig _ _ => true
  | .conversionComplete _ raw => withinInt 17 raw
  | .diagRequest _ _ _ _ _ => true
  | .diagComplete _ _ _ _ _ _ _ _ _ => true
  | .dacCodeWrite _ _ _ => true
  | .dacLoad _ => true
  | .rioDisc _ _ => true
  | .drep _ _ frame => frame.length ≤ 1518
  | .discoveryEnd _ => true
  | .cack _ _ frame => frame.length ≤ 1518
  | .hello _ _ frame => frame.length ≤ 1518
  | .rioStart _ _ => true
  | .rioStop _ _ => true
  | .rioCycleStart _ => true
  | .ifr _ _ frame => frame.length ≤ 1518
  | .cycleClose _ => true
  | .pwmCommit _ _ => true
  | .shadowWrite _ _ _ _ => true
  | .pwmReload _ => true
  | .pwmRestart _ => true
  | .tripAssert _ _ => true
  | .latchoffClear _ _ => true
  | .swsCrossing _ _ => true
  | .deadTimeEnd _ => true
  | .compareFire _ _ => true
  | .staticLevelWrite _ _ _ => true
  | .fastCut _ _ => true
  | .fastCutClear _ _ => true
  | .movePush _ _ _ _ _ => true
  | .axisStop _ _ => true
  | .fclr _ _ => true
  | .setpos _ _ => true
  | .stepIssue _ => true
  | .drivePeriod _ ia ib => withinInt 32 ia && withinInt 32 ib
  | .holdCurrent _ => true
  | .stallDetect _ => true
  | .axisFault _ => true
  | .canFrameRx _ _ _ _ _ _ _ _ _ data => data.length ≤ 64
  | .txreq _ _ _ => true
  | .canAbort _ _ _ => true
  | .canTxComplete _ _ _ => true
  | .canTxTimeout _ _ => true
  | .errorPassive _ _ => true
  | .busOff _ => true
  | .recover _ _ => true
  | .canRecoveryDone _ => true
  | .canRxTimeout _ _ => true
  | .cyclicTaskStart _ => true
  | .errmaxExpiry => true
  | .evtGo _ _ => true
  | .taskPublish _ => true
  | .taskOverrun _ => true
  | .programLoad _ => true
  | .programLoadDone => true
  | .exchange _ _ => true
  | .exchangeFreeze => true
  | .exchangeMigrate => true
  | .migrationDone => true
  | .exchangeDurable => true
  | .cold _ => true
  | .discard _ => true
  | .retentionSetLogged => true
  | .redoApply => true
  | .add _ _ _ _ => true
  | .sub _ _ _ _ => true
  | .and _ _ _ _ => true
  | .or _ _ _ _ => true
  | .xor _ _ _ _ => true
  | .andn _ _ _ _ => true
  | .sll _ _ _ _ => true
  | .srl _ _ _ _ => true
  | .sra _ _ _ _ => true
  | .slt _ _ _ _ => true
  | .sltu _ _ _ _ => true
  | .min _ _ _ _ => true
  | .max _ _ _ _ => true
  | .clz _ _ _ => true
  | .sextb _ _ _ => true
  | .sexth _ _ _ => true
  | .mul _ _ _ _ => true
  | .mulh _ _ _ _ => true
  | .mulhu _ _ _ _ => true
  | .div _ _ _ _ => true
  | .divu _ _ _ _ => true
  | .rem _ _ _ _ => true
  | .remu _ _ _ _ => true
  | .slli _ _ _ _ => true
  | .srli _ _ _ _ => true
  | .srai _ _ _ _ => true
  | .addi _ _ _ _ => true
  | .andi _ _ _ _ => true
  | .ori _ _ _ _ => true
  | .xori _ _ _ _ => true
  | .slti _ _ _ _ => true
  | .sltiu _ _ _ _ => true
  | .lui _ _ _ => true
  | .lw _ _ _ _ => true
  | .lh _ _ _ _ => true
  | .lhu _ _ _ _ => true
  | .lb _ _ _ _ => true
  | .lbu _ _ _ _ => true
  | .sw _ _ _ _ => true
  | .sh _ _ _ _ => true
  | .sb _ _ _ _ => true
  | .ld _ _ _ _ => true
  | .sd _ _ _ _ => true
  | .beq _ _ _ _ => true
  | .bne _ _ _ _ => true
  | .blt _ _ _ _ => true
  | .bge _ _ _ _ => true
  | .bltu _ _ _ _ => true
  | .bgeu _ _ _ _ => true
  | .jal _ _ _ => true
  | .jalr _ _ _ _ => true
  | .qadd _ _ _ _ => true
  | .qsub _ _ _ _ => true
  | .qneg _ _ _ => true
  | .qabs _ _ _ => true
  | .qmul _ _ _ _ => true
  | .qmac _ _ _ _ => true
  | .qmulx _ _ _ _ => true
  | .qmacx _ _ _ _ => true
  | .qshl _ _ _ _ => true
  | .qshr _ _ _ _ => true
  | .qlim _ _ _ _ => true
  | .qxq _ _ _ => true
  | .qqx _ _ _ => true
  | .fadd _ _ _ _ => true
  | .fsub _ _ _ _ => true
  | .fmul _ _ _ _ => true
  | .fdiv _ _ _ _ => true
  | .fsqrt _ _ _ => true
  | .fmadd _ _ _ _ => true
  | .fmin _ _ _ _ => true
  | .fmax _ _ _ _ => true
  | .fneg _ _ _ => true
  | .fabs _ _ _ => true
  | .fcmpeq _ _ _ _ => true
  | .fcmplt _ _ _ _ => true
  | .fcmple _ _ _ _ => true
  | .fcvtws _ _ _ => true
  | .fcvtsw _ _ _ => true
  | .fcvtqs _ _ _ => true
  | .fcvtsq _ _ _ => true
  | .swap _ _ _ _ => true
  | .aadd _ _ _ _ => true
  | .fence _ => true
  | .fenceAcq _ => true
  | .fenceRel _ => true
  | .fenceI _ => true
  | .mfcr _ _ _ => true
  | .mtcr _ _ _ => true
  | .svreq _ _ => true
  | .dbgreq _ _ => true
  | .xret _ => true
  | .waiti _ => true
  | .waitiWake _ => true
  | .tpost _ _ _ _ _ => true
  | .ttake _ _ _ => true
  | .tdone _ _ => true
  | .twait _ _ => true
  | .twaitExpiry _ => true
  | .impreciseBusst _ => true
  | .interrupt _ => true
  | .timerCompare _ => true
  | .halt _ _ => true
  | .resume _ _ => true
  | .coreStep _ _ => true
  | .coreReset _ _ => true
  | .alloc _ => true
  | .dispFree _ _ => true
  | .dispArm _ _ => true
  | .cancel _ _ => true
  | .post _ _ _ => true
  | .prio _ _ => true
  | .tokenMatch => true
  | .delayRelease => true
  | .taskDispatch _ => true
  | .join _ _ => true
  | .leave _ _ => true
  | .hwmclr _ => true
  | .islandTick _ _ _ _ => true
  | .islandSilence => true
  | .safeInputSample _ _ => true
  | .testPulse _ _ _ _ _ _ _ => true
  | .lockstepMismatch => true
  | .tickWindow _ => true
  | .islandPowerUp => true
  | .islandStartDone _ => true
  | .configWriteDone => true
  | .switchTest _ _ _ _ _ => true
  | .telegramSend _ => true
  | .telegram _ bs => bs.length ≤ 256
  | .connectionTimeout _ => true
  | .closeMsg n k _ _ _ mode _ _ _ => n < 2 ^ 64 && k ≤ 1024 && mode ≠ 0
  | .item _ stamp _ _ => stamp < 2 ^ 96
  | .fwd _ stamp _ _ => stamp < 2 ^ 96
  | .hbeat n _ => n < 2 ^ 64
  | .digest n d => n < 2 ^ 64 && d.length = 8
  | .digestForm => true
  | .heartbeatMiss => true
  | .takeover => true
  | .leaderStall => true
  | .ownsnsFall _ => true
  | .laneDown _ => true
  | .twinHello _ _ _ _ => true
  | .twinSwap _ => true
  | .swapHandover => true
  | .twinResync _ => true
  | .abortrs _ => true
  | .state _ _ _ cut _ => cut < 2 ^ 64
  | .resyncCut => true
  | .resyncTimeout => true
  | .anchorTakeback _ => true
  | .modeRequest _ _ _ => true
  | .modeTransition => true
  | .reboot _ => true
  | .safeTrigger _ => true
  | .braceEntry => true
  | .braceExit => true
  | .d0PowerGood _ => true
  | .seedEnd => true
  | .nresetAccept => true
  | .nresetRelease => true
  | .nresetStuck => true
  | .blockSoftReset _ _ => true
  | .feedMeasure _ _ _ _ rails banks => rails.length = 12 && banks.length = 8
  | .feedLow _ => true
  | .feedPresent _ => true
  | .feedOvervoltage _ => true
  | .supplyWarning => true
  | .retentionCommitDone => true
  | .warningDeassert _ => true
  | .feedReset _ => true
  | .dark => true
  | .domainFault _ _ => true
  | .domainSwitch _ _ => true
  | .vioLow _ => true
  | .peakclr _ => true
  | .hostPacketRx _ _ _ _ _ _ _ => true
  | .openReq _ _ _ _ proof => proof.length < 2 ^ 16
  | .hostClose _ _ _ => true
  | .ping _ _ _ => true
  | .read _ _ _ _ _ => true
  | .write _ _ _ _ ws => ws.length < 2 ^ 16
  | .mbxread _ _ _ _ _ _ => true
  | .sigread _ _ _ _ _ => true
  | .sigwrite _ _ _ _ _ _ => true
  | .hostMode _ _ _ _ => true
  | .ringread _ _ _ _ _ => true
  | .stropen _ _ _ _ _ => true
  | .strclose _ _ _ _ => true
  | .evsub _ _ _ _ => true
  | .sessionIdleTimeout _ => true
  | .requestTimeout _ _ => true
  | .destResolveTimeout _ => true
  | .streamRow _ => true
  | .streamPacketSend _ _ => true
  | .streamAck _ _ naks => naks.length ≤ 16
  | .streamRetransmit _ => true
  | .streamForceClose _ _ => true
  | .eventOccurrence => true
  | .fumaroleWindowClose => true
  | .fumaroleKeyExpiry => true
  | .eventRecordWrite => true
  | .repeatWriteback => true
  | .safeMirrorRead => true
  | .tempSample t => t.length = 24
  | .tavgUpdate => true
  | .ageingUpdate ro em mw => ro.length = 12 && em.length = 2 && mw.length = 11
  | .queryTimeout => true
  | .kick _ => true
  | .keeperWatchdog => true
  | .credSet _ _ => true
  | .lockoutExpiry => true
  | .mgmtPacketRx _ _ _ _ _ => true
  | .monitorLine _ => true
  | .monLogin _ => true
  | .auth resp => resp.length ≤ 256
  | .logout => true
  | .monMode _ => true
  | .peek _ _ => true
  | .poke _ _ => true
  | .log _ _ _ => true
  | .sense => true
  | .time => true
  | .twin => true
  | .updateStatus => true
  | .updateData _ bs => bs.length ≤ 256
  | .baud _ => true
  | .help _ => true
  | .monitorIdleTimeout => true
  | .begin _ => true
  | .chunk _ => true
  | .finish _ => true
  | .activate _ => true
  | .confirm _ => true
  | .updCancel _ => true
  | .trialHealthCheck => true
  | .trialFallback => true
  | .save _ => true
  | .eraseLog _ => true
  | .eraseRet _ => true
  | .eraseDev _ => true
  | .eraseAge _ => true
  | .nvmCmdDone => true
  | .pwmOnEnd _ => true
  | .blankingWindowClose _ => true
  | .feedOvervoltageEnd _ => true
  | .hostLinkChange _ _ _ _ => true
  | .illegalInstruction _ _ => true
  | .seedStepDone _ _ _ => true
  | .nresetRearm => true
  | .updCmdDone _ => true

end Sys2Proof
end

