-- ==== Sys2Proof/Tests/Slice0.lean ====
section
/-!
SUPPORT. The model's own tests: an ill-formed command for each check of Instr.wf, values worked out in the spec, and, for
each statement with hypotheses, a state and operands that meet them together (one conjunct per clause).
-/
namespace Sys2Proof.Tests
open Sys2Proof.Machine

/-! ### States -/

/-- A device in Run with every domain on and a session 0 of the maker. -/
def tBase : State :=
  ((State.reset.setFld SYS_MODE_CUR 5).setFld PWR_DOMSTAT_ON 0xFFF).modSess 0 (fun x => { x with isOpen := true, role := .maker })

/-- The same with the time base started and every core at address 0 of its memory, in supervisor mode. -/
def tRun : State :=
  { tBase with tb := { started := true, dt := 2 ^ 60 }, cores := List.replicate 18 { run := .running } }

/-- The same with the general registers 0 to 3 of core 0 as listed. -/
def tGr (a b c : Word) : State := tRun.modCore 0 (fun x => { x with g := [0, a, b, c, 0, 0, 0, 0, 0, 0] })

/-- A property of the next state; false where there is none. -/
def after (o : Host.Outcome State Fault Refusal) (p : State → Bool) : Bool :=
  match o with
  | .next t => p t
  | _ => false

/-! ### Well-formed commands: one ill-formed command for each check -/

theorem test_wf_integers : let m : SyncMsg := { dom := 0, t := 0, set_ := none }
    ((Instr.ptpSyncReceived (2 ^ 47) 0 0 0 m).wf || (Instr.ptpSyncReceived 0 (2 ^ 47) 0 0 m).wf ||
    (Instr.ptpSyncReceived 0 0 (2 ^ 96) 0 m).wf || (Instr.ptpSyncReceived 0 0 0 (2 ^ 96) m).wf || (Instr.conversionComplete 0 65536).wf ||
    (Instr.drivePeriod 0 (2 ^ 31) 0).wf || (Instr.drivePeriod 0 0 (-(2 ^ 31) - 1)).wf) = false := by decide

theorem test_wf_field_lists : ((Instr.calBlock 0 [] 0 (List.replicate 16 0) (List.replicate 16 0) 0).wf ||
    (Instr.toneItem 0 [] []).wf || (Instr.arcAssert 0 none [0] 0).wf ||
    (Instr.acqTrigger 0 { feed := { tones := [[]] }, age := 0 }).wf || (Instr.segmentComplete 0 [{ tones := [[]] }]).wf ||
    (Instr.drep 0 true (List.replicate 1519 0)).wf || (Instr.cack 0 true (List.replicate 1519 0)).wf ||
    (Instr.hello 0 true (List.replicate 1519 0)).wf || (Instr.ifr 0 true (List.replicate 1519 0)).wf ||
    (Instr.telegram true (List.replicate 257 0)).wf ||
    (Instr.canFrameRx 0 .good true true true true true 0 0 (List.replicate 65 0)).wf) = false := by decide +kernel

theorem test_wf_segment : (Instr.segmentComplete 0 [{}, {}, {}, {}, {}]).wf = false := by decide

theorem test_wf_twin : ((Instr.closeMsg (2 ^ 64) 0 0 0 [] 1 0 true []).wf || (Instr.closeMsg 0 1025 0 0 [] 1 0 true []).wf ||
    (Instr.closeMsg 0 0 0 0 [] 0 0 true []).wf || (Instr.item 0 (2 ^ 96) 0 (.trig 0 true true true 0)).wf || (Instr.hbeat (2 ^ 64) true).wf ||
    (Instr.digest 0 []).wf || (Instr.digest (2 ^ 64) (List.replicate 8 0)).wf ||
    (Instr.state 0 0 0 (2 ^ 64) []).wf) = false := by decide

theorem test_wf_host : ((Instr.feedMeasure 0 0 0 0 [] (List.replicate 8 0)).wf ||
    (Instr.feedMeasure 0 0 0 0 (List.replicate 12 (0, 0)) []).wf || (Instr.streamAck 0 0 (List.replicate 17 0)).wf ||
    (Instr.tempSample []).wf || (Instr.ageingUpdate [] [0, 0] (List.replicate 11 0)).wf ||
    (Instr.ageingUpdate (List.replicate 12 0) [] (List.replicate 11 0)).wf ||
    (Instr.ageingUpdate (List.replicate 12 0) [0, 0] []).wf || (Instr.auth (List.replicate 257 0)).wf ||
    (Instr.updateData 0 (List.replicate 257 0)).wf) = false := by decide +kernel

/-- A proof and a write of 65,536 bytes and words; the lists are never built. -/
theorem test_wf_long (l : List Byte) (w : List Word) (h : l.length = 2 ^ 16) (k : w.length = 2 ^ 16) :
    (Instr.openReq 0 0 0 .maker l).wf = false ∧ (Instr.write 0 0 true 0 w).wf = false := by
  show decide (l.length < 2 ^ 16) = false ∧ decide (w.length < 2 ^ 16) = false
  exact ⟨decide_eq_false (by omega), decide_eq_false (by omega)⟩

theorem test_wf_forwarded : (Instr.fwd 0 (2 ^ 96) none []).wf = false := by decide

/-! ### Values worked out in the spec -/

/-- 14: QMAC g5, g6, g7 with 0.5, 1.5 and 1.25 saturates and sets SATF.ADD. -/
theorem test_qmac : after (exec (.qmac 0 5 6 7) (tRun.modCore 0 (fun x =>
    { x with g := [0, 0, 0, 0, 0, 0x20000000, 0x60000000, 0x50000000] })))
    (fun t => t.gr 0 5 = 0x7FFFFFFF ∧ (t.core 0).satf = 1 ∧ (t.core 0).pc = 4) = true := by decide +kernel

/-- 14: QQX g8, g5 of 0x7FFFFFFF is 2.0 in Q15.16. -/
theorem test_qqx : after (exec (.qqx 0 8 5) (tRun.modCore 0 (fun x =>
    { x with g := [0, 0, 0, 0, 0, 0x7FFFFFFF, 0, 0, 0] }))) (fun t => t.gr 0 8 = 0x20000) = true := by decide +kernel

/-- 14: the words of QMAC g5, g6, g7, of QQX g8, g5 and of BEQ g3, g13, -4. -/
theorem test_spw_words : wordR 0x18 5 5 6 7 0 = 0x298E0158 ∧ wordI 0x10 13 3 0xFFFF = 0x68FFFFD0 ∧
    spwUndefined 0x298E0158 = false ∧ spwUndefined 0x41400318 = false ∧ spwUndefined 0x68FFFFD0 = false := by decide

/-- 02: the alias address 0x50100010 with 1 clears SYS_RSVW.RSVW and leaves MST. -/
theorem test_alias : after (exec (.bitAliasWrite (.host 0) 0x50100010 true)
    ((tRun.setFld SYS_RSVW_RSVW 1).setFld SYS_RSVW_MST 9))
    (fun t => t.fld SYS_RSVW_RSVW = 0 ∧ t.fld SYS_RSVW_MST = 9) = true := by decide +kernel

/-- 02: a second window of 8 units at 100 overlaps one of 64 at 64: its SIZE stays 0 and SYS.LOCKV is set. -/
theorem test_window : after (exec (.windowDescriptorWrite (.host 0) 1 true 8)
    ((((tRun.setFld SYS_MODE_CUR 3).setFld SYS_WINB_BASE 64 [0]).setFld SYS_WINS_SIZE 64 [0]).setFld SYS_WINB_BASE 100 [1]))
    (fun t => t.fld SYS_WINS_SIZE [1] = 0 ∧ t.isSet TAIL_STICKY_LOCKV [0]) = true := by decide +kernel

/-- 01: SEC 120, NS 3,000,000 is tick 24,000,600. -/
theorem test_tick : tickNo (120 * secF + 3000000 * nsF) = 24000600 := by decide +kernel

/-- 03 R90, R91: a step back reaches its edge and device time goes on from its value; a base tick that the step comes before is
the first one from there. -/
theorem test_step_back :
    let u := pendTb (.step 0) { tRun with tb := { started := true, dt := (10 ^ 9 + 8) * nsU } }
    (toPending TbOp.isStep u).now = 0 ∧ (beforeTick u).now = 0 ∧ nextTick (beforeTick u) = 0 ∧
      (advanceTo (tickAt 3) (beforeTick u)).tick = 3 := by decide +kernel

/-- 05: MUL rounds 1.5 units to 2 and -1.5 units to -1; 1.5 x 1.25 with SH 1 clamps and sets MUL. -/
theorem test_loop_mul :
    let run := fun (a b : Int) (w : Nat) => let x := loopOp { c := { w := [a, b, 0] }, auto := true, init := false } w
      (nth x.c.w 2 0, x.flags)
    run 3 0x20000000 0x0802000100000000 = (2, 0) ∧ run (-3) 0x20000000 0x0802000100000000 = (-1, 0) ∧
      run 0x60000000 0x50000000 0x0802000100000000 = (0x78000000, 0) ∧
      run 0x60000000 0x50000000 0x0802000100010000 = (0x7FFFFFFF, 2) := by decide +kernel

/-- 09: Dpred and Rpred of four stations of 64 bytes each way. -/
theorem test_rio_pred : rioPred ((List.range 4).foldl (fun s i => (((s.setFld RIO_ST_CFG_EN 1 [i]).setFld RIO_ST_LEN_ILEN 64
    [i]).setFld RIO_ST_LEN_OLEN 64 [i]).setReg RIO_ST_DLY (BitVec.ofNat 32 (100 * (i + 1))) [i]) tRun) 0 = (18744, 31992) := by
  decide +kernel

/-- 11: the plan of REL 10,000 with profile 2 lasts 13,000 ticks, and has 1,500 counts and full speed after 3,000. -/
theorem test_plan :
    let p := (planMove { v := 1, a := 1 / 2000, d := 1 / 2000, j := 1 / 2000000 } 0 0 0 10000).1
    runSegs p 3000 (0, 0, 0) = (1500, 1, 0) ∧ segTicks p = 13000 := by decide +kernel

/-- 12: the bytes 0xF9 0xC0, signed and most significant first, write -1,600 to SID 5,120. -/
theorem test_can_signal : (canSignals 2 5 [0, 0, 0xF9, 0xC0] 5 7 ((((((tRun.setFld CAN_MAP_A_EN 1 [40]).setFld CAN_MAP_A_CTRL 2
    [40]).setFld CAN_MAP_A_MB 5 [40]).setReg CAN_MAP_B 0x0010000F [40]).setFld CAN_MAP_A_FMT 1 [40]).setFld CAN_MAP_A_ORDER 1
    [40] |>.setFld CAN_MAP_A_SID 5120 [40])).sigVal 5120 = 2 ^ 32 - 1600 := by decide +kernel

/-- 07: two raw streams at DEC 0 need 16,256,000,000 B/s, four at DEC 1 the same, four at DEC 0 the double. -/
theorem test_acq_rate : setRate (tRun.setFld ACQ_SET_STRM_S3_S0 0x21 [4]) 4 = 16256000000 ∧
    setRate (tRun.setFld ACQ_SET_STRM_S3_S0 0x4321 [6]) 6 = 32256000000 ∧
    setRate ((tRun.setFld ACQ_SET_STRM_S3_S0 0x4321 [6]).setFld ACQ_SET_STRM_DEC 1 [6]) 6 = 16256000000 := by decide +kernel

/-! ### The statements of the rules: states and operands that meet the hypotheses of each clause -/

/-- StepRunsFront and IdleStep: a queue with a command, and the empty queue of the reset state. -/
theorem wit_StepRunsFront : ∃ (c : Instr) (s : State), s.pending = [c] ∧ State.reset.pending = [] :=
  ⟨.baseTick, { tRun with pending := [.baseTick] }, rfl, rfl⟩

/-- QueueInOrder and MemoryStaysCanonical: a canonical memory, and a run that takes every command of its queue. -/
theorem wit_QueueInOrder : let s := { tRun with pending := [.fence 17, .pwmCommit (.core 0) 0xFFFF] }
    s.pending.length = 2 ∧ Memory.wf s.mem = true ∧ after (steps 2 s) (fun _ => true) = true := by decide +kernel

/-- EveryCommandRuns: no block is tainted; and a tainted one, whose commands stop. -/
theorem wit_EveryCommandRuns : tRun.tainted = [] ∧
    (match exec (.lockSet (.core 0) .twin) { tRun with tainted := [15] } with
      | .fault .unspecifiedBehaviour => true
      | _ => false) = true := by decide +kernel

/-- DarkIsFrozen: a command in Dark answers a next state. -/
theorem wit_DarkIsFrozen : let s := tRun.setFld SYS_MODE_CUR 0
    s.mode = .dark ∧ (∀ low, Instr.baseTick ≠ .d0PowerGood low) ∧ after (exec .baseTick s) (fun _ => true) = true := by
  refine ⟨by decide +kernel, fun low h => Instr.noConfusion h, by decide +kernel⟩

/-- GuardRule: a read of a G1 register by the DMA engine; a write out of scope, and one without the guard. -/
theorem wit_GuardRule :
    (let a : Word := BitVec.ofNat 32 (SYS_WINB.addr [63])
     placeAt a.toNat = some (.reg SYS_WINB [63]) ∧ a.toNat % 4 = 0 ∧ SYS_WINB.inRange [63] = true ∧
      tRun.powered .sys = true ∧ (inScope .island .sys = false ∨ qualifies tRun .island SYS_WINB.wr = false)) ∧
    (inScope (.core 15) SYS_WINB.blk = true ∧ qualifies tRun (.core 15) SYS_WINB.wr = false) ∧
    (let a : Word := BitVec.ofNat 32 (KPR_CREDK.addr [7])
     placeAt a.toNat = some (.reg KPR_CREDK [7]) ∧ a.toNat % 4 = 0 ∧ KPR_CREDK.inRange [7] = true ∧
      tRun.powered KPR_CREDK.blk = true ∧ qualifies tRun .dma KPR_CREDK.rd = false) := by decide +kernel

/-- RefusedWrites: a host's write to SAFE; a block that is off; a locked block; the same write while it is not locked. -/
theorem wit_RefusedWrites :
    (SAFE_STAT.inRange [] = true ∧ SAFE_STAT.blk = .safe ∧ inScope (.host 0) .safe = false) ∧
    (SYS_WINB.inRange [63] = true ∧ RCP_POOL.inRange [] = true ∧ RCP_POOL.blk ≠ .safe ∧ (tRun.setFld PWR_DOMSTAT_ON 0).powered .rcp = false) ∧
    (let s := { tRun with locked := [0] }
     s.powered .sys = true ∧ inScope (.host 0) .sys = true ∧ qualifies s (.host 0) SYS_WINB.wr = true ∧
      changesLk SYS_WINB (s.reg SYS_WINB [63]) 1023 = true ∧ 0 ∈ s.locked) ∧
    (changesLk SYS_WINB (tRun.reg SYS_WINB [63]) 1023 = true ∧ 0 ∉ tRun.locked ∧
      changesReserved SYS_WINB (tRun.reg SYS_WINB [63]) 1023 = false ∧
      (match actOf SYS_WINB (.host 0) [63] 1023 (tRun.setFld SYS_MODE_CUR 3) with | .ok _ => true | .no _ _ _ => false) = true) := by
  decide +kernel

/-- ReservedFieldWrite: a write of bit 15 of a window's base register in Provision, and one of the island to a reserved field of
SAFE_STAT. -/
theorem wit_ReservedFieldWrite :
    (let s := tRun.setFld SYS_MODE_CUR 3
    let m : Master := .host 0
    let a : Word := BitVec.ofNat 32 (SYS_WINB.addr [63])
    let b := s.begin
    placeAt a.toNat = some (.reg SYS_WINB [63]) ∧ blockAt a.toNat = some SYS_WINB.blk ∧ a.toNat % 4 = 0 ∧
      SYS_WINB.addr [63] = a.toNat ∧ Live (touched a.toNat) s ∧ SYS_WINB.inRange [63] = true ∧
      b.powered SYS_WINB.blk = true ∧ inScope m SYS_WINB.blk = true ∧ qualifies b m SYS_WINB.wr = true ∧
      (changesLk SYS_WINB (b.reg SYS_WINB [63]) 0x8000 = true → SYS_WINB.blk.index ∉ b.locked) ∧
      changesReserved SYS_WINB (b.reg SYS_WINB [63]) 0x8000 = true ∧
      hostAdmits m SYS_WINB.blk b = none ∧ SYS_WINB.blk ≠ .safe ∧
      (match actOf SYS_WINB m [63] 0x8000 b with | .ok _ => true | .no _ _ _ => false) = true) ∧
    (let a : Word := BitVec.ofNat 32 (SAFE_STAT.addr [])
     let b := tRun.begin
     placeAt a.toNat = some (.reg SAFE_STAT []) ∧ blockAt a.toNat = some SAFE_STAT.blk ∧ a.toNat % 4 = 0 ∧
      SAFE_STAT.addr [] = a.toNat ∧ Live (touched a.toNat) tRun ∧ SAFE_STAT.inRange [] = true ∧ b.powered SAFE_STAT.blk = true ∧
      inScope .island SAFE_STAT.blk = true ∧ qualifies b .island SAFE_STAT.wr = true ∧
      changesLk SAFE_STAT (b.reg SAFE_STAT []) 0x80000000 = false ∧ changesReserved SAFE_STAT (b.reg SAFE_STAT []) 0x80000000 = true ∧
      hostAdmits .island SAFE_STAT.blk b = none ∧ SAFE_STAT.blk = .safe) := by
  unfold Live specified; decide +kernel

/-- WriteByAccessCode: the least and the greatest bit of RCP_LOAD_SRC; a reserved bit and the clear bit of SYS_RSVW. -/
theorem wit_WriteByAccessCode :
    (∀ g ∈ RCP_LOAD_SRC.fields, fieldFits g = true ∧ g.acc = .rw ∧ g.lo ≤ 0 ∧ 31 ≤ g.hi) ∧
    (∀ g ∈ SYS_RSVW.fields, fieldFits g = true) ∧
    (∃ f ∈ SYS_RSVW.fields, f.acc = .w1cTo 0 ∧ f.lo ≤ 1 ∧ 1 ≤ f.hi ∧ (0x2#32).getLsbD 1 = true) ∧
    (∀ g ∈ SYS_WINB.fields, fieldFits g = true ∧ ¬(g.lo ≤ 15 ∧ 15 ≤ g.hi) ∧ ∀ t, g.acc ≠ .w1cTo t) := by
  refine ⟨by decide, by decide, by decide, fun g h => ?_⟩
  have h' : g ∈ ([⟨17, 16, .lk⟩, ⟨9, 0, .lk⟩] : List FieldDesc) := h
  simp only [List.mem_cons, List.not_mem_nil, or_false] at h'
  rcases h' with rfl | rfl <;> refine ⟨by decide, by decide, fun t ht => by cases ht⟩

/-- EventFabricCredits: a queue with room and nothing held, a full queue, and a token to take. -/
theorem wit_EventFabricCredits :
    (∃ f, tRun.fab[24]? = some f ∧ f.held = [] ∧ f.tokens.length < f.depth) ∧
    (let s := { tRun with fab := modNth tRun.fab 23 (fun f => { f with tokens := List.replicate 64 (.arm 0 0) }) }
     ∃ f, s.fab[23]? = some f ∧ f.depth ≤ f.tokens.length ∧ f.tokens.length ≤ f.depth ∧ f.tokens ≠ []) :=
  ⟨⟨{ tx := 6, rx := 10, depth := 64, tokens := [] }, by decide +kernel⟩,
    ⟨{ tx := 23, rx := 19, depth := 64, tokens := List.replicate 64 (.arm 0 0) }, by decide +kernel⟩⟩

/-- RegisterInstructionFrame and BoundaryOrder: the destination registers at both ends of their range. -/
theorem wit_RegisterInstructionFrame : regDest (.add 17 31 1 2) = some (17, 31) ∧ regDest (.beq 0 1 2 0xFFFF) = some (0, 0) ∧
    Live (spwBlocks 17) tRun ∧ Executes 17 (ready 17 tRun) ∧ Live (spwBlocks 0) tRun ∧ Executes 0 (ready 0 tRun) := by
  unfold Live specified Executes; decide +kernel

/-- StoreFrame: the last word of a core's data memory, and a byte of the control plane's Caldera memory. -/
theorem wit_StoreFrame :
    (let s := tGr 0x3FFFC 7 0
     let t := ready 0 s
     Live (spwBlocks 0 ++ spwTouched s 0 (spwAddr (settle 0 s) 0 1 0)) s ∧ Executes 0 t ∧ spwAddr t 0 1 0 % 4 = 0 ∧
      (storedAt t 0 (spwAddr t 0 1 0) 4).isSome = true) ∧
    (let s := tGr 0x10000007 7 0
     let t := ready 0 s
     Live (spwBlocks 0 ++ spwTouched s 0 (spwAddr (settle 0 s) 0 1 0xFFFF)) s ∧ Executes 0 t ∧
      storedAt t 0 (spwAddr t 0 1 0xFFFF) 1 = some 0x10000006) := by
  unfold Live specified Executes; decide +kernel

/-- MisalignedAccess: each width at an address one short of a multiple of it. -/
theorem wit_MisalignedAccess : let s := tGr 0x3FFF7 7 0
    let t := ready 0 s
    let a := spwAddr t 0 1 0
    Live (spwBlocks 0 ++ spwTouched s 0 (spwAddr (settle 0 s) 0 1 0)) s ∧ Executes 0 t ∧ a % 4 ≠ 0 ∧ a % 2 ≠ 0 ∧ a % 8 ≠ 0 ∧
      (t.core 0).xact = false ∧ (t.core 0).pc % 4 = 0 ∧ (t.core 0).pc < 2 ^ 32 := by
  unfold Live specified Executes; decide +kernel

/-- DoubleFault: XACT 1 on a control core whose queue has room, and on the Keeper core. -/
theorem wit_DoubleFault : let s := (tRun.modCore 15 (fun x => { x with psr := 5 })).modCore 16 (fun x => { x with psr := 5 })
    (Live (spwBlocks 15) s ∧ Executes 15 (ready 15 s) ∧ ((ready 15 s).core 15).xact = true ∧
      (∃ f, (ready 15 s).fab[22]? = some f ∧ f.held = [] ∧ f.tokens.length < f.depth)) ∧
    (Live (spwBlocks 16) s ∧ Executes 16 (ready 16 s) ∧ ((ready 16 s).core 16).xact = true) := by
  unfold Live specified Executes
  exact ⟨⟨by decide +kernel, by decide +kernel, by decide +kernel,
    ⟨{ tx := 22, rx := 19, depth := 64, tokens := [] }, by decide +kernel⟩⟩, by decide +kernel, by decide +kernel, by decide +kernel⟩

/-- BoundaryOrder: a waiting BUSST, a breakpoint at the PC, a PC in Caldera with D6 off, and an enabled interrupt, each alone. -/
theorem wit_BoundaryOrder :
    let s := ((((tRun.setFld PWR_DOMSTAT_ON 0xFBF).modCore 0 (fun x => { x with imp := some (0x100, 6) })).modCore 1
      (fun x => { x with bkpt := 1 })).modCore 2 (fun x => { x with pc := 0x10000000 })).modCore 3 (fun x => { x with psr := 3, timer := true, imask := 1 })
    let x := fun k => (ready k s).core k
    (∀ k ∈ [0, 1, 2, 3], Live (spwBlocks k) s ∧ (x k).run = .running ∧ (x k).halted = false ∧ (x k).xact = false) ∧
    (x 0).imp.isSome = true ∧
    ((x 1).imp = none ∧ (x 1).bkpt.getLsbD 0 = true ∧ (x 1).bkpt.toNat / 4 * 4 = (x 1).pc) ∧
    ((x 2).imp = none ∧ (x 2).bkpt.getLsbD 0 = false ∧ (match fetchAt (ready 2 s) 2 (x 2).pc with | some (_ + 1) => true | _ => false) = true) ∧
    ((x 3).imp = none ∧ (x 3).bkpt.getLsbD 0 = false ∧ fetchAt (ready 3 s) 3 (x 3).pc = some 0 ∧ interruptReady (x 3) = true) := by
  unfold Live specified; decide +kernel

/-- BaseTickNumbers: the last tick of a second, both of its ends. -/
theorem wit_BaseTickNumbers : tickAt 199999 ≤ secF - 1 ∧ secF - 1 < tickAt 200000 ∧ secF / secF < 2 ^ 48 := by decide +kernel

/-- RegisterAddressesDecode: an element at the end of a family's range decodes. -/
theorem wit_RegisterAddressesDecode : SYS_WINB ∈ blockRegs .sys ∧ SYS_WINB.inRange [63] = true ∧
    placeAt (SYS_WINB.addr [63]) = some (.reg SYS_WINB [63]) := by decide +kernel

/-! ### The statements of SPW32 whose clauses name values -/

/-- IntegerGroup: an executing core at each end of the range, and 32 and 0 leading zeros. -/
theorem wit_IntegerGroup : (Live (spwBlocks 17) tRun ∧ Executes 17 (ready 17 tRun)) ∧
    ((∀ i < 32, (0#32).getMsbD i = false) ∧ (0x80000000#32).getMsbD 0 = true) := by
  unfold Live specified Executes; decide +kernel

/-- ImmediateInstructions: an undefined word with XACT 0. -/
theorem wit_ImmediateInstructions : Live (spwBlocks 17) tRun ∧ Executes 17 (ready 17 tRun) ∧ spwUndefined 0xFFFFFFFF = true ∧
    ((ready 17 tRun).core 17).xact = false := by unfold Live specified Executes; decide +kernel

/-- LoadsComplete: reads of 1, 2, 4 and 8 bytes at the end of a core's data memory. -/
theorem wit_LoadsComplete : let s := tGr 0x3FFF8 0 0
    let t := ready 0 s
    let a := spwAddr t 0 1 0
    Live (spwBlocks 0 ++ spwTouched s 0 (spwAddr (settle 0 s) 0 1 0)) s ∧ Executes 0 t ∧
      ∀ n ∈ [1, 2, 4, 8], a % n = 0 ∧ ((coreRead 0 a n t).1 = .ok 0) := by
  unfold Live specified Executes; decide +kernel

/-- AtomicsComplete: a word of the control plane's Caldera memory; a misaligned address; a place that takes no atomics. -/
theorem wit_AtomicsComplete : let s := tGr 0x10400000 0x10400002 0x40000000
    let t := ready 0 s
    let a := fun (r : Nat) => (t.gr 0 r).toNat
    let w := busWrite (coreMaster 0) (a 1) 4 5 (busRead (coreMaster 0) (a 1) 4 t).2
    Live (spwBlocks 0) s ∧ Executes 0 t ∧
      (a 1 % 4 = 0 ∧ atomicAt 0 (a 1) = true ∧ (busRead (coreMaster 0) (a 1) 4 t).1 = .ok 0 ∧ w.1 = .ok 0) ∧
      (t.core 0).xact = false ∧ a 2 % 4 ≠ 0 ∧ (a 3 % 4 = 0 ∧ atomicAt 0 (a 3) = false) := by
  unfold Live specified Executes; decide +kernel

/-- FencesComplete: each of the four, on core 17. -/
theorem wit_FencesComplete : Live (spwBlocks 17) tRun ∧ Executes 17 (ready 17 tRun) ∧
    ∃ i, i = Instr.fence 17 ∨ i = .fenceAcq 17 ∨ i = .fenceRel 17 ∨ i = .fenceI 17 := by
  refine ⟨?_, ?_, .fence 17, Or.inl rfl⟩
  · unfold Live specified; decide +kernel
  · unfold Executes; decide +kernel

/-- ControlRegisterInstructions: number 18 in supervisor mode, number 19, and number 18 in user mode. -/
theorem wit_ControlRegisterInstructions : let u := tRun.modCore 0 (fun x => { x with psr := 0 })
    (Live (spwBlocks 0) tRun ∧ Executes 0 (ready 0 tRun) ∧ (18 : Fin 32).val ≤ 18 ∧ 18 < (19 : Fin 32).val ∧
      ((ready 0 tRun).core 0).priv = true ∧ ((ready 0 tRun).core 0).xact = false) ∧
    (Live (spwBlocks 0) u ∧ Executes 0 (ready 0 u) ∧ ((ready 0 u).core 0).priv = false ∧ ((ready 0 u).core 0).xact = false ∧
      (∃ n ≤ 18, crG1 n = true)) := by
  unfold Live specified Executes
  exact ⟨by decide +kernel, by decide +kernel, by decide +kernel, by decide +kernel, by decide +kernel, by decide +kernel⟩

/-- TokenAndTimeInstructions: a task with four tokens on a control core, no task there, and a core of 16 or above. -/
theorem wit_TokenAndTimeInstructions :
    (let s := tRun.modCore 15 (fun x => { x with task := some 4095, toks := [1, 2, 3, 4] })
     Live (.disp :: spwBlocks 15) s ∧ Executes 15 (ready 15 s) ∧ ((ready 15 s).core 15).task.isSome = true ∧
      ((ready 15 s).core 15).toks[3]? = some 4) ∧
    (Live (.disp :: spwBlocks 15) tRun ∧ Executes 15 (ready 15 tRun) ∧ ((ready 15 tRun).core 15).task = none ∧
      ((ready 15 tRun).core 15).xact = false) ∧
    (Live (.disp :: spwBlocks 16) tRun ∧ Executes 16 (ready 16 tRun) ∧ ((ready 16 tRun).core 16).xact = false) := by
  unfold Live specified Executes; decide +kernel

/-! ### The other statements: each conjunct meets the hypotheses of one clause -/

/-- ModeRequests. -/
theorem wit_ModeRequests :
    (let t : Fin 17 := 15
     let n := t.val
     (n = 0 ∨ n = 1 ∨ n = 7 ∨ n = 8 ∨ (10 ≤ n ∧ n ≤ 15))) ∧
    (let t : Fin 17 := 4
     let role : Role := .maker
     let s : State := tRun
     let n := t.val
     let b := s.begin
     b.mc.pendMode = none ∧ requestCode b n role = codeDone ∧ ¬(n = 9 ∧ b.mode = .safe)) ∧
    (let s : State := { tRun with mc := { tRun.mc with pendMode := some { target := 16, role := .maker, id := 0, path := 69, seq := 0 } } }
     let b := s.begin
     b.mc.pendMode ≠ none ∧ b.mode ≠ .provision) ∧
    (let s : State := tRun
     let b := s.begin
     Live [.sys] s ∧ b.mode ≠ .seed ∧ b.mode ≠ .keeper ∧ b.mode ≠ .resync ∧ b.kpr.qM.length < 16) ∧
    (let s : State := { tRun with kpr := { qM := List.replicate 16 { target := 4, role := .maker, id := 0, path := 69, seq := 0 } } }
     let b := s.begin
     Live [.sys] s ∧ b.mode ≠ .seed ∧ b.mode ≠ .keeper ∧ b.mode ≠ .resync ∧ 16 ≤ b.kpr.qM.length) := by
  unfold Live specified
  refine ⟨?_, ?_, ?_, ?_, ?_⟩ <;> decide +kernel

/-- DivisionGroup. -/
theorem wit_DivisionGroup :
    (let c : Fin 18 := 0
     let rb : Fin 32 := 0
     let s : State := tRun
     let t := ready c.val s
     let b := t.gr c.val rb.val
     Live (spwBlocks c.val) s ∧ Executes c.val (ready c.val s) ∧ b = 0) ∧
    (let c : Fin 18 := 0
     let ra : Fin 32 := 1
     let rb : Fin 32 := 2
     let s : State := tRun.modCore 0 (fun x => { x with g := [0, 0x80000000, 0xFFFFFFFF] })
     let t := ready c.val s
     let a := t.gr c.val ra.val
     let b := t.gr c.val rb.val
     Live (spwBlocks c.val) s ∧ Executes c.val (ready c.val s) ∧ b ≠ 0 ∧ a.toInt = -2 ^ 31 ∧ b.toInt = -1) ∧
    (let c : Fin 18 := 0
     let rb : Fin 32 := 2
     let s : State := tRun.modCore 0 (fun x => { x with g := [0, 0x80000000, 0xFFFFFFFF] })
     let t := ready c.val s
     let b := t.gr c.val rb.val
     Live (spwBlocks c.val) s ∧ Executes c.val (ready c.val s) ∧ b ≠ 0) := by
  unfold Executes Live specified
  refine ⟨?_, ?_, ?_⟩ <;> decide +kernel

/-- BranchesAndJumps. -/
theorem wit_BranchesAndJumps :
    let c : Fin 18 := 0
    let s : State := tRun
    let t := ready c.val s
    let pc := (t.core c.val).pc
    Live (spwBlocks c.val) s ∧ Executes c.val (ready c.val s) ∧ (ready c.val s |>.core c.val).pc < 2 ^ 32 ∧ (ready c.val s |>.core c.val).pc % 4 = 0 := by
  unfold Executes Live specified
  decide +kernel

/-- FixedPointGroup. -/
theorem wit_FixedPointGroup :
    let c : Fin 18 := 0
    let s : State := tRun
    Live (spwBlocks c.val) s ∧ Executes c.val (ready c.val s) := by
  unfold Executes Live specified
  decide +kernel

/-- BinaryGroupCompletes. -/
theorem wit_BinaryGroupCompletes :
    let c : Fin 18 := 0
    let rd : Fin 32 := 0
    let ra : Fin 32 := 0
    let rb : Fin 32 := 0
    let s : State := tRun
    let t := ready c.val s
    let g := fun (r : Fin 32) => (t.gr c.val r.val).toNat
    let z := (t.core c.val).fpcr.getLsbD 0
    let open_ := (fIsInf (fIn z (g ra)) && fIsZero (fIn z (g rb)) || fIsZero (fIn z (g ra)) && fIsInf (fIn z (g rb))) &&
      fIsNan (fIn z (g rd)) && !fIsSNaN (fIn z (g rd))
    Live (spwBlocks c.val) s ∧ Executes c.val (ready c.val s) ∧ open_ = false := by
  unfold Executes Live specified
  decide +kernel

/-- StoresComplete. -/
theorem wit_StoresComplete :
    let c : Fin 18 := 0
    let rb : Fin 32 := 0
    let ra : Fin 32 := 0
    let imm : BitVec 16 := 0
    let s : State := tRun
    Live (spwBlocks c.val ++ spwTouched s c.val (spwAddr (settle c.val s) c.val ra.val imm)) s ∧ Executes c.val (ready c.val s) ∧ rb.val % 2 = 0 := by
  unfold Executes Live specified
  decide +kernel

/-- SystemInstructions. -/
theorem wit_SystemInstructions :
    (let c : Fin 18 := 17
     let s : State := tRun
     let t := ready c.val s
     let x := t.core c.val
     Live (spwBlocks c.val) s ∧ Executes c.val (ready c.val s) ∧ x.xact = false) ∧
    (let c : Fin 18 := 17
     let s : State := tRun
     let t := ready c.val s
     let x := t.core c.val
     Live (spwBlocks c.val) s ∧ Executes c.val (ready c.val s) ∧ x.priv = true) ∧
    (let c : Fin 18 := 0
     let s : State := tRun.modCore 0 (fun x => { x with psr := 0 })
     let t := ready c.val s
     let x := t.core c.val
     Live (spwBlocks c.val) s ∧ Executes c.val (ready c.val s) ∧ x.priv = false ∧ x.xact = false) := by
  unfold Executes Live specified
  refine ⟨?_, ?_, ?_⟩ <;> decide +kernel

/-- TokenPost. -/
theorem wit_TokenPost :
    (let c : Fin 18 := 0
     let rd : Fin 32 := 0
     let ra : Fin 32 := 0
     let rb : Fin 32 := 0
     let s : State := tRun
     let t := if postHazard s.begin c.val [rd.val, ra.val, rb.val] = true then ready c.val s else s.begin
     let target := (t.gr c.val ra.val).toNat
     let waiting := (t.disp.posts.filter (fun p => p.src.any (fun y => y.1 = c.val))).length
     Live (.disp :: spwBlocks c.val) s ∧ Executes c.val t ∧ c.val < 16 ∧ target < 4096 ∧ waiting < 16 ∧ dispMode t = true) ∧
    (let c : Fin 18 := 0
     let rd : Fin 32 := 0
     let ra : Fin 32 := 1
     let rb : Fin 32 := 0
     let s : State := tRun.modCore 0 (fun x => { x with g := [0, 4096] })
     let t := if postHazard s.begin c.val [rd.val, ra.val, rb.val] = true then ready c.val s else s.begin
     let target := (t.gr c.val ra.val).toNat
     Live (.disp :: spwBlocks c.val) s ∧ Executes c.val t ∧ c.val < 16 ∧ 4096 ≤ target) ∧
    (let c : Fin 18 := 0
     let rd : Fin 32 := 0
     let ra : Fin 32 := 1
     let rb : Fin 32 := 0
     let s : State := { tRun with disp := { posts := List.replicate 16 { src := some (0, 5), from_ := 0, desc := 0, slot := 0, val := 0 } } }
     let t := if postHazard s.begin c.val [rd.val, ra.val, rb.val] = true then ready c.val s else s.begin
     let target := (t.gr c.val ra.val).toNat
     let waiting := (t.disp.posts.filter (fun p => p.src.any (fun y => y.1 = c.val))).length
     Live (.disp :: spwBlocks c.val) s ∧ Executes c.val t ∧ c.val < 16 ∧ target < 4096 ∧ (16 ≤ waiting ∨ dispMode t = false)) := by
  unfold Executes Live specified
  refine ⟨?_, ?_, ?_⟩ <;> decide +kernel

/-- CoreCommandsComplete. -/
theorem wit_CoreCommandsComplete :
    (let c : Fin 18 := 17
     let s : State := tRun.modCore 17 (fun x => { x with psr := 3, timer := true, imask := 1 })
     let b := s.begin
     let x := b.core c.val
     Live [.cpu, .disp, .kpr] s ∧ coreLive x = true ∧ interruptReady x = true ∧ x.imp = none) ∧
    (let c : Fin 18 := 17
     let s : State := tRun.modCore 17 (fun x => { x with imp := some (0x100, 6) })
     let b := s.begin
     let x := b.core c.val
     Live [.cpu, .disp, .kpr] s ∧ coreLive x = true ∧ (match x.imp with | some (_, _) => decide (x.xact = false) | _ => false) = true) ∧
    (let c : Fin 18 := 17
     let s : State := tRun
     let b := s.begin
     let x := b.core c.val
     Live [.cpu, .disp, .kpr] s ∧ x.run ≠ .reset ∧ x.timer = false) ∧
    (let c : Fin 18 := 0
     let s : State := tRun.modCore 0 (fun x => { x with run := .waiti, timer := true, imask := 1 })
     let b := s.begin
     let x := b.core c.val
     Live [.cpu, .disp, .kpr] s ∧ x.run = .waiti ∧ x.halted = false ∧ x.ipend &&& x.imask.toNat ≠ 0) ∧
    (let c : Fin 18 := 0
     let s : State := tRun.modCore 0 (fun x => { x with run := .twait 5 })
     let b := s.begin
     let x := b.core c.val
     Live [.cpu, .disp, .kpr] s ∧ (match x.run with | .twait _ => decide (x.halted = false) | _ => false) = true) ∧
    (let m : Master := .host 0
     let d : Fin 16 := 15
     let s : State := tRun.modCore 15 (fun x => { x with halted := true })
     let b := s.begin
     let y := b.core d.val
     let asked := fun (w : Word) => Granted m CPU_C_CTL [d.val] w b
     Live [.cpu, .disp, .kpr] s ∧ asked 2 ∧ y.halted = true) ∧
    (let m : Master := .host 0
     let d : Fin 16 := 15
     let s : State := (tRun.setFld SYS_MODE_CUR 4).modCore 15 (fun x => { x with halted := true })
     let b := s.begin
     let y := b.core d.val
     let live := y.run ≠ .reset ∧ y.run ≠ .doublefault
     let asked := fun (w : Word) => Granted m CPU_C_CTL [d.val] w b
     Live [.cpu, .disp, .kpr] s ∧ asked 4 ∧ debugMode b = true ∧ y.halted = true ∧ live) ∧
    (let m : Master := .host 0
     let d : Fin 16 := 15
     let s : State := tRun.setFld SYS_MODE_CUR 4
     let b := s.begin
     let asked := fun (w : Word) => Granted m CPU_C_CTL [d.val] w b
     Live [.cpu, .disp, .kpr] s ∧ asked 8 ∧ debugMode b = true) := by
  unfold Live specified Granted GrantedAt
  refine ⟨?_, ?_, ?_, ?_, ?_, ?_, ?_, ?_⟩ <;> decide +kernel

/-- DispatcherCommandsComplete. -/
theorem wit_DispatcherCommandsComplete :
    (let s : State := { tRun with disp := { posts := [{ src := some (0, 5), from_ := 0, desc := 4095, slot := 3, val := 0 }] } }
     let b := s.begin
     Live [.disp, .cpu] s ∧ dispMode b = true ∧ (match b.disp.posts with | _ :: _ => true | _ => false) = true) ∧
    (let s : State := { tRun with disp := { descs := [(4095, { st := dDelay, dead := 7 })] } }
     let b := s.begin
     Live [.disp, .cpu] s ∧ dispMode b = true ∧ dispHeld b = false ∧ (match nextDead b with | some _ => true | _ => false) = true) ∧
    (let c : Fin 16 := 15
     let s : State := (tRun.modCore 15 (fun x => { x with run := .idle })).modDcore 15 (fun x => { x with member := true, s0 := some 4095 })
     let b := s.begin
     let k := b.dcore c.val
     Live [.disp, .cpu] s ∧ dispMode b = true ∧ dispHeld b = false ∧ takesTasks b c.val = true ∧ memberIdle b c.val = true ∧ (match k.s0 with | some _ => true | _ => false) = true) ∧
    (let c : Fin 16 := 15
     let s : State := tRun
     let b := s.begin
     let k := b.dcore c.val
     Live [.disp, .cpu] s ∧ Granted (.core c) DISP_CORE_CTL [c.val] 1 b ∧ k.member = false) ∧
    (let m : Master := .core 0
     let c : Fin 16 := 15
     let s : State := tRun.modDcore 15 (fun x => { x with member := true })
     let b := s.begin
     let k := b.dcore c.val
     Live [.disp, .cpu] s ∧ Granted m DISP_CORE_CTL [c.val] 2 b ∧ k.member = true) ∧
    (let m : Master := .core 0
     let s : State := tRun
     let b := s.begin
     Live [.disp, .cpu] s ∧ Granted m DISP_CTL [] (BitVec.ofNat 32 (256 + b.fld DISP_CTL_DBGHOLD)) b ∧ b.isSet DISP_CTL_DBGHOLD = false) := by
  unfold Live specified Granted GrantedAt
  refine ⟨?_, ?_, ?_, ?_, ?_, ?_⟩ <;> decide +kernel

/-- CyclicProgramComplete. -/
theorem wit_CyclicProgramComplete :
    (let y : Fin 4 := 3
     let s : State := ((tRun.setFld RT_STAT_STATE 2).setBytes (areaAddr tRun 0 + 32 + 24) (leBytes 4 0x100 ++ leBytes 4 64)).setBytes (areaAddr tRun 0 + 0x100) [3, 3, 0, 0, 1, 0, 0, 0]
     let b := s.begin
     let runs := rtMode b = true ∧ 2 ≤ b.fld RT_STAT_STATE
     Live [.cpu, .disp, .nvm] s ∧ runs ∧ (match rtNextStart b y.val with | some _ => true | _ => false) = true) ∧
    (let y : Fin 4 := 3
     let s : State := ((((tRun.setFld RT_STAT_STATE 2).setBytes (areaAddr tRun 0 + 32 + 24) (leBytes 4 0x100 ++ leBytes 4 64)).setBytes (areaAddr tRun 0 + 0x100) [3, 3, 0, 0, 1, 0, 0, 0]).modRtask 3 (fun x => { x with busy := true }))
     let b := s.begin
     let runs := rtMode b = true ∧ 2 ≤ b.fld RT_STAT_STATE
     Live [.cpu, .disp, .nvm] s ∧ runs ∧ rtBarred b = false ∧ (b.rtask y.val).busy = true ∧ (match rtNextStart b y.val with | some _ => true | _ => false) = true) ∧
    (let m : Master := .core 0
     let t : Fin 13 := 12
     let s : State := (tRun.setBytes (areaAddr tRun 0 + 56) (leBytes 4 0x100 ++ leBytes 4 64)).setBytes (areaAddr tRun 0 + 0x100) ([12] ++ List.replicate 31 0 ++ [3])
     let b := s.begin
     Live [.cpu, .disp, .nvm] s ∧ 5 ≤ t.val ∧ Granted m RT_T_EVT [t.val] 1 b ∧ (match taskRec b (rtImg b) t.val with | some a => decide (b.peek (a + 32) 1 = 3) | _ => false) = true) ∧
    (let t : Fin 13 := 12
     let s : State := tRun.modRtask 12 (fun x => { x with pubs := [(5, 0)] })
     let b := s.begin
     Live [.cpu, .disp, .nvm] s ∧ (match (b.rtask t.val).pubs with | (_, _) :: _ => true | _ => false) = true) ∧
    (let s : State := { tRun with rt := { sets := [{ task := 0, cycno := 1, lines := [] }] } }
     let b := s.begin
     Live [.cpu, .disp, .nvm] s ∧ b.rt.store = none ∧ (match b.rt.sets with | _ :: _ => true | _ => false) = true) ∧
    (let s : State := { (tRun.setBytes (areaAddr tRun 0 + 56) (leBytes 4 0x100 ++ leBytes 4 64)).setBytes (areaAddr tRun 0 + 0x100) [4] with rt := { hold := some 5 } }
     let b := s.begin
     Live [.cpu, .disp, .nvm] s ∧ (match b.rt.hold with | some _ => decide ((match taskRec b (rtImg b) 4 with | some _ => true | _ => false) = true) | _ => false) = true) ∧
    (let s : State := { tRun with rt := { cmd := some (1, 0, 9) } }
     let b := s.begin
     Live [.cpu, .disp, .nvm] s ∧ (match b.rt.cmd with | some (1, _, _) => true | _ => false) = true) ∧
    (let m : Master := .host 0
     let s : State := tRun
     let b := s.begin
     let word := fun (op a : Nat) => BitVec.ofNat 32 (2 ^ 31 + a * 2 ^ 16 + op)
     let asked := fun (op a : Nat) => Granted m RT_CMD [] (word op a) b ∧ b.isSet RT_CMDSTAT_BUSY = false
     Live [.cpu, .disp, .nvm] s ∧ asked 1 0 ∧ fromProvision b = true) ∧
    (let m : Master := .host 0
     let y : Fin 4 := 3
     let s : State := (tRun.setFld SYS_MODE_CUR 4).setFld RT_STAT_READY 1
     let b := s.begin
     let word := fun (op a : Nat) => BitVec.ofNat 32 (2 ^ 31 + a * 2 ^ 16 + op)
     let asked := fun (op a : Nat) => Granted m RT_CMD [] (word op a) b ∧ b.isSet RT_CMDSTAT_BUSY = false
     let begun := fun (op a : Nat) => (((b.store RT_CMD [] (word op a)).raise RT_CMDSTAT_BUSY).lower RT_CMDSTAT_DONE).setFld
       RT_CMDSTAT_ERR 0
     Live [.cpu, .disp, .nvm] s ∧ asked 2 y.val ∧ (b.mode = .stop ∨ b.mode = .provision ∨ ((b.mode = .run ∨ b.mode = .trial ∨ b.mode = .hold) ∧ migrateLines (begun 2 y.val) (areaAddr (begun 2 y.val) (1 - activeArea (begun 2 y.val))) ≤ 3072)) ∧ (begun 2 y.val).isSet RT_STAT_READY = true) ∧
    (let m : Master := .host 0
     let s : State := tRun.setFld SYS_MODE_CUR 4
     let b := s.begin
     let word := fun (op a : Nat) => BitVec.ofNat 32 (2 ^ 31 + a * 2 ^ 16 + op)
     let asked := fun (op a : Nat) => Granted m RT_CMD [] (word op a) b ∧ b.isSet RT_CMDSTAT_BUSY = false
     Live [.cpu, .disp, .nvm] s ∧ asked 3 0 ∧ (b.mode = .provision ∨ b.mode = .stop)) ∧
    (let m : Master := .host 0
     let s : State := tRun
     let b := s.begin
     let word := fun (op a : Nat) => BitVec.ofNat 32 (2 ^ 31 + a * 2 ^ 16 + op)
     let asked := fun (op a : Nat) => Granted m RT_CMD [] (word op a) b ∧ b.isSet RT_CMDSTAT_BUSY = false
     Live [.cpu, .disp, .nvm] s ∧ asked 4 0) ∧
    (let s : State := { tRun with rt := { freeze := some 5 } }
     let b := s.begin
     Live [.cpu, .disp, .nvm] s ∧ (match b.rt.freeze with | some _ => true | _ => false) = true) ∧
    (let s : State := tRun.setFld RT_STAT_STATE 3
     let b := s.begin
     Live [.cpu, .disp, .nvm] s ∧ exchangeReady b = true) ∧
    (let s : State := { tRun with rt := { move := some 5 } }
     let b := s.begin
     Live [.cpu, .disp, .nvm] s ∧ (match b.rt.move with | some _ => true | _ => false) = true) ∧
    (let s : State := { tRun with rt := { store := some 5 } }
     let b := s.begin
     Live [.cpu, .disp, .nvm] s ∧ (match b.rt.store with | some _ => true | _ => false) = true) := by
  unfold Live specified Granted GrantedAt
  refine ⟨?_, ?_, ?_, ?_, ?_, ?_, ?_, ?_, ?_, ?_, ?_, ?_, ?_, ?_, ?_⟩ <;> decide +kernel

/-- RegisterCommandsComplete. -/
theorem wit_RegisterCommandsComplete :
    (let m : Master := .core 15
     let a : Word := BitVec.ofNat 32 (RCP_LOAD_SRC.addr [])
     let w : Word := 0
     let s : State := tRun
     let b := s.begin
     let atOnce := ∀ j, admitBlock a.toNat = some j → hostAdmits m j b = none
     s.mode ≠ .dark ∧ specified (touched a.toNat) s ∧ atOnce ∧ (match busWrite m a.toNat 4 w.toNat b with | (.ok _, _) => true | _ => false) = true) ∧
    (let m : Master := .core 15
     let a : Word := BitVec.ofNat 32 (RCP_LOAD_SRC.addr [] + 0x11F00000)
     let v : Bool := true
     let s : State := tRun
     let b := s.begin
     let atOnce := ∀ j, admitBlock a.toNat = some j → hostAdmits m j b = none
     s.mode ≠ .dark ∧ specified (touched a.toNat) s ∧ atOnce ∧ wordMapped (a.toNat / 4 * 4) = true ∧ a.toNat % 4 = 0 ∧ (match aliasWrite m a.toNat v b with | (.ok _, _) => true | _ => false) = true) ∧
    (let m : Master := .host 0
     let a : Word := BitVec.ofNat 32 (RCP_LOAD_SRC.addr [])
     let s : State := tRun
     let b := s.begin
     s.mode ≠ .dark ∧ specified (touched a.toNat) s ∧ (admitBlock a.toNat).any (fun j => (hostAdmits m j b).isSome) = true) ∧
    (let m : Master := .host 0
     let w : Word := 0
     let n : Fin 64 := 63
     let s : State := tRun.setFld SYS_MODE_CUR 3
     let b := s.begin
     s.mode ≠ .dark ∧ specified [.sys] s ∧ b.mode = .provision ∧ Granted m SYS_WINB [n.val] w b ∧ b.fld SYS_WINS_SIZE [n.val] = 0 ∧ SYS_WINB_OWNER.of w ≠ 3) ∧
    (let m : Master := .host 0
     let w : Word := 0
     let n : Fin 64 := 63
     let s : State := tRun.setFld SYS_MODE_CUR 3
     let b := s.begin
     s.mode ≠ .dark ∧ specified [.sys] s ∧ b.mode = .provision ∧ Granted m SYS_WINS [n.val] w b ∧ (SYS_WINS_SIZE.of w ≠ 0 → windowClash b n.val (b.fld SYS_WINB_BASE [n.val]) (SYS_WINS_SIZE.of w) = false)) ∧
    (let m : Master := .core 0
     let k : Block := .twin
     let index : BitVec 16 := 0
     let s : State := tRun
     let b := s.begin
     s.mode ≠ .dark ∧ specified [k] s ∧ hasLock k = true ∧ GrantedAt k (tailGuard k) false m TAIL_LOCK [k.index] 1 b ∧ k.index ∉ b.locked) ∧
    (let m : Master := .core 15
     let k : Block := .time
     let index : BitVec 16 := 0
     let s : State := tRun
     let b := s.begin
     s.mode ≠ .dark ∧ specified [k] s ∧ (snapPairs k).isEmpty = false ∧ GrantedAt k .g0 false m TAIL_SNAP [k.index] 1 b) ∧
    (let k : Block := .time
     let index : BitVec 16 := 0
     let s : State := { tRun with snaps := [3] }
     let b := s.begin
     s.mode ≠ .dark ∧ specified [k] s ∧ k ≠ .disp ∧ b.snaps.contains k.index = true) ∧
    (let m : Master := .core 0
     let k : Block := .time
     let item : BitVec 8 := 0
     let index : BitVec 16 := 0
     let s : State := tRun
     let b := s.begin
     let word := BitVec.ofNat 32 (index.toNat * 256 + item.toNat)
     let x := b.mailbox k
     let own := masterId m
     s.mode ≠ .dark ∧ specified [k] s ∧ hasMailbox k = true ∧ GrantedAt k (mbxGuard k item.toNat) true m TAIL_MBX_REQ [k.index] word b ∧ (x.owner = none ∨ x.owner = some own)) ∧
    (let k : Block := .time
     let s : State := { tRun with mbx := [(3, { req := some (0, 0) })] }
     let b := s.begin
     let x := b.mailbox k
     s.mode ≠ .dark ∧ specified [k] s ∧ (match x.req with | some (_, _) => true | _ => false) = true) ∧
    (let m : Master := .core 0
     let k : Block := .time
     let s : State := { tRun with mbx := [(3, { valid := true, owner := some 0, words := [1] })] }
     let b := s.begin
     let x := b.mailbox k
     let own := masterId m
     s.mode ≠ .dark ∧ specified [k] s ∧ hasMailbox k = true ∧ b.powered k = true ∧ qualifies b m .g0 = true ∧ x.valid = true ∧ x.owner = some own ∧ x.words ≠ []) ∧
    (let k : Block := .time
     let s : State := { tRun with mbx := [(3, { valid := true, owner := some 0 })] }
     let b := s.begin
     let x := b.mailbox k
     s.mode ≠ .dark ∧ specified [k] s ∧ x.valid = true) ∧
    (let q : Fin 25 := 22
     let s : State := { tRun with fab := modNth tRun.fab 22 (fun f => { f with tokens := [.event { sev := 6, kind := 4, blk := 22, inst := 0, mst := 0, d0 := 0, d1 := 0, mode := 5, tick := 0, first := 0 }] }) }
     let b := s.begin
     s.mode ≠ .dark ∧ specified [.sys] s ∧ (match b.popToken q.val with | some (.event _, _) => decide (b.evq.length < 1024) | _ => false) = true) ∧
    (let q : Fin 25 := 24
     let s : State := { tRun.setFld ACQ_SET_STAT_STATE 2 [63] with fab := modNth tRun.fab 24 (fun f => { f with tokens := [.arm 63 9] }) }
     let b := s.begin
     s.mode ≠ .dark ∧ specified [.sys] s ∧ (match b.popToken q.val with | some (.arm c _, t) => decide (acqModeOk t = true ∧ acqActionCode t c = 0) | _ => false) = true) := by
  unfold specified Granted GrantedAt
  refine ⟨?_, ?_, ?_, ?_, ?_, ?_, ?_, ?_, ?_, ?_, ?_, ?_, ?_, ?_⟩ <;> decide +kernel

/-- TimeCommandsComplete. -/
theorem wit_TimeCommandsComplete :
    (let s : State := { tRun with tbPll := { holdFrom := some 5 } }
     let b := s.begin
     Live [.time, .clk] s ∧ (match b.tbPll.holdFrom with | some _ => true | _ => false) = true) ∧
    (let s : State := { (tRun.setFld CLK_TBSEL_AUTORET 1).setFld CLK_TBSEL_USETREF 1 with tbPll := { trefFrom := some 5 } }
     let b := s.begin
     Live [.time, .clk] s ∧ (match b.tbPll.trefFrom with | some _ => decide (b.isSet CLK_TBSEL_AUTORET = true ∧ b.isSet CLK_TBSEL_USETREF = true ∧ b.isSet CLK_STAT_TBSRC = false) | _ => false) = true) ∧
    (let p : Fin 6 := 5
     let s : State := tRun.setFld CLK_STAT_LOCK 63
     let b := s.begin
     Live [.time, .clk] s ∧ bit (b.fld CLK_STAT_LOCK) p.val = true) ∧
    (let m : Master := .core 0
     let w : Word := 0x40100000
     let s : State := tRun
     let b := s.begin
     let free := kownBars m b = false
     Live [.time, .clk] s ∧ free ∧ Granted m TIME_INCR [] w b ∧ incrOk w.toNat = true ∧ b.tb.started = true) ∧
    (let m : Master := .core 0
     let w : Word := 0x40100000
     let s : State := tRun
     let b := s.begin
     let free := kownBars m b = false
     Live [.time, .clk] s ∧ free ∧ Granted m TIME_INCR_ALT [] w b ∧ incrOk w.toNat = true ∧ b.tb.started = true) ∧
    (let m : Master := .core 0
     let w : Word := 1
     let s : State := tRun
     let b := s.begin
     let free := kownBars m b = false
     Live [.time, .clk] s ∧ free ∧ Granted m TIME_ALTCNT [] w b ∧ TIME_ALTCNT_COUNT.of w ≠ 0 ∧ b.tb.started = true) ∧
    (let m : Master := .core 0
     let s : State := tRun.setFld TIME_ALTCNT_COUNT 1
     let b := s.begin
     let free := kownBars m b = false
     let tctl := timeCtlWord b
     Live [.time, .clk] s ∧ free ∧ Granted m TIME_CTL [] (tctl 2) b ∧ b.altCnt ≠ 0 ∧ b.tb.started = true) ∧
    (let m : Master := .core 0
     let s : State := tRun.setFld SYS_MODE_CUR 4
     let b := s.begin
     let free := kownBars m b = false
     let tctl := timeCtlWord b
     Live [.time, .clk] s ∧ free ∧ Granted m TIME_CTL [] (tctl 1) b ∧ stepMode b.mode = true ∧ bits (timeSet b) 45 16 < 1000000000) ∧
    (let s : State := tRun.setFld TIME_ALTCNT_COUNT 1
     let b := s.begin
     Live [.time, .clk] s ∧ b.tb.started = true ∧ b.altCnt ≠ 0) ∧
    (let m : Master := .core 0
     let n : Fin 16 := 15
     let s : State := tRun.setReg TIME_BCN_WID 8 [15]
     let b := s.begin
     let arm := ctlWord b TIME_BCN_CTL [n.val] 1
     let v := beaconSet b n.val
     Live [.time, .clk] s ∧ Granted m TIME_BCN_CTL [n.val] arm b ∧ beaconBad v.2.1 v.2.2 = false) ∧
    (let m : Master := .core 0
     let n : Fin 16 := 15
     let s : State := tRun
     let b := s.begin
     let off := ctlWord b TIME_BCN_CTL [n.val] 2
     Live [.time, .clk] s ∧ Granted m TIME_BCN_CTL [n.val] off b) ∧
    (let n : Fin 16 := 15
     let s : State := tRun.setFld TIME_BCN_STAT_ARMED 1 [15]
     let b := s.begin
     let edgeAt := fun (u : State) => (nth u.beacons n.val {}).nextAt
     let dueAt := fun (u : State) => u.tb.started = true ∧ u.isSet TIME_BCN_STAT_ARMED [n.val] = true ∧
       (nth u.beacons n.val {}).pulse = none
     let stepped := stepsFirst edgeAt b.tb.pend.length b
     Live [.time, .clk] s ∧ dueAt b ∧ dueAt stepped) ∧
    (let n : Fin 16 := 15
     let s : State := pendTb (.step (2 ^ 61)) { tRun.setFld TIME_BCN_STAT_ARMED 1 [15] with beacons := List.replicate 16 { t0 := 2 ^ 48 + 2 ^ 30 } }
     let b := s.begin
     let edgeAt := fun (u : State) => (nth u.beacons n.val {}).nextAt
     let dueAt := fun (u : State) => u.tb.started = true ∧ u.isSet TIME_BCN_STAT_ARMED [n.val] = true ∧
       (nth u.beacons n.val {}).pulse = none
     let stepped := stepsFirst edgeAt b.tb.pend.length b
     Live [.time, .clk] s ∧ dueAt b ∧ ¬ dueAt stepped) ∧
    (let n : Fin 16 := 15
     let s : State := { tRun with beacons := List.replicate 16 { pulse := some 5 } }
     let b := s.begin
     let bcn := nth b.beacons n.val {}
     Live [.time, .clk] s ∧ (match bcn.pulse with | some _ => true | _ => false) = true) ∧
    (let e : Fin 12 := 11
     let s : State := { tRun with trigs := List.replicate 12 { filt := some (true, 5, false) } }
     let b := s.begin
     let settled := tbusSettle b.now b
     Live [.time, .clk] s ∧ (match (settled.trig e.val).filt with | some (_, _) => true | _ => false) = true) := by
  unfold Live specified Granted GrantedAt
  refine ⟨?_, ?_, ?_, ?_, ?_, ?_, ?_, ?_, ?_, ?_, ?_, ?_, ?_, ?_, ?_⟩ <;> decide +kernel

/-- RecipeCommandsComplete. -/
theorem wit_RecipeCommandsComplete :
    (let m : Master := .core 0
     let n : Fin 64 := 63
     let step : BitVec 13 := 0
     let s : State := tRun
     let b := s.begin
     let word := BitVec.ofNat 32 (step.toNat * 2 ^ 16 + 1)
     Live [.rcp, .nvm] s ∧ Granted m RCP_THR_CMD [n.val] word b ∧ (b.effMode = .run ∨ b.effMode = .trial) ∧ (b.mode = .follow → masterId m = 18) ∧ startable b n.val = true) ∧
    (let m : Master := .core 0
     let n : Fin 64 := 63
     let s : State := tRun
     let b := s.begin
     let runs := b.effMode ≠ .dark ∧ b.effMode ≠ .seed ∧ b.effMode ≠ .keeper ∧ b.effMode ≠ .provision
     Live [.rcp, .nvm] s ∧ Granted m RCP_THR_CMD [n.val] 2 b ∧ runs) ∧
    (let m : Master := .core 0
     let n : Fin 64 := 63
     let s : State := tRun.setFld RCP_THR_STATE_STATE thrFaulted [63]
     let b := s.begin
     let runs := b.effMode ≠ .dark ∧ b.effMode ≠ .seed ∧ b.effMode ≠ .keeper ∧ b.effMode ≠ .provision
     Live [.rcp, .nvm] s ∧ Granted m RCP_THR_CMD [n.val] 3 b ∧ runs ∧ (b.thrState n.val = thrEnded ∨ b.thrState n.val = thrFaulted)) ∧
    (let m : Master := .core 0
     let count : BitVec 17 := 1
     let s : State := ((tRun.poke 0x10000000 4 1).setReg RCP_LOAD_SRC 0x10000000).setFld RCP_LOAD_DST_FIRST 65535
     let b := s.begin
     let load := BitVec.ofNat 32 (2 ^ 31 + count.toNat)
     let loaded := b.store RCP_LOAD_CNT [] load
     Live [.rcp, .nvm] s ∧ Granted m RCP_LOAD_CNT [] load b ∧ b.isSet RCP_LOAD_STAT_BUSY = false ∧ (loadCheck loaded).1 = 0) ∧
    (let s : State := (tRun.setFld RCP_THR_STATE_STATE thrPending [63]).modThread 63 (fun x => { x with dec := some { target := none, at_ := 5, entry := .normal, abort := false, recs := [] } })
     let b := s.begin
     let commits := (List.range 64).filterMap (fun k => if b.thrState k = thrPending then (b.thread k).dec.map (·.at_) else none)
     Live [.rcp, .nvm] s ∧ rcpRuns b = true ∧ (match commits with | _ :: _ => true | _ => false) = true) ∧
    (let n : Fin 64 := 63
     let s : State := (tRun.setFld RCP_THR_STATE_STATE thrRunning [63]).modThread 63 (fun x => { x with recs := [0x40000001] })
     let b := s.begin
     let t := b.thread n.val
     let head := nth t.recs 0 0
     Live [.rcp, .nvm] s ∧ b.thrState n.val = thrRunning ∧ hTomode head ≠ 0 ∧ rcpRuns b = true ∧ (b.effMode = .hold → b.isSet RCP_CTL_DBGHOLD = false)) ∧
    (let m : Master := .core 0
     let s : State := tRun.setFld RCP_RESUME_TWAIT 1
     let b := s.begin
     let resume := BitVec.ofNat 32 (b.fld RCP_RESUME_TWAIT * 256 + b.fld RCP_RESUME_AUTO * 2 + 1)
     Live [.rcp, .nvm] s ∧ Granted m RCP_RESUME [] resume b ∧ RCP_RESUME_TWAIT.of resume ≠ 0 ∧ b.effMode = .run ∧ b.rcp.resume = none ∧ RCP_RESUME_GO.on resume = true) ∧
    (let s : State := { tRun with rcp := { resume := some { threads := [63], tick := 5, from_ := 0 } } }
     let b := s.begin
     let resume := BitVec.ofNat 32 (b.fld RCP_RESUME_TWAIT * 256 + b.fld RCP_RESUME_AUTO * 2 + 1)
     Live [.rcp, .nvm] s ∧ b.rcp.resume ≠ none ∧ rcpRuns b = true) ∧
    (let s : State := { tRun with rcp := { resume := some { threads := [63], tick := 5, from_ := 0 } } }
     let b := s.begin
     let resume := BitVec.ofNat 32 (b.fld RCP_RESUME_TWAIT * 256 + b.fld RCP_RESUME_AUTO * 2 + 1)
     Live [.rcp, .nvm] s ∧ (match b.rcp.resume with | some _ => decide (rcpRuns b = true) | _ => false) = true) := by
  unfold Live specified Granted GrantedAt
  refine ⟨?_, ?_, ?_, ?_, ?_, ?_, ?_, ?_, ?_⟩ <;> decide +kernel

/-- LoopCommandsComplete. -/
theorem wit_LoopCommandsComplete :
    (let m : Master := .host 0
     let n : Fin 1024 := 1023
     let s : State := tRun.setFld SYS_MODE_CUR 4
     let b := s.begin
     let word := fun (op : Nat) => BitVec.ofNat 32 (2 ^ 31 + op * 2 ^ 16 + n.val)
     let asked := fun (op : Nat) => Granted m LOOP_CMD [] (word op) b ∧ b.isSet LOOP_CHK_BUSY = false ∧
       (b.effMode = .provision ∨ b.effMode = .stop)
     Live [.loop, .lens] s ∧ asked 1) ∧
    (let m : Master := .host 0
     let n : Fin 1024 := 1023
     let s : State := tRun.setFld SYS_MODE_CUR 4
     let b := s.begin
     let word := fun (op : Nat) => BitVec.ofNat 32 (2 ^ 31 + op * 2 ^ 16 + n.val)
     let asked := fun (op : Nat) => Granted m LOOP_CMD [] (word op) b ∧ b.isSet LOOP_CHK_BUSY = false ∧
       (b.effMode = .provision ∨ b.effMode = .stop)
     Live [.loop, .lens] s ∧ asked 2) ∧
    (let m : Master := .host 0
     let n : Fin 1024 := 1023
     let s : State := tRun.setFld SYS_MODE_CUR 4
     let b := s.begin
     let word := fun (op : Nat) => BitVec.ofNat 32 (2 ^ 31 + op * 2 ^ 16 + n.val)
     let asked := fun (op : Nat) => Granted m LOOP_CMD [] (word op) b ∧ b.isSet LOOP_CHK_BUSY = false ∧
       (b.effMode = .provision ∨ b.effMode = .stop)
     Live [.loop, .lens] s ∧ asked 3) ∧
    (let s : State := tRun.setFld LOOP_STAT_WAITFRAME 1
     let b := s.begin
     Live [.loop, .lens] s ∧ b.isSet LOOP_STAT_WAITFRAME = true) ∧
    (let c : Fin 8 := 7
     let s : State := (tRun.setFld LOOP_STAT_RUNNING 1).setFld LOOP_CLS_PER_PER 1 [7]
     let b := s.begin
     Live [.loop, .lens] s ∧ b.isSet LOOP_STAT_RUNNING = true ∧ b.fld LOOP_CLS_PER_PER [c.val] ≠ 0) ∧
    (let s : State := { tRun with le := { lanes := [{ queue := [{ loop := 1023, cls := 0, start := 0, rel := 1, due := 1, cost := 1, en := true, auto := true, init := false, aedge := false, ctx := {} }] }] } }
     let b := s.begin
     Live [.loop, .lens] s ∧ (match nextEnd b with | some (_, _) => true | _ => false) = true) ∧
    (let s : State := { tRun with le := { staged := [{ loop := 1023, start := 0, rel := 1, due := 1, last := 2900, outs := [], ist := [], flags := 0, trace := [], word1 := 0 }] } }
     let b := s.begin
     let soonest := fun (xs : List Nat) => xs.foldl (fun (z : Option Nat) x => some (min (z.getD x) x)) none
     Live [.loop, .lens] s ∧ (match soonest (b.le.staged.map releaseTick) with | some _ => true | _ => false) = true) ∧
    (let s : State := { tRun with le := { staged := [{ loop := 1023, start := 0, rel := 1, due := 1, last := 2900, outs := [], ist := [], flags := 0, trace := [], word1 := 0 }] } }
     let b := s.begin
     let soonest := fun (xs : List Nat) => xs.foldl (fun (z : Option Nat) x => some (min (z.getD x) x)) none
     let late := (b.le.staged.filter (fun g => g.due ≤ g.last / 2900)).map (·.due) ++
       b.le.lanes.flatMap (fun l => (l.runs.filter (fun p => p.1.en && p.1.due * 2900 ≤ p.2)).map (·.1.due) ++
         (l.queue.filter (fun e => e.en && e.due * 2900 ≤ max l.free (eligibleAt e.start))).map (·.due))
     Live [.loop, .lens] s ∧ (match soonest late with | some _ => true | _ => false) = true) ∧
    (let m : Master := .host 0
     let h : Fin 64 := 63
     let s : State := tRun
     let b := s.begin
     Live [.loop, .lens] s ∧ Granted m LENS_CH_CTL [h.val] 1 b) ∧
    (let m : Master := .host 0
     let h : Fin 64 := 63
     let s : State := tRun
     let b := s.begin
     Live [.loop, .lens] s ∧ Granted m LENS_CH_CTL [h.val] 2 b) ∧
    (let m : Master := .host 0
     let h : Fin 64 := 63
     let s : State := tRun
     let b := s.begin
     Live [.loop, .lens] s ∧ Granted m LENS_CH_CTL [h.val] 4 b) := by
  unfold Live specified Granted GrantedAt
  refine ⟨?_, ?_, ?_, ?_, ?_, ?_, ?_, ?_, ?_, ?_, ?_⟩ <;> decide +kernel

/-- RfCommandsComplete. -/
theorem wit_RfCommandsComplete :
    (let n : Fin 4 := 3
     let codes : List (BitVec 12) := [1#12]
     let age : BitVec 32 := 0
     let s : State := { ((tRun.setFld CLK_STAT_PRESENT 15).setFld CLK_STAT_LOCK 63).setFld RFA_CH_CFG_EN 1 [3] with rf := List.replicate 4 { ends := false } }
     let b := s.begin
     let c := b.rfCh n.val
     let on := rfRuns b n.val = true
     let ovr := codes.any overRange
     let at_ := b.now - age.toNat
     let soon := c.lastBlk.any (fun t => at_ < t + 32000 * nsF)
     Live [.rfa, .acq] s ∧ on ∧ soon = false ∧ (loudBlock codes = false ∨ ovr = true ∨ spreadBlock codes = false)) ∧
    (let n : Fin 4 := 3
     let codes : List (BitVec 12) := List.replicate 33 [1000#12, -1000#12] |>.flatten
     let age : BitVec 32 := 0
     let s : State := { ((tRun.setFld CLK_STAT_PRESENT 15).setFld CLK_STAT_LOCK 63).setFld RFA_CH_CFG_EN 1 [3] with rf := List.replicate 4 { ends := false } }
     let b := s.begin
     let c := b.rfCh n.val
     let on := rfRuns b n.val = true
     let ovr := codes.any overRange
     let at_ := b.now - age.toNat
     let soon := c.lastBlk.any (fun t => at_ < t + 32000 * nsF)
     Live [.rfa, .acq] s ∧ on ∧ soon = false ∧ loudBlock codes = true ∧ ovr = false ∧ spreadBlock codes = true) ∧
    (let m : Master := .core 0
     let n : Fin 4 := 3
     let s : State := tRun
     let b := s.begin
     Live [.rfa, .acq] s ∧ Granted m RFA_CH_CALCTL [n.val] 2 b) ∧
    (let m : Master := .core 0
     let n : Fin 4 := 3
     let s : State := tRun
     let b := s.begin
     Live [.rfa, .acq] s ∧ Granted m RFA_CH_CALCTL [n.val] 1 b) ∧
    (let n : Fin 4 := 3
     let s : State := { ((tRun.setFld CLK_STAT_PRESENT 15).setFld CLK_STAT_LOCK 63).setFld RFA_CH_CFG_EN 1 [3] with rf := List.replicate 4 { sample := true } }
     let b := s.begin
     let c := b.rfCh n.val
     Live [.rfa, .acq] s ∧ c.sample = true) ∧
    (let n : Fin 4 := 3
     let s : State := { ((tRun.setFld CLK_STAT_PRESENT 15).setFld CLK_STAT_LOCK 63).setFld RFA_CH_CFG_EN 1 [3] with rf := List.replicate 4 { ends := false } }
     let b := s.begin
     Live [.rfa, .acq] s ∧ b.domOn 7 = true ∧ b.isSet RFA_CH_CFG_EN [n.val] = true) ∧
    (let n : Fin 4 := 3
     let s : State := { tRun with rf := List.replicate 4 { ends := true } }
     let b := s.begin
     let c := b.rfCh n.val
     Live [.rfa, .acq] s ∧ c.ends = true ∧ b.domOn 7 = true) ∧
    (let n : Fin 4 := 3
     let s : State := { ((tRun.setFld CLK_STAT_PRESENT 15).setFld CLK_STAT_LOCK 63).setFld RFA_CH_CFG_EN 1 [3] with rf := List.replicate 4 { ends := false } }
     let b := s.begin
     let on := rfRuns b n.val = true
     Live [.rfa, .acq] s ∧ on) ∧
    (let n : Fin 4 := 3
     let s : State := { (((((tRun.setFld CLK_STAT_PRESENT 15).setFld CLK_STAT_LOCK 63).setFld RFA_CH_ARC_RISEEN 1 [3]).setFld RFA_CH_ARC_DROPEN 1 [3]).setFld RFA_CH_ARC_DROPTHR 128 [3]) with rf := List.replicate 4 { arc := true, arcRef := some (2000 * 65536) } }
     let e := 1
     let b := s.begin
     let c := b.rfCh n.val
     Live [.rfa, .acq] s ∧ c.arc = true ∧ (arcConds b n.val e (c.arcRef.getD (e * 65536))).1 = true ∨ (arcConds b n.val e (c.arcRef.getD (e * 65536))).2 = true) ∧
    (let n : Fin 4 := 3
     let s : State := { ((((tRun.setFld CLK_STAT_PRESENT 15).setFld CLK_STAT_LOCK 63).setFld RFA_CH_ARC_RISEEN 1 [3]).setFld RFA_CH_ARC_DROPEN 1 [3]) with rf := List.replicate 4 { arc := true, arcRef := some (100 * 65536) } }
     let e := 100
     let b := s.begin
     let c := b.rfCh n.val
     Live [.rfa, .acq] s ∧ c.arc = true ∧ (arcConds b n.val e (c.arcRef.getD (e * 65536))).1 = false ∧ (arcConds b n.val e (c.arcRef.getD (e * 65536))).2 = false) ∧
    (let n : Fin 4 := 3
     let s : State := { ((((tRun.setFld CLK_STAT_PRESENT 15).setFld CLK_STAT_LOCK 63).setFld RFA_CH_ARC_RISEEN 1 [3]).setFld RFA_CH_ARC_DROPEN 1 [3]) with rf := List.replicate 4 { arc := true } }
     let b := s.begin
     let c := b.rfCh n.val
     Live [.rfa, .acq] s ∧ c.arc = true ∧ b.clkPresent 2 = true) := by
  unfold Live specified Granted GrantedAt
  refine ⟨?_, ?_, ?_, ?_, ?_, ?_, ?_, ?_, ?_, ?_, ?_⟩ <;> decide +kernel

/-- AcquisitionCommandsComplete. -/
theorem wit_AcquisitionCommandsComplete :
    (let m : Master := .host 0
     let k : Fin 64 := 63
     let s : State := tRun.setFld ACQ_SET_STRM_S3_S0 1 [63]
     let b := s.begin
     Live [.acq] s ∧ Granted m ACQ_SET_CTL [k.val] 1 b ∧ acqModeOk b = true ∧ acqErr b k.val = 0) ∧
    (let m : Master := .host 0
     let k : Fin 64 := 63
     let s : State := tRun.setFld ACQ_SET_STAT_STATE 1 [63]
     let b := s.begin
     Live [.acq] s ∧ Granted m ACQ_SET_CTL [k.val] 2 b ∧ b.acqState k.val = 1) ∧
    (let m : Master := .host 0
     let k : Fin 64 := 63
     let s : State := tRun.setFld ACQ_SET_STAT_STATE 1 [63]
     let b := s.begin
     Live [.acq] s ∧ Granted m ACQ_SET_CTL [k.val] 4 b ∧ acqModeOk b = true ∧ b.acqState k.val ≠ 0) ∧
    (let m : Master := .host 0
     let k : Fin 64 := 63
     let s : State := tRun.setFld ACQ_SET_STAT_STATE 2 [63]
     let b := s.begin
     Live [.acq] s ∧ Granted m ACQ_SET_CTL [k.val] 8 b ∧ 2 ≤ b.acqState k.val) ∧
    (let m : Master := .host 0
     let k : Fin 64 := 63
     let s : State := tRun.setFld ACQ_SET_STAT_STATE 3 [63]
     let b := s.begin
     Live [.acq] s ∧ Granted m ACQ_SET_CTL [k.val] 16 b ∧ 2 ≤ b.acqState k.val) ∧
    (let s : State := { tRun.setFld ACQ_SET_STAT_STATE 2 [63] with fab := modNth tRun.fab 24 (fun f => { f with tokens := [.arm 63 9] }) }
     let b := s.begin
     Live [.acq] s ∧ (match b.popToken 24 with | some (.arm c _, t) => decide (acqModeOk t = true ∧ acqActionCode t c = 0) | _ => false) = true) ∧
    (let k : Fin 64 := 63
     let s : State := (((tRun.setFld CLK_STAT_PRESENT 15).setFld CLK_STAT_LOCK 63).setFld ACQ_SET_TRG_SRC 6 [63]).setFld ACQ_SET_STAT_STATE 2 [63]
     let b := s.begin
     Live [.acq] s ∧ 3 ≤ b.fld ACQ_SET_TRG_SRC [k.val] ∧ b.fld ACQ_SET_TRG_SRC [k.val] ≤ 6 ∧ 2 ≤ b.acqState k.val ∧ b.clkPresent 2 = true) ∧
    (let k : Fin 64 := 63
     let s : State := { (tRun.setFld CLK_STAT_PRESENT 15).setFld CLK_STAT_LOCK 63 with acq := List.replicate 64 { descs := [{ st := .complete }, { st := .filling }] } }
     let b := s.begin
     Live [.acq] s ∧ b.clkPresent 2 = true ∧ (match descIn b k.val .filling with | some _ => true | _ => false) = true) ∧
    (let k : Fin 64 := 63
     let s : State := { (tRun.setFld CLK_STAT_PRESENT 15).setFld CLK_STAT_LOCK 63 with acq := List.replicate 64 { descs := [{ st := .complete }, { st := .armed }] } }
     let b := s.begin
     Live [.acq] s ∧ b.clkPresent 2 = true ∧ descIn b k.val .filling = none ∧ (match descIn b k.val .armed with | some _ => true | _ => false) = true) ∧
    (let k : Fin 64 := 63
     let s : State := { (tRun.setFld CLK_STAT_PRESENT 15).setFld CLK_STAT_LOCK 63 with acq := List.replicate 64 { rearm := true, ending := true } }
     let b := s.begin
     let x := b.acqSet k.val
     let ncap := b.fld ACQ_SET_PRE_NCAP [k.val]
     Live [.acq] s ∧ x.rearm = true ∧ b.clkPresent 2 = true ∧ (x.ending = true ∨ (ncap ≠ 0 ∧ ncap ≤ x.ncap))) ∧
    (let k : Fin 64 := 63
     let s : State := { (tRun.setFld CLK_STAT_PRESENT 15).setFld CLK_STAT_LOCK 63 with acq := List.replicate 64 { rearm := true } }
     let b := s.begin
     let x := b.acqSet k.val
     let ncap := b.fld ACQ_SET_PRE_NCAP [k.val]
     Live [.acq] s ∧ x.rearm = true ∧ b.clkPresent 2 = true ∧ x.ending = false ∧ (ncap = 0 ∨ x.ncap < ncap)) ∧
    (let m : Master := .host 0
     let k : Fin 64 := 63
     let count : BitVec 15 := 1
     let s : State := { tRun with acq := List.replicate 64 { order := [0] } }
     let b := s.begin
     let x := b.acqSet k.val
     Live [.acq] s ∧ Granted m ACQ_SET_REL [k.val] (BitVec.ofNat 32 count.toNat) b ∧ count.toNat ≤ x.order.length) ∧
    (let k : Fin 64 := 63
     let s : State := tRun.setFld ACQ_SET_STAT_STATE 2 [63]
     let b := s.begin
     Live [.acq] s ∧ 2 ≤ b.acqState k.val) := by
  unfold Live specified Granted GrantedAt
  refine ⟨?_, ?_, ?_, ?_, ?_, ?_, ?_, ?_, ?_, ?_, ?_, ?_, ?_⟩ <;> decide +kernel

/-- AnalogCommandsComplete. -/
theorem wit_AnalogCommandsComplete :
    (let c : Fin 32 := 31
     let s : State := tRun.setFld SAR_CONV_TRG_SRC 1 [31]
     let b := s.begin
     let src := b.fld SAR_CONV_TRG_SRC [c.val]
     Live [.sar] s ∧ sarRuns b = true ∧ src = 1) ∧
    (let c : Fin 32 := 31
     let s : State := tRun.setFld SAR_CONV_TRG_SRC 4 [31]
     let b := s.begin
     let x := b.sarConv c.val
     let src := b.fld SAR_CONV_TRG_SRC [c.val]
     Live [.sar] s ∧ sarRuns b = true ∧ src = 4 ∧ x.busy = false) ∧
    (let c : Fin 32 := 31
     let s : State := tRun.setFld SAR_CONV_TRG_SRC 3 [31]
     let b := s.begin
     let src := b.fld SAR_CONV_TRG_SRC [c.val]
     Live [.sar] s ∧ (src = 2 ∨ src = 3)) ∧
    (let m : Master := .core 0
     let c : Fin 32 := 31
     let s : State := tRun
     let b := s.begin
     Live [.sar] s ∧ Granted m SAR_CONV_CTL [c.val] 1 b) ∧
    (let c : Fin 32 := 31
     let s : State := { tRun with sar := { conv := List.replicate 32 { busy := true, jobs := [(0, false)] } } }
     let b := s.begin
     let x := b.sarConv c.val
     Live [.sar] s ∧ x.busy = true ∧ (match x.jobs.drop x.done with | _ :: _ => true | _ => false) = true) ∧
    (let m : Master := .core 0
     let t : Fin 4 := 3
     let conv : Fin 8 := 7
     let pos : Fin 4 := 0
     let chk : BitVec 3 := 1
     let s : State := (tRun.setFld SAR_TDAC_LVL_HI 2 [3]).setFld SAR_TDAC_LVL_LO 1 [3]
     let b := s.begin
     let word := BitVec.ofNat 32 (2 ^ 31 + chk.toNat * 256 + pos.val * 16 + conv.val)
     Live [.sar] s ∧ Granted m SAR_TDAC_REQ [t.val] word b ∧ diagErr b t.val conv.val pos.val chk.toNat = 0) ∧
    (let t : Fin 4 := 3
     let conv : Fin 8 := 0
     let pos : Fin 4 := 0
     let chk : BitVec 3 := 0
     let s : State := { tRun with sar := { conv := List.replicate 32 { busy := true, diag := some 3 }, tdac := List.replicate 4 (some { conv := 7, pos := 0, chk := 1, started := true }) } }
     let b := s.begin
     let q : DiagReq := { conv := conv.val, pos := pos.val, chk := chk.toNat, started := false }
     Live [.sar] s ∧ (match nth b.sar.tdac t.val none with | some q => decide (diagEnds b t.val q = true) | _ => false) = true) ∧
    (let m : Master := .core 0
     let d : Fin 16 := 15
     let code : BitVec 16 := 0xFFFF
     let s : State := tRun
     let b := s.begin
     Live [.sar] s ∧ Granted m SAR_DAC_CODE [d.val] (BitVec.ofNat 32 code.toNat) b ∧ (b.effMode = .safe → b.isSet SAR_DAC_CFG_SAFEACT [d.val] = false)) := by
  unfold Live specified Granted GrantedAt
  refine ⟨?_, ?_, ?_, ?_, ?_, ?_, ?_, ?_⟩ <;> decide +kernel

/-- RemoteCommandsComplete. -/
theorem wit_RemoteCommandsComplete :
    (let m : Master := .host 0
     let p : Fin 4 := 3
     let s : State := tRun.setFld SYS_MODE_CUR 4
     let b := s.begin
     let q := p.val
     Live [.sys, .time, .disp, .loop, .rcp, .rio, .sar, .rfa, .pwm, .mot, .can, .cpu, .twin] s ∧ Granted m RIO_P_CTL [q] 3 b ∧ rioMode b = true) ∧
    (let m : Master := .host 0
     let p : Fin 4 := 3
     let s : State := tRun.setFld SYS_MODE_CUR 4
     let b := s.begin
     let q := p.val
     Live [.sys, .time, .disp, .loop, .rcp, .rio, .sar, .rfa, .pwm, .mot, .can, .cpu, .twin] s ∧ Granted m RIO_P_CTL [q] 5 b ∧ rioMode b = true ∧ (2 ≤ q → islPorts b = false)) ∧
    (let m : Master := .host 0
     let p : Fin 4 := 3
     let s : State := tRun
     let b := s.begin
     let q := p.val
     Live [.sys, .time, .disp, .loop, .rcp, .rio, .sar, .rfa, .pwm, .mot, .can, .cpu, .twin] s ∧ Granted m RIO_P_CTL [q] 9 b) ∧
    (let p : Fin 4 := 3
     let frame : List Byte := List.replicate 12 0 ++ [0x88, 0xB5] ++ [1, 6] ++ List.replicate 30 0
     let s : State := (tRun.setFld RIO_P_CTL_EN 1 [3]).setFld RIO_ETYPE_ETYPE 0x88B5
     let b := s.begin
     let q := p.val
     let up := b.powered .rio = true ∧ b.isSet RIO_P_CTL_EN [q] = true
     Live [.sys, .time, .disp, .loop, .rcp, .rio, .sar, .rfa, .pwm, .mot, .can, .cpu, .twin] s ∧ up ∧ (match buoyParse b frame with | some _ => true | _ => false) = true) ∧
    (let p : Fin 4 := 3
     let s : State := (tRun.setFld RIO_P_CTL_EN 1 [3]).setFld RIO_ETYPE_ETYPE 0x88B5
     let b := s.begin
     let q := p.val
     let up := b.powered .rio = true ∧ b.isSet RIO_P_CTL_EN [q] = true
     Live [.sys, .time, .disp, .loop, .rcp, .rio, .sar, .rfa, .pwm, .mot, .can, .cpu, .twin] s ∧ up) ∧
    (let p : Fin 4 := 3
     let s : State := tRun.setFld RIO_P_STAT_STATE 1 [3]
     let b := s.begin
     let q := p.val
     Live [.sys, .time, .disp, .loop, .rcp, .rio, .sar, .rfa, .pwm, .mot, .can, .cpu, .twin] s ∧ b.fld RIO_P_STAT_STATE [q] = 1) ∧
    (let p : Fin 4 := 3
     let s : State := tRun.setFld RIO_P_STAT_STATE 3 [3]
     let b := s.begin
     let q := p.val
     let x := b.rioPort q
     Live [.sys, .time, .disp, .loop, .rcp, .rio, .sar, .rfa, .pwm, .mot, .can, .cpu, .twin] s ∧ (b.fld RIO_P_STAT_STATE [q] = 3 ∧ x.stop = false) ∨ x.start = true) ∧
    (let p : Fin 4 := 3
     let s : State := { tRun with rio := { ports := List.replicate 4 { open_ := [{ cseq := 1, tick := 5, sent := [], ret := [], deliv := [] }] } } }
     let c := { cseq := 1, tick := 5, sent := [], ret := [], deliv := [] }
     let b := s.begin
     let q := p.val
     let x := b.rioPort q
     let at_ := closeTick b q c
     let u := ticksTo at_ (at_ + 1 - nextTick b) b
     Live [.sys, .time, .disp, .loop, .rcp, .rio, .sar, .rfa, .pwm, .mot, .can, .cpu, .twin] s ∧ x.open_ = [c] ∧ (u.rioPort q).open_.isEmpty = false) := by
  unfold Live specified Granted GrantedAt
  refine ⟨?_, ?_, ?_, ?_, ?_, ?_, ?_, ?_⟩ <;> decide +kernel

/-- PowerStageCommandsComplete. -/
theorem wit_PowerStageCommandsComplete :
    (let k : Fin 64 := 63
     let s : State := { tRun with pwm := { pairs := List.replicate 64 { first := some 5 } } }
     let b := s.begin
     let i := k.val
     Live [.pwm] s ∧ (match nextPS b i with | some _ => true | _ => false) = true) ∧
    (let k : Fin 64 := 63
     let s : State := { tRun.setFld PWM_PR_CFG_MODE 2 [63] with pwm := { pairs := List.replicate 64 { run := true } } }
     let b := s.begin
     let i := k.val
     let u := setSource (b.fld PWM_PR_CFG_RSTSRC [i]) true b
     Live [.pwm] s ∧ hasPeriods b i = true ∧ (pairMode b i = 1 ∨ pairMode b i = 2) ∧ (match nextPS u i with | some _ => true | _ => false) = true) ∧
    (let k : Fin 64 := 63
     let s : State := { tRun.setFld PWM_PR_ON_VALUE 1 [63] with pwm := { pairs := List.replicate 64 { run := true } } }
     let b := s.begin
     let i := k.val
     let x := b.pair i
     Live [.pwm] s ∧ hasPeriods b i = true ∧ x.onEnded = false ∧ (b.fld PWM_PR_ON_VALUE [i] = 0 → pairMode b i = 2)) ∧
    (let k : Fin 64 := 63
     let on : Bool := false
     let s : State := { tRun with pwm := { pairs := List.replicate 64 { dead := some (true, 5) } } }
     let b := s.begin
     let i := k.val
     let x := b.pair i
     let adt := fun (toH : Bool) => PWM_PR_DTHL_ADT.on (deadWord b i toH)
     Live [.pwm] s ∧ (match x.dead with | some (toH, _) => decide (adt toH = false) | _ => false) = true) ∧
    (let k : Fin 64 := 63
     let on : Bool := false
     let s : State := { tRun.setFld PWM_PR_DTLH_ADT 1 [63] with pwm := { pairs := List.replicate 64 { dead := some (true, 5) } } }
     let b := s.begin
     let i := k.val
     let x := b.pair i
     let adt := fun (toH : Bool) => PWM_PR_DTHL_ADT.on (deadWord b i toH)
     Live [.pwm] s ∧ (match x.dead with | some (toH, _) => decide (adt toH = true) | _ => false) = true) ∧
    (let k : Fin 64 := 63
     let on : Bool := false
     let s : State := { ((tRun.setFld PWM_PR_DTLH_ADT 1 [63]).setFld PWM_PR_DTLH_DTMAX 100 [63]) with pwm := { pairs := List.replicate 64 { dead := some (true, 2 ^ 48) } } }
     let b := s.begin
     let i := k.val
     let x := b.pair i
     let dt := fun (toH : Bool) (f : Fld) => deadSpan f (deadWord b i toH)
     let adt := fun (toH : Bool) => PWM_PR_DTHL_ADT.on (deadWord b i toH)
     Live [.pwm] s ∧ (match x.dead with | some (toH, off) => decide (adt toH = true ∧ off ≤ b.now ∧ b.now < off + dt toH PWM_PR_DTHL_DTMAX) | _ => false) = true) ∧
    (let k : Fin 64 := 63
     let j : Fin 4 := 3
     let s : State := { (tRun.setFld PWM_PR_PER_VALUE 1024 [63]).setFld PWM_PR_CMP_EN 1 [63, 3] with pwm := { pairs := List.replicate 64 { run := true } } }
     let b := s.begin
     let i := k.val
     let x := b.pair i
     let fires := x.ps + ((if b.isSet PWM_PR_CMP_REF [i, j.val] then b.fld PWM_PR_ON_VALUE [i] else 0) +
       b.fld PWM_PR_CMP_VALUE [i, j.val]) * pwmStep
     Live [.pwm] s ∧ hasPeriods b i = true ∧ b.isSet PWM_PR_CMP_EN [i, j.val] = true ∧ x.fired.contains j.val = false ∧ (match nextPS b i with | some e => decide (fires < e) | _ => false) = true) ∧
    (let k : Fin 64 := 63
     let s : State := { tRun with pwm := { pairs := List.replicate 64 { hOn := some 5 } } }
     let b := s.begin
     let i := k.val
     Live [.pwm] s ∧ (match blankEnd b i with | some _ => true | _ => false) = true) ∧
    (let m : Master := .core 0
     let w : Word := 0xFFFF
     let s : State := tRun
     let b := s.begin
     let groups := bits w.toNat 15 0
     Live [.pwm] s ∧ Granted m PWM_COMMIT [] (BitVec.ofNat 32 groups) b) ∧
    (let m : Master := .core 0
     let k : Fin 64 := 63
     let w : Word := 1024
     let s : State := tRun
     let b := s.begin
     let i := k.val
     Live [.pwm] s ∧ Granted m PWM_PR_PER [i] w b ∧ perOk (PWM_PR_PER_VALUE.of w) = true) ∧
    (let m : Master := .core 0
     let k : Fin 64 := 63
     let w : Word := 0
     let s : State := tRun
     let b := s.begin
     let i := k.val
     Live [.pwm] s ∧ Granted m PWM_PR_ON [i] w b) ∧
    (let m : Master := .core 0
     let k : Fin 64 := 63
     let j : Fin 4 := 3
     let w : Word := 0
     let s : State := tRun
     let b := s.begin
     let i := k.val
     Live [.pwm] s ∧ Granted m PWM_PR_CMP [i, j.val] w b) ∧
    (let m : Master := .core 0
     let g : Fin 4 := 3
     let w : Word := 0
     let s : State := tRun
     let b := s.begin
     Live [.pwm] s ∧ Granted m PWM_LVL [g.val] w b) ∧
    (let m : Master := .core 0
     let k : Fin 64 := 63
     let s : State := tRun
     let b := s.begin
     let i := k.val
     Live [.pwm] s ∧ Granted m PWM_PR_STAT [i] 0x10000 b) ∧
    (let m : Master := .core 0
     let k : Fin 64 := 63
     let s : State := { tRun with pwm := { pairs := List.replicate 64 { cut := true } } }
     let b := s.begin
     let i := k.val
     let clear := BitVec.ofNat 32 (256 + (b.reg PWM_PR_FCCTL [i]).toNat % 8)
     let u := b.store PWM_PR_FCCTL [i] clear
     Live [.pwm] s ∧ Granted m PWM_PR_FCCTL [i] clear b ∧ PWM_PR_FCCTL_ACT.of clear < 2 ∧ (u.pair i).cut = true ∧ u.pwm.src &&& cutMask u i = 0) := by
  unfold Live specified Granted GrantedAt
  refine ⟨?_, ?_, ?_, ?_, ?_, ?_, ?_, ?_, ?_, ?_, ?_, ?_, ?_, ?_, ?_⟩ <;> decide +kernel

/-- MotionCommandsComplete. -/
theorem wit_MotionCommandsComplete :
    (let m : Master := .core 0
     let k : Fin 64 := 63
     let kind : Fin 4 := 3
     let prof : Fin 16 := 15
     let tag : BitVec 16 := 0
     let s : State := tRun
     let b := s.begin
     let i := k.val
     let word := BitVec.ofNat 32 (2 ^ 31 + prof.val * 2 ^ 24 + kind.val * 2 ^ 16 + tag.toNat)
     Live [.mot] s ∧ Granted m MOT_AX_MVC [i] word b ∧ b.effMode ≠ .stop ∧ b.effMode ≠ .safe) ∧
    (let m : Master := .core 0
     let k : Fin 64 := 63
     let s : State := tRun
     let b := s.begin
     let i := k.val
     Live [.mot] s ∧ Granted m MOT_AX_CMD [i] 1 b) ∧
    (let m : Master := .core 0
     let k : Fin 64 := 63
     let s : State := tRun
     let b := s.begin
     let i := k.val
     Live [.mot] s ∧ Granted m MOT_AX_CMD [i] 2 b) ∧
    (let m : Master := .core 0
     let k : Fin 64 := 63
     let s : State := tRun
     let b := s.begin
     let i := k.val
     let x := b.axis i
     Live [.mot] s ∧ Granted m MOT_AX_CMD [i] 4 b ∧ standing x = true ∧ x.cur = none ∧ x.queue = []) ∧
    (let k : Fin 64 := 63
     let s : State := { tRun with axes := List.replicate 64 { faults := [(1, 5)] } }
     let b := s.begin
     let i := k.val
     let x := b.axis i
     Live [.mot] s ∧ x.faults ≠ []) ∧
    (let j : Fin 12 := 11
     let s : State := ((tRun.setFld PWM_PR_PER_VALUE 1024 [44]).setFld MOT_AX_CFG_EN 1 [11]).setFld MOT_AX_CFG_KIND kindInt [11]
     let b := s.begin
     let per : Rat := (b.fld PWM_PR_PER_VALUE [4 * j.val] : Rat) * 15625 / 100000000000000
     Live [.mot] s ∧ axisKind b j.val = kindInt ∧ axisOn b j.val = true ∧ per ≠ 0) ∧
    (let j : Fin 12 := 11
     let s : State := { tRun.setFld MOT_ID_STALL_N 2 [11] with axes := List.replicate 64 { stallN := 2 } }
     let b := s.begin
     Live [.mot] s ∧ stallDue b j.val = true) ∧
    (let j : Fin 12 := 11
     let s : State := ((tRun.setFld PWM_PR_PER_VALUE 1024 [44]).setFld MOT_AX_CFG_EN 1 [11]).setFld MOT_AX_CFG_KIND kindInt [11]
     let b := s.begin
     Live [.mot] s ∧ axisKind b j.val = kindInt ∧ axisOn b j.val = true ∧ standing (b.axis j.val) = true) ∧
    (let k : Fin 64 := 63
     let s : State := { (tRun.setFld MOT_AX_CFG_EN 1 [63]).setFld MOT_AX_CFG_KIND kindStep [63] with axes := List.replicate 64 { pos := 2 ^ 40, gate := true } }
     let b := s.begin
     let i := k.val
     let x := b.axis i
     Live [.mot] s ∧ axisKind b i = kindStep ∧ axisOn b i = true ∧ axisSto b i = false ∧ ratRound (counts x.pos) ≠ x.steps ∧ x.pos ≠ x.prev) := by
  unfold Live specified Granted GrantedAt
  refine ⟨?_, ?_, ?_, ?_, ?_, ?_, ?_, ?_, ?_⟩ <;> decide +kernel

/-- CanCommandsComplete. -/
theorem wit_CanCommandsComplete :
    (let m : Master := .core 0
     let c : Fin 8 := 7
     let x : Fin 64 := 63
     let s : State := tRun.setFld CAN_MB_CFG_ROLE 2 [7, 63]
     let b := s.begin
     let n := c.val
     let mb := [n, x.val]
     Live [.can] s ∧ Granted m CAN_MB_STAT mb 1 b ∧ b.isSet CAN_MB_STAT_TXPEND mb = false ∧ b.fld CAN_MB_CFG_ROLE mb = 2) ∧
    (let m : Master := .core 0
     let c : Fin 8 := 7
     let x : Fin 64 := 63
     let s : State := tRun.setFld CAN_MB_STAT_TXPEND 1 [7, 63]
     let b := s.begin
     let n := c.val
     let mb := [n, x.val]
     Live [.can] s ∧ Granted m CAN_MB_STAT mb 2 b ∧ b.isSet CAN_MB_STAT_TXPEND mb = true) ∧
    (let m : Master := .core 0
     let c : Fin 8 := 7
     let s : State := (tRun.setReg CAN_CTL 1 [7]).setFld CAN_ERR_STATE 2 [7]
     let b := s.begin
     let n := c.val
     let word := BitVec.ofNat 32 ((b.reg CAN_CTL [n]).toNat ||| 64)
     let running := b.isSet CAN_CTL_EN [n] = true ∧ b.isSet CAN_CTL_INIT [n] = false
     Live [.can] s ∧ Granted m CAN_CTL [n] word b ∧ CAN_CTL_OPMODE.of word ≠ 3 ∧ CAN_CTL_RECOVER.on word = true ∧ b.fld CAN_ERR_STATE [n] = 2 ∧ running) ∧
    (let c : Fin 8 := 7
     let s : State := tRun.setReg CAN_CTL 1 [7]
     let b := s.begin
     let n := c.val
     Live [.can] s ∧ canOn b n = true ∧ canRestricted b n = false ∧ b.fld CAN_ERR_STATE [n] = 0) ∧
    (let c : Fin 8 := 7
     let s : State := tRun.setReg CAN_CTL 1 [7]
     let b := s.begin
     let n := c.val
     Live [.can] s ∧ canOn b n = true ∧ canRestricted b n = false) ∧
    (let c : Fin 8 := 7
     let s : State := tRun.setFld CAN_ERR_STATE 3 [7]
     let b := s.begin
     let n := c.val
     Live [.can] s ∧ b.powered .can = true ∧ canMode b = true ∧ b.fld CAN_ERR_STATE [n] = 3) ∧
    (let c : Fin 8 := 7
     let s : State := tRun.setReg CAN_CTL 1 [7]
     let b := s.begin
     let n := c.val
     Live [.can] s ∧ canOn b n = true) ∧
    (let c : Fin 8 := 7
     let s : State := (tRun.setReg CAN_CTL 1 [7]).setFld CAN_CTL_OPMODE 1 [7]
     let b := s.begin
     let n := c.val
     Live [.can] s ∧ canOn b n = true ∧ canRestricted b n = true) ∧
    (let c : Fin 8 := 7
     let x : Fin 64 := 63
     let s : State := { tRun.setReg CAN_CTL 1 [7] with can := List.replicate 8 { pend := [{ buf := 63, at_ := 5, seq := 1 }] } }
     let b := s.begin
     let n := c.val
     Live [.can] s ∧ canSending b n x.val = true) ∧
    (let c : Fin 8 := 7
     let x : Fin 64 := 63
     let s : State := { tRun.setFld CAN_MB_CFG_TMO 1 [7, 63] with can := List.replicate 8 { pend := [{ buf := 63, at_ := 5, seq := 1 }] } }
     let b := s.begin
     let n := c.val
     Live [.can] s ∧ (match ((b.canCtl n).pend.find? (fun t => t.buf = x.val)).bind (canDeadline b n) with | some _ => true | _ => false) = true) ∧
    (let c : Fin 8 := 7
     let x : Fin 64 := 63
     let s : State := ((tRun.setReg CAN_CTL 1 [7]).setFld CAN_MB_CFG_ROLE 1 [7, 63]).setFld CAN_MB_CFG_TMO 1 [7, 63]
     let b := s.begin
     let n := c.val
     Live [.can] s ∧ (match canRxDeadline b n x.val with | some _ => true | _ => false) = true) := by
  unfold Live specified Granted GrantedAt
  refine ⟨?_, ?_, ?_, ?_, ?_, ?_, ?_, ?_, ?_, ?_, ?_⟩ <;> decide +kernel

/-- IslandCommandsComplete. -/
theorem wit_IslandCommandsComplete :
    (let s : State := tRun
     let b := s.begin
     let i := b.isl
     let on := i.on = true
     Live [.safe, .mot, .kpr] s ∧ i.on = false ∧ i.cause ≠ 8) ∧
    (let s : State := { tRun with isl := { on := true, st := islStart } }
     let b := s.begin
     let i := b.isl
     let on := i.on = true
     Live [.safe, .mot, .kpr] s ∧ on ∧ i.st = islStart) ∧
    (let s : State := { tRun with isl := { on := true, st := islComm } }
     let b := s.begin
     let i := b.isl
     let on := i.on = true
     Live [.safe, .mot, .kpr] s ∧ on ∧ i.st = islComm) ∧
    (let s : State := { tRun with isl := { on := true, st := 2 } }
     let b := s.begin
     let works := islEvaluates b = true
     Live [.safe, .mot, .kpr] s ∧ works) ∧
    (let o : Fin 16 := 15
     let s : State := { ((tRun.poke (cfgBase + 8) 2 1).setBytes (cfgBase + 64) [2, 15, 1]) with isl := { on := true, st := 2 } }
     let b := s.begin
     let works := islEvaluates b = true
     Live [.safe, .mot, .kpr] s ∧ works ∧ (islEn b 2 o.val).isSome = true) ∧
    (let c : Fin 8 := 7
     let s : State := { ((tRun.poke (cfgBase + 8) 2 1).setBytes (cfgBase + 64) [6, 7, 1]) with isl := { on := true, st := 2, conns := List.replicate 8 { rxseq := some 1 } } }
     let b := s.begin
     let x := b.conn c.val
     let works := islEvaluates b = true
     Live [.safe, .mot, .kpr] s ∧ (match islEn b 6 c.val with | some _ => decide (works ∧ x.rxseq.isSome = true ∧ x.st ≠ 4) | _ => false) = true) ∧
    (let c : Fin 8 := 7
     let s : State := { ((tRun.poke (cfgBase + 8) 2 1).setBytes (cfgBase + 64) [6, 7, 1]) with isl := { on := true, st := 2 } }
     let b := s.begin
     let i := b.isl
     let x := b.conn c.val
     let works := islEvaluates b = true
     Live [.safe, .mot, .kpr] s ∧ (match islEn b 6 c.val with | some r => decide (works ∧ x.sent.any (fun t => i.tick < t + recN b r 4 2) = false) | _ => false) = true) ∧
    (let net : Bool := false
     let bs : List Byte := [1, 0, 1, 0] ++ List.replicate 28 0 ++ leBytes 4 (crc32c 0 ([1, 0, 1, 0] ++ List.replicate 28 0))
     let s : State := { (((tRun.poke (cfgBase + 8) 2 1).setBytes (cfgBase + 64) [6, 7, 1]).poke (cfgBase + 84) 2 1) with isl := { on := true, st := 2 } }
     let k := 7
     let r := cfgBase + 64
     let b := s.begin
     let num := fun (k n : Nat) => ofLE ((bs.drop k).take n)
     let works := islEvaluates b = true
     Live [.safe, .mot, .kpr] s ∧ connOf b (num 0 2) = some k ∧ islEn b 6 k = some r ∧ works ∧ bs.length = 36 ∧ num 2 1 = 1 ∧ ((num 3 1 % 2 = 1) = (net = true)) ∧ num 32 4 = crc32c (recN b r 8 4) (bs.take 32)) ∧
    (let o : Fin 16 := 15
     let s : State := { ((tRun.poke (cfgBase + 8) 2 1).setBytes (cfgBase + 64) [3, 15, 1, 0, 0, 0, 0, 0, 1]) with isl := { on := true, st := 2 } }
     let b := s.begin
     let i := b.isl
     let y := b.sout o.val
     let on := i.on = true
     let works := islEvaluates b = true
     Live [.safe, .mot, .kpr] s ∧ (match islEn b 3 o.val with | some r => decide (works ∧ recN b r 8 2 ≠ 0 ∧ y.on = false ∧ bit i.rb o.val = false ∧ bit i.rb (16 + o.val) = false) | _ => false) = true) ∧
    (let s : State := { tRun with isl := { on := true, st := 2 } }
     let b := s.begin
     let i := b.isl
     let on := i.on = true
     Live [.safe, .mot, .kpr] s ∧ on) ∧
    (let s : State := { tRun with isl := { on := true, st := 1 } }
     let b := s.begin
     let i := b.isl
     let on := i.on = true
     Live [.safe, .mot, .kpr] s ∧ on ∧ i.held = false ∧ i.st ≠ 0) ∧
    (let s : State := tRun
     let b := s.begin
     Live [.safe, .mot, .kpr] s ∧ islApplies b = true ∧ b.islv.silent = false) := by
  unfold Live specified
  refine ⟨?_, ?_, ?_, ?_, ?_, ?_, ?_, ?_, ?_, ?_, ?_, ?_⟩ <;> decide +kernel

/-- TwinCommandsComplete. -/
theorem wit_TwinCommandsComplete :
    (let pair : BitVec 12 := 1
     let h : Hello := { exec := false, pref := false, dev := 0, ver := 0, cver := 0, settings := [] }
     let s : State := (tRun.setFld TWIN_CTL_EN 1)
     let b := s.begin
     let enabled := b.isSet TWIN_CTL_EN = true
     Live [.twin] s ∧ enabled ∧ b.domOn 9 = true ∧ (pair.toNat ≠ b.fld TWIN_CTL_PAIRID ∨ h.dev ≠ b.fld TWIN_CTL_PEERDEV)) ∧
    (let pair : BitVec 12 := 0
     let h : Hello := { exec := false, pref := false, dev := 0, ver := 0, cver := 0, settings := [] }
     let s : State := (tRun.setFld TWIN_CTL_EN 1)
     let b := s.begin
     let enabled := b.isSet TWIN_CTL_EN = true
     Live [.twin] s ∧ enabled ∧ b.domOn 9 = true ∧ pair.toNat = b.fld TWIN_CTL_PAIRID ∧ h.dev = b.fld TWIN_CTL_PEERDEV) ∧
    (let lv : BitVec 4 := 0
     let s : State := ((tRun.setFld TWIN_CTL_EN 1).setFld TWIN_STAT_ROLE 1)
     let b := s.begin
     let seen := b.setFld TWIN_STAT_PEEROWN lv.toNat
     Live [.twin] s ∧ (seen.leader = true ∨ inStepFollower seen = true)) ∧
    (let s : State := (tRun.setFld TWIN_LINK_UP0 1).setFld TWIN_LINK_UP1 1
     let b := s.begin
     Live [.twin] s ∧ b.isSet TWIN_LINK_UP0 = true ∧ b.isSet TWIN_LINK_UP1 = true) ∧
    (let m : Master := .host 0
     let s : State := (tRun.setFld TWIN_CTL_EN 1)
     let b := s.begin
     let enabled := b.isSet TWIN_CTL_EN = true
     Live [.twin] s ∧ Granted m TWIN_CMD [] 1 b ∧ enabled ∧ b.isSet TWIN_STAT_INSTEP = false ∧ b.leader = false) ∧
    (let m : Master := .host 0
     let s : State := { ((tRun.setFld TWIN_CTL_EN 1).setFld TWIN_STAT_ROLE 1).setFld TWIN_STAT_INSTEP 1 with twin := { matched := true } }
     let b := s.begin
     let t := b.twin
     Live [.twin] s ∧ Granted m TWIN_CMD [] 2 b ∧ b.leader = true ∧ b.isSet TWIN_STAT_INSTEP = true ∧ t.matched = true) ∧
    (let m : Master := .host 0
     let s : State := tRun.setFld TWIN_RS_PHASE 4
     let b := s.begin
     Live [.twin] s ∧ Granted m TWIN_CMD [] 4 b ∧ b.fld TWIN_RS_PHASE ≠ 0 ∧ b.fld TWIN_RS_PHASE ≠ 5) ∧
    (let s : State := { ((tRun.setFld TWIN_CTL_EN 1).setFld TWIN_STAT_ROLE 3) with twin := { rsFrom := some 5 } }
     let b := s.begin
     let t := b.twin
     Live [.twin] s ∧ (match t.rsFrom with | some f => decide ((advanceTo (f + 2 * secF) b).fld TWIN_STAT_ROLE = 3) | _ => false) = true) ∧
    (let phase : Fin 5 := 4
     let s : State := ((tRun.setFld TWIN_CTL_EN 1).setFld TWIN_STAT_ROLE 3).setFld TWIN_RS_PHASE 2
     let b := s.begin
     let role := b.fld TWIN_STAT_ROLE
     Live [.twin] s ∧ role = 3 ∧ 2 ≤ b.fld TWIN_RS_PHASE ∧ 2 ≤ phase.val) ∧
    (let s : State := { (tRun.setFld TWIN_CTL_EN 1) with adm := { lastTick := some 200 } }
     let b := s.begin
     let enabled := b.isSet TWIN_CTL_EN = true
     Live [.twin] s ∧ (match b.adm.lastTick with | some j => decide (j % 200 = 0 ∧ enabled) | _ => false) = true) ∧
    (let dig : List Word := List.replicate 8 0
     let s : State := (tRun.setFld TWIN_CTL_EN 1)
     let b := s.begin
     let enabled := b.isSet TWIN_CTL_EN = true
     Live [.twin] s ∧ enabled ∧ dig.length = 8) ∧
    (let s : State := ((tRun.setFld TWIN_CTL_EN 1).setFld TWIN_STAT_ROLE 1)
     let b := s.begin
     Live [.twin] s ∧ b.leader = true) ∧
    (let grp : Fin 4 := 3
     let s : State := (tRun.setFld TWIN_GRP_ANCHOR 1 [3]).setFld TWIN_STAT_INSTEP 1
     let b := s.begin
     Live [.twin] s ∧ b.isSet TWIN_GRP_ANCHOR [grp.val] = true ∧ b.isSet TWIN_STAT_INSTEP = true ∧ b.isSet TWIN_GRP_USETHR [grp.val] = false) ∧
    (let s : State := (tRun.setFld TWIN_CTL_EN 1).setFld TWIN_STAT_ROLE 3
     let b := s.begin
     let t := b.twin
     let enabled := b.isSet TWIN_CTL_EN = true
     let role := b.fld TWIN_STAT_ROLE
     Live [.twin] s ∧ enabled ∧ (role = 3 ∨ role = 4) ∧ t.rsFrom = none ∧ b.fld TWIN_RS_CAUSE = 0) ∧
    (let s : State := ((tRun.setFld TWIN_CTL_EN 1).setFld TWIN_STAT_ROLE 2)
     let b := s.begin
     let enabled := b.isSet TWIN_CTL_EN = true
     Live [.twin] s ∧ enabled ∧ b.follower = true) ∧
    (let s : State := ((tRun.setFld TWIN_CTL_EN 1).setFld TWIN_STAT_ROLE 3)
     let b := s.begin
     let enabled := b.isSet TWIN_CTL_EN = true
     let role := b.fld TWIN_STAT_ROLE
     Live [.twin] s ∧ enabled ∧ (b.follower = true ∨ role = 3)) ∧
    (let s : State := ((tRun.setFld TWIN_CTL_EN 1).setFld TWIN_STAT_ROLE 1)
     let b := s.begin
     let enabled := b.isSet TWIN_CTL_EN = true
     Live [.twin] s ∧ enabled ∧ b.leader = true) ∧
    (let s : State := { ((tRun.setFld TWIN_CTL_EN 1).setFld TWIN_STAT_ROLE 2) with twin := { openTick := some 5 } }
     let b := s.begin
     let enabled := b.isSet TWIN_CTL_EN = true
     let opens := fun (u : State) => if u.twin.openTick.isNone then runNextTick u else u
     Live [.twin] s ∧ enabled ∧ b.follower = true ∧ (match (opens b).twin.openTick with | some _ => true | _ => false) = true) ∧
    (let s : State := { ((tRun.setFld TWIN_CTL_EN 1).setFld TWIN_STAT_ROLE 1) with adm := { lastTick := some 5 } }
     let b := s.begin
     let enabled := b.isSet TWIN_CTL_EN = true
     Live [.twin] s ∧ enabled ∧ b.follower = false ∧ b.leader = true ∧ (match b.adm.lastTick with | some _ => true | _ => false) = true) ∧
    (let s : State := { ((tRun.setFld TWIN_CTL_EN 1).setFld TWIN_STAT_ROLE 2) with twin := { takeover := true } }
     let b := s.begin
     let t := b.twin
     Live [.twin] s ∧ b.follower = true ∧ t.takeover = true) ∧
    (let swap : Bool := false
     let s : State := { ((tRun.setFld TWIN_CTL_EN 1).setFld TWIN_STAT_ROLE 1).setFld TWIN_STAT_INSTEP 1 with twin := { swap := some 3 }, adm := { lastTick := some 4 } }
     let j := 3
     let b := s.begin
     let t := b.twin
     Live [.twin] s ∧ t.swap = some j ∧ nextTick b = j + 2 ∧ t.openTick = none ∧ b.isSet TWIN_STAT_INSTEP = true) ∧
    (let cut : Nat := 0
     let s : State := { ((tRun.setFld TWIN_CTL_EN 1).setFld TWIN_STAT_ROLE 3).setFld TWIN_RS_PHASE 4 with twin := { cut := some 5 } }
     let b := s.begin
     let t := b.twin
     let role := b.fld TWIN_STAT_ROLE
     Live [.twin] s ∧ (match t.cut with | some _ => decide (role = 3 ∧ b.fld TWIN_RS_PHASE = 4 ∧ b.tb.started = true) | _ => false) = true) := by
  unfold Live specified Granted GrantedAt
  refine ⟨?_, ?_, ?_, ?_, ?_, ?_, ?_, ?_, ?_, ?_, ?_, ?_, ?_, ?_, ?_, ?_, ?_, ?_, ?_, ?_, ?_, ?_⟩ <;> decide +kernel

/-- SystemCommandsComplete. -/
theorem wit_SystemCommandsComplete :
    (let s : State := tRun.setFld SYS_MODE_CUR 1
     let b := s.begin
     Live [.sys, .time, .disp, .loop, .rcp, .rio, .sar, .rfa, .pwm, .mot, .can, .cpu, .twin, .pwr] s ∧ b.mode = .seed) ∧
    (let s : State := tRun.setFld SYS_MODE_CUR 2
     let b := s.begin
     Live [.sys, .time, .disp, .loop, .rcp, .rio, .sar, .rfa, .pwm, .mot, .can, .cpu, .twin, .pwr] s ∧ (b.mode = .keeper ∨ b.mode = .resync)) ∧
    (let s : State := tRun
     let b := s.begin
     Live [.sys, .time, .disp, .loop, .rcp, .rio, .sar, .rfa, .pwm, .mot, .can, .cpu, .twin, .pwr] s ∧ b.mode ≠ .seed ∧ b.mode ≠ .keeper ∧ b.mode ≠ .resync ∧ b.kpr.qM.length < 16) ∧
    (let target : Fin 17 := 0
     let s : State := { tRun with mc := { tRun.mc with pendMode := some { target := 16, role := .maker, id := 0, path := 69, seq := 0 } } }
     let b := s.begin
     let waits := b.mc.pendMode.any (fun r => r.target = 16) = true
     Live [.sys, .time, .disp, .loop, .rcp, .rio, .sar, .rfa, .pwm, .mot, .can, .cpu, .twin, .pwr] s ∧ waits) ∧
    (let target : Fin 17 := 0
     let role : Role := .maker
     let s : State := tRun.setFld SYS_MODE_CUR 2
     let b := s.begin
     let waits := b.mc.pendMode.any (fun r => r.target = 16) = true
     Live [.sys, .time, .disp, .loop, .rcp, .rio, .sar, .rfa, .pwm, .mot, .can, .cpu, .twin, .pwr] s ∧ ¬ waits ∧ b.mode = .keeper ∧ b.mc.pendMode = none ∧ requestCode b 16 role = codeDone) ∧
    (let target : Fin 17 := 0
     let s : State := tRun
     let b := s.begin
     let waits := b.mc.pendMode.any (fun r => r.target = 16) = true
     Live [.sys, .time, .disp, .loop, .rcp, .rio, .sar, .rfa, .pwm, .mot, .can, .cpu, .twin, .pwr] s ∧ ¬ waits ∧ b.mode ≠ .seed ∧ b.mode ≠ .keeper ∧ b.mode ≠ .resync ∧ b.kpr.qM.length < 16) ∧
    (let s : State := tRun.setFld PWR_STAT_WARN 1
     let b := s.begin
     Live [.sys, .time, .disp, .loop, .rcp, .rio, .sar, .rfa, .pwm, .mot, .can, .cpu, .twin, .pwr] s ∧ b.isSet PWR_STAT_WARN = true ∧ b.mode ≠ .brace) ∧
    (let s : State := tRun.setFld SYS_MODE_CUR 11
     let b := s.begin
     Live [.sys, .time, .disp, .loop, .rcp, .rio, .sar, .rfa, .pwm, .mot, .can, .cpu, .twin, .pwr] s ∧ b.isSet PWR_STAT_WARN = false ∧ b.mode = .brace) ∧
    (let s : State := tRun
     let b := s.begin
     Live [.sys, .time, .disp, .loop, .rcp, .rio, .sar, .rfa, .pwm, .mot, .can, .cpu, .twin, .pwr] s ∧ b.tb.started = true) ∧
    (let q : Fin 25 := 22
     let s : State := { tRun with fab := modNth tRun.fab 22 (fun f => { f with tokens := [.event { sev := 6, kind := 4, blk := 22, inst := 0, mst := 0, d0 := 0, d1 := 0, mode := 5, tick := 0, first := 0 }] }) }
     let b := s.begin
     Live [.sys, .time, .disp, .loop, .rcp, .rio, .sar, .rfa, .pwm, .mot, .can, .cpu, .twin, .pwr] s ∧ (match b.popToken q.val with | some (.event _, _) => decide (b.evq.length < 1024) | _ => false) = true) ∧
    (let q : Fin 25 := 24
     let s : State := { tRun.setFld ACQ_SET_STAT_STATE 2 [63] with fab := modNth tRun.fab 24 (fun f => { f with tokens := [.arm 63 9] }) }
     let b := s.begin
     Live [.sys, .time, .disp, .loop, .rcp, .rio, .sar, .rfa, .pwm, .mot, .can, .cpu, .twin, .pwr] s ∧ (match b.popToken q.val with | some (.arm k _, t) => decide (acqModeOk t = true ∧ acqActionCode t k = 0) | _ => false) = true) ∧
    (let s : State := { tRun with adm := { lastTick := some 200 } }
     let b := s.begin
     Live [.sys, .time, .disp, .loop, .rcp, .rio, .sar, .rfa, .pwm, .mot, .can, .cpu, .twin, .pwr] s ∧ (match b.adm.lastTick with | some n => decide (n % 200 = 0) | _ => false) = true) ∧
    (let mem : Fin 7 := 3
     let s : State := tRun
     Live [.sys, .time, .disp, .loop, .rcp, .rio, .sar, .rfa, .pwm, .mot, .can, .cpu, .twin, .pwr] s ∧ mem.val = 3) ∧
    (let mem : Fin 7 := 3
     let a : Word := 0
     let blk : Block := .cpu
     let c : Fin 18 := 15
     let s : State := tRun
     let b := s.begin
     let logged := (b.emit 6 0x04 blk 0xFFFF 0xFF a.toNat (mem.val + 1)).raiseSafe 2
     let x := logged.core c.val
     Live [.sys, .time, .disp, .loop, .rcp, .rio, .sar, .rfa, .pwm, .mot, .can, .cpu, .twin, .pwr] s ∧ ¬(c.val = 17 ∧ mem.val = 3) ∧ mem.val < 4 ∧ x.run = .running ∧ x.halted = false) := by
  unfold Live specified
  refine ⟨?_, ?_, ?_, ?_, ?_, ?_, ?_, ?_, ?_, ?_, ?_, ?_, ?_, ?_⟩ <;> decide +kernel

/-- PowerCommandsComplete. -/
theorem wit_PowerCommandsComplete :
    (let f : Fin 2 := 1
     let s : State := tRun
     let b := s.begin
     let i := f.val
     let x := b.pwrs
     Live [.pwr, .nvm] s ∧ bit x.low i = false) ∧
    (let f : Fin 2 := 1
     let s : State := tRun
     let b := s.begin
     let i := f.val
     let x := b.pwrs
     Live [.pwr, .nvm] s ∧ bit x.ov i = false) ∧
    (let m : Master := .host 0
     let en : BitVec 12 := 0xFFF
     let d : Fin 12 := 0
     let s : State := tRun
     let b := s.begin
     let w := BitVec.ofNat 32 en.toNat
     let old := b.fld PWR_DOMEN_EN
     let new_ := (PWR_DOMEN_EN.of w &&& 0xF98) ||| 0x67
     let offs := switchable.filter (fun d => bit old d && !bit new_ d)
     let ons := switchable.filter (fun d => bit new_ d && !b.domOn d && !bit (b.fld PWR_DOMSTAT_FLT) d && 3 ≤ b.mode.code)
     let chg := switchable.filter (fun d => bit old d != bit new_ d) ++ ons.filter (fun d => bit old d)
     Live [.pwr, .nvm] s ∧ Granted m PWR_DOMEN [] w b ∧ (∀ d ∈ chg, switchMode b d = true) ∧ (∀ d ∈ offs, switchBarred b d = false)) ∧
    (let k : Fin 8 := 7
     let s : State := tRun.setReg PWR_VIOCFG 0
     let b := s.begin
     Live [.pwr, .nvm] s ∧ (bankLevel b k.val).isSome = true) ∧
    (let m : Master := .core 0
     let s : State := tRun
     let b := s.begin
     Live [.pwr, .nvm] s ∧ Granted m PWR_STAT [] 0x40 b) := by
  unfold Live specified Granted GrantedAt
  refine ⟨?_, ?_, ?_, ?_, ?_⟩ <;> decide +kernel

/-- HostCommandsComplete. -/
theorem wit_HostCommandsComplete :
    (let a : Word := 0x40013004
     let s : State := tRun
     Live [.host, .kpr] s ∧ Live (.host :: touched a.toNat) s) ∧
    (let p : Fin 2 := 1
     let sess : BitVec 8 := 0
     let cookie : Word := 0
     let len : BitVec 14 := 0
     let good : Bool := false
     let s : State := tRun.setFld HOST_P_STAT_LINK 1 [1]
     let b := s.begin
     let i := p.val
     let got := b.incr HOST_P_RXPKT_COUNT [i]
     let known := sess.toNat < 64 ∧ (got.sess sess.toNat).isOpen = true ∧ (got.sess sess.toNat).cookie = cookie.toNat
     let fits := rxBytes (nth got.host.ports i {}) + len.toNat ≤ 0x200000
     Live [.host, .kpr] s ∧ portUp b i = true ∧ (good = false ∨ ¬ fits ∨ (¬ known ∧ sess ≠ 0xFF))) ∧
    (let p : Fin 2 := 1
     let sess : BitVec 8 := 0
     let cookie : Word := 0
     let len : BitVec 14 := 0
     let s : State := tRun.setFld HOST_P_STAT_LINK 1 [1]
     let b := s.begin
     let i := p.val
     let got := b.incr HOST_P_RXPKT_COUNT [i]
     let known := sess.toNat < 64 ∧ (got.sess sess.toNat).isOpen = true ∧ (got.sess sess.toNat).cookie = cookie.toNat
     let fits := rxBytes (nth got.host.ports i {}) + len.toNat ≤ 0x200000
     Live [.host, .kpr] s ∧ portUp b i = true ∧ known ∧ fits) ∧
    (let port : Fin 3 := 1
     let s : State := tRun.setFld HOST_P_STAT_LINK 1 [1]
     let b := s.begin
     Live [.host, .kpr] s ∧ portOpen b port.val = true) ∧
    (let any_ : Fin 68 := 0
     let sess : BitVec 8 := 0
     let s : State := tRun
     let b := s.begin
     Live [.host, .kpr] s ∧ (b.sess any_.val).isOpen = true) ∧
    (let any_ : Fin 68 := 0
     let sess : BitVec 8 := 0
     let seq : Word := 9
     let s : State := tRun.modSess 0 (fun x => { x with reqs := [{ seq := 9, op := .ping, order := false, at_ := 5, held := true, adm := false }] })
     let r := { seq := 9, op := .ping, order := false, at_ := 5, held := true, adm := false }
     let b := s.begin
     Live [.host, .kpr] s ∧ (b.sess any_.val).reqs.find? (fun r => r.seq = seq.toNat) = some r ∧ r.held = true) ∧
    (let sess : BitVec 8 := 0
     let cookie : Word := 0
     let g : Fin 4 := 3
     let s : State := (((tRun.setFld KPR_MG_STAT_LINK 1).setFld KPR_MG_CFG_EN 1).modSess 67 (fun x => { x with isOpen := true }))
     let b := s.begin
     let u := 64 + g.val
     Live [.host, .kpr] s ∧ portOpen b 2 = true ∧ (b.sess u).isOpen = true ∧ (b.sess u).cookie = cookie.toNat ∧ b.kpr.qQ.length < 64) ∧
    (let p : Fin 2 := 1
     let s : State := ((tRun.setFld CLK_STAT_PRESENT 15).setFld CLK_STAT_LOCK 63).setFld HOST_P_CFG_EN 1 [1]
     let b := s.begin
     let i := p.val
     let link := [i]
     let can := b.isSet HOST_P_CFG_EN link = true ∧ b.domOn 9 = true ∧ b.clkPresent 3 = true ∧ b.mode ≠ .seed ∧ b.mode ≠ .keeper
     Live [.host, .kpr] s ∧ can) := by
  unfold Live specified
  refine ⟨?_, ?_, ?_, ?_, ?_, ?_, ?_, ?_⟩ <;> decide +kernel

/-- RecorderAndLogComplete. -/
theorem wit_RecorderAndLogComplete :
    (let s : State := { tRun with adm := { lastTick := some 5 } }
     let b := s.begin
     Live [.recs, .host, .evl, .kpr, .nvm] s ∧ (match b.adm.lastTick with | some _ => decide (b.domOn 11 = true) | _ => false) = true) ∧
    (let k : Fin 64 := 63
     let naks : List Word := List.replicate 16 0
     let s : State := (tRun.setFld REC_ST_CFG_STATE 1 [63]).setFld REC_ST_CFG_OPT 4 [63]
     let b := s.begin
     let n := k.val
     Live [.recs, .host, .evl, .kpr, .nvm] s ∧ streamOpen b n = true ∧ streamOpt b n 2 = true ∧ naks.length ≤ 16) ∧
    (let k : Fin 64 := 63
     let s : State := (tRun.setFld REC_ST_CFG_STATE 1 [63]).modStream 63 (fun x => { x with sent := [{ seq := 0, rows := 1, gap := false, body := [], at_ := 5 }] })
     let b := s.begin
     let n := k.val
     Live [.recs, .host, .evl, .kpr, .nvm] s ∧ streamOpen b n = true ∧ (match oldestSent b n with | some _ => true | _ => false) = true) ∧
    (let k : Fin 64 := 63
     let s : State := (tRun.setFld REC_ST_CFG_STATE 1 [63]).modStream 63 (fun x => { x with found := false })
     let b := s.begin
     let n := k.val
     let x := b.stream n
     Live [.recs, .host, .evl, .kpr, .nvm] s ∧ streamOpen b n = true ∧ x.found = false ∧ x.late = false) ∧
    (let m : Master := .host 0
     let k : Fin 64 := 63
     let s : State := tRun
     let b := s.begin
     let n := k.val
     Live [.recs, .host, .evl, .kpr, .nvm] s ∧ Granted m REC_ST_CTL [n] 1 b) ∧
    (let s : State := { tRun with evq := [{ sev := 6, kind := 4, blk := 22, inst := 0, mst := 0, d0 := 0, d1 := 0, mode := 5, tick := 0, first := 0 }] }
     let b := s.begin
     let pulled := pullEvent b
     Live [.recs, .host, .evl, .kpr, .nvm] s ∧ (match pulled.evq with | _ :: _ => true | _ => false) = true) ∧
    (let s : State := { tRun with evl := { keys := [{ sev := 6, kind := 4, blk := 22, inst := 0, mst := 0, cred := 0, at_ := 5 }] } }
     let b := s.begin
     let idle := (b.evl.keys.filter (fun e => e.win.isNone)).foldl (fun (z : Option Nat) e => some (min (z.getD e.seen) e.seen)) none
     Live [.recs, .host, .evl, .kpr, .nvm] s ∧ (match idle with | some _ => true | _ => false) = true) ∧
    (let s : State := { tRun with evl := { held := [(0, { seq := 1, sev := 6, keel := true, summary := false, kind := 4, blk := 22, inst := 0, mst := 0, mode := 5, tick := 0, first := 0, last := 0, rep := 0, d0 := 0, d1 := 0 })] } }
     let b := s.begin
     Live [.recs, .host, .evl, .kpr, .nvm] s ∧ b.evl.held ≠ []) := by
  unfold Live specified Granted GrantedAt
  refine ⟨?_, ?_, ?_, ?_, ?_, ?_, ?_, ?_⟩ <;> decide +kernel

/-- SeedCommandsComplete. -/
theorem wit_SeedCommandsComplete :
    (let s : State := tRun.setFld SYS_MODE_CUR 0
     specified [.sys, .pwr, .kpr] s ∧ s.mode = .dark) ∧
    (let s : State := { tRun with pwrs := { fed := true } }
     let b := s.begin
     let live := s.mode ≠ .dark
     specified [.sys, .pwr, .kpr] s ∧ live ∧ b.pwrs.fed = true) ∧
    (let s : State := { tRun.setFld SYS_MODE_CUR 1 with seed := { step := 5 } }
     let b := s.begin
     let x := b.seed
     let live := s.mode ≠ .dark
     specified [.sys, .pwr, .kpr] s ∧ live ∧ seeding b = true ∧ (x.step = 5 → pinHolds b = false)) ∧
    (let s : State := { tRun.setFld SYS_MODE_CUR 1 with seed := { step := 9 } }
     let b := s.begin
     let x := b.seed
     let live := s.mode ≠ .dark
     specified [.sys, .pwr, .kpr] s ∧ live ∧ seeding b = true ∧ x.step = 9) ∧
    (let s : State := tRun
     let b := s.begin
     let x := b.seed
     let live := s.mode ≠ .dark
     specified [.sys, .pwr, .kpr] s ∧ live ∧ x.pinLow = false ∧ x.ignored = false) ∧
    (let s : State := { tRun with seed := { ignored := true } }
     let b := s.begin
     let x := b.seed
     let live := s.mode ≠ .dark
     specified [.sys, .pwr, .kpr] s ∧ live ∧ x.pinLow = false ∧ x.ignored = true) ∧
    (let s : State := { tRun with seed := { pinLow := true } }
     let b := s.begin
     let x := b.seed
     let live := s.mode ≠ .dark
     specified [.sys, .pwr, .kpr] s ∧ live ∧ x.pinLow = true) ∧
    (let s : State := { tRun.setFld SYS_MODE_CUR 1 with seed := { pinLow := true } }
     let b := s.begin
     let live := s.mode ≠ .dark
     specified [.sys, .pwr, .kpr] s ∧ live ∧ pinHolds b = true ∧ b.pwrs.fed = false) ∧
    (let s : State := { tRun with seed := { highAt := some 5 } }
     let b := s.begin
     let x := b.seed
     let live := s.mode ≠ .dark
     specified [.sys, .pwr, .kpr] s ∧ live ∧ (match x.highAt with | some _ => true | _ => false) = true) ∧
    (let role : Role := .operator
     let s : State := tRun
     let live := s.mode ≠ .dark
     specified [.sys, .pwr, .kpr] s ∧ live ∧ role = .operator) ∧
    (let blk : Block := .cpu
     let role : Role := .maker
     let s : State := tRun.setFld SYS_MODE_CUR 4
     let b := s.begin
     let live := s.mode ≠ .dark
     let open_ := fun (l : List Mode) => b.effMode ∈ l
     let asks := role ≠ .operator
     specified [.sys, .pwr, .kpr] s ∧ live ∧ asks ∧ blockPlane blk = .control ∧ open_ [.stop, .provision]) ∧
    (let blk : Block := .kpr
     let role : Role := .maker
     let s : State := tRun
     let b := s.begin
     let live := s.mode ≠ .dark
     let asks := role ≠ .operator
     specified [.sys, .pwr, .kpr] s ∧ live ∧ asks ∧ (blockPlane blk = .data ∨ blockPlane blk = .management) ∧ 3 ≤ b.mode.code) := by
  unfold specified
  refine ⟨?_, ?_, ?_, ?_, ?_, ?_, ?_, ?_, ?_, ?_, ?_, ?_⟩ <;> decide +kernel

/-- KeeperCommandsComplete. -/
theorem wit_KeeperCommandsComplete :
    (let s : State := tRun.setFld KPR_WDT_PER 1
     let b := s.begin
     let kick := b.reg KPR_WDT ||| 0x80000000
     Live [.kpr, .sys] s ∧ Granted .keeper KPR_WDT [] kick b ∧ KPR_WDT_PER.of kick ≠ 0 ∧ KPR_WDT_KICK.on kick = true) ∧
    (let s : State := tRun.setFld KPR_TEMP_NOW 25 [23]
     let b := s.begin
     Live [.kpr, .sys] s ∧ (match junction b with | some _ => true | _ => false) = true) ∧
    (let s : State := { tRun with kpr := { locks := [((0, 0), 5)] } }
     let b := s.begin
     let k := b.kpr
     let first := k.locks.foldl (fun (z : Option Nat) l => some (min (z.getD l.2) l.2)) none
     Live [.kpr, .sys] s ∧ (match first with | some _ => true | _ => false) = true) ∧
    (let m : Master := .host 0
     let role : Fin 4 := 1
     let s : State := tRun.setFld SYS_MODE_CUR 3
     let b := s.begin
     let cred := BitVec.ofNat 32 (2 ^ 31 + b.fld KPR_CRED_KEYSET * 16 + role.val)
     Live [.kpr, .sys] s ∧ Granted m KPR_CRED [] cred b ∧ b.mode = .provision ∧ KPR_CRED_SET.on cred = true ∧ KPR_CRED_ROLE.of cred < 2) ∧
    (let s : State := { tRun with kpr := { qQ := [(68, 1, 5)] } }
     let b := s.begin
     let k := b.kpr
     Live [.kpr, .sys] s ∧ (match k.qQ with | (68, _, _) :: _ => true | _ => false) = true) ∧
    (let s : State := tRun
     let b := s.begin
     let k := b.kpr
     let bitten := watchdog (advanceTo (k.kickAt + b.fld KPR_WDT_PER * 1000000 * nsF) b)
     Live [.kpr, .sys] s ∧ b.pwrs.fed = false ∧ (trialPending b = false ∨ bitten.mode = .seed)) ∧
    (let s : State := tRun.setFld UPD_SLOT_TRIAL 1
     let b := s.begin
     let k := b.kpr
     let bitten := watchdog (advanceTo (k.kickAt + b.fld KPR_WDT_PER * 1000000 * nsF) b)
     Live [.kpr, .sys] s ∧ b.pwrs.fed = false ∧ trialPending b = true ∧ bitten.mode ≠ .seed) := by
  unfold Live specified Granted GrantedAt
  refine ⟨?_, ?_, ?_, ?_, ?_, ?_, ?_⟩ <;> decide +kernel

/-- MonitorCommandsComplete. -/
theorem wit_MonitorCommandsComplete :
    let a : Word := 0x40013004
    let s : State := { tRun with kpr := { login := some (.operator, 5) } }
    Live [.kpr, .upd, .sys, .evl, .pwr, .time, .twin] s ∧ Live (.kpr :: touched a.toNat) s ∧ s.pwrs.fed = false ∧ (match s.begin.kpr.login with | some (_, _) => true | _ => false) = true := by
  unfold Live specified
  decide +kernel

/-- UpdateCommandsComplete. -/
theorem wit_UpdateCommandsComplete :
    (let m : Master := .host 0
     let s : State := tRun
     let b := s.begin
     let word := fun (op : Nat) => BitVec.ofNat 32 (2 ^ 31 + op)
     let asked := fun (op : Nat) => Granted m UPD_CMD [] (word op) b ∧ b.isSet UPD_STAT_BUSY = false
     Live [.upd, .nvm] s ∧ asked 1) ∧
    (let m : Master := .host 0
     let s : State := tRun
     let b := s.begin
     let word := fun (op : Nat) => BitVec.ofNat 32 (2 ^ 31 + op)
     let asked := fun (op : Nat) => Granted m UPD_CMD [] (word op) b ∧ b.isSet UPD_STAT_BUSY = false
     Live [.upd, .nvm] s ∧ asked 2) ∧
    (let m : Master := .host 0
     let s : State := tRun
     let b := s.begin
     let word := fun (op : Nat) => BitVec.ofNat 32 (2 ^ 31 + op)
     let asked := fun (op : Nat) => Granted m UPD_CMD [] (word op) b ∧ b.isSet UPD_STAT_BUSY = false
     Live [.upd, .nvm] s ∧ asked 3) ∧
    (let m : Master := .host 0
     let s : State := tRun
     let b := s.begin
     let word := fun (op : Nat) => BitVec.ofNat 32 (2 ^ 31 + op)
     let asked := fun (op : Nat) => Granted m UPD_CMD [] (word op) b ∧ b.isSet UPD_STAT_BUSY = false
     Live [.upd, .nvm] s ∧ asked 4) ∧
    (let m : Master := .host 0
     let s : State := tRun
     let b := s.begin
     let word := fun (op : Nat) => BitVec.ofNat 32 (2 ^ 31 + op)
     let asked := fun (op : Nat) => Granted m UPD_CMD [] (word op) b ∧ b.isSet UPD_STAT_BUSY = false
     Live [.upd, .nvm] s ∧ asked 5) ∧
    (let m : Master := .host 0
     let s : State := tRun
     let b := s.begin
     let word := fun (op : Nat) => BitVec.ofNat 32 (2 ^ 31 + op)
     let asked := fun (op : Nat) => Granted m UPD_CMD [] (word op) b ∧ b.isSet UPD_STAT_BUSY = false
     Live [.upd, .nvm] s ∧ asked 6) ∧
    (let m : Master := .host 0
     let s : State := tRun.setFld SYS_MODE_CUR 3
     let b := s.begin
     let word := fun (op : Nat) => BitVec.ofNat 32 (2 ^ 31 + op)
     let stored := fun (op : Nat) => Granted m NVM_CMD [] (word op) b ∧ b.isSet NVM_STAT_BUSY = false ∧
       nvmModeOk (b.store NVM_CMD [] (word op &&& 0x7FFFFFFF)) op = true
     Live [.upd, .nvm] s ∧ stored 1) ∧
    (let m : Master := .host 0
     let s : State := tRun.setFld SYS_MODE_CUR 3
     let b := s.begin
     let word := fun (op : Nat) => BitVec.ofNat 32 (2 ^ 31 + op)
     let stored := fun (op : Nat) => Granted m NVM_CMD [] (word op) b ∧ b.isSet NVM_STAT_BUSY = false ∧
       nvmModeOk (b.store NVM_CMD [] (word op &&& 0x7FFFFFFF)) op = true
     Live [.upd, .nvm] s ∧ stored 2) ∧
    (let m : Master := .host 0
     let s : State := tRun.setFld SYS_MODE_CUR 3
     let b := s.begin
     let word := fun (op : Nat) => BitVec.ofNat 32 (2 ^ 31 + op)
     let stored := fun (op : Nat) => Granted m NVM_CMD [] (word op) b ∧ b.isSet NVM_STAT_BUSY = false ∧
       nvmModeOk (b.store NVM_CMD [] (word op &&& 0x7FFFFFFF)) op = true
     Live [.upd, .nvm] s ∧ stored 3) ∧
    (let m : Master := .host 0
     let s : State := tRun.setFld SYS_MODE_CUR 3
     let b := s.begin
     let word := fun (op : Nat) => BitVec.ofNat 32 (2 ^ 31 + op)
     let stored := fun (op : Nat) => Granted m NVM_CMD [] (word op) b ∧ b.isSet NVM_STAT_BUSY = false ∧
       nvmModeOk (b.store NVM_CMD [] (word op &&& 0x7FFFFFFF)) op = true
     Live [.upd, .nvm] s ∧ stored 4) ∧
    (let m : Master := .host 0
     let s : State := tRun.setFld SYS_MODE_CUR 3
     let b := s.begin
     let word := fun (op : Nat) => BitVec.ofNat 32 (2 ^ 31 + op)
     let stored := fun (op : Nat) => Granted m NVM_CMD [] (word op) b ∧ b.isSet NVM_STAT_BUSY = false ∧
       nvmModeOk (b.store NVM_CMD [] (word op &&& 0x7FFFFFFF)) op = true
     Live [.upd, .nvm] s ∧ stored 5 ∧ qualifies b m .g3 = true) ∧
    (let s : State := { tRun with upd := { nvmOp := some 1 } }
     let b := s.begin
     Live [.upd, .nvm] s ∧ (match b.upd.nvmOp with | some _ => true | _ => false) = true) ∧
    (let s : State := { tRun.setFld UPD_SLOT_TRIAL 1 with upd := { due := some 5 } }
     let b := s.begin
     let runs := trialPending b = true ∧ b.mode ≠ .seed
     Live [.upd, .nvm] s ∧ runs ∧ b.upd.due.any (fun t => t ≤ b.now) = true) ∧
    (let s : State := { tRun.setFld UPD_SLOT_TRIAL 1 with upd := { grave := true } }
     let b := s.begin
     let runs := trialPending b = true ∧ b.mode ≠ .seed
     Live [.upd, .nvm] s ∧ runs ∧ b.upd.due.any (fun t => t ≤ b.now) = false ∧ b.upd.grave = true) ∧
    (let s : State := (tRun.setFld UPD_SLOT_TRIAL 1).setBytes 0x1000FF40 (ascii "KVOK")
     let b := s.begin
     let runs := trialPending b = true ∧ b.mode ≠ .seed
     Live [.upd, .nvm] s ∧ runs ∧ b.upd.due.any (fun t => t ≤ b.now) = false ∧ b.upd.grave = false ∧ trialGood b = true) ∧
    (let s : State := { tRun.setFld UPD_SLOT_TRIAL 1 with upd := { due := some 5 } }
     let b := s.begin
     let runs := trialPending b = true ∧ b.mode ≠ .seed
     Live [.upd, .nvm] s ∧ runs ∧ b.upd.grave = false ∧ (match b.upd.due with | some _ => true | _ => false) = true) := by
  unfold Live specified Granted GrantedAt
  refine ⟨?_, ?_, ?_, ?_, ?_, ?_, ?_, ?_, ?_, ?_, ?_, ?_, ?_, ?_, ?_, ?_⟩ <;> decide +kernel

end Sys2Proof.Tests
end

section
/-!
PROOF. The memory as every step holds it (MemoryStaysCanonical, ResetMemoryCanonical), and what a store of a core to a
memory changes and leaves as it was (StoreFrame).
-/
namespace Sys2Proof.Machine

/-! ### The canonical form over steps and runs -/

/-- One step, from any state: a command's frame and the idle edge both end in `State.finish`. -/
theorem step_memOk {s t : State} (h : step s = .next t) : MemOk t := by
  unfold step at h
  split at h
  · exact (exec_framed _ _).memOk h
  · cases h; exact State.memOk_finish s _

/-- A run keeps the canonical form that it started with; only the run of no step needs it. -/
theorem steps_memOk (n : Nat) {s t : State} (hs : MemOk s) (h : steps n s = .next t) : MemOk t := by
  induction n generalizing s with
  | zero => cases h; exact hs
  | succ n ih =>
    rw [steps] at h
    split at h
    · next u hu => exact ih (step_memOk hu) h
    · next hno => exact absurd h (hno t)

/-- Settles O5: whatever a step answers has passed `State.finish`, and a run is an induction on the number of its steps. -/
theorem memoryStaysCanonical : Obligations.MemoryStaysCanonical :=
  ⟨fun _ _ _ h => step_memOk h, fun n _ _ hs h => steps_memOk n hs h⟩

/-- Settles O6: the empty list is canonical. -/
theorem resetMemoryCanonical : Obligations.ResetMemoryCanonical :=
  ⟨(Memory.wf_iff _).2 Memory.canonical_nil, rfl⟩

/-! ### Bytes written by a store -/

@[simp] theorem State.setBytes_regs (s : State) (k : Nat) (bs : List Byte) : (s.setBytes k bs).regs = s.regs := by
  induction bs generalizing s k with
  | nil => rfl
  | cons b bs ih => exact ih (s.setByte k b) (k + 1)

@[simp] theorem State.setBytes_cores (s : State) (k : Nat) (bs : List Byte) : (s.setBytes k bs).cores = s.cores := by
  induction bs generalizing s k with
  | nil => rfl
  | cons b bs ih => exact ih (s.setByte k b) (k + 1)

/-- A byte beside a number that is written stays. -/
theorem State.byte_poke_of_not_mem (s : State) {k n b : Nat} (v : Nat) (h : b < k ∨ k + n ≤ b) :
    (s.poke k n v).byte b = s.byte b :=
  State.byte_setBytes_of_not_mem _ s k b (by rwa [State.length_leBytes])

theorem State.byte_congr {s u : State} (h : u.mem = s.mem) (a : Nat) : u.byte a = s.byte a := by
  rw [State.byte, State.byte, h]

theorem State.peek_congr {s u : State} (h : u.mem = s.mem) (a n : Nat) : u.peek a n = s.peek a n := by
  have bytes_eq : u.bytes a n = s.bytes a n := by
    induction n generalizing a with
    | zero => rfl
    | succ n ih => rw [State.bytes, State.bytes, State.byte_congr h, ih]
  rw [State.peek, State.peek, bytes_eq]

/-! ### The frame of a store -/

/-- `u` is `s` with the `n` little-endian bytes of `v` stored at place `k`: the other bytes, the registers of the blocks and
the cores are those of `s`. What tracks a write to Caldera (04 R116, 13 R359) is left open. -/
structure Stored (k n v : Nat) (s u : State) : Prop where
  mem : u.mem = (s.poke k n v).mem
  regs : u.regs = s.regs
  cores : u.cores = s.cores

theorem Stored.poke (k n v : Nat) (s : State) : Stored k n v s (s.poke k n v) :=
  ⟨rfl, State.setBytes_regs s k _, State.setBytes_cores s k _⟩

/-- A write to Caldera changes marks beyond its bytes: valid pool entries (04 R116) and dirty lines (13 R359). -/
theorem wroteCaldera_eq (a n : Nat) (s : State) : ∃ rcp rt, wroteCaldera a n s = { s with rcp := rcp, rt := rt } := by
  have hrcp : ∃ rcp, rcpWritten s a = { s with rcp := rcp } := by
    simp only [rcpWritten]
    split
    · exact ⟨_, rfl⟩
    · exact ⟨s.rcp, rfl⟩
  obtain ⟨rcp, hrcp⟩ := hrcp
  rw [wroteCaldera, hrcp, markDirty]
  split
  · exact ⟨rcp, _, rfl⟩
  · exact ⟨rcp, s.rt, rfl⟩

theorem Stored.wroteCaldera {k n v : Nat} {s u : State} (h : Stored k n v s u) (a m : Nat) :
    Stored k n v s (wroteCaldera a m u) := by
  obtain ⟨rcp, rt, hw⟩ := wroteCaldera_eq a m u
  rw [hw]
  exact ⟨h.mem, h.regs, h.cores⟩

theorem Stored.byte_of_not_mem {k n v b : Nat} {s u : State} (h : Stored k n v s u) (hb : b < k ∨ k + n ≤ b) :
    u.byte b = s.byte b :=
  (State.byte_congr h.mem b).trans (State.byte_poke_of_not_mem s v hb)

theorem Stored.peek {k n v : Nat} {s u : State} (h : Stored k n v s u) : u.peek k n = v % 256 ^ n :=
  (State.peek_congr h.mem k n).trans (State.peek_poke s k n v)

theorem Stored.core {k n v : Nat} {s u : State} (h : Stored k n v s u) (d : Nat) : u.core d = s.core d := by
  rw [State.core, State.core, h.cores]

/-! ### Where a store of a core goes -/

/-- A store that `storedAt` places: no control register, no instruction TCM in user mode, and a memory that takes it. -/
theorem storedAt_eq_some {s : State} {c a n k : Nat} (h : storedAt s c a n = some k) :
    privateAt a = none ∧ (c < 16 && a < 0x20000 && !(s.core c).priv) = false ∧
      (memAt (coreMaster c) a n = some (.loc k) ∨
        memAt (coreMaster c) a n = some .caldera ∧ s.domOn 6 = true ∧ masterPlane (coreMaster c) = calderaOwner s a ∧ k = a ∨
        memAt (coreMaster c) a n = some .lens ∧ s.domOn 11 = true ∧ k = a) := by
  unfold storedAt at h
  split at h
  · cases h
  · next hp =>
    simp only [Bool.or_eq_true, not_or, Bool.not_eq_true, Option.isSome_eq_false_iff, Option.isNone_iff_eq_none] at hp
    refine ⟨hp.1, hp.2, ?_⟩
    split at h
    · next k' hm => cases h; exact .inl hm
    · next hm =>
      split at h
      · next ho =>
        simp only [Bool.and_eq_true, decide_eq_true_eq] at ho
        exact .inr (.inl ⟨hm, ho.1, ho.2, (Option.some.inj h).symm⟩)
      · cases h
    · next hm =>
      split at h
      · next ho => exact .inr (.inr ⟨hm, ho, (Option.some.inj h).symm⟩)
      · cases h
    · cases h

/-- A write by a core that `storedAt` places is answered OKAY and stores its bytes there. -/
theorem coreWrite_stored {s : State} {c a n k : Nat} (v : Nat) (ha : a % n = 0) (h : storedAt s c a n = some k) :
    ∃ u, coreWrite c a n v s = (.ok 0, u) ∧ Stored k n v s u := by
  obtain ⟨hp, htcm, hm | ⟨hm, hon, hown, rfl⟩ | ⟨hm, hon, rfl⟩⟩ := storedAt_eq_some h
  · exact ⟨_, by simp [coreWrite, hp, htcm, busWrite, hm, ha, memWrite, memOn], .poke k n v s⟩
  · exact ⟨_, by simp [coreWrite, hp, htcm, busWrite, hm, ha, memWrite, memOn, hon, hown], (Stored.poke k n v s).wroteCaldera k n⟩
  · exact ⟨_, by simp [coreWrite, hp, htcm, busWrite, hm, ha, memWrite, memOn, hon], .poke k n v s⟩

/-- The core that moves on to its next instruction. -/
theorem State.core_pcNext {s : State} {c : Nat} (h : c < s.cores.length) :
    (s.pcNext c).core c = { s.core c with pc := ((s.core c).pc + 4) % 2 ^ 32 } := State.core_modCore s _ h

theorem State.core_pcNext_ne (s : State) {c d : Nat} (h : d ≠ c) : (s.pcNext c).core d = s.core d :=
  State.core_modCore_ne s _ h

/-- A core that executes is one of the device's: a core out of range is in reset. -/
theorem Executes.lt_length {c : Nat} {s : State} (h : Executes c s) : c < s.cores.length := by
  by_contra hc
  have hd : s.core c = {} := by simp [State.core, nth, List.getElem?_eq_none (Nat.le_of_not_lt hc)]
  have hrun := h.1
  rw [hd] at hrun
  cases hrun

/-- The place of a store does not depend on the PC. -/
theorem storedAt_pcNext {s : State} {c : Nat} (h : c < s.cores.length) (a n : Nat) :
    storedAt (s.pcNext c) c a n = storedAt s c a n := by
  have hpriv : ((s.pcNext c).core c).priv = (s.core c).priv := by rw [State.core_pcNext h]; rfl
  unfold storedAt
  rw [hpriv]
  rfl

/-- A store of an executing core that `storedAt` places is done, the PC at the next instruction. -/
theorem spwStore_stored {s : State} {c a n k : Nat} (v : Nat) (hc : c < s.cores.length) (ha : a % n = 0)
    (h : storedAt s c a n = some k) : ∃ u, spwStore c a n v s = .done u ∧ Stored k n v (s.pcNext c) u := by
  obtain ⟨u, hw, hu⟩ := coreWrite_stored v ha ((storedAt_pcNext hc a n).trans h)
  exact ⟨u, by simp [spwStore, ha, hw], hu⟩

/-! ### The four stores -/

/-- `i` is the store instruction of `n` bytes of rb by core `c` to the address that ra and imm give; SD takes an even pair. -/
def IsStore (i : Instr) (c : Fin 18) (rb ra : Fin 32) (imm : BitVec 16) (n : Nat) : Prop :=
  (n = 4 ∧ i = .sw c rb ra imm) ∨ (n = 2 ∧ i = .sh c rb ra imm) ∨ (n = 1 ∧ i = .sb c rb ra imm) ∨
    (n = 8 ∧ rb.val % 2 = 0 ∧ i = .sd c rb ra imm)

/-- What a store of `n` bytes of rb stores, SD of the pair (14 R381). -/
def storeValue (s : State) (c rb n : Nat) : Nat :=
  (s.gr c rb).toNat + (if n = 8 then (s.gr c (rb + 1)).toNat * 2 ^ 32 else 0)

/-- SW, SH and SB store the low bytes of rb. -/
theorem store_retired {c : Fin 18} {rb ra : Fin 32} {imm : BitVec 16} {n k : Nat} {s : State}
    (hl : Live (spwBlocks c.val ++ spwTouched s c.val (spwAddr (settle c.val s) c.val ra.val imm)) s)
    (he : Executes c.val (ready c.val s)) (ha : spwAddr (ready c.val s) c.val ra.val imm % n = 0)
    (hk : storedAt (ready c.val s) c.val (spwAddr (ready c.val s) c.val ra.val imm) n = some k) :
    ∃ u, store c rb ra imm n s = .next (retired c.val s u) ∧
      Stored k n (((ready c.val s).gr c.val rb.val).toNat % 2 ^ (8 * n)) ((ready c.val s).pcNext c.val) u := by
  obtain ⟨u, hd, hu⟩ := spwStore_stored _ he.lt_length ha hk
  exact ⟨u, runInstruction_next hl he hd, hu⟩

/-- SD stores the pair. -/
theorem execSd_retired {c : Fin 18} {rb ra : Fin 32} {imm : BitVec 16} {k : Nat} {s : State}
    (hl : Live (spwBlocks c.val ++ spwTouched s c.val (spwAddr (settle c.val s) c.val ra.val imm)) s)
    (he : Executes c.val (ready c.val s)) (hrb : rb.val % 2 = 0) (ha : spwAddr (ready c.val s) c.val ra.val imm % 8 = 0)
    (hk : storedAt (ready c.val s) c.val (spwAddr (ready c.val s) c.val ra.val imm) 8 = some k) :
    ∃ u, execSd c rb ra imm s = .next (retired c.val s u) ∧
      Stored k 8 ((ready c.val s).grPair c.val rb.val) ((ready c.val s).pcNext c.val) u := by
  obtain ⟨u, hd, hu⟩ := spwStore_stored _ he.lt_length ha hk
  exact ⟨u, runInstruction_next hl he (by simpa [hrb] using hd), hu⟩

/-- Every store instruction that `storedAt` places is retired with its value stored, modulo the bytes that it stores. -/
theorem exec_store_retired {i : Instr} {c : Fin 18} {rb ra : Fin 32} {imm : BitVec 16} {n k : Nat} {s : State}
    (hi : IsStore i c rb ra imm n)
    (hl : Live (spwBlocks c.val ++ spwTouched s c.val (spwAddr (settle c.val s) c.val ra.val imm)) s)
    (he : Executes c.val (ready c.val s)) (ha : spwAddr (ready c.val s) c.val ra.val imm % n = 0)
    (hk : storedAt (ready c.val s) c.val (spwAddr (ready c.val s) c.val ra.val imm) n = some k) :
    ∃ u w, exec i s = .next (retired c.val s u) ∧ Stored k n w ((ready c.val s).pcNext c.val) u ∧
      w % 256 ^ n = storeValue (ready c.val s) c.val rb.val n % 256 ^ n := by
  rcases hi with ⟨rfl, rfl⟩ | ⟨rfl, rfl⟩ | ⟨rfl, rfl⟩ | ⟨rfl, hrb, rfl⟩
  case inr.inr.inr =>
    obtain ⟨u, hx, hu⟩ := execSd_retired hl he hrb ha hk
    exact ⟨u, _, hx, hu, rfl⟩
  all_goals
    obtain ⟨u, hx, hu⟩ := store_retired (rb := rb) hl he ha hk
    exact ⟨u, _, hx, hu, Nat.mod_mod _ _⟩

/-- Settles O17: the store is done on the core that has moved on to its next instruction (`exec_store_retired`), and `Stored`
says what it left. -/
theorem storeFrame : Obligations.StoreFrame := by
  intro c rb ra imm s i n k hl he hi t a v ha hk
  obtain ⟨u, w, hx, hu, hw⟩ := exec_store_retired hi hl he ha hk
  have hbyte : ∀ b, b < k ∨ k + n ≤ b → u.byte b = t.byte b := fun b hb => hu.byte_of_not_mem hb
  have hcore : u.core c.val = { t.core c.val with pc := ((t.core c.val).pc + 4) % 2 ^ 32 } :=
    (hu.core c.val).trans (State.core_pcNext he.lt_length)
  refine ⟨u, hx, hbyte, hu.peek.trans hw, hu.regs, fun d hd => (hu.core d).trans (State.core_pcNext_ne t hd),
    fun r => ?_, hcore, fun honce b hb => ?_⟩
  · rw [State.gr, State.gr, hcore]
  · rw [retired, State.byte_finish, endStep, honce]
    exact hbyte b hb

end Sys2Proof.Machine
end

section
/-!
PROOF. The event fabric: what sending, holding, retrying and taking do to a queue and its counts (EventFabricCredits).
-/
namespace Sys2Proof.Machine

/-! ### The counts of a queue (02 R81) -/

/-- A field reads `n` more after an increment, modulo its width. -/
theorem State.fld_incr_self (s : State) (f : Fld) (ix : List Nat) (n : Nat) (h : f.lo ≤ f.hi) (h32 : f.hi < 32) :
    (s.incr f ix n).fld f ix = (s.fld f ix + n) % 2 ^ (f.hi + 1 - f.lo) :=
  State.fld_setFld_self s f _ ix h h32

theorem State.reg_incr_ne (s : State) (f : Fld) (q : Reg) (ix jx : List Nat) (n : Nat) (h : q.addr jx ≠ f.reg.addr ix) :
    (s.incr f ix n).reg q jx = s.reg q jx :=
  State.reg_setFld_ne s f q _ ix jx h

theorem State.reg_congr {s u : State} (h : u.regs = s.regs) (r : Reg) (ix : List Nat) : u.reg r ix = s.reg r ix := by
  rw [State.reg, State.reg, h]

theorem State.fld_congr {s u : State} (h : u.regs = s.regs) (f : Fld) (ix : List Nat) : u.fld f ix = s.fld f ix := by
  rw [State.fld, State.fld, State.reg_congr h]

/-- The returned and the received counts of a queue are two words. -/
theorem addr_rcvd_ne_ret (q : Nat) : SYS_Q_RCVD.addr [q] ≠ SYS_Q_RET.addr [q] := by
  simp [Reg.addr, SYS_Q_RCVD, SYS_Q_RET]

/-! ### One element of a list changed -/

theorem getElem?_modNth_self {α : Type} {l : List α} {i : Nat} {x : α} (f : α → α) (h : l[i]? = some x) :
    (modNth l i f)[i]? = some (f x) := by simp [modNth, h]

theorem getElem?_modNth_ne {α : Type} (l : List α) {i j : Nat} (f : α → α) (h : j ≠ i) : (modNth l i f)[j]? = l[j]? := by
  simp [modNth, Ne.symm h]

/-- What a list leaves behind its first elements, however few there are. -/
theorem drop_length_take {α : Type} (l : List α) (n : Nat) : l.drop (l.take n).length = l.drop n := by
  rw [List.length_take, ← List.drop_eq_drop_min]

/-! ### Tokens and events (01 R25, R26) -/

section
variable {s : State} {q : Nat} {f : FabQueue}

/-- A token sent or refused stays within its queue and the queue's counts. -/
theorem State.sendToken_frame (s : State) (q : Nat) (x : Token) :
    (s.sendToken q x).mem = s.mem ∧ ∀ p, p ≠ q → (s.sendToken q x).fab[p]? = s.fab[p]? := by
  unfold State.sendToken
  split
  · exact ⟨rfl, fun _ _ => rfl⟩
  · split
    · exact ⟨rfl, fun _ hp => getElem?_modNth_ne _ _ hp⟩
    · exact ⟨rfl, fun _ _ => rfl⟩

/-- A queue is never filled beyond its depth. -/
theorem State.sendToken_depth (x : Token) (hf : s.fab[q]? = some f) (hd : f.tokens.length ≤ f.depth) {g : FabQueue}
    (hg : (s.sendToken q x).fab[q]? = some g) : g.tokens.length ≤ g.depth := by
  by_cases h : f.tokens.length < f.depth
  · rw [State.sendToken_credit x hf h, getElem?_modNth_self _ hf] at hg
    cases hg
    simpa using h
  · rw [State.sendToken_full x hf h, State.incr_fab, hf] at hg
    cases hg
    exact hd

/-- With a credit and nothing held, an event leaves at once. -/
theorem State.sendEvent_credit (e : Event) (hf : s.fab[q]? = some f) (hh : f.held = []) (h : f.tokens.length < f.depth) :
    s.sendEvent q e = s.sendToken q (.event e) := by
  simp [State.sendEvent, hf, hh, h]

/-- Without a credit, or behind held events, an event is refused, counted and held; nothing new is held where it coalesces
with a held one. -/
theorem State.sendEvent_held (e : Event) (hf : s.fab[q]? = some f) (h : f.held ≠ [] ∨ f.depth ≤ f.tokens.length) :
    s.sendEvent q e = if f.held.any (fun h => h.same e) then s.incr SYS_Q_REF_COUNT [q]
      else { s.incr SYS_Q_REF_COUNT [q] with fab := modNth s.fab q (fun g => { g with held := g.held ++ [e] }) } := by
  have hno : ¬ (f.held = [] ∧ f.tokens.length < f.depth) := by
    rintro ⟨h0, h1⟩
    rcases h with h | h
    · exact h h0
    · omega
  simp only [State.sendEvent, hf, Bool.and_eq_true, decide_eq_true_eq, if_neg hno, State.incr_fab]

/-- The held events that leave with a base tick: as many as there are credits, oldest first. -/
theorem State.retryHeld_of_getElem? (hf : s.fab[q]? = some f) :
    let n := f.depth - f.tokens.length
    (s.retryHeld q).fab[q]? = some { f with tokens := f.tokens ++ (f.held.take n).map .event, held := f.held.drop n } ∧
      (s.retryHeld q).fld SYS_Q_SENT_COUNT [q] = (s.fld SYS_Q_SENT_COUNT [q] + (f.held.take n).length) % 2 ^ 32 := by
  intro n
  by_cases hgo : f.held.take n = []
  · have hu : s.retryHeld q = s := by simp only [State.retryHeld, hf]; rw [if_pos hgo]
    have hdrop : f.held.drop n = f.held := by simpa [hgo] using (drop_length_take f.held n).symm
    rw [hu, hgo, hdrop, hf]
    exact ⟨by simp, (Nat.mod_eq_of_lt (bits_lt _ 31 0)).symm⟩
  · simp only [State.retryHeld, hf]
    rw [if_neg hgo]
    exact ⟨(getElem?_modNth_self _ hf).trans (by rw [drop_length_take]),
      State.fld_incr_self s SYS_Q_SENT_COUNT [q] _ (by decide) (by decide)⟩

end

/-- The receiver takes the oldest token: its credit is free again, and the queue counts it as received. -/
theorem State.popToken_credit {s : State} {q : Nat} {f : FabQueue} {y : Token} {ys : List Token} (hf : s.fab[q]? = some f)
    (hy : f.tokens = y :: ys) (hd : f.tokens.length ≤ f.depth) :
    ∃ v, s.popToken q = some (y, v) ∧ v.fab[q]? = some { f with tokens := ys } ∧ v.hasCredit q = true ∧ v.mem = s.mem ∧
      (∀ p, p ≠ q → v.fab[p]? = s.fab[p]?) ∧
      v.fld SYS_Q_RCVD_COUNT [q] = (s.fld SYS_Q_RCVD_COUNT [q] + 1) % 2 ^ 32 := by
  have hq := getElem?_modNth_self (fun g : FabQueue => { g with tokens := ys }) hf
  refine ⟨_, State.popToken_cons hf hy, hq, ?_, rfl, fun p hp => getElem?_modNth_ne _ _ hp, ?_⟩
  · have hlt : ys.length < f.depth := by rw [hy] at hd; exact hd
    simp only [State.hasCredit, State.incr_fab, hq, hlt, decide_true]
  · exact (State.fld_setFld_ne _ SYS_Q_RET_COUNT SYS_Q_RCVD_COUNT _ [q] [q] (addr_rcvd_ne_ret q)).trans
      (State.fld_incr_self _ SYS_Q_RCVD_COUNT [q] 1 (by decide) (by decide))

/-- Settles O15: a clause per lemma; an event that is not sent is held last, or is the held one that it coalesces with. -/
theorem eventFabricCredits : Obligations.EventFabricCredits := by
  intro q x f s hf
  refine ⟨fun h => ?_, fun h => ?_, fun e hh h => State.sendEvent_credit e hf hh h, fun e h => ?_, ?_,
    (State.sendToken_frame s q x).2, (State.sendToken_frame s q x).1, fun hd g hg => State.sendToken_depth x hf hd hg,
    fun y ys hy hd => State.popToken_credit hf hy hd⟩
  · rw [State.sendToken_credit x hf h]
    exact ⟨getElem?_modNth_self _ hf, State.fld_incr_self s SYS_Q_SENT_COUNT [q] 1 (by decide) (by decide),
      fun r jx hr => State.reg_incr_ne s SYS_Q_SENT_COUNT r [q] jx 1 hr⟩
  · rw [State.sendToken_full x hf (Nat.not_lt.2 h)]
    exact ⟨rfl, State.fld_incr_self s SYS_Q_REF_COUNT [q] 1 (by decide) (by decide),
      fun r jx hr => State.reg_incr_ne s SYS_Q_REF_COUNT r [q] jx 1 hr⟩
  · have hcount := State.fld_incr_self s SYS_Q_REF_COUNT [q] 1 (by decide) (by decide)
    rw [State.sendEvent_held e hf h]
    split
    case isTrue hsame =>
      obtain ⟨g, hg, hge⟩ := List.any_eq_true.1 hsame
      exact ⟨_, f.held, rfl, hf, ⟨g, hg, .inr hge⟩, fun _ => .inl, fun _ => id, iff_of_true le_rfl ⟨g, hg, hge⟩, hcount⟩
    case isFalse hsame =>
      have hno : ¬ ∃ g ∈ f.held, g.same e = true := fun ⟨g, hg, hge⟩ => hsame (List.any_eq_true.2 ⟨g, hg, hge⟩)
      exact ⟨_, f.held ++ [e], rfl, getElem?_modNth_self _ hf, ⟨e, by simp, .inl rfl⟩, by simp,
        fun g hg => List.mem_append_left _ hg, iff_of_false (by simp) hno, hcount⟩
  · obtain ⟨hq, hc⟩ := State.retryHeld_of_getElem? hf
    exact ⟨_, _, (List.take_append_drop _ _).symm, by rw [List.length_take, Nat.min_comm], hq, hc⟩

end Sys2Proof.Machine
end

section
/-!
PROOF. Base tick numbers and the 96-bit layout of a time (BaseTickNumbers).
-/
namespace Sys2Proof.Machine

/-- The base tick number of an instant is the count of whole base ticks before it (01 R29). -/
theorem tickNo_eq_iff (n t : Nat) : tickNo t = n ↔ tickAt n ≤ t ∧ t < tickAt (n + 1) := by
  rw [tickNo, tickAt, tickAt, Nat.div_eq_iff (by decide)]
  simp only [nsF]
  omega

/-- A second holds 200,000 base ticks. -/
theorem tickNo_eq_sec (t : Nat) : tickNo t = t / secF * 200000 + t % secF / nsF / 5000 := by
  simp only [tickNo, secF, nsF]
  omega

/-- The nanoseconds and their fraction fit the low 46 bits, so they never reach SEC (03 R86). -/
theorem time96_mod (t : Nat) : time96 t % 2 ^ 46 = t % secF := by
  have hlt : t % secF < 2 ^ 46 := (Nat.mod_lt t (by decide)).trans (by decide)
  simp only [time96]
  omega

theorem time96_div (t : Nat) (h : t / secF < 2 ^ 48) : time96 t / 2 ^ 48 = t / secF := by
  have hlt : t % secF < 2 ^ 48 := (Nat.mod_lt t (by decide)).trans (by decide)
  rw [time96, Nat.mod_eq_of_lt h]
  omega

/-- Settles O21: the three clauses are the lemmas above, and an instant is its seconds and the rest. -/
theorem baseTickNumbers : Obligations.BaseTickNumbers := by
  refine ⟨tickNo_eq_iff, tickNo_eq_sec, fun t h => ⟨time96_mod t, time96_div t h, ?_⟩⟩
  rw [ofTime96, time96_mod, time96_div t h, Nat.div_add_mod']

end Sys2Proof.Machine
end

section
/-!
PROOF. Mode requests, the mode controller, tokens taken, conservation and memory errors (SystemCommandsComplete): what each command
does, by name.
-/
namespace Sys2Proof.Machine

/-- A meaning of live blocks, where what it does is known. -/
theorem run_next_of_eq {bs : List Block} {f : State → State} {s t : State} (h : Live bs s) (hf : f s.begin = t) :
    run bs f s = .next (s.finish t) := hf ▸ run_next f h

/-! ### What sending an event can change -/

theorem State.sendToken_eq (s : State) (q : Nat) (x : Token) :
    ∃ regs fab, s.sendToken q x = { s with regs := regs, fab := fab } := by
  unfold State.sendToken
  split
  · exact ⟨_, _, rfl⟩
  · split <;> exact ⟨_, _, rfl⟩

theorem State.sendEvent_eq (s : State) (q : Nat) (e : Event) :
    ∃ regs fab, s.sendEvent q e = { s with regs := regs, fab := fab } := by
  unfold State.sendEvent
  split
  · exact ⟨_, _, rfl⟩
  · split
    · exact State.sendToken_eq s q _
    · dsimp only
      split <;> exact ⟨_, _, rfl⟩

/-- OVLD and its event (21 R571) are registers and tokens. -/
theorem kprSync_eq (s : State) : ∃ regs fab, kprSync s = { s with regs := regs, fab := fab } := by
  unfold kprSync
  dsimp only
  split
  · exact State.sendEvent_eq _ _ _
  · exact ⟨_, _, rfl⟩

/-! ### Mode requests (18 R501) -/

section
variable {s : State} {r : ModeReq}

theorem fileRequest_seed (h : s.mode = .seed) : fileRequest r s = modeReply r.path r.seq r.target codeMode s := by
  rw [fileRequest, h]

theorem fileRequest_judged (h : s.mode = .keeper ∨ s.mode = .resync) : fileRequest r s = judgeRequest r s := by
  rcases h with h | h <;> rw [fileRequest, h]

/-- In every other mode the Keeper's class M takes the request while it has room. -/
theorem fileRequest_filed (h1 : s.mode ≠ .seed) (h2 : s.mode ≠ .keeper) (h3 : s.mode ≠ .resync)
    (hroom : s.kpr.qM.length < 16) :
    fileRequest r s = kprSync (s.modKpr (fun k => { k with qM := k.qM ++ [r] })) := by
  have hpush : pushModeReq r s = (true, kprSync (s.modKpr (fun k => { k with qM := k.qM ++ [r] }))) :=
    if_neg (Nat.not_le.2 hroom)
  unfold fileRequest
  split
  case h_1 h => exact absurd h h1
  case h_2 h => exact absurd h h2
  case h_3 h => exact absurd h h3
  case h_4 => rw [hpush]; rfl

/-- A filed request waits with the Keeper, not with the mode controller. -/
theorem rebootWaits_filed (s : State) (r : ModeReq) :
    rebootWaits (kprSync (s.modKpr (fun k => { k with qM := k.qM ++ [r] }))) = rebootWaits s := by
  obtain ⟨regs, fab, h⟩ := kprSync_eq (s.modKpr (fun k => { k with qM := k.qM ++ [r] }))
  rw [h]
  rfl

/-- A judged request that is accepted waits for the next base tick. -/
theorem judgeRequest_accepted (hp : s.mc.pendMode = none) (hc : requestCode s r.target r.role = codeDone)
    (h9 : ¬ (r.target = 9 ∧ s.mode = .safe)) :
    judgeRequest r s = { s with mc := { s.mc with reqId := r.id, reqCode := codeDone, pendMode := some r } } := by
  have hno : ¬ (codeDone ≠ codeDone ∨ r.target = 9 ∧ s.mode = .safe) := by simp [h9]
  have harg : ¬ codeDone = codeArgument := by decide
  simp only [judgeRequest, hp, hc, harg, Option.isSome_none, Bool.false_eq_true, if_false, decide_false, Bool.and_false,
    Bool.or_eq_true, Bool.and_eq_true, decide_eq_true_eq]
  exact if_neg hno

theorem rebootWaits_judged (hp : s.mc.pendMode = none) (ht : r.target = 16) (hc : requestCode s r.target r.role = codeDone) :
    rebootWaits (judgeRequest r s) = true := by
  rw [judgeRequest_accepted hp hc (by simp [ht])]
  simp [rebootWaits, ht]

end

/-! ### Commands of the mode controller -/

section
variable {s : State}

theorem exec_reboot_waits {role : Role} (h : Live [.sys] s) (hw : rebootWaits s.begin = true) :
    exec (.reboot role) s = .next (s.finish (nextTickMode s.begin)) := by
  show execReboot role s = _
  exact run_next_of_eq h (by simp only [hw, if_true])

/-- Without an accepted restart the request for it is made. -/
theorem exec_reboot_asks {role : Role} {t : State} (h : Live [.sys] s) (hw : ¬ rebootWaits s.begin = true)
    (ht : fileRequest { target := 16, role := role, id := 0, path := 69, seq := 0 } s.begin = t) :
    exec (.reboot role) s = .next (s.finish (if rebootWaits t then nextTickMode t else t)) := by
  show execReboot role s = _
  exact run_next_of_eq h (by simp only [if_neg hw, ht])

theorem exec_safeTrigger (cause : Fin 8) (h : Live [.sys] s) :
    exec (.safeTrigger cause) s = .next (s.finish (nextTickMode (s.begin.raiseSafe (cause.val + 1)))) := by
  show execSafeTrigger cause s = _
  exact run_next _ h

theorem exec_braceEntry (h : Live [.sys, .pwr] s) (hw : s.begin.isSet PWR_STAT_WARN = true) (hm : s.begin.mode ≠ .brace) :
    exec .braceEntry s = .next (s.finish (nextTickMode s.begin)) :=
  run_next_of_eq h (if_pos (by rw [hw, Bool.true_and]; exact decide_eq_true hm))

theorem exec_braceExit (h : Live [.sys, .pwr] s) (hw : s.begin.isSet PWR_STAT_WARN = false) (hm : s.begin.mode = .brace) :
    exec .braceExit s = .next (s.finish (nextTickMode s.begin)) :=
  run_next_of_eq h (by simp [hw, hm])

/-! ### Tokens taken (01 R25) -/

theorem exec_tokenTaken_event {q : Fin 25} {e : Event} {t : State} (h : Live [.sys] s)
    (hp : s.begin.popToken q.val = some (.event e, t)) (hroom : s.begin.evq.length < 1024) :
    exec (.tokenTaken q) s = .next (s.finish (kprSync (enterClassE e t))) := by
  show execTokenTaken q s = _
  exact run_next_of_eq h (by simp only [hp]; exact if_neg (Nat.not_le.2 hroom))

theorem exec_tokenTaken_arm {q : Fin 25} {k i : Nat} {t : State} (h : Live [.sys] s)
    (hp : s.begin.popToken q.val = some (.arm k i, t)) (hm : acqModeOk t = true) (hc : acqActionCode t k = 0) :
    exec (.tokenTaken q) s = .next (s.finish (rcpOutcome i 0 (acqArm k t))) := by
  show execTokenTaken q s = _
  exact run_next_of_eq h (by simp only [hp, hm, hc, if_true])

/-! ### Conservation and memory errors (01 R46, R48) -/

theorem exec_conservationCheck {n : Nat} (h : Live [.sys] s) (ht : s.begin.adm.lastTick = some n) (hn : n % 200 = 0) :
    exec .conservationCheck s =
      .next (s.finish (((identities s.begin).filter (fun i => !i.holds)).foldl conservationFault s.begin)) := by
  show execConservationCheck s = _
  exact run_next_of_eq h (by simp only [ht, hn, if_true])

/-- A MEMORY event and a Safe trigger, of every memory but the island's own. -/
def memoryFault (mem : Fin 7) (a : Word) (blk : Block) (s : State) : State :=
  (s.emit 6 0x04 blk 0xFFFF 0xFF a.toNat (mem.val + 1)).raiseSafe 2

/-- Read by nothing, an error is logged, and asks for Safe. -/
theorem exec_uncorrectableMemoryError_none (mem : Fin 7) (a : Word) (blk : Block) (h : Live [.sys] s) :
    exec (.uncorrectableMemoryError mem a blk none) s = .next (s.finish (memoryFault mem a blk s.begin)) := by
  show execUncorrectableMemoryError mem a blk none s = _
  exact run_next _ h

/-- The island's own memory stops the island (16 R430). -/
theorem exec_uncorrectableMemoryError_island {mem : Fin 7} {a : Word} {blk : Block} (h : Live [.sys] s) (hm : mem.val = 3) :
    exec (.uncorrectableMemoryError mem a blk (some 17)) s = .next (s.finish (islHard 2 s.begin)) := by
  show execUncorrectableMemoryError mem a blk (some 17) s = _
  exact run_next_of_eq h (by simp [hm])

/-- The running core that read it takes the exception ECC (14 R394). -/
theorem exec_uncorrectableMemoryError_core {mem : Fin 7} {a : Word} {blk : Block} {c : Fin 18} (h : Live [.sys] s)
    (hi : ¬ (c.val = 17 ∧ mem.val = 3)) (hm : mem.val < 4)
    (hrun : ((memoryFault mem a blk s.begin).core c.val).run = .running)
    (hhalt : ((memoryFault mem a blk s.begin).core c.val).halted = false) :
    exec (.uncorrectableMemoryError mem a blk (some c)) s = .next (s.finish (preciseException c.val 11 (mem.val + 1)
      ((memoryFault mem a blk s.begin).core c.val).pc a.toNat (memoryFault mem a blk s.begin))) := by
  have hno : ¬ (some c = some 17 ∧ mem.val = 3) := fun ⟨hc, h3⟩ => hi ⟨congrArg Fin.val (Option.some.inj hc), h3⟩
  show execUncorrectableMemoryError mem a blk (some c) s = _
  refine run_next_of_eq h ?_
  simp only [Bool.and_eq_true, decide_eq_true_eq]
  rw [if_neg hno]
  exact if_pos ⟨⟨hm, hrun⟩, by rw [Bool.not_eq_true']; exact hhalt⟩

end

/-- Settles O53: a clause per command, each of live blocks among those named. -/
theorem systemCommandsComplete : Obligations.SystemCommandsComplete := by
  intro q target role id cause mem a blk c s hl
  have hsys : Live [.sys] s := hl.mono (by simp)
  have hpwr : Live [.sys, .pwr] s := hl.mono (by simp)
  refine ⟨fun hm => run_next_of_eq hsys (fileRequest_seed hm), fun hm => run_next_of_eq hsys (fileRequest_judged hm),
    fun h1 h2 h3 hq => run_next_of_eq hsys (fileRequest_filed h1 h2 h3 hq), run_next nextTickMode hsys, exec_reboot_waits hsys,
    fun hw hm hp hc => ?_, fun hw h1 h2 h3 hq => ?_, exec_safeTrigger cause hsys, exec_braceEntry hpwr, exec_braceExit hpwr,
    fun ht => run_next_of_eq (hl.mono (by simp)) (if_pos ht), fun e t => exec_tokenTaken_event hsys,
    fun k i t => exec_tokenTaken_arm hsys, fun n => exec_conservationCheck hsys, exec_uncorrectableMemoryError_none mem a blk hsys,
    exec_uncorrectableMemoryError_island hsys, exec_uncorrectableMemoryError_core hsys⟩
  · rw [exec_reboot_asks hsys hw (fileRequest_judged (.inl hm)), if_pos (rebootWaits_judged hp rfl hc)]
  · have hno : ¬ rebootWaits s.begin = true := hw
    rw [exec_reboot_asks hsys hw (fileRequest_filed h1 h2 h3 hq), rebootWaits_filed, if_neg hno]

end Sys2Proof.Machine
end

section
/-!
PROOF. Register and alias writes, windows, and the block tail (RegisterCommandsComplete): what each command does, and when a block's
rule takes a write.
-/
namespace Sys2Proof.Machine

/-! ### Register and alias writes (02 R61, R70, R78) -/

/-- A write that answers at once. -/
theorem writeCmd_atOnce {m : Master} {j : Block} {a : Nat} {w : Word} {f : State → Resp × State} {s t : State} {x : Resp}
    (hh : hostAdmits m j s = none) (hf : f s = (x, t)) : writeCmd m j a w f s = t.say (.resp x) := by
  simp only [writeCmd, hh, hf]

/-- A host session's write to a control-plane block waits as an item. -/
theorem writeCmd_item {m : Master} {j : Block} {a : Nat} {w : Word} {s : State} {i r : Nat} (f : State → Resp × State)
    (hh : hostAdmits m j s = some (i, r)) :
    writeCmd m j a w f s = s.pushItem (312 + i) s.now (.hostWrite i 0 a r [w]) := by
  simp only [writeCmd, hh]

section
variable {m : Master} {a w : Word} {v : Bool} {s t : State}

theorem exec_registerWrite_atOnce {o : Nat} (h : Live (touched a.toNat) s)
    (hh : ∀ j, admitBlock a.toNat = some j → hostAdmits m j s.begin = none)
    (hw : busWrite m a.toNat 4 w.toNat s.begin = (.ok o, t)) :
    exec (.registerWrite m a w) s = .next (s.finish (t.say (.resp (.ok o)))) := by
  show execRegisterWrite m a w s = _
  refine run_next_of_eq h ?_
  split
  case h_1 j hj => exact writeCmd_atOnce (hh j hj) hw
  case h_2 => simp only [hw]

theorem exec_registerWrite_item {j : Block} {i r : Nat} (h : Live (touched a.toNat) s) (hj : admitBlock a.toNat = some j)
    (hh : hostAdmits m j s.begin = some (i, r)) :
    exec (.registerWrite m a w) s = .next (s.finish
      (s.begin.pushItem (312 + i) s.begin.now (.hostWrite i 0 a.toNat r [w]))) := by
  show execRegisterWrite m a w s = _
  exact run_next_of_eq h (by simp only [hj, writeCmd_item _ hh])

theorem exec_bitAliasWrite_atOnce {o : Nat} (h : Live (touched a.toNat) s)
    (hh : ∀ j, admitBlock a.toNat = some j → hostAdmits m j s.begin = none)
    (hmap : wordMapped (a.toNat / 4 * 4) = true) (hal : a.toNat % 4 = 0)
    (hw : aliasWrite m a.toNat v s.begin = (.ok o, t)) :
    exec (.bitAliasWrite m a v) s = .next (s.finish (t.say (.resp (.ok o)))) := by
  show execBitAliasWrite m a v s = _
  refine run_next_of_eq h ?_
  dsimp only
  split
  case h_1 j hj => exact writeCmd_atOnce (hh j hj) (by simp [hmap, hal, hw])
  case h_2 => simp [hmap, hal, hw]

theorem exec_bitAliasWrite_item {j : Block} {i r : Nat} (h : Live (touched a.toNat) s) (hj : admitBlock a.toNat = some j)
    (hh : hostAdmits m j s.begin = some (i, r)) :
    exec (.bitAliasWrite m a v) s = .next (s.finish
      (s.begin.pushItem (312 + i) s.begin.now (.hostWrite i 0 a.toNat r [BitVec.ofNat 32 (b2n v)]))) := by
  show execBitAliasWrite m a v s = _
  exact run_next_of_eq h (by simp only [hj, writeCmd_item _ hh])

end

/-- The item of one written word is the write, made for its session with the role it had (02 R61). -/
theorem applyItem_hostWrite (n i r stamp arr num : Nat) (a : Nat) (w : Word) (s : State) :
    let y := busWrite (.hostItem (BitVec.ofNat 6 i).toFin (Role.ofCode r)) a 4 w.toNat s
    let code := match y.1 with | .ok _ => codeDone | .err e => reasonCode e
    let done := match y.1 with | .ok _ => 1 | .err _ => 0
    applyItem n { src := 312 + i, stamp := stamp, arr := arr, num := num, kind := .hostWrite i 0 a r [w] } s =
      itemDone i 0 (.write a [w]) code [done] y.2 := by
  dsimp only [applyItem, writeWords]
  generalize busWrite (.hostItem (BitVec.ofNat 6 i).toFin (Role.ofCode r)) a 4 w.toNat s = y
  obtain ⟨x, u⟩ := y
  cases x <;> rfl

/-! ### Window descriptors (02 R80) -/

/-- A write to SYS never waits as an item: SYS lies outside the control plane. -/
theorem hostAdmits_sys (m : Master) (s : State) : hostAdmits m .sys s = none := rfl

section
variable {m : Master} {n : Fin 64} {w : Word} {s : State}

theorem effMode_provision (h : s.mode = .provision) : s.effMode = .provision := by
  rw [State.effMode, h]

theorem winbAct_ok {ix : List Nat} (hm : s.mode = .provision) (hz : s.fld SYS_WINS_SIZE ix = 0) (ho : SYS_WINB_OWNER.of w ≠ 3) :
    winbAct m ix w s = .ok (s.store SYS_WINB ix w) := by
  simp [winbAct, effMode_provision hm, hz, ho]

theorem winsAct_ok {k : Nat} (hm : s.mode = .provision)
    (hc : SYS_WINS_SIZE.of w ≠ 0 → windowClash s k (s.fld SYS_WINB_BASE [k]) (SYS_WINS_SIZE.of w) = false) :
    winsAct m [k] w s = .ok (s.store SYS_WINS [k] w) := by
  have hno : ¬ (SYS_WINS_SIZE.of w ≠ 0 ∧ windowClash s k (s.fld SYS_WINB_BASE [k]) (SYS_WINS_SIZE.of w) = true) :=
    fun ⟨hz, h⟩ => Bool.false_ne_true ((hc hz).symm.trans h)
  simp only [winsAct, effMode_provision hm, ne_eq, not_true_eq_false, if_false, Bool.and_eq_true, decide_eq_true_eq,
    List.headD_cons]
  exact if_neg hno

theorem exec_windowDescriptorWrite {size : Bool} {t : State} (h : Live [.sys] s)
    (ht : (if size then regCmd winsAct m SYS_WINS [n.val] w else regCmd winbAct m SYS_WINB [n.val] w) s.begin = t) :
    exec (.windowDescriptorWrite m n size w) s = .next (s.finish t) := by
  show execWindowDescriptorWrite m n size w s = _
  exact run_next_of_eq h ht

end

/-! ### The block tail (02 R71 to R75) -/

section
variable {m : Master} {k : Block} {s : State}

/-- Each command of the tail is one write of its register, of a block that has the register. -/
theorem exec_lockSet (h : hasLock k = true) : exec (.lockSet m k) s = run [k] (writeCmd m k (TAIL_LOCK.addr [k.index]) 1
    (regWriteAt k (tailGuard k) false (tailAct k 0x08) m TAIL_LOCK [k.index] 1)) s := by
  show execLockSet m k s = _
  simp only [execLockSet, h, if_true]
  rfl

theorem exec_snapGo (h : (snapPairs k).isEmpty = false) : exec (.snapGo m k) s = run [k] (writeCmd m k
    (TAIL_SNAP.addr [k.index]) 1 (regWriteAt k .g0 false (tailAct k 0) m TAIL_SNAP [k.index] 1)) s := by
  show execSnapGo m k s = _
  simp only [execSnapGo, h, Bool.false_eq_true, if_false]
  rfl

theorem exec_mbxRequest {item : BitVec 8} {index : BitVec 16} (h : hasMailbox k = true) :
    let word := BitVec.ofNat 32 (index.toNat * 256 + item.toNat)
    exec (.mbxRequest m k item index) s = run [k] (writeCmd m k (TAIL_MBX_REQ.addr [k.index]) word
      (regWriteAt k (mbxGuard k item.toNat) true (tailAct k 0x10) m TAIL_MBX_REQ [k.index] word)) s := by
  show execMbxRequest m k item index s = _
  simp only [execMbxRequest, h, if_true]
  rfl

theorem lockAct_ok (m : Master) (ix : List Nat) (h : k.index ∉ s.locked) :
    lockAct k m ix 1 s = .ok (({ s with locked := k.index :: s.locked } : State).raise TAIL_LOCK_SET [k.index]) := by
  have hbit : bit (1 : Word).toNat 0 = true := by decide
  have hin : s.locked.contains k.index = false := by simpa using h
  simp only [lockAct, hbit, hin, Bool.not_false, Bool.and_true, if_true]

theorem snapAct_ok (m : Master) (ix : List Nat) (k : Block) (s : State) :
    snapAct k m ix 1 s = .ok { s.lower TAIL_SNAP_DONE [k.index] with
      snaps := if s.snaps.contains k.index then s.snaps else k.index :: s.snaps } :=
  if_pos (by decide)

/-- A mailbox that no other master owns takes a request. -/
theorem mbxReqAct_ok (ix : List Nat) {w : Word}
    (h : (s.mailbox k).owner = none ∨ (s.mailbox k).owner = some (masterId m)) :
    mbxReqAct k m ix w s = .ok (s.setMailbox k
      { owner := some (masterId m), req := some (bits w.toNat 7 0, bits w.toNat 23 8), reqAt := s.now, words := [],
        err := 0, valid := false, expire := 0, refused := (s.mailbox k).refused.filter (· ≠ masterId m) }) := by
  have hno : ¬ ((s.mailbox k).owner.isSome = true ∧ (s.mailbox k).owner ≠ some (masterId m)) := by
    rcases h with h | h <;> simp [h]
  simp only [mbxReqAct, Bool.and_eq_true, decide_eq_true_eq]
  exact if_neg hno

theorem exec_snapComplete (h : Live [k] s) (hk : k ≠ .disp) (hin : s.begin.snaps.contains k.index = true) :
    exec (.snapComplete k) s = .next (s.finish (takeSnap k s.begin)) := by
  show execSnapComplete k s = _
  exact run_next_of_eq h (by simp only [hin, if_true, if_neg hk])

theorem exec_mbxCaptureDone {i j : Nat} (h : Live [k] s) (hr : (s.begin.mailbox k).req = some (i, j)) :
    let c := mbxCapture k i j (s.begin.mailbox k).reqAt s.begin
    exec (.mbxCaptureDone k) s = .next (s.finish (mbxDeliver k c.1 c.2)) := by
  show execMbxCaptureDone k s = _
  exact run_next_of_eq h (by simp only [hr])

/-- The owner's read of the highest word of a valid capture frees the mailbox. -/
theorem mbxRead_last (hv : (s.mailbox k).valid = true) (ho : (s.mailbox k).owner = some (masterId m))
    (hw : (s.mailbox k).words ≠ []) :
    mbxRead k (masterId m) ((s.mailbox k).words.length - 1) s =
      ((nth (s.mailbox k).words ((s.mailbox k).words.length - 1) 0).toNat,
        s.setMailbox k { s.mailbox k with owner := none, valid := false }) := by
  have hlen := Nat.sub_add_cancel (List.length_pos_iff.2 hw)
  simp only [mbxRead, hv, ho, hlen, decide_true, Bool.and_self, if_true]

/-- A data word of a mailbox reads whole. -/
theorem regReadAt_mbxData {ix : List Nat} (v : Word) (hp : s.powered k = true) (hq : qualifies s m .g0 = true) :
    regReadAt k .g0 m TAIL_MBX_DATA ix v s = (.ok v.toNat, s) := by
  have hmask : readMask TAIL_MBX_DATA = 2 ^ 32 - 1 := by decide
  simp only [regReadAt, hp, hq, hmask, Bool.not_true, Bool.false_eq_true, if_false]
  rw [Nat.and_two_pow_sub_one_eq_mod, Nat.mod_eq_of_lt v.isLt]

theorem exec_mbxLastWordRead (h : Live [k] s) (hb : hasMailbox k = true) (hp : s.begin.powered k = true)
    (hq : qualifies s.begin m .g0 = true) (hv : (s.begin.mailbox k).valid = true)
    (ho : (s.begin.mailbox k).owner = some (masterId m)) (hw : (s.begin.mailbox k).words ≠ []) :
    let x := s.begin.mailbox k
    exec (.mbxLastWordRead m k) s = .next (s.finish ((s.begin.setMailbox k { x with owner := none, valid := false }).say
      (.resp (.ok (nth x.words (x.words.length - 1) 0).toNat)))) := by
  intro x
  let t := s.begin.setMailbox k { x with owner := none, valid := false }
  have hread := regReadAt_mbxData (s := t) (ix := [k.index, x.words.length - 1]) (nth x.words (x.words.length - 1) 0) hp hq
  show execMbxLastWordRead m k s = _
  refine run_next_of_eq h ?_
  simp only [hb, hp, mbxRead_last hv ho hw, BitVec.ofNat_toNat, BitVec.setWidth_eq, Bool.not_true, Bool.false_eq_true,
    if_false, if_true]
  rw [hread]

theorem exec_mbxExpiry (h : Live [k] s) (hv : (s.begin.mailbox k).valid = true) :
    let t := advanceTo (s.begin.mailbox k).expire s.begin
    let u := if k = .time ∧ stampHeld (t.mailbox k) = true then t.incrSat TIME_OVR_STAMP else t
    exec (.mbxExpiry k) s = .next (s.finish
      (u.setMailbox k { u.mailbox k with owner := none, valid := false, err := 4, words := [] })) := by
  show execMbxExpiry k s = _
  exact run_next_of_eq h (by
    simp only [hv, Bool.not_true, Bool.false_eq_true, if_false, Bool.and_eq_true, decide_eq_true_eq])

end

/-- Settles O40: a clause per command; a write that is granted and that its block's rule takes has that rule's effect. -/
theorem registerCommandsComplete : Obligations.RegisterCommandsComplete := by
  intro m k a w v n item index q s hd
  refine ⟨fun o t hs => exec_registerWrite_atOnce ⟨hs, hd⟩,
    fun o t hs => exec_bitAliasWrite_atOnce ⟨hs, hd⟩,
    fun j i r hs hj hh => ⟨exec_registerWrite_item ⟨hs, hd⟩ hj hh, exec_bitAliasWrite_item ⟨hs, hd⟩ hj hh⟩,
    fun at_ i r stamp arr num => applyItem_hostWrite at_ i r stamp arr num a.toNat w s.begin,
    fun hs hm hg hz ho => exec_windowDescriptorWrite ⟨hs, hd⟩
      (regCmd_granted (hostAdmits_sys m s.begin) hg (winbAct_ok hm hz ho)),
    fun hs hm hg hc => exec_windowDescriptorWrite ⟨hs, hd⟩
      (regCmd_granted (hostAdmits_sys m s.begin) hg (winsAct_ok hm hc)),
    fun hs hb hg hl => takesEffectAt ⟨hs, hd⟩ (exec_lockSet hb) (regWriteAt_granted hg (lockAct_ok m [k.index] hl)),
    fun hs hb hg => takesEffectAt ⟨hs, hd⟩ (exec_snapGo hb) (regWriteAt_granted hg (snapAct_ok m [k.index] k s.begin)),
    fun hs => exec_snapComplete ⟨hs, hd⟩,
    fun hs hb hg ho => takesEffectAt ⟨hs, hd⟩ (exec_mbxRequest hb) (regWriteAt_granted hg (mbxReqAct_ok [k.index] ho)),
    fun i j hs => exec_mbxCaptureDone ⟨hs, hd⟩,
    fun hs => exec_mbxLastWordRead ⟨hs, hd⟩,
    fun hs => exec_mbxExpiry ⟨hs, hd⟩,
    fun e t hs => exec_tokenTaken_event ⟨hs, hd⟩,
    fun c i t hs => exec_tokenTaken_arm ⟨hs, hd⟩⟩

end Sys2Proof.Machine
end

section
/-!
PROOF. What a command can answer (EveryCommandRuns).
-/
namespace Sys2Proof.Machine

section
variable {s : State} {o : Host.Outcome State Fault Refusal}

theorem Framed.isNext (h : Framed s o) (ht : s.tainted = []) : isNext o := by
  rcases h with ⟨_, hne⟩ | ⟨t, ho⟩
  · exact absurd ht hne
  · exact ⟨_, ho⟩

theorem Framed.ne_refused (h : Framed s o) (r : Refusal) : o ≠ .refused r := by
  rintro rfl
  rcases h with ⟨ho, _⟩ | ⟨t, ho⟩ <;> cases ho

theorem Framed.of_fault {f : Fault} (h : Framed s o) (ho : o = .fault f) : f = .unspecifiedBehaviour ∧ s.tainted ≠ [] := by
  rcases h with ⟨hf, hne⟩ | ⟨t, hn⟩
  · exact ⟨Host.Outcome.fault.inj (ho.symm.trans hf), hne⟩
  · cases ho.symm.trans hn

end

/-- Settles O4: every command is framed (`exec_framed`), and a framed outcome is a next state or the stop of a tainted block. -/
theorem everyCommandRuns : Obligations.EveryCommandRuns :=
  ⟨fun c s ht => (exec_framed c s).isNext ht, fun c s r => (exec_framed c s).ne_refused r,
    fun c s _ hf => (exec_framed c s).of_fault hf⟩

end Sys2Proof.Machine
end

section
/-!
PROOF. The register tables and the address map (TableFieldsFit, RegisterAddressesDecode): the fields of each register, and why an
address names at most one register.
-/
namespace Sys2Proof.Machine

/-! ### The fields of the tables (02 R63) -/

/-- Settles O13: a check of the 24 tables, one at a time. -/
theorem tableFieldsFit : Obligations.TableFieldsFit := by
  intro b
  cases b <;> decide +kernel

/-! ### Indices and offsets of a family (02 R55) -/

/-- The offset of the element `ix` in a family of dimensions `ds`. -/
def ixOffset : List (Nat × Nat) → List Nat → Nat
  | (_, st) :: ds, i :: ix => st * i + ixOffset ds ix
  | _, _ => 0

/-- The offset of the last element of a family. -/
def extent : List (Nat × Nat) → Nat
  | [] => 0
  | (c, st) :: ds => st * (c - 1) + extent ds

/-- The inner dimensions of a family fit the stride of the outer one, so that no two of its elements coincide. -/
def nested : List (Nat × Nat) → Bool
  | [] => true
  | (_, st) :: ds => decide (extent ds < st) && nested ds

/-- One index for each dimension, each in its range. -/
abbrev IxIn (ds : List (Nat × Nat)) (ix : List Nat) : Prop := List.Forall₂ (fun d i => i < d.1) ds ix

theorem foldl_add_zip (ds : List (Nat × Nat)) (ix : List Nat) (n : Nat) :
    ((ds.zip ix).map (fun p => p.1.2 * p.2)).foldl (· + ·) n = n + ixOffset ds ix := by
  induction ds generalizing ix n with
  | nil => rfl
  | cons d ds ih =>
    cases ix with
    | nil => rfl
    | cons i ix => simp only [List.zip_cons_cons, List.map_cons, List.foldl_cons, ih, ixOffset, Nat.add_assoc]

theorem Reg.addr_eq (r : Reg) (ix : List Nat) : r.addr ix = r.base + ixOffset r.dims ix := by
  rw [Reg.addr, foldl_add_zip, Nat.zero_add]

theorem Reg.inRange_iff (r : Reg) (ix : List Nat) : r.inRange ix = true ↔ IxIn r.dims ix := by
  simp only [Reg.inRange, Bool.and_eq_true, beq_iff_eq, List.all_eq_true, decide_eq_true_eq, Prod.forall,
    List.forall₂_iff_zip]
  exact and_congr_left' eq_comm

theorem ixOffset_le_extent {ds : List (Nat × Nat)} {ix : List Nat} (h : IxIn ds ix) : ixOffset ds ix ≤ extent ds := by
  induction h with
  | nil => exact le_rfl
  | @cons d i ds ix hi _ ih =>
    have := Nat.mul_le_mul_left d.2 (Nat.le_sub_one_of_lt hi)
    simp only [ixOffset, extent]
    omega

/-- The indices that an offset spells lie in their ranges and have that offset. -/
theorem splitIx_eq_some {ds : List (Nat × Nat)} {o : Nat} {ix : List Nat} (h : splitIx ds o = some ix) :
    IxIn ds ix ∧ ixOffset ds ix = o := by
  induction ds generalizing o ix with
  | nil =>
    unfold splitIx at h
    split at h
    · next ho => cases h; exact ⟨.nil, ho.symm⟩
    · cases h
  | cons d ds ih =>
    obtain ⟨c, st⟩ := d
    unfold splitIx at h
    split at h
    · next hc =>
      obtain ⟨jx, hj, rfl⟩ := Option.map_eq_some_iff.1 h
      obtain ⟨hin, hoff⟩ := ih hj
      exact ⟨.cons hc hin, by rw [ixOffset, hoff, Nat.div_add_mod]⟩
    · cases h

/-- In a nested family an offset spells the indices that it comes from. -/
theorem splitIx_ixOffset {ds : List (Nat × Nat)} {ix : List Nat} (hn : nested ds = true) (h : IxIn ds ix) :
    splitIx ds (ixOffset ds ix) = some ix := by
  induction h with
  | nil => rfl
  | @cons d i ds ix hi hin ih =>
    obtain ⟨c, st⟩ := d
    simp only [nested, Bool.and_eq_true, decide_eq_true_eq] at hn
    have hlt : ixOffset ds ix < st := (ixOffset_le_extent hin).trans_lt hn.1
    have hdiv : (st * i + ixOffset ds ix) / st = i := by
      rw [Nat.mul_add_div (by omega), Nat.div_eq_of_lt hlt, Nat.add_zero]
    have hmod : (st * i + ixOffset ds ix) % st = ixOffset ds ix := by rw [Nat.mul_add_mod, Nat.mod_eq_of_lt hlt]
    rw [ixOffset, splitIx, hdiv, hmod, if_pos hi, ih hn.2, Option.map_some]

theorem Reg.at?_eq_some {r : Reg} {a : Nat} {ix : List Nat} (h : r.at? a = some ix) : r.addr ix = a ∧ r.inRange ix = true := by
  unfold Reg.at? at h
  split at h
  · cases h
  · next hb =>
    obtain ⟨hin, hoff⟩ := splitIx_eq_some h
    exact ⟨by rw [r.addr_eq, hoff]; omega, (r.inRange_iff ix).2 hin⟩

theorem Reg.at?_addr {r : Reg} {ix : List Nat} (hn : nested r.dims = true) (h : r.inRange ix = true) :
    r.at? (r.addr ix) = some ix := by
  rw [r.addr_eq, Reg.at?, if_neg (by omega), Nat.add_sub_cancel_left, splitIx_ixOffset hn ((r.inRange_iff ix).1 h)]

/-! ### Families that share no address -/

/-- Two families have no address in common: one ends before the other begins, or they interleave under one outer stride and are
apart within each period. -/
def apart : List (Nat × Nat) → Nat → List (Nat × Nat) → Nat → Bool
  | (c, st) :: ds, o, (d, su) :: es, p =>
    decide (o + extent ((c, st) :: ds) < p) || decide (p + extent ((d, su) :: es) < o) ||
      (decide (st = su) && decide (o + extent ds < p + st) && decide (p + extent es < o + st) && apart ds o es p)
  | ds, o, es, p => decide (o + extent ds < p) || decide (p + extent es < o)

theorem period_le {st i j x y : Nat} (h : st * i + x = st * j + y) (hx : x < y + st) : j ≤ i := by
  by_contra hij
  have := Nat.mul_le_mul_left st (Nat.succ_le_of_lt (Nat.lt_of_not_le hij))
  rw [Nat.mul_succ] at this
  omega

/-- Two offsets that lie within one stride of each other, at one address, lie in the same period. -/
theorem period_unique {st i j x y : Nat} (h : st * i + x = st * j + y) (hx : x < y + st) (hy : y < x + st) : i = j :=
  Nat.le_antisymm (period_le h.symm hy) (period_le h hx)

theorem ne_of_ranges_disjoint {ds es : List (Nat × Nat)} {ix jx : List Nat} {o p : Nat}
    (h : o + extent ds < p ∨ p + extent es < o) (hi : IxIn ds ix) (hj : IxIn es jx) : o + ixOffset ds ix ≠ p + ixOffset es jx := by
  have := ixOffset_le_extent hi
  have := ixOffset_le_extent hj
  omega

theorem ne_of_apart {ds es : List (Nat × Nat)} {o p : Nat} (h : apart ds o es p = true) {ix jx : List Nat}
    (hi : IxIn ds ix) (hj : IxIn es jx) : o + ixOffset ds ix ≠ p + ixOffset es jx := by
  induction hi generalizing es jx with
  | nil =>
    simp only [apart, Bool.or_eq_true, decide_eq_true_eq] at h
    exact ne_of_ranges_disjoint h .nil hj
  | @cons d i ds ix hid hi ih =>
    cases hj with
    | nil =>
      simp only [apart, Bool.or_eq_true, decide_eq_true_eq] at h
      exact ne_of_ranges_disjoint h (.cons hid hi) .nil
    | @cons e j es jx hje hj =>
      obtain ⟨c, st⟩ := d
      obtain ⟨d, su⟩ := e
      simp only [apart, Bool.or_eq_true, Bool.and_eq_true, decide_eq_true_eq] at h
      rcases h with h | ⟨⟨⟨rfl, hds⟩, hes⟩, h⟩
      · exact ne_of_ranges_disjoint h (.cons hid hi) (.cons hje hj)
      · intro he
        have hx := ixOffset_le_extent hi
        have hy := ixOffset_le_extent hj
        have hij : i = j := period_unique (st := st) (x := o + ixOffset ds ix) (y := p + ixOffset es jx)
          (by simp only [ixOffset] at he; omega) (by omega) (by omega)
        subst hij
        exact ih h hj (by simp only [ixOffset] at he; omega)

/-- The families of two registers have no address in common. -/
def Reg.apart (q r : Reg) : Bool := Machine.apart q.dims q.base r.dims r.base

theorem Reg.at?_eq_none_of_apart {q r : Reg} {a : Nat} {ix : List Nat} (h : q.apart r = true) (hr : r.at? a = some ix) :
    q.at? a = none := by
  rw [Option.eq_none_iff_forall_ne_some]
  intro jx hq
  obtain ⟨hqa, hqi⟩ := Reg.at?_eq_some hq
  obtain ⟨hra, hri⟩ := Reg.at?_eq_some hr
  refine ne_of_apart h ((q.inRange_iff jx).1 hqi) ((r.inRange_iff ix).1 hri) ?_
  rw [← q.addr_eq, ← r.addr_eq, hqa, hra]

/-! ### The register at an address -/

theorem findIn_eq_some {rs : List Reg} {a : Nat} {r : Reg} {ix : List Nat} (h : findIn rs a = some (r, ix)) :
    r ∈ rs ∧ r.at? a = some ix := by
  induction rs with
  | nil => cases h
  | cons q rs ih =>
    unfold findIn at h
    split at h
    · next hq => cases h; exact ⟨List.mem_cons_self, hq⟩
    · obtain ⟨hm, ha⟩ := ih h
      exact ⟨List.mem_cons_of_mem q hm, ha⟩

/-- Where the families are apart, the first register found is the only one. -/
theorem findIn_of_mem {rs : List Reg} {a : Nat} {r : Reg} {ix : List Nat} (hp : rs.Pairwise (fun q r => q.apart r = true))
    (hm : r ∈ rs) (ha : r.at? a = some ix) : findIn rs a = some (r, ix) := by
  induction rs with
  | nil => cases hm
  | cons q rs ih =>
    obtain ⟨hq, hp⟩ := List.pairwise_cons.1 hp
    rcases List.mem_cons.1 hm with rfl | hm
    · simp only [findIn, ha]
    · simp only [findIn, Reg.at?_eq_none_of_apart (hq r hm) ha, ih hp hm]

/-- A family lies in the address range of block `b` (02 R55): below the block's tail, or in the contexts and programs of the loop
engine. -/
def Reg.placedIn (r : Reg) (b : Block) : Bool :=
  if r.base < 0x44000000 then decide (r.base / 0x10000 = 0x4000 + b.index ∧ r.base % 0x10000 + extent r.dims < 0xFF00)
  else decide (b = .loop ∧ r.base + extent r.dims < 0x44180000)

/-- The families of each table are nested, lie in their block and are apart from one another. -/
theorem blockRegs_layout (b : Block) :
    (∀ r ∈ blockRegs b, nested r.dims = true ∧ r.placedIn b = true) ∧
      (blockRegs b).Pairwise (fun q r => q.apart r = true) := by
  cases b <;> decide +kernel

theorem blockOfIndex_index (b : Block) : blockOfIndex b.index = some b := by cases b <;> rfl

theorem index_lt (b : Block) : b.index < 24 := by cases b <;> decide

/-- The address of an element of a family that lies in block `b` is one of `b`, and none of its tail. -/
theorem blockAt_addr {r : Reg} {b : Block} {ix : List Nat} (hp : r.placedIn b = true) (h : r.inRange ix = true) :
    blockAt (r.addr ix) = some b ∧ ¬ (r.addr ix < 0x44000000 ∧ 0xFF00 ≤ r.addr ix % 0x10000) := by
  have hx := ixOffset_le_extent ((r.inRange_iff ix).1 h)
  rw [r.addr_eq]
  unfold Reg.placedIn at hp
  split at hp
  · next hb =>
    obtain ⟨hidx, hext⟩ := of_decide_eq_true hp
    have hlt := index_lt b
    have hdiv : (r.base + ixOffset r.dims ix - 0x40000000) / 0x10000 = b.index := by omega
    refine ⟨?_, by omega⟩
    simp only [blockAt, Bool.and_eq_true, decide_eq_true_eq]
    rw [if_neg (by omega), if_pos (by omega), hdiv, blockOfIndex_index]
  · next hb =>
    obtain ⟨rfl, hext⟩ := of_decide_eq_true hp
    refine ⟨?_, by omega⟩
    simp only [blockAt, Bool.and_eq_true, decide_eq_true_eq]
    rw [if_pos (by omega)]

theorem placeAt_of_mem {b : Block} {r : Reg} {ix : List Nat} (hm : r ∈ blockRegs b) (h : r.inRange ix = true) :
    placeAt (r.addr ix) = some (.reg r ix) := by
  obtain ⟨hregs, hapart⟩ := blockRegs_layout b
  obtain ⟨hnest, hplaced⟩ := hregs r hm
  obtain ⟨hblk, htail⟩ := blockAt_addr hplaced h
  simp only [placeAt, hblk, Bool.and_eq_true, decide_eq_true_eq, if_neg htail,
    findIn_of_mem hapart hm (Reg.at?_addr hnest h), Option.map_some]

theorem placeAt_eq_reg {a : Nat} {r : Reg} {ix : List Nat} (h : placeAt a = some (.reg r ix)) :
    r.addr ix = a ∧ r.inRange ix = true ∧ ∃ b, blockAt a = some b ∧ r ∈ blockRegs b := by
  unfold placeAt at h
  split at h
  · cases h
  · next b hb =>
    dsimp only at h
    split at h
    · split at h <;> cases h
    · obtain ⟨x, hx, he⟩ := Option.map_eq_some_iff.1 h
      cases he
      obtain ⟨hm, ha⟩ := findIn_eq_some hx
      obtain ⟨haddr, hin⟩ := Reg.at?_eq_some ha
      exact ⟨haddr, hin, b, hb, hm⟩

/-- Settles O14: the tables are laid out so that the search along a table finds each element (`placeAt_of_mem`), and what it finds
lies at the address (`placeAt_eq_reg`). -/
theorem registerAddressesDecode : Obligations.RegisterAddressesDecode :=
  ⟨fun _ _ hm _ h => placeAt_of_mem hm h, fun _ _ _ h => placeAt_eq_reg h⟩

end Sys2Proof.Machine
end

section
/-!
PROOF. Register access (GuardRule, RefusedWrites, ReservedFieldWrite): what an access answers at each check of 02 R70, and what it
records.
-/
namespace Sys2Proof.Machine

/-! ### Fields of one register -/

/-- The bits below a field that is replaced, and those above it. -/
theorem putBits_mod (v hi lo x : Nat) (h : lo ≤ hi) : putBits v hi lo x % 2 ^ lo = v % 2 ^ lo := by
  have e : (2 : Nat) ^ (hi + 1) = 2 ^ lo * 2 ^ (hi + 1 - lo) := by rw [← Nat.pow_add]; congr 1; omega
  have hsum : putBits v hi lo x =
      v % 2 ^ lo + 2 ^ lo * (v / 2 ^ (hi + 1) * 2 ^ (hi + 1 - lo) + x % 2 ^ (hi + 1 - lo)) := by
    rw [putBits_parts v hi lo x h, e]; ring
  rw [hsum, Nat.add_mul_mod_self_left, Nat.mod_mod]

theorem putBits_div (v hi lo x : Nat) (h : lo ≤ hi) : putBits v hi lo x / 2 ^ (hi + 1) = v / 2 ^ (hi + 1) := by
  have e : (2 : Nat) ^ (hi + 1) = 2 ^ (hi + 1 - lo) * 2 ^ lo := by rw [← Nat.pow_add]; congr 1; omega
  have hfield : x % 2 ^ (hi + 1 - lo) < 2 ^ (hi + 1 - lo) := Nat.mod_lt _ (Nat.two_pow_pos _)
  have hlow : v % 2 ^ lo < 2 ^ lo := Nat.mod_lt _ (Nat.two_pow_pos _)
  have hrest : x % 2 ^ (hi + 1 - lo) * 2 ^ lo + v % 2 ^ lo < 2 ^ (hi + 1) := by
    have := Nat.mul_le_mul_right (2 ^ lo) (Nat.succ_le_of_lt hfield)
    rw [Nat.succ_mul, ← e] at this
    omega
  rw [putBits_parts v hi lo x h, Nat.add_assoc, Nat.mul_comm (v / _), Nat.mul_add_div (Nat.two_pow_pos _),
    Nat.div_eq_of_lt hrest, Nat.add_zero]

/-- A field reads the same after another field of its word was replaced. -/
theorem bits_putBits_of_disjoint (v x : Nat) {hi lo h l : Nat} (hle : lo ≤ hi) (hd : h < lo ∨ hi < l) :
    bits (putBits v hi lo x) h l = bits v h l := by
  apply Nat.eq_of_testBit_eq
  intro i
  rw [testBit_bits, testBit_bits]
  by_cases hin : i < h + 1 - l
  swap
  · simp only [hin, decide_false, Bool.false_and]
  congr 1
  rcases hd with hd | hd
  · have hlt : l + i < lo := by omega
    have hm := congrArg (Nat.testBit · (l + i)) (putBits_mod v hi lo x hle)
    simpa [Nat.testBit_mod_two_pow, hlt] using hm
  · have hm := congrArg (Nat.testBit · (l + i - (hi + 1))) (putBits_div v hi lo x hle)
    simpa [Nat.testBit_div_two_pow, Nat.sub_add_cancel (show hi + 1 ≤ l + i by omega)] using hm

/-- Two fields of one register that share no bit. -/
abbrev Fld.Beside (g f : Fld) : Prop := g.reg = f.reg ∧ f.lo ≤ f.hi ∧ f.hi < 32 ∧ (g.hi < f.lo ∨ f.hi < g.lo)

section
variable (s : State) {f g : Fld} (ix : List Nat)

theorem State.fld_setFld_beside (v : Nat) (hg : g.Beside f) : (s.setFld f v ix).fld g ix = s.fld g ix := by
  obtain ⟨hr, h, h32, hd⟩ := hg
  rw [State.fld, State.fld, hr, State.setFld, State.reg_setReg_self, BitVec.toNat_ofNat,
    Nat.mod_eq_of_lt (putBits_lt _ _ _ _ 32 h h32 (s.reg f.reg ix).isLt), bits_putBits_of_disjoint _ _ h hd]

theorem State.fld_raise_beside (hg : g.Beside f) : (s.raise f ix).fld g ix = s.fld g ix := State.fld_setFld_beside s ix _ hg

theorem State.fld_incrSat_beside (n : Nat) (hg : g.Beside f) : (s.incrSat f ix n).fld g ix = s.fld g ix :=
  State.fld_setFld_beside s ix _ hg

variable (f)

/-- A saturating count stops at its greatest value. -/
theorem State.fld_incrSat_self (n : Nat) (h : f.lo ≤ f.hi) (h32 : f.hi < 32) :
    (s.incrSat f ix n).fld f ix = min f.max (s.fld f ix + n) := by
  have hpos : 0 < 2 ^ (f.hi + 1 - f.lo) := Nat.two_pow_pos _
  rw [State.incrSat, State.fld_setFld_self s f _ ix h h32, Nat.mod_eq_of_lt]
  exact (Nat.min_le_left _ _).trans_lt (Nat.sub_lt hpos one_pos)

theorem State.fld_raise_self (h : f.lo ≤ f.hi) (h32 : f.hi < 32) : (s.raise f ix).fld f ix = f.max :=
  (State.fld_setFld_self s f _ ix h h32).trans (Nat.mod_eq_of_lt (Nat.sub_lt (Nat.two_pow_pos _) one_pos))

end

/-! ### What raising an event changes (01 R26, 02 R81) -/

/-- The addresses of the counts that an event raised by the block of index `k` can change. -/
abbrev queueCounts (k : Nat) : List Nat := [SYS_Q_SENT.addr [k], SYS_Q_REF.addr [k]]

theorem addr_sent (k : Nat) : SYS_Q_SENT.addr [k] = 0x40002004 + 32 * k := by simp [Reg.addr, SYS_Q_SENT]
theorem addr_ref (k : Nat) : SYS_Q_REF.addr [k] = 0x40002010 + 32 * k := by simp [Reg.addr, SYS_Q_REF]
theorem addr_sticky (k : Nat) : TAIL_STICKY.addr [k] = 0x4000FF04 + 65536 * k := by simp [Reg.addr, TAIL_STICKY]

theorem not_mem_queueCounts {a : Nat} (k : Nat) (h : a < 0x40002000) : a ∉ queueCounts k := by
  simp only [List.mem_cons, List.not_mem_nil, or_false, not_or, addr_sent, addr_ref]
  omega

theorem sticky_not_mem_queueCounts (k : Nat) : TAIL_STICKY.addr [k] ∉ queueCounts k := by
  simp only [List.mem_cons, List.not_mem_nil, or_false, not_or, addr_sent, addr_ref, addr_sticky]
  omega

section
variable {s : State} {k : Nat} {q : Reg} {jx : List Nat}

theorem State.reg_sendToken_of_not_mem (t : Token) (h : q.addr jx ∉ queueCounts k) : (s.sendToken k t).reg q jx = s.reg q jx := by
  simp only [List.mem_cons, List.not_mem_nil, or_false, not_or] at h
  unfold State.sendToken
  split
  · rfl
  · split
    · exact State.reg_incr_ne s SYS_Q_SENT_COUNT q [k] jx 1 h.1
    · exact State.reg_incr_ne s SYS_Q_REF_COUNT q [k] jx 1 h.2

theorem State.reg_sendEvent_of_not_mem (e : Event) (h : q.addr jx ∉ queueCounts k) : (s.sendEvent k e).reg q jx = s.reg q jx := by
  unfold State.sendEvent
  split
  · rfl
  · split
    · exact State.reg_sendToken_of_not_mem _ h
    · simp only [List.mem_cons, List.not_mem_nil, or_false, not_or] at h
      dsimp only
      split <;> exact State.reg_incr_ne s SYS_Q_REF_COUNT q [k] jx 1 h.2

end

section
variable {s : State} {sev kind : Nat} {b : Block} {inst mst d0 d1 : Nat}

theorem State.emit_eq : ∃ regs fab, s.emit sev kind b inst mst d0 d1 = { s with regs := regs, fab := fab } :=
  State.sendEvent_eq s b.index _

@[simp] theorem State.emit_mem : (s.emit sev kind b inst mst d0 d1).mem = s.mem := by
  obtain ⟨regs, fab, h⟩ := State.emit_eq (s := s)
  rw [h]

@[simp] theorem State.emit_out : (s.emit sev kind b inst mst d0 d1).out = s.out := by
  obtain ⟨regs, fab, h⟩ := State.emit_eq (s := s)
  rw [h]

@[simp] theorem State.emit_tainted : (s.emit sev kind b inst mst d0 d1).tainted = s.tainted := by
  obtain ⟨regs, fab, h⟩ := State.emit_eq (s := s)
  rw [h]

theorem State.reg_emit_of_not_mem {q : Reg} {jx : List Nat} (h : q.addr jx ∉ queueCounts b.index) :
    (s.emit sev kind b inst mst d0 d1).reg q jx = s.reg q jx := State.reg_sendEvent_of_not_mem _ h

theorem State.fld_emit_of_not_mem {f : Fld} {jx : List Nat} (h : f.reg.addr jx ∉ queueCounts b.index) :
    (s.emit sev kind b inst mst d0 d1).fld f jx = s.fld f jx := by
  rw [State.fld, State.fld, State.reg_emit_of_not_mem h]

/-- With a credit and nothing held, the event stands in the block's queue. -/
theorem State.emit_fab_credit {f : FabQueue} (hf : s.fab[b.index]? = some f) (hh : f.held = [])
    (h : f.tokens.length < f.depth) :
    (s.emit sev kind b inst mst d0 d1).fab[b.index]? =
      some { f with tokens := f.tokens ++ [.event (s.mkEvent sev kind b.index inst mst d0 d1)] } := by
  rw [State.emit, State.sendEvent_credit _ hf hh h, State.sendToken_credit _ hf h]
  exact getElem?_modNth_self _ hf

/-- An event raised with a count of SYS: the count saturates, and only it and the counts of the block's queue change. -/
theorem State.emit_counted {f : Fld} (h : f.lo ≤ f.hi) (h32 : f.hi < 32) (hsys : f.reg.addr [] < 0x40002000) :
    ((s.incrSat f).emit sev kind b inst mst d0 d1).fld f = min f.max (s.fld f + 1) ∧
      ∀ q jx, Reg.addr q jx ∉ f.reg.addr [] :: queueCounts b.index →
        ((s.incrSat f).emit sev kind b inst mst d0 d1).reg q jx = s.reg q jx := by
  refine ⟨(State.fld_emit_of_not_mem (not_mem_queueCounts _ hsys)).trans (State.fld_incrSat_self s f [] 1 h h32),
    fun q jx hq => ?_⟩
  obtain ⟨hne, hq⟩ := not_or.1 (mt List.mem_cons.2 hq)
  exact (State.reg_emit_of_not_mem hq).trans (State.reg_setFld_ne s f q _ [] jx hne)

end

/-! ### What a refused access records (02 R56 to R71) -/

theorem masterId_lt (m : Master) : masterId m < 32 := by
  cases m <;> simp only [masterId] <;> omega

/-- The data of the ACCESS event of a refused access (21 R579). -/
abbrev accessData (m : Master) (e : BusReason) : Nat := e.code + 256 * sessByte m

section
variable (m : Master) (b : Block) (a : Nat) (s : State)

theorem refuseAccess_guard : refuseAccess m b a .guard s =
    (s.incrSat SYS_GUARDV_WR).emit 4 0x01 b 0xFFFF (masterId m) a (accessData m .guard) := rfl

theorem refuseAccess_noresp : refuseAccess m b a .noresp s =
    (s.incrSat SYS_ACCERR_UNMAP).emit 4 0x01 b 0xFFFF (masterId m) a (accessData m .noresp) := rfl

theorem refuseAccess_locked : refuseAccess m b a .locked s =
    s.emit 4 0x01 b 0xFFFF (masterId m) a (accessData m .locked) := rfl

theorem refuseAccess_value : refuseAccess m b a .value s =
    s.emit 4 0x01 b 0xFFFF (masterId m) a (accessData m .value) := rfl

/-- STICKY after a write that the lock refuses: LOCKV is set and stays set while MST and OFS are written (02 R71). -/
theorem setLockV_sticky : (setLockV b m a s).isSet TAIL_STICKY_LOCKV [b.index] = true ∧
    (setLockV b m a s).fld TAIL_STICKY_MST [b.index] = masterId m ∧
    (setLockV b m a s).fld TAIL_STICKY_OFS [b.index] = a % 65536 := by
  have hflag : (setLockV b m a s).fld TAIL_STICKY_LOCKV [b.index] = 1 := by
    rw [setLockV, State.fld_setFld_beside _ _ _ (by decide), State.fld_setFld_beside _ _ _ (by decide)]
    exact State.fld_raise_self s TAIL_STICKY_LOCKV _ (by decide) (by decide)
  have hmst : (setLockV b m a s).fld TAIL_STICKY_MST [b.index] = masterId m := by
    rw [setLockV, State.fld_setFld_beside _ _ _ (by decide), State.fld_setFld_self _ _ _ _ (by decide) (by decide)]
    exact Nat.mod_eq_of_lt (masterId_lt m)
  have hofs : (setLockV b m a s).fld TAIL_STICKY_OFS [b.index] = a % 65536 := by
    rw [setLockV, State.fld_setFld_self _ _ _ _ (by decide) (by decide)]
    exact Nat.mod_mod a 65536
  exact ⟨by rw [State.isSet, hflag]; rfl, hmst, hofs⟩

theorem setLockV_reg_ne {q : Reg} {jx : List Nat} (h : q.addr jx ≠ TAIL_STICKY.addr [b.index]) :
    (setLockV b m a s).reg q jx = s.reg q jx := by
  rw [setLockV, State.reg_setFld_ne _ TAIL_STICKY_OFS q _ _ jx h, State.reg_setFld_ne _ TAIL_STICKY_MST q _ _ jx h, State.raise,
    State.reg_setFld_ne _ TAIL_STICKY_LOCKV q _ _ jx h]

theorem mem_insert_tainted (l : List Nat) (k : Nat) : k ∈ if l.contains k then l else k :: l := by
  split
  · next h => exact List.contains_iff_mem.1 h
  · exact List.mem_cons_self

/-- SYS_RSVW after a write that changed a reserved field (02 R66): the flag, the master, the address and the count; the block is
tainted. -/
theorem noteReserved_records (w : Word) :
    let t := noteReserved m b a w s
    b.index ∈ t.tainted ∧ t.isSet SYS_RSVW_RSVW = true ∧ t.fld SYS_RSVW_MST = masterId m ∧
      t.reg SYS_RSVW_ADDR = BitVec.ofNat 32 a ∧ t.fld SYS_RSVW_COUNT = min 65535 (s.fld SYS_RSVW_COUNT + 1) ∧
      t.mem = s.mem := by
  intro t
  let x := (s.raise SYS_RSVW_RSVW).setFld SYS_RSVW_MST (masterId m)
  let y := x.incrSat SYS_RSVW_COUNT
  have hemit : ∀ q : Reg, q.addr [] < 0x40002000 → t.reg q = (y.setReg SYS_RSVW_ADDR (BitVec.ofNat 32 a)).reg q :=
    fun q hq => State.reg_emit_of_not_mem (not_mem_queueCounts _ hq)
  have hword : t.reg SYS_RSVW = y.reg SYS_RSVW :=
    (hemit SYS_RSVW (by decide)).trans (State.reg_setReg_ne y SYS_RSVW_ADDR SYS_RSVW _ [] [] (by decide))
  have hfld : ∀ f : Fld, f.reg = SYS_RSVW → t.fld f = y.fld f := fun f hf => by rw [State.fld, State.fld, hf, hword]
  have hflag : t.fld SYS_RSVW_RSVW = 1 := by
    rw [hfld _ rfl, State.fld_incrSat_beside x [] 1 (by decide), State.fld_setFld_beside _ _ _ (by decide)]
    exact State.fld_raise_self s SYS_RSVW_RSVW _ (by decide) (by decide)
  have hmst : t.fld SYS_RSVW_MST = masterId m := by
    rw [hfld _ rfl, State.fld_incrSat_beside x [] 1 (by decide), State.fld_setFld_self _ SYS_RSVW_MST _ _ (by decide) (by decide)]
    exact Nat.mod_eq_of_lt (masterId_lt m)
  have hold : x.fld SYS_RSVW_COUNT = s.fld SYS_RSVW_COUNT := by
    rw [State.fld_setFld_beside _ _ _ (by decide), State.fld_raise_beside _ _ (by decide)]
  have hcount : t.fld SYS_RSVW_COUNT = min 65535 (s.fld SYS_RSVW_COUNT + 1) := by
    rw [hfld _ rfl, State.fld_incrSat_self x SYS_RSVW_COUNT [] 1 (by decide) (by decide), hold]
    rfl
  exact ⟨mem_insert_tainted _ _, by rw [State.isSet, hflag]; rfl, hmst,
    (hemit SYS_RSVW_ADDR (by decide)).trans (State.reg_setReg_self y SYS_RSVW_ADDR _ []), hcount, State.emit_mem⟩

end

/-! ### The checks of a write, in their order (02 R70) -/

section
variable {act : Act} {m : Master} {r : Reg} {ix : List Nat} {w : Word} {s : State}

theorem regWrite_noresp (hin : r.inRange ix = true) (hp : s.powered r.blk = false)
    (hs : r.blk = .safe → inScope m r.blk = true ∧ qualifies s m r.wr = true) :
    regWrite act m r ix w s = (.err .noresp, refuseAccess m r.blk (r.addr ix) .noresp s) := by
  have hoff : (decide (r.blk ≠ .safe) || (inScope m r.blk && qualifies s m r.wr)) = true := by
    by_cases h : r.blk = .safe
    · simp [hs h]
    · simp [h]
  simp only [regWrite, regWriteAt, hin, hp, Bool.false_or, Bool.not_true, Bool.not_false, Bool.true_and, Bool.false_eq_true,
    if_false, hoff, if_true]

theorem regWrite_guard (hin : r.inRange ix = true) (hp : s.powered r.blk = true ∨ r.blk = .safe)
    (hs : inScope m r.blk = false ∨ qualifies s m r.wr = false) :
    regWrite act m r ix w s = (.err .guard, refuseAccess m r.blk (r.addr ix) .guard s) := by
  have hno : (inScope m r.blk && qualifies s m r.wr) = false := by
    rcases hs with h | h <;> simp [h]
  have hoff : (!s.powered r.blk && (decide (r.blk ≠ .safe) || false)) = false := by
    rcases hp with h | h <;> simp [h]
  simp only [regWrite, regWriteAt, hin, Bool.false_or, Bool.not_true, Bool.not_false, Bool.false_eq_true, if_false, hno, hoff,
    if_true]

theorem regWrite_locked (hin : r.inRange ix = true) (hp : s.powered r.blk = true) (hs : inScope m r.blk = true)
    (hq : qualifies s m r.wr = true) (hlk : changesLk r (s.reg r ix) w = true) (hl : r.blk.index ∈ s.locked) :
    regWrite act m r ix w s = (.err .locked, refuseAccess m r.blk (r.addr ix) .locked (setLockV r.blk m (r.addr ix) s)) := by
  simp only [regWrite, regWriteAt, hin, hp, hs, hq, hlk, List.contains_iff_mem.2 hl, Bool.and_self, Bool.false_and, Bool.or_true,
    Bool.not_true, Bool.false_eq_true, if_false, if_true]

/-- A write passes every check that comes before its value is judged. -/
structure Passes (m : Master) (r : Reg) (ix : List Nat) (w : Word) (s : State) : Prop where
  inRange : r.inRange ix = true
  powered : s.powered r.blk = true
  inScope : inScope m r.blk = true
  qualifies : qualifies s m r.wr = true
  unlocked : changesLk r (s.reg r ix) w = true → r.blk.index ∉ s.locked

theorem Passes.not_locked (h : Passes m r ix w s) : (changesLk r (s.reg r ix) w && s.locked.contains r.blk.index) = false := by
  cases hlk : changesLk r (s.reg r ix) w with
  | false => rfl
  | true => simpa using h.unlocked hlk

/-- SAFE refuses a write that changes a reserved field (02 R66, R465). -/
theorem regWrite_reserved_safe (h : Passes m r ix w s) (hr : changesReserved r (s.reg r ix) w = true) (hsafe : r.blk = .safe) :
    regWrite act m r ix w s = (.err .value, refuseAccess m r.blk (r.addr ix) .value s) := by
  simp only [regWrite, regWriteAt, h.inRange, h.powered, h.inScope, h.qualifies, h.not_locked, hr, if_pos hsafe, Bool.and_self,
    Bool.false_and, Bool.or_true, Bool.not_true, Bool.false_eq_true, if_false, if_true]

/-- Every other block takes such a write: with its own effect, or with the written word where its rule turns it away. -/
theorem regWrite_reserved_taken {u : State} (h : Passes m r ix w s) (hr : changesReserved r (s.reg r ix) w = true)
    (hsafe : r.blk ≠ .safe) (hu : act m ix w s = .ok u ∨ ∃ e own v, act m ix w s = .no e own v ∧ u = s.store r ix w) :
    regWrite act m r ix w s = (.ok 0, noteReserved m r.blk (r.addr ix) w u) := by
  rcases hu with hu | ⟨e, own, v, hu, rfl⟩ <;>
    simp only [regWrite, regWriteAt, h.inRange, h.powered, h.inScope, h.qualifies, h.not_locked, hr, if_neg hsafe, hu,
      Bool.and_self, Bool.false_and, Bool.or_true, Bool.not_true, Bool.false_eq_true, if_false, if_true]

end

/-! ### Refusals (02 R60, R62, R71) -/

/-- Settles O10: each clause is one check of `regWrite` and what its refusal records; the last is a granted write. -/
theorem refusedWrites : Obligations.RefusedWrites := by
  intro m r ix w s act hin
  refine ⟨fun hsafe hs => ?_, fun hp hs => ?_, fun hp hs hq hlk hl => ?_, fun hp hs hq hlk hl hr u hu => ?_⟩
  · rw [regWrite_guard hin (.inr hsafe) hs, refuseAccess_guard]
    exact ⟨rfl, State.emit_mem, 
      (State.emit_counted (s := s) (f := SYS_GUARDV_WR) (by decide) (by decide) (by decide)).2⟩
  · rw [regWrite_noresp hin hp hs, refuseAccess_noresp]
    obtain ⟨hcount, hreg⟩ := State.emit_counted (s := s) (f := SYS_ACCERR_UNMAP) (by decide) (by decide) (by decide)
    exact ⟨rfl, State.emit_mem, hcount, hreg⟩
  · rw [regWrite_locked hin hp hs hq hlk hl, refuseAccess_locked]
    obtain ⟨hflag, hmst, hofs⟩ := setLockV_sticky m r.blk (r.addr ix) s
    have hsticky := sticky_not_mem_queueCounts r.blk.index
    refine ⟨rfl, State.emit_mem, ?_, (State.fld_emit_of_not_mem hsticky).trans hmst,
      (State.fld_emit_of_not_mem hsticky).trans hofs, fun q jx hq => ?_⟩
    · rw [State.isSet, State.fld_emit_of_not_mem hsticky]
      exact hflag
    · obtain ⟨hne, hq⟩ := not_or.1 (mt List.mem_cons.2 hq)
      exact (State.reg_emit_of_not_mem hq).trans (setLockV_reg_ne m r.blk (r.addr ix) s hne)
  · exact regWrite_granted ⟨hin, hp, hs, hq, fun _ => hl, hr⟩ hu

/-! ### Accesses by address (02 R55, R70) -/

/-- The registers of the tables lie above every memory and below the addresses of single bits. -/
theorem blockAt_range {a : Nat} {b : Block} (h : blockAt a = some b) : 0x40000000 ≤ a ∧ a < 0x44180000 := by
  unfold blockAt at h
  split at h
  · next hr => simp only [Bool.and_eq_true, decide_eq_true_eq] at hr; omega
  · split at h
    · next hr => simp only [Bool.and_eq_true, decide_eq_true_eq] at hr; omega
    · cases h

theorem aliasOf_of_blockAt {a : Nat} {b : Block} (h : blockAt a = some b) : aliasOf a = none := by
  have hr := blockAt_range h
  simp only [aliasOf, Bool.and_eq_true, decide_eq_true_eq]
  rw [if_neg (by omega), if_neg (by omega)]

theorem touched_of_blockAt {a : Nat} {b : Block} (h : blockAt a = some b) : touched a = [b] := by
  rw [touched, aliasOf_of_blockAt h, h]
  rfl

theorem memAt_of_blockAt (m : Master) {a : Nat} {b : Block} (n : Nat) (h : blockAt a = some b) : memAt m a n = none := by
  have hr := blockAt_range h
  have hloc : localAt m a n = none := by
    cases m <;> simp only [localAt] <;> exact if_neg (by omega)
  simp only [memAt, Bool.and_eq_true, decide_eq_true_eq, hloc, Option.map_none]
  rw [if_neg (by omega), if_neg (by omega), if_neg (by omega), if_neg (by omega)]

theorem blockAt_of_placeAt {a : Nat} {p : Place} (h : placeAt a = some p) : ∃ b, blockAt a = some b := by
  unfold placeAt at h
  split at h
  · cases h
  · next b hb => exact ⟨b, hb⟩

theorem regSpace_of_blockAt {a : Nat} {b : Block} (h : blockAt a = some b) : regSpace a = true := by
  have hr := blockAt_range h
  simp only [regSpace, Bool.and_eq_true, decide_eq_true_eq]
  omega

section
variable {a : Nat} {r : Reg} {ix : List Nat} (hp : placeAt a = some (.reg r ix)) (ha : a % 4 = 0)
include hp ha

/-- An aligned word access at the address of a register is an access to the register. -/
theorem busWrite_reg (m : Master) (w : Word) (s : State) :
    busWrite m a 4 w.toNat s = regWrite (actOf r) m r ix w s := by
  obtain ⟨b, hb⟩ := blockAt_of_placeAt hp
  have hword : a / 4 * 4 = a := by omega
  simp [busWrite, memAt_of_blockAt m 4 hb, regSpace_of_blockAt hb, wordMapped, hword, aliasOf_of_blockAt hb, hp, ha, wordWrite,
    placeWrite]

theorem busRead_reg (m : Master) (s : State) : busRead m a 4 s = placeRead m (.reg r ix) false s := by
  obtain ⟨b, hb⟩ := blockAt_of_placeAt hp
  have hword : a / 4 * 4 = a := by omega
  have hread : wordRead m a s = placeRead m (.reg r ix) false s := by simp [wordRead, aliasOf_of_blockAt hb, hp]
  rw [← hread]
  simp only [busRead, memAt_of_blockAt m 4 hb, regSpace_of_blockAt hb, wordMapped, hword, aliasOf_of_blockAt hb, hp, ha,
    Option.isSome_some, Bool.true_or, Bool.not_true, Bool.or_false, Bool.false_eq_true, ne_eq, not_true_eq_false, if_false,
    if_true, Nat.lt_irrefl]
  split <;> rfl

end

/-! ### Reads by a master that does not qualify (02 R60) -/

/-- The read shadow of an atomic pair is all that a read can change before it is judged (02 R69). -/
theorem readPair_eq (m : Master) (r : Reg) (ix : List Nat) (s : State) :
    ∃ shadow, (readPair m r ix s).2 = { s with shadow := shadow } := by
  unfold readPair
  dsimp only
  split
  · exact ⟨_, rfl⟩
  · split
    · split
      · exact ⟨_, rfl⟩
      · exact ⟨s.shadow, rfl⟩
    · exact ⟨s.shadow, rfl⟩

theorem regReadAt_unqualified {b : Block} {g : Guard} {m : Master} {r : Reg} {ix : List Nat} {v : Word} {s : State}
    (hp : s.powered b = true) (hq : qualifies s m g = false) :
    regReadAt b g m r ix v s = (.ok 0, s.incrSat SYS_GUARDV_RD) := by
  simp only [regReadAt, hp, hq, Bool.not_true, Bool.not_false, Bool.false_eq_true, if_false, if_true]

theorem placeRead_unqualified {m : Master} {r : Reg} {ix : List Nat} {s : State} (hp : s.powered r.blk = true)
    (hq : qualifies s m r.rd = false) :
    ∃ shadow, placeRead m (.reg r ix) false s = (.ok 0, State.incrSat { s with shadow := shadow } SYS_GUARDV_RD) := by
  obtain ⟨shadow, hs⟩ := readPair_eq m r ix s
  have hon : (decide (r.blk = .safe) && !s.powered .safe) = false := by
    by_cases h : r.blk = .safe
    · simp [← h, hp]
    · simp [h]
  refine ⟨shadow, ?_⟩
  simp only [placeRead, hon, hs, Bool.false_eq_true, if_false]
  exact regReadAt_unqualified hp hq

/-- Settles O9: the read is `placeRead_unqualified`, the write the guard check of `regWrite`; either counts in SYS_GUARDV, and the
write's event stands in the block's queue. -/
theorem guardRule : Obligations.GuardRule := by
  intro m a w r ix s hpl hal hin hp k g
  have haddr := (placeAt_eq_reg hpl).1
  refine ⟨fun hq => ?_, fun hs => ?_⟩
  · obtain ⟨shadow, hread⟩ := placeRead_unqualified (ix := ix) hp hq
    let t : State := { s with shadow := shadow }
    exact ⟨_, (busRead_reg hpl hal m s).trans hread, State.fld_incrSat_self t SYS_GUARDV_RD [] 1 (by decide) (by decide), rfl, rfl,
      rfl, fun q jx hq => State.reg_setFld_ne t SYS_GUARDV_RD q _ [] jx hq⟩
  · have hwrite := (busWrite_reg hpl hal m w s).trans (regWrite_guard hin (.inl hp) hs)
    rw [haddr, refuseAccess_guard] at hwrite
    obtain ⟨hcount, hreg⟩ := State.emit_counted (s := s) (f := SYS_GUARDV_WR) (by decide) (by decide) (by decide)
    exact ⟨_, hwrite, hcount, State.emit_mem, hreg, fun f hf hh hc => ⟨_, rfl, rfl, Nat.mod_eq_of_lt a.isLt,
      State.emit_fab_credit hf hh hc⟩⟩

/-! ### A write that changes a reserved field (02 R66) -/

section
variable {m : Master} {a w : Word} {r : Reg} {ix : List Nat} {s t : State} {x : Resp}

/-- A register write that is made at once answers what its block answers. -/
theorem exec_registerWrite_reg (h : Live (touched a.toNat) s) (hpl : placeAt a.toNat = some (.reg r ix))
    (hb : blockAt a.toNat = some r.blk) (ha : a.toNat % 4 = 0) (hh : hostAdmits m r.blk s.begin = none)
    (hw : regWrite (actOf r) m r ix w s.begin = (x, t)) :
    exec (.registerWrite m a w) s = .next (s.finish (t.say (.resp x))) := by
  have hadm : admitBlock a.toNat = some r.blk := by rw [admitBlock, touched_of_blockAt hb]; rfl
  show execRegisterWrite m a w s = _
  refine run_next_of_eq h ?_
  simp only [hadm]
  exact writeCmd_atOnce hh ((busWrite_reg hpl ha m w s.begin).trans hw)

/-- A write to a tainted block stops. -/
theorem exec_registerWrite_tainted {b : Block} (hb : blockAt a.toNat = some b) (ht : b.index ∈ s.tainted) :
    exec (.registerWrite m a w) s = .fault .unspecifiedBehaviour := by
  show execRegisterWrite m a w s = _
  rcases run_cases (touched a.toNat) _ s with ⟨_, h⟩ | ⟨hs, _⟩ | ⟨⟨hs, _⟩, _⟩
  · exact h
  all_goals exact absurd ht (hs b (by simp [touched_of_blockAt hb]))

end

/-- Settles O11: SAFE refuses the write (`regWrite_reserved_safe`); every other block takes it and is tainted
(`noteReserved_records`), so that the next write to it stops. -/
theorem reservedFieldWrite : Obligations.ReservedFieldWrite := by
  intro m a w r ix s u hpl hb hal haddr hl b hin hp hs hq hlk hr hh
  have hpass : Passes m r ix w b := ⟨hin, hp, hs, hq, hlk⟩
  refine ⟨fun hsafe => ?_, fun hu hsafe => ?_⟩
  · have hexec := exec_registerWrite_reg hl hpl hb hal hh (regWrite_reserved_safe hpass hr hsafe)
    rw [refuseAccess_value] at hexec
    exact ⟨_, hexec, congrArg (· ++ [_]) State.emit_out, State.emit_tainted, congrArg Memory.canon State.emit_mem⟩
  · have hexec := exec_registerWrite_reg hl hpl hb hal hh (regWrite_reserved_taken hpass hr hsafe hu)
    obtain ⟨htaint, hflag, hmst, hword, hcount, hmem⟩ := noteReserved_records m r.blk (r.addr ix) u w
    refine ⟨_, hexec, htaint, hflag, hmst, hword.trans ?_, hcount, ?_, fun m' w' => exec_registerWrite_tainted hb htaint⟩
    · rw [haddr, BitVec.ofNat_toNat, BitVec.setWidth_eq]
    · exact congrArg Memory.canon hmem

end Sys2Proof.Machine
end

section
/-!
PROOF. Clocks, the time base, PTP stamps, Beacons and trigger inputs (IdleStep, TimeCommandsComplete): what a granted write of the
TIME block does, and what each command does at its instant.
-/
namespace Sys2Proof.Machine

/-- Settles O2: with no command waiting a step is `idle`. -/
theorem idleStep : Obligations.IdleStep := by
  intro s h
  rw [step, h]
  rfl

/-! ### Control words -/

theorem bits_and (a b hi lo : Nat) : bits (a &&& b) hi lo = bits a hi lo &&& bits b hi lo := by
  apply Nat.eq_of_testBit_eq
  intro i
  simp only [testBit_bits, Nat.testBit_and]
  cases decide (i < hi + 1 - lo) <;> simp

theorem bits_or (a b hi lo : Nat) : bits (a ||| b) hi lo = bits a hi lo ||| bits b hi lo := by
  apply Nat.eq_of_testBit_eq
  intro i
  simp only [testBit_bits, Nat.testBit_or, Bool.and_or_distrib_left]

/-- The bits of a register that a control word leaves as they stand: its stored and its reserved fields. -/
def keptMask (r : Reg) : Nat := accMask r (fun a => a = .rw || a = .lk || a = .wonce) ||| reservedMask r

theorem toNat_ctlWord (s : State) (r : Reg) (ix : List Nat) {c : Nat} (hc : c < 2 ^ 32) :
    (ctlWord s r ix c).toNat = ((s.reg r ix).toNat &&& keptMask r) ||| c := by
  have hkept : (s.reg r ix).toNat &&& keptMask r < 2 ^ 32 := Nat.and_le_left.trans_lt (s.reg r ix).isLt
  rw [ctlWord, BitVec.toNat_ofNat]
  exact Nat.mod_eq_of_lt (Nat.or_lt_two_pow hkept hc)

/-- A field that a control word does not keep holds the command bits. -/
theorem Fld.of_ctlWord (f : Fld) (s : State) (ix : List Nat) {c : Nat} (hc : c < 2 ^ 32)
    (hkept : bits (keptMask f.reg) f.hi f.lo = 0) : f.of (ctlWord s f.reg ix c) = bits c f.hi f.lo := by
  rw [Fld.of, toNat_ctlWord s f.reg ix hc, bits_or, bits_and, hkept, Nat.and_zero, Nat.zero_or]

/-- A control word without bits in the kept fields leaves the word of TIME_BCN_n_CTL. -/
theorem reg_store_beaconCtl (s : State) (ix : List Nat) {c : Nat} (hc : c < 2 ^ 32) (hno : c &&& 0xFFFFFFCC = 0) :
    (s.store TIME_BCN_CTL ix (ctlWord s TIME_BCN_CTL ix c)).reg TIME_BCN_CTL ix = s.reg TIME_BCN_CTL ix := by
  have hcompose : ∀ old w : Word, composeWrite TIME_BCN_CTL old w =
      BitVec.ofNat 32 (((old.toNat &&& 0x33) ||| (w.toNat &&& 0xFFFFFFCC)) &&& 0xFFFFFFFF) := fun _ _ => rfl
  have hkept : (ctlWord s TIME_BCN_CTL ix c).toNat &&& 0xFFFFFFCC = (s.reg TIME_BCN_CTL ix).toNat &&& 0xFFFFFFCC := by
    have hmask : keptMask TIME_BCN_CTL = 0xFFFFFFCC := by decide
    rw [toNat_ctlWord s _ ix hc, hmask, Nat.and_or_distrib_right, hno, Nat.or_zero, Nat.and_assoc, Nat.and_self]
  have hwhole : (s.reg TIME_BCN_CTL ix).toNat &&& 0xFFFFFFFF = (s.reg TIME_BCN_CTL ix).toNat :=
    (Nat.and_two_pow_sub_one_eq_mod _ 32).trans (Nat.mod_eq_of_lt (s.reg TIME_BCN_CTL ix).isLt)
  have hparts : (0x33 ||| 0xFFFFFFCC : Nat) = 0xFFFFFFFF := by decide
  rw [State.store, State.reg_setReg_self, hcompose, hkept, ← Nat.and_or_distrib_left, hparts, hwhole, hwhole,
    BitVec.ofNat_toNat, BitVec.setWidth_eq]

/-! ### Writes of the time base (03 R89, R90) -/

section
variable {s : State} {m : Master} {w : Word}

/-- TIME lies outside the control plane, so that a granted write of its registers is made at once. -/
theorem regCmd_time {act : Act} {r : Reg} {ix : List Nat} {t : State} (hb : r.blk = .time) (hg : Granted m r ix w s)
    (ha : act m ix w s = .ok t) : regCmd act m r ix w s = t.ack :=
  regCmd_granted (by rw [hb]; rfl) hg ha

theorem incrAct_pends (ix : List Nat) (hk : kownBars m s = false) (hw : incrOk w.toNat = true) (hs : s.tb.started = true) :
    incrAct m ix w s = .ok (pendTb (.incr w.toNat) (s.store TIME_INCR ix w)) := by
  have hs' : (s.store TIME_INCR ix w).tb.started = true := hs
  simp only [incrAct, hk, hw, hs', Bool.not_true, Bool.false_eq_true, if_false, if_true]

theorem incrAltAct_pends (ix : List Nat) (hk : kownBars m s = false) (hw : incrOk w.toNat = true) (hs : s.tb.started = true) :
    incrAltAct m ix w s = .ok (pendTb (.alt w.toNat) (s.store TIME_INCR_ALT ix w)) := by
  have hs' : (s.store TIME_INCR_ALT ix w).tb.started = true := hs
  simp only [incrAltAct, hk, hw, hs', Bool.not_true, Bool.false_eq_true, if_false, if_true]

theorem altcntAct_pends (ix : List Nat) (hk : kownBars m s = false) (hw : TIME_ALTCNT_COUNT.of w ≠ 0)
    (hs : s.tb.started = true) : altcntAct m ix w s = .ok (pendTb (.cnt (TIME_ALTCNT_COUNT.of w)) s) := by
  simp only [altcntAct, hk, hs, hw, Bool.not_true, Bool.false_eq_true, ne_eq, not_false_eq_true, if_false, if_true]

/-- KOWN after a write of TIME_CTL: the Keeper alone writes it (R93). -/
def writtenKown (m : Master) (w : Word) (s : State) : State :=
  if masterId m = 16 then s.setFld TIME_CTL_KOWN (TIME_CTL_KOWN.of w) else s

theorem timeSet_writtenKown (m : Master) (w : Word) (s : State) : timeSet (writtenKown m w s) = timeSet s := by
  have hreg : ∀ k v, (s.setFld TIME_CTL_KOWN v).reg TIME_SET [k] = s.reg TIME_SET [k] := fun k v => by
    refine State.reg_setFld_ne s _ _ _ _ _ ?_
    simp only [Reg.addr, TIME_SET, TIME_CTL_KOWN, TIME_CTL, List.zip_cons_cons, List.zip_nil_left, List.map_cons, List.map_nil,
      List.foldl_cons, List.foldl_nil]
    omega
  unfold writtenKown
  split
  · simp only [timeSet, hreg]
  · rfl

/-- One command bit of TIME_CTL beside KOWN. -/
theorem bits_timeCtlWord (s : State) {c : Nat} (hc : c < 4) :
    TIME_CTL_ALTSTOP.of (timeCtlWord s c) = c / 2 ∧ TIME_CTL_STEP.of (timeCtlWord s c) = c % 2 := by
  have hkown : s.fld TIME_CTL_KOWN < 2 := bits_lt _ _ _
  have hword : (timeCtlWord s c).toNat = s.fld TIME_CTL_KOWN * 4 + c := by
    rw [timeCtlWord, BitVec.toNat_ofNat]
    omega
  simp only [Fld.of, hword, TIME_CTL_ALTSTOP, TIME_CTL_STEP, bits, Nat.shiftRight_eq_div_pow]
  omega

theorem timeCtlAct_stop (ix : List Nat) (hk : kownBars m s = false) (hc : s.altCnt ≠ 0) (hs : s.tb.started = true) :
    timeCtlAct m ix (timeCtlWord s 2) s = .ok (pendTb .stop (writtenKown m (timeCtlWord s 2) s)) := by
  obtain ⟨hstop, hstep⟩ := bits_timeCtlWord s (c := 2) (by decide)
  simp [timeCtlAct, Fld.on, hstop, hstep, hk, hc, hs, writtenKown]

theorem timeCtlAct_step (ix : List Nat) (hk : kownBars m s = false) (hm : stepMode s.mode = true)
    (hns : bits (timeSet s) 45 16 < 1000000000) :
    timeCtlAct m ix (timeCtlWord s 1) s = .ok (pendTb (.step (ofTime96 (timeSet s) * 4096 % dtWrap))
      (writtenKown m (timeCtlWord s 1) s)) := by
  obtain ⟨hstop, hstep⟩ := bits_timeCtlWord s (c := 1) (by decide)
  simp [timeCtlAct, Fld.on, hstop, hstep, hk, hm, hns, writtenKown]

end

/-! ### Arming and disarming a Beacon (03 R104) -/

section
variable {s : State} (m : Master) (n : Nat)

/-- A write that keeps OUTEN and POL moves no ball. -/
theorem beaconLevel_store {w : Word} (h : (s.store TIME_BCN_CTL [n] w).reg TIME_BCN_CTL [n] = s.reg TIME_BCN_CTL [n])
    (active : Bool) : beaconLevel (s.store TIME_BCN_CTL [n] w) n active = beaconLevel s n active := by
  have hreg : ∀ f : Fld, f.reg = TIME_BCN_CTL → (s.store TIME_BCN_CTL [n] w).isSet f [n] = s.isSet f [n] := fun f hf => by
    rw [State.isSet, State.isSet, State.fld, State.fld, hf, h]
  have hgroup : beaconGroup (s.store TIME_BCN_CTL [n] w) n = beaconGroup s n := rfl
  rw [beaconLevel, beaconLevel, hreg _ rfl, hreg _ rfl, hgroup]

/-- The command bits of TIME_BCN_n_CTL as a control word gives them. -/
theorem on_beaconCtl (s : State) {c : Nat} (hc : c < 4) :
    TIME_BCN_CTL_ARM.on (ctlWord s TIME_BCN_CTL [n] c) = decide (c % 2 = 1) ∧
    TIME_BCN_CTL_DISARM.on (ctlWord s TIME_BCN_CTL [n] c) = decide (2 ≤ c) ∧
    TIME_BCN_CTL_MISSED_CLR.on (ctlWord s TIME_BCN_CTL [n] c) = false ∧
    TIME_BCN_CTL_BADCFG_CLR.on (ctlWord s TIME_BCN_CTL [n] c) = false := by
  have hof : ∀ f : Fld, f.reg = TIME_BCN_CTL → bits (keptMask TIME_BCN_CTL) f.hi f.lo = 0 →
      f.of (ctlWord s TIME_BCN_CTL [n] c) = bits c f.hi f.lo := fun f hf hk => by
    have := f.of_ctlWord s [n] (show c < 2 ^ 32 by omega) (by rw [hf, hk])
    rwa [hf] at this
  rw [Fld.on, Fld.on, Fld.on, Fld.on, hof _ rfl (by decide), hof _ rfl (by decide), hof _ rfl (by decide),
    hof _ rfl (by decide)]
  interval_cases c <;> decide

theorem beaconCtlAct_arm (hv : beaconBad (beaconSet s n).2.1 (beaconSet s n).2.2 = false) :
    let w := ctlWord s TIME_BCN_CTL [n] 1
    beaconCtlAct m [n] w s = .ok (beaconArm n (beaconSet s n) (beaconActs n 9 (s.store TIME_BCN_CTL [n] w))) := by
  obtain ⟨harm, hdisarm, hmissed, hbad⟩ := on_beaconCtl n s (c := 1) (by decide)
  have hlevel := beaconLevel_store n (reg_store_beaconCtl s [n] (c := 1) (by decide) (by decide))
  simp [beaconCtlAct, harm, hdisarm, hmissed, hbad, hv, hlevel]

theorem beaconCtlAct_disarm :
    let w := ctlWord s TIME_BCN_CTL [n] 2
    beaconCtlAct m [n] w s = .ok (beaconDisarm n (beaconActs n 8 (s.store TIME_BCN_CTL [n] w))) := by
  obtain ⟨harm, hdisarm, hmissed, hbad⟩ := on_beaconCtl n s (c := 2) (by decide)
  have hlevel := beaconLevel_store n (reg_store_beaconCtl s [n] (c := 2) (by decide) (by decide))
  simp [beaconCtlAct, harm, hdisarm, hmissed, hbad, hlevel]

end

/-! ### Clocks (03 R83 to R85) -/

section
variable {s : State}

theorem exec_clockWindow (c0 c1 c2 c3 : BitVec 16) (d0 d1 d2 d3 : Word) (h : Live [.clk] s) :
    let t := judgeClock 3 c3.toNat d3 (judgeClock 2 c2.toNat d2 (judgeClock 1 c1.toNat d1 (judgeClock 0 c0.toNat d0 s.begin)))
    exec (.clockWindow c0 c1 c2 c3 d0 d1 d2 d3) s =
      .next (s.finish (if t.mode = .seed ∧ t.seed.step ≤ 4 then t else (List.range 6).foldl relock t)) := by
  show execClockWindow c0 c1 c2 c3 d0 d1 d2 d3 s = _
  exact run_next_of_eq h (by simp only [Bool.and_eq_true, decide_eq_true_eq])

theorem exec_tbRefSwitch {t : Nat} (h : Live [.clk] s) (ht : s.begin.tbPll.holdFrom = some t) :
    let u := advanceTo (t + 10000000 * nsF) s.begin
    let z := ((u.setFld CLK_STAT_HOLDOVER (b2n !(u.clkPresent 0))).lower CLK_STAT_TBSRC).raise CLK_FLAGS_TB_SWITCH
    exec .tbRefSwitch s = .next (s.finish { z with tbPll := { z.tbPll with holdFrom := none } }) := by
  show execTbRefSwitch s = _
  exact run_next_of_eq h (by simp only [ht])

theorem exec_tbRefReturn {t : Nat} (h : Live [.clk] s) (ht : s.begin.tbPll.trefFrom = some t)
    (ha : s.begin.isSet CLK_TBSEL_AUTORET = true) (hu : s.begin.isSet CLK_TBSEL_USETREF = true)
    (hsrc : s.begin.isSet CLK_STAT_TBSRC = false) :
    exec .tbRefReturn s = .next (s.finish ((((advanceTo (t + 100000000 * nsF) s.begin).raise CLK_STAT_TBSRC).lower
      CLK_STAT_HOLDOVER).raise CLK_FLAGS_TB_SWITCH)) := by
  show execTbRefReturn s = _
  exact run_next_of_eq h (by simp only [ht, ha, hu, hsrc, Bool.not_false, Bool.and_self, if_true])

theorem exec_pllUnlock {p : Fin 6} (h : Live [.clk] s) (hp : bit (s.begin.fld CLK_STAT_LOCK) p.val = true) :
    let u := s.begin.setFld CLK_STAT_LOCK (putBits (s.begin.fld CLK_STAT_LOCK) p.val p.val 0)
    exec (.pllUnlock p) s = .next (s.finish
      (if p.val < 4 then clockEvent 6 16 ((u.raise CLK_FLAGS_PLL_UNLOCK).raiseSafe 3) else clockLost (p.val - 2) u)) := by
  show execPllUnlock p s = _
  exact run_next_of_eq h (by simp only [hp, Bool.not_true, Bool.false_eq_true, if_false])

end

/-! ### The instants of the time base and of Beacons (03 R89, R103 to R105) -/

section
variable {s : State}

theorem exec_alternateIncrementEnd (h : Live [.time] s) (hs : s.begin.tb.started = true) (hc : s.begin.altCnt ≠ 0) :
    exec .alternateIncrementEnd s = .next (s.finish
      (advanceLoop s.begin.tb.pend.length (s.begin.tb.dt + s.begin.altCnt * s.begin.tb.alt) s.begin)) := by
  show execAlternateIncrementEnd s = _
  exact run_next_of_eq h (if_pos (by rw [hs, Bool.true_and]; exact decide_eq_true hc))

/-- The next leading edge of Beacon n. -/
def edgeAt (n : Nat) (s : State) : Nat := (nth s.beacons n {}).nextAt

/-- A leading edge of Beacon n is to come, the time base as it is: the Beacon is armed, with no pulse in progress. -/
def edgeDue (n : Nat) (s : State) : Prop :=
  s.tb.started = true ∧ s.isSet TIME_BCN_STAT_ARMED [n] = true ∧ (nth s.beacons n {}).pulse = none

theorem edgeDue_iff (n : Nat) (s : State) : edgeDue n s ↔
    (s.tb.started && s.isSet TIME_BCN_STAT_ARMED [n] && (nth s.beacons n {}).pulse.isNone) = true := by
  simp only [edgeDue, Bool.and_eq_true, Option.isNone_iff_eq_none, and_assoc]

section
variable {n : Fin 16}

/-- An edge that is still due after the steps that come before it. -/
theorem exec_beaconEdge_fires (h : Live [.time] s) (hdue : edgeDue n.val s.begin) :
    let u := stepsFirst (edgeAt n.val) s.begin.tb.pend.length s.begin
    edgeDue n.val u → exec (.beaconEdge n) s =
      .next (s.finish (beaconFire n.val (edgeAt n.val u) (advanceTo (edgeAt n.val u) u))) := by
  intro u hu
  show execBeaconEdge n s = _
  refine run_next_of_eq h ?_
  dsimp only
  rw [if_pos ((edgeDue_iff _ _).1 hdue)]
  exact if_pos ((edgeDue_iff _ _).1 hu)

/-- A step took the edge away. -/
theorem exec_beaconEdge_stepped (h : Live [.time] s) (hdue : edgeDue n.val s.begin) :
    let u := stepsFirst (edgeAt n.val) s.begin.tb.pend.length s.begin
    ¬ edgeDue n.val u → exec (.beaconEdge n) s = .next (s.finish u) := by
  intro u hu
  show execBeaconEdge n s = _
  refine run_next_of_eq h ?_
  dsimp only
  rw [if_pos ((edgeDue_iff _ _).1 hdue)]
  exact if_neg (fun hd => hu ((edgeDue_iff _ _).2 hd))

theorem exec_beaconTrailingEdge {t : Nat} (h : Live [.time] s) (ht : (nth s.begin.beacons n.val {}).pulse = some t) :
    let u := advanceTo t s.begin
    let v : State := { u with beacons := modNth u.beacons n.val (fun y => { y with pulse := none }) }
    let z := beaconShow n.val false (v.lower TIME_BCN_STAT_ACTIVE [n.val])
    exec (.beaconTrailingEdge n) s = .next (s.finish (match (nth u.beacons n.val {}).next with
      | some f => beaconLoad n.val f.2.2.2 (f.1, f.2.1, f.2.2.1) z
      | none => z)) := by
  show execBeaconTrailingEdge n s = _
  refine run_next_of_eq h ?_
  dsimp only
  split
  case h_1 hnone => cases ht.symm.trans hnone
  case h_2 e he => cases ht.symm.trans he; rfl

end

/-! ### Trigger inputs (03 R107) -/

theorem exec_trigAccept {e : Fin 12} {up own : Bool} {t : Nat} (h : Live [.time] s)
    (hf : ((tbusSettle s.begin.now s.begin).trig e.val).filt = some (up, t, own)) :
    let u := tbusSettle s.begin.now s.begin
    exec (.trigAccept e) s = .next (s.finish (trigAccept e.val (advanceTo (t + trigFilt u e.val) u))) := by
  show execTrigAccept e s = _
  exact run_next_of_eq h (by simp only [hf])

end

/-- Settles O41: a clause per command; a granted write of TIME is made at once and waits for its edge. -/
theorem timeCommandsComplete : Obligations.TimeCommandsComplete := by
  intro m w p n e x seq c0 c1 c2 c3 d0 d1 d2 d3 dom typ one msg o mpd loc mas sync edge s hl
  have hclk : Live [.clk] s := hl.mono (by simp)
  have htime : Live [.time] s := hl.mono (by simp)
  refine ⟨exec_clockWindow c0 c1 c2 c3 d0 d1 d2 d3 hclk, fun t => exec_tbRefSwitch hclk, fun t => exec_tbRefReturn hclk,
    exec_pllUnlock hclk,
    fun hk hg hw hs => run_next_of_eq htime (regCmd_time rfl hg (incrAct_pends [] hk hw hs)),
    fun hk hg hw hs => run_next_of_eq htime (regCmd_time rfl hg (incrAltAct_pends [] hk hw hs)),
    fun hk hg hw hs => run_next_of_eq htime (regCmd_time rfl hg (altcntAct_pends [] hk hw hs)),
    fun hk hg hc hs => run_next_of_eq htime (regCmd_time rfl hg (timeCtlAct_stop [] hk hc hs)),
    fun hk hg hm hns => run_next_of_eq htime (regCmd_time rfl hg ?_),
    run_next _ htime, run_next _ htime, exec_alternateIncrementEnd htime,
    run_next _ htime, run_next _ htime, run_next _ htime,
    fun hg hv => run_next_of_eq htime (regCmd_time rfl hg (beaconCtlAct_arm m n.val hv)),
    fun hg => run_next_of_eq htime (regCmd_time rfl hg (beaconCtlAct_disarm m n.val)),
    exec_beaconEdge_fires htime, exec_beaconEdge_stepped htime, fun t => exec_beaconTrailingEdge htime,
    fun f t => exec_trigAccept htime, run_next _ htime⟩
  exact (timeCtlAct_step [] hk hm hns).trans (by rw [← timeSet_writtenKown m (timeCtlWord s.begin 1) s.begin]; rfl)

end Sys2Proof.Machine
end

section
/-!
PROOF. The recipe engine (RecipeCommandsComplete): when the rules of RCP_THR_n_CMD, RCP_LOAD_CNT and RCP_RESUME take a write, and what
the engine does at the instants of its own commands.
-/
namespace Sys2Proof.Machine

/-! ### The rules of the registers of the recipe engine -/

theorem actOf_thrCmd : actOf RCP_THR_CMD = thrCmdAct := rfl

theorem actOf_loadCnt : actOf RCP_LOAD_CNT = loadCntAct := rfl

theorem actOf_resume : actOf RCP_RESUME = resumeAct := rfl

/-- A granted write takes effect where the rule of its register, known by name, takes it. -/
theorem takesEffect_of_actOf {i : Instr} {bs : List Block} {act : Act} {m : Master} {r : Reg} {ix : List Nat} {w : Word}
    {s t : State} (hact : actOf r = act) (hl : Live bs s) (he : exec i s = run bs (regCmd act m r ix w) s)
    (hg : Granted m r ix w s.begin) (ha : act m ix w s.begin = .ok t) : TakesEffect i m r ix w s t := by
  subst hact
  exact takesEffect hl he hg ha

/-! ### Commands to a thread (04 R118) -/

/-- The effective mode is one in which a thread takes ABORT and CLEAR. -/
def threadsCommanded (s : State) : Prop :=
  s.effMode ≠ .dark ∧ s.effMode ≠ .seed ∧ s.effMode ≠ .keeper ∧ s.effMode ≠ .provision

/-- CMD and STEP of the word that starts a thread at `step`. -/
theorem of_thrStartWord (step : BitVec 13) :
    RCP_THR_CMD_CMD.of (BitVec.ofNat 32 (step.toNat * 2 ^ 16 + 1)) = 1 ∧
      RCP_THR_CMD_STEP.of (BitVec.ofNat 32 (step.toNat * 2 ^ 16 + 1)) = step.toNat := by
  have hstep := step.isLt
  simp only [Fld.of, bits, RCP_THR_CMD_CMD, RCP_THR_CMD_STEP, BitVec.toNat_ofNat, Nat.shiftRight_eq_div_pow]
  omega

section
variable {m : Master} {n : Nat} {w : Word} {s : State}

/-- In Follow only the leader's batch starts a thread. -/
theorem thrCmdAct_start (hw : RCP_THR_CMD_CMD.of w = 1) (hm : s.effMode = .run ∨ s.effMode = .trial)
    (hf : s.mode = .follow → masterId m = 18) (hs : startable s n = true) :
    thrCmdAct m [n] w s = .ok (s.queueCmd n (1, RCP_THR_CMD_STEP.of w)) := by
  rcases hm with hm | hm <;> simp +contextual [thrCmdAct, hw, hm, hs, hf]

/-- In the modes left, the rule's test of the mode passes. -/
theorem thrCmdAct_abort (hw : RCP_THR_CMD_CMD.of w = 2) (hm : threadsCommanded s) :
    thrCmdAct m [n] w s = .ok (s.queueCmd n (2, 0)) := by
  obtain ⟨hdark, hseed, hkeeper, hprovision⟩ := hm
  simp [thrCmdAct, hw]

theorem thrCmdAct_clear (hw : RCP_THR_CMD_CMD.of w = 3) (hm : threadsCommanded s)
    (ht : s.thrState n = thrEnded ∨ s.thrState n = thrFaulted) :
    thrCmdAct m [n] w s = .ok (s.queueCmd n (3, 0)) := by
  obtain ⟨hdark, hseed, hkeeper, hprovision⟩ := hm
  simp [thrCmdAct, hw, ht]

end

/-! ### Loads and resume requests (04 R126, R149) -/

section
variable {m : Master} {ix : List Nat} {s : State}

/-- A count written with GO sets GO. -/
theorem on_loadWord (count : BitVec 17) : RCP_LOAD_CNT_GO.on (BitVec.ofNat 32 (2 ^ 31 + count.toNat)) = true := by
  have hcount := count.isLt
  simp only [Fld.on, Fld.of, bits, RCP_LOAD_CNT_GO, BitVec.toNat_ofNat, Nat.shiftRight_eq_div_pow, decide_eq_true_eq]
  omega

/-- A load that checks is started: LOAD_STAT shows BUSY and no error. -/
theorem loadCntAct_starts {w : Word} (hbusy : s.isSet RCP_LOAD_STAT_BUSY = false) (hgo : RCP_LOAD_CNT_GO.on w = true)
    (hc : (loadCheck (s.store RCP_LOAD_CNT ix w)).1 = 0) :
    let u := (((s.store RCP_LOAD_CNT ix w).setReg RCP_LOAD_STAT 0).setFld RCP_LOAD_STAT_ERR 0).raise RCP_LOAD_STAT_BUSY
    loadCntAct m ix w s = .ok { u with rcp := { u.rcp with load := true } } := by
  simp only [loadCntAct, hbusy, hgo, hc, Bool.not_true, Bool.false_eq_true, if_false, if_true]
  rfl

theorem resumeAct_go {w : Word} (ht : RCP_RESUME_TWAIT.of w ≠ 0) (hm : s.effMode = .run) (hr : s.rcp.resume = none)
    (hgo : RCP_RESUME_GO.on w = true) : resumeAct m ix w s = .ok (resumeRequest (s.store RCP_RESUME ix w)) := by
  simp [resumeAct, ht, hm, hr, hgo]

/-- A resume is requested by a write that keeps TWAIT and AUTO as they stand at the command. -/
theorem exec_rcpResumeGo (h : Live [.rcp] s) : exec (.rcpResumeGo m) s = run [.rcp] (regCmd resumeAct m RCP_RESUME []
    (BitVec.ofNat 32 (s.begin.fld RCP_RESUME_TWAIT * 256 + s.begin.fld RCP_RESUME_AUTO * 2 + 1))) s := by
  show execRcpResumeGo m s = _
  exact (run_next _ h).trans (run_next _ h).symm

end

/-! ### The engine's own instants (04 R129, R136, R149) -/

/-- The least of some numbers, as a fold over none of them yet and over the first. -/
theorem foldl_least_some (ds : List Nat) (d : Nat) :
    ds.foldl (fun (b : Option Nat) x => some (min (b.getD x) x)) (some d) = some (ds.foldl min d) := by
  induction ds generalizing d with
  | nil => rfl
  | cons x ds ih => exact ih (min d x)

/-- The commit ticks that the PENDING threads have decided. -/
def pendingCommits (s : State) : List Nat :=
  (List.range 64).filterMap (fun k => if s.thrState k = thrPending then (s.thread k).dec.map (·.at_) else none)

section
variable {s : State} (h : Live [.rcp] s) (hrun : rcpRuns s.begin = true)
include h hrun

theorem exec_stepCommit {d : Nat} {ds : List Nat} (hc : pendingCommits s.begin = d :: ds) :
    exec .stepCommit s = .next (s.finish (rcpPhase1 (ds.foldl min d) (advanceTo (tickAt (ds.foldl min d)) s.begin))) := by
  have hleast : (pendingCommits s.begin).foldl (fun (b : Option Nat) x => some (min (b.getD x) x)) none =
      some (ds.foldl min d) := by
    rw [hc]
    exact (foldl_least_some ds (min d d)).trans (by rw [Nat.min_self])
  show execStepCommit s = _
  refine run_next_of_eq h ?_
  rw [pendingCommits] at hleast
  simp only [hrun, hleast, Bool.not_true, Bool.false_eq_true, if_false]

theorem exec_stepTimeout {n : Fin 64} (ht : s.begin.thrState n.val = thrRunning)
    (hto : hTomode (nth (s.begin.thread n.val).recs 0 0) ≠ 0)
    (hdbg : s.begin.effMode = .hold → s.begin.isSet RCP_CTL_DBGHOLD = false) :
    let t := s.begin.thread n.val
    let due := t.commit + 2 * ((hTmax (nth t.recs 0 0) : Int) - t.ofs).toNat
    let u := advanceTo (tickAt due) s.begin
    exec (.stepTimeout n) s = .next (s.finish (evalThread u (max due (u.tick + u.tick % 2)) u n.val)) := by
  have hgo : (decide (s.begin.effMode = .hold) && s.begin.isSet RCP_CTL_DBGHOLD) = false := by
    by_cases he : s.begin.effMode = .hold
    · rw [hdbg he, Bool.and_false]
    · rw [decide_eq_false he, Bool.false_and]
  show execStepTimeout n s = _
  refine run_next_of_eq h ?_
  simp only [ht, hto, hrun, hgo, ne_eq, not_true_eq_false, decide_false, Bool.not_true, Bool.or_self, Bool.false_eq_true,
    if_false]

theorem exec_resumeDecision (hr : s.begin.rcp.resume ≠ none) :
    let d := evenTick s.begin.now
    exec .resumeDecision s = .next (s.finish (resumeDue d (advanceTo (tickAt d) s.begin))) := by
  have hsome : s.begin.rcp.resume.isNone = false := by rwa [Option.isNone_eq_false_iff, Option.isSome_iff_ne_none]
  show execResumeDecision s = _
  exact run_next_of_eq h (by simp only [hsome, hrun, Bool.not_true, Bool.or_self, Bool.false_eq_true, if_false])

theorem exec_resumeTwaitExpiry {q : ResumeReq} (hr : s.begin.rcp.resume = some q) :
    let d := evenTick (q.from_ + s.begin.fld RCP_RESUME_TWAIT * secF)
    exec .resumeTwaitExpiry s = .next (s.finish (resumeDue d (advanceTo (tickAt d) s.begin))) := by
  show execResumeTwaitExpiry s = _
  exact run_next_of_eq h (by simp only [hr, hrun, Bool.not_true, Bool.false_eq_true, if_false])

end

/-- Settles O42: a clause per command; a granted write is judged by its register's rule, and the engine's own commands act at their
instant. -/
theorem recipeCommandsComplete : Obligations.RecipeCommandsComplete := by
  intro m n step count s hl b word load loaded resume runs t head timeUp commits
  have hrcp : Live [.rcp] s := hl.mono (by simp)
  obtain ⟨hcmd, hstep⟩ := of_thrStartWord step
  refine ⟨fun hg hm hf hs => takesEffect_of_actOf actOf_thrCmd hrcp rfl hg ?_,
    fun hg hm => takesEffect_of_actOf actOf_thrCmd hrcp rfl hg (thrCmdAct_abort (by decide) hm),
    fun hg hm ht => takesEffect_of_actOf actOf_thrCmd hrcp rfl hg (thrCmdAct_clear (by decide) hm ht),
    fun hg hbusy hc => takesEffect_of_actOf actOf_loadCnt hrcp rfl hg (loadCntAct_starts hbusy (on_loadWord count) hc),
    run_next loadDone hrcp, run_next journalWrite hl,
    fun d ds hrun hc => exec_stepCommit hrcp hrun hc,
    fun ht hto hrun hdbg => exec_stepTimeout hrcp hrun ht hto hdbg,
    fun hg ht hm hr hgo => takesEffect_of_actOf actOf_resume hrcp (exec_rcpResumeGo hrcp) hg (resumeAct_go ht hm hr hgo),
    fun hr hrun => exec_resumeDecision hrcp hrun hr,
    fun q hr hrun => exec_resumeTwaitExpiry hrcp hrun hr⟩
  exact (thrCmdAct_start hcmd hm hf hs).trans (by rw [hstep])

end Sys2Proof.Machine
end

section
/-!
PROOF. The loop engine and the Lens (LoopCommandsComplete): what the rules of LOOP_CMD and LENS_CH_c_CTL make of a command, and
what the engine does at the instants of its own commands.
-/
namespace Sys2Proof.Machine

/-! ### LOOP_CMD (05 R178, R182) -/

theorem actOf_loopCmd : actOf LOOP_CMD = loopCmdAct lensLostLoop := rfl

/-- The word of LOOP_CMD with GO, OP `op` and LOOP `n`. -/
def loopCmdWord (op n : Nat) : Word := BitVec.ofNat 32 (2 ^ 31 + op * 2 ^ 16 + n)

theorem of_loopCmdWord {op n : Nat} (hop : op < 4) (hn : n < 1024) :
    LOOP_CMD_GO.on (loopCmdWord op n) = true ∧ LOOP_CMD_OP.of (loopCmdWord op n) = op ∧
      LOOP_CMD_LOOP.of (loopCmdWord op n) = n := by
  simp only [Fld.on, Fld.of, bits, loopCmdWord, LOOP_CMD_GO, LOOP_CMD_OP, LOOP_CMD_LOOP, BitVec.toNat_ofNat,
    Nat.shiftRight_eq_div_pow, decide_eq_true_eq]
  omega

/-- What GO begins: the word is stored, and LOOP_CHK shows BUSY alone. -/
def checkBegun (w : Word) (s : State) : State := ((s.store LOOP_CMD [] w).setReg LOOP_CHK 0).raise LOOP_CHK_BUSY

section
variable {lost : Nat → State → State} {m : Master} {n op : Nat} {s : State}

/-- In Provision or Stop, and with no check running, GO is taken. -/
theorem loopCmdAct_go {w : Word} (hbusy : s.isSet LOOP_CHK_BUSY = false) (hm : s.effMode = .provision ∨ s.effMode = .stop)
    (hgo : LOOP_CMD_GO.on w = true) : loopCmdAct lost m [] w s =
      .ok (if LOOP_CMD_OP.of w = 2 then lost (LOOP_CMD_LOOP.of w) (unbindLoop (LOOP_CMD_LOOP.of w) (checkBegun w s))
        else checkBegun w s) := by
  have hmode : (decide (s.effMode ≠ .provision) && decide (s.effMode ≠ .stop)) = false := by
    rcases hm with hm | hm <;> rw [hm] <;> rfl
  simp only [loopCmdAct, hbusy, hmode, hgo, Bool.not_true, Bool.false_eq_true, if_false]
  rfl

/-- BIND and CHECK begin a check. -/
theorem loopCmdAct_checks (hop : op < 4) (hno : op ≠ 2) (hn : n < 1024) (hbusy : s.isSet LOOP_CHK_BUSY = false)
    (hm : s.effMode = .provision ∨ s.effMode = .stop) :
    loopCmdAct lost m [] (loopCmdWord op n) s = .ok (checkBegun (loopCmdWord op n) s) := by
  obtain ⟨hgo, hof, -⟩ := of_loopCmdWord hop hn
  rw [loopCmdAct_go hbusy hm hgo, hof, if_neg hno]

/-- UNBIND takes effect at once, and ends the captures of the loop. -/
theorem loopCmdAct_unbinds (hn : n < 1024) (hbusy : s.isSet LOOP_CHK_BUSY = false)
    (hm : s.effMode = .provision ∨ s.effMode = .stop) :
    loopCmdAct lost m [] (loopCmdWord 2 n) s = .ok (lost n (unbindLoop n (checkBegun (loopCmdWord 2 n) s))) := by
  obtain ⟨hgo, hof, hloop⟩ := of_loopCmdWord (op := 2) (by decide) hn
  rw [loopCmdAct_go hbusy hm hgo, hof, hloop, if_pos rfl]

end

/-! ### The engine's own instants (05 R159 to R163, R180) -/

/-- The earliest of some ticks. -/
def earliest (xs : List Nat) : Option Nat := xs.foldl (fun z x => some (min (z.getD x) x)) none

/-- The ends of the periods whose executions will not be complete then (R163): those that wait for their release, those in
progress, and those that wait for a slot. -/
def lateEnds (s : State) : List Nat :=
  (s.le.staged.filter (fun g => g.due ≤ g.last / 2900)).map (·.due) ++
    s.le.lanes.flatMap (fun l => (l.runs.filter (fun p => p.1.en && p.1.due * 2900 ≤ p.2)).map (·.1.due) ++
      (l.queue.filter (fun e => e.en && e.due * 2900 ≤ max l.free (eligibleAt e.start))).map (·.due))

section
variable {s : State} (h : Live [.loop] s)
include h

theorem exec_laneFrameStart (hw : s.begin.isSet LOOP_STAT_WAITFRAME = true) :
    let f := max 1 (s.begin.fld LOOP_FRAME_F)
    let t := ceilDiv (ceilDiv s.begin.now (tickAt 1)) f * f
    exec .laneFrameStart s = .next (s.finish (frameStart t (advanceTo (tickAt t) s.begin))) := by
  show execLaneFrameStart s = _
  exact run_next_of_eq h (if_pos hw)

theorem exec_loopPeriodStart {c : Fin 8} (hr : s.begin.isSet LOOP_STAT_RUNNING = true)
    (hp : s.begin.fld LOOP_CLS_PER_PER [c.val] ≠ 0) :
    let t := nextPeriod s.begin c.val (max (nth s.begin.le.latched c.val 0) s.begin.tick)
    exec (.loopPeriodStart c) s = .next (s.finish (latchClass t (advanceTo (tickAt t) s.begin) c.val)) := by
  show execLoopPeriodStart c s = _
  exact run_next_of_eq h (if_pos (by rw [hr, Bool.true_and]; exact decide_eq_true hp))

/-- A lane that has no execution in progress starts its next one, and then carries it to its end. -/
theorem exec_loopExecution {t l : Nat} (ht : nextEnd s.begin = some (t, l)) :
    let u := if (nth s.begin.le.lanes l {}).runs = [] then laneGo (t + 1) l 1 s.begin else s.begin
    exec .loopExecution s = .next (s.finish (laneDone (t + 1) l (advanceTo (slotEnd t) u))) := by
  show execLoopExecution s = _
  exact run_next_of_eq h (by simp only [ht, laneFinish, List.isEmpty_iff])

theorem exec_loopRelease {r : Nat} (hr : earliest (s.begin.le.staged.map releaseTick) = some r) :
    exec .loopRelease s = .next (s.finish (loopReleases r (advanceTo (tickAt r) s.begin))) := by
  rw [earliest, List.foldl_map] at hr
  show execLoopRelease s = _
  exact run_next_of_eq h (by simp only [hr])

theorem exec_loopDeadlineFault {r : Nat} (hr : earliest (lateEnds s.begin) = some r) :
    exec .loopDeadlineFault s = .next (s.finish (deadlines r (advanceTo (tickAt r) s.begin))) := by
  rw [earliest, lateEnds] at hr
  show execLoopDeadlineFault s = _
  exact run_next_of_eq h (by simp only [hr])

end

/-! ### Lens channels (06 R201, R202, R204) -/

/-- LENS lies outside the control plane, so that a granted write of its registers is made at once. -/
theorem regCmd_lensCtl {m : Master} {c : Nat} {w : Word} {s t : State} (hg : Granted m LENS_CH_CTL [c] w s)
    (ha : lensCtlAct m [c] w s = .ok t) : regCmd lensCtlAct m LENS_CH_CTL [c] w s = t.ack :=
  regCmd_granted rfl hg ha

section
variable (m : Master) (c : Nat) (s : State)

/-! Of the four bits of LENS_CH_c_CTL that act, the word of each command sets one. -/

theorem lensCtlAct_arm : lensCtlAct m [c] 1 s = .ok (lensArm c s) := rfl

theorem lensCtlAct_disarm : lensCtlAct m [c] 2 s = .ok (lensDisarm c s) := rfl

theorem lensCtlAct_force : lensCtlAct m [c] 4 s = .ok (lensTriggerGroup c s.now 2 s) := rfl

end

/-- Settles O43: a clause per command; a granted write is judged by its register's rule, and the engine's own commands act at
their instant. -/
theorem loopCommandsComplete : Obligations.LoopCommandsComplete := by
  intro m n c h s hl b word asked checking unbound class_ left f frame per soonest late does
  have hloop : Live [.loop] s := hl.mono (by simp)
  have hlens : Live [.lens] s := hl.mono (by simp)
  exact ⟨
    fun ⟨hg, hbusy, hm⟩ => takesEffect_of_actOf actOf_loopCmd hloop rfl hg
      (loopCmdAct_checks (op := 1) (by decide) (by decide) n.isLt hbusy hm),
    fun ⟨hg, hbusy, hm⟩ => takesEffect_of_actOf actOf_loopCmd hloop rfl hg (loopCmdAct_unbinds n.isLt hbusy hm),
    fun ⟨hg, hbusy, hm⟩ => takesEffect_of_actOf actOf_loopCmd hloop rfl hg
      (loopCmdAct_checks (op := 3) (by decide) (by decide) n.isLt hbusy hm),
    run_next loopCheckDone hloop,
    exec_laneFrameStart hloop,
    exec_loopPeriodStart hloop,
    fun t l => exec_loopExecution hloop,
    fun r => exec_loopRelease hloop,
    fun r => exec_loopDeadlineFault hloop,
    fun hg => run_next_of_eq hlens (regCmd_lensCtl hg (lensCtlAct_arm m h.val b)),
    fun hg => run_next_of_eq hlens (regCmd_lensCtl hg (lensCtlAct_disarm m h.val b)),
    fun hg => run_next_of_eq hlens (regCmd_lensCtl hg (lensCtlAct_force m h.val b))⟩

end Sys2Proof.Machine
end

section
/-!
PROOF. The RF front end (RfCommandsComplete): what a calibration block, the arc detector and the channels' own commands do, and when
the rule of RFA_CH_n_CALCTL takes a write.
-/
namespace Sys2Proof.Machine

/-- Samples over range raise OVRF (07 R208). -/
def rangeNoted (codes : List (BitVec 12)) (s : State) : State :=
  if codes.any overRange then s.raise RFA_STAT_OVRF else s

/-- Noting the range of samples takes no time. -/
@[simp] theorem now_rangeNoted (codes : List (BitVec 12)) (s : State) : (rangeNoted codes s).now = s.now := by
  unfold rangeNoted
  split
  · simp only [State.now, State.raise, State.setFld_tb]
  · rfl

/-! ### Calibration (07 R212 to R217) -/

/-- Channel `n` takes a block of samples that began `age` ago: the block and its residual are recorded. -/
def blockTaken (n : Nat) (codes : List (BitVec 12)) (age resid : Nat) (s : State) : State :=
  ((rangeNoted codes s).modRf n (fun c => { c with lastBlk := some (s.now - age) })).setFld RFA_CH_CALSTAT_RESID resid [n]

/-- A block that is too quiet, over range or too narrow does not qualify. -/
theorem qualifiedBlock_eq_false {codes : List (BitVec 12)}
    (h : loudBlock codes = false ∨ codes.any overRange = true ∨ spreadBlock codes = false) : qualifiedBlock codes = false := by
  rcases h with h | h | h <;> rw [qualifiedBlock, h]
  · rfl
  · rw [Bool.not_true, Bool.and_false, Bool.false_and]
  · exact Bool.and_false _

theorem qualifiedBlock_eq_true {codes : List (BitVec 12)} (hl : loudBlock codes = true) (ho : codes.any overRange = false)
    (hw : spreadBlock codes = true) : qualifiedBlock codes = true := by
  rw [qualifiedBlock, hl, ho, hw]
  rfl

/-- The feed-forward terms of channel `n` are renewed, where it runs and CALMODE is not BYPASS. -/
def fedForward (n : Nat) (s : State) : State :=
  if rfRuns s n = true then
    setFrozen n (if s.fld RFA_CH_CFG_CALMODE [n] = 2 then s
      else (drawEst s).2.modRf n (fun c => { c with ff := (drawEst s).1 }))
  else s

theorem actOf_calCtl : actOf RFA_CH_CALCTL = calCtlAct := rfl

section
variable (m : Master) (n : Nat) (s : State)

/-! Of the two bits of RFA_CH_n_CALCTL, the word of each command sets one. -/

theorem calCtlAct_restart : calCtlAct m [n] 2 s = .ok (loadTrim n s) := rfl

theorem calCtlAct_sample : calCtlAct m [n] 1 s =
    .ok ((s.lower RFA_CH_CALSTAT_SAMPLED [n]).modRf n (fun c => { c with sample := true })) := rfl

end

section
variable {n : Fin 4} {codes : List (BitVec 12)} {age : BitVec 32} {s : State} (h : Live [.rfa] s)
include h

/-- A running channel takes a block that begins no sooner than 32 µs after the block before it. -/
theorem exec_calBlock {errA errB : List Int} {resid : BitVec 8} (hrun : rfRuns s.begin n.val = true)
    (hsoon : (s.begin.rfCh n.val).lastBlk.any (fun t => s.begin.now - age.toNat < t + 32000 * nsF) = false) :
    let taken := blockTaken n.val codes age.toNat resid.toNat s.begin
    exec (.calBlock n codes age errA errB resid) s = .next (s.finish
      (if qualifiedBlock codes then calQualified n.val (blockError errA errB) taken else setFrozen n.val taken)) := by
  show execCalBlock n codes age errA errB resid s = _
  refine run_next_of_eq h ?_
  simp only [hrun, hsoon, Bool.not_true, Bool.or_self, Bool.false_eq_true, if_false]
  rfl

theorem exec_calFeedforward : exec .calFeedforward s = .next (s.finish
    ((List.range 4).foldl (fun s n => fedForward n s) s.begin)) := by
  show execCalFeedforward s = _
  exact run_next _ h

/-- The eight slices' estimates are copied to their registers, and SAMPLED shows it. -/
theorem exec_calSampleDone (hs : (s.begin.rfCh n.val).sample = true) :
    let est := fun (q i : Nat) => estReg (nth (s.begin.rfCh n.val).est (4 * q + i) 0)
    let u := (List.range 8).foldl (fun s q =>
      (s.setReg RFA_CH_EST_A (BitVec.ofNat 32 (est q 0 * 65536 + est q 1)) [n.val, q]).setReg RFA_CH_EST_B
        (BitVec.ofNat 32 (est q 2 * 65536 + est q 3)) [n.val, q]) s.begin
    exec (.calSampleDone n) s = .next (s.finish
      ((u.raise RFA_CH_CALSTAT_SAMPLED [n.val]).modRf n.val (fun c => { c with sample := false }))) := by
  show execCalSampleDone n s = _
  exact run_next_of_eq h (if_pos hs)

/-! ### Tones (07 R210, R219) -/

theorem exec_toneItem {phase : List (BitVec 32)} (hd : s.begin.domOn 7 = true)
    (hen : s.begin.isSet RFA_CH_CFG_EN [n.val] = true) :
    exec (.toneItem n codes phase) s = .next (s.finish
      (toneDue n.val (toneSums s.begin n.val codes phase) (codes.any overRange) s.begin)) := by
  show execToneItem n codes phase s = _
  exact run_next_of_eq h (if_pos (by rw [hd, hen]; rfl))

theorem exec_rfChannelDisable (he : (s.begin.rfCh n.val).ends = true) (hd : s.begin.domOn 7 = true) :
    exec (.rfChannelDisable n) s = .next (s.finish (lastTone n.val s.begin)) := by
  show execRfChannelDisable n s = _
  exact run_next_of_eq h (if_pos (by rw [he, hd]; rfl))

end

/-! ### Arcs (07 R222, R223) -/

/-- The reference of the arc detector of channel `n`, where a command says what it has become. -/
def arcReferenced (n : Nat) (ref : Option (BitVec 28)) (s : State) : State :=
  match ref with
  | some r => s.modRf n (fun c => { c with arcRef := some r.toNat })
  | none => s

@[simp] theorem now_arcReferenced (n : Nat) (ref : Option (BitVec 28)) (s : State) :
    (arcReferenced n ref s).now = s.now := by
  cases ref <;> rfl

section
variable {n : Fin 4} {s : State} (h : Live [.rfa] s)
include h

theorem exec_arcAssert {ref : Option (BitVec 28)} {codes : List (BitVec 12)} {age : BitVec 32}
    (hrun : rfRuns s.begin n.val = true) :
    let heard := rangeNoted codes (arcReferenced n.val ref s.begin)
    let es := envelope codes.length (corrected heard n.val codes)
    exec (.arcAssert n ref codes age) s = .next (s.finish
      ((es.zipIdx.map (fun p => (p.1, s.begin.now - age.toNat - (es.length - 1 - p.2) * 4 * nsF))).foldl
        (arcBlock n.val) heard)) := by
  intro heard es
  have hnow : heard.now = s.begin.now := (now_rangeNoted _ _).trans (now_arcReferenced _ _ _)
  show execArcAssert n ref codes age s = _
  refine run_next_of_eq h ?_
  rw [← hnow]
  simp only [hrun, Bool.not_true, Bool.false_eq_true, if_false]
  rfl

/-- The line of an arc falls HOLD × 100 ns after its condition last held. -/
theorem exec_arcDeassert (ha : (s.begin.rfCh n.val).arc = true) (hc : s.begin.clkPresent 2 = true) :
    exec (.arcDeassert n) s = .next (s.finish (arcLine n.val false
      (advanceTo ((s.begin.rfCh n.val).arcHold + s.begin.fld RFA_CH_ARCOUT_HOLD [n.val] * 100 * nsF) s.begin))) := by
  show execArcDeassert n s = _
  exact run_next_of_eq h (if_pos (by rw [ha, hc]; rfl))

end

section
variable {n e t : Nat} {s : State} (ha : (s.rfCh n).arc = true)
include ha

/-- While the line is asserted, a block that meets a condition prolongs it. -/
theorem arcBlock_prolongs (hx : (arcConds s n e ((s.rfCh n).arcRef.getD (e * 65536))).1 = true ∨
    (arcConds s n e ((s.rfCh n).arcRef.getD (e * 65536))).2 = true) :
    arcBlock n s (e, t) = s.modRf n (fun c => { c with arcHold := t }) := by
  simp only [arcBlock, ha, Bool.or_eq_true, if_pos hx, if_true]

/-- While the line is asserted, a block that meets none changes nothing: the reference is frozen. -/
theorem arcBlock_frozen (hd : (arcConds s n e ((s.rfCh n).arcRef.getD (e * 65536))).1 = false)
    (hr : (arcConds s n e ((s.rfCh n).arcRef.getD (e * 65536))).2 = false) : arcBlock n s (e, t) = s := by
  simp only [arcBlock, ha, hd, hr, Bool.or_self, Bool.false_eq_true, if_false, if_true]

end

/-- Settles O44: a clause per command; a write of CALCTL is judged by its rule, and a block of samples by whether it qualifies or
meets a condition of the arc detector. -/
theorem rfCommandsComplete : Obligations.RfCommandsComplete := by
  intro m n codes age errA errB resid phase ref s hl b c on ovr over_ at_ soon block judged est heard es
  have hrfa : Live [.rfa] s := hl.mono (by simp)
  refine ⟨fun hon hsoon hq => (exec_calBlock hrfa hon hsoon).trans (by rw [qualifiedBlock_eq_false hq]; rfl),
    fun hon hsoon hloud hovr hspread =>
      (exec_calBlock hrfa hon hsoon).trans (by rw [qualifiedBlock_eq_true hloud hovr hspread]; rfl),
    exec_calFeedforward hrfa,
    fun hg => takesEffect_of_actOf actOf_calCtl hrfa rfl hg (calCtlAct_restart m n.val b),
    fun hg => takesEffect_of_actOf actOf_calCtl hrfa rfl hg (calCtlAct_sample m n.val b),
    exec_calSampleDone hrfa, exec_toneItem hrfa, exec_rfChannelDisable hrfa,
    fun hon => ?_,
    fun e t => arcBlock_prolongs, fun e t => arcBlock_frozen, exec_arcDeassert hrfa⟩
  have hheard : rangeNoted codes (arcReferenced n.val ref b) = heard := by cases ref <;> rfl
  rw [exec_arcAssert hrfa hon, hheard]

end Sys2Proof.Machine
end

section
/-!
PROOF. The acquisition engine (AcquisitionCommandsComplete): when the rules of ACQ_SET_s_CTL and ACQ_SET_s_REL take a write, what a
comparator makes of a sample, and what the engine's own commands do.
-/
namespace Sys2Proof.Machine

/-! ### Commands to a set (07 R228, R231, R233, R240) -/

/-- ACQ lies outside the control plane, so that a granted write of its registers is made at once. -/
theorem regCmd_acq {act : Act} {m : Master} {r : Reg} {ix : List Nat} {w : Word} {s t : State} (hb : r.blk = .acq)
    (hg : Granted m r ix w s) (ha : act m ix w s = .ok t) : regCmd act m r ix w s = t.ack :=
  regCmd_granted (by rw [hb]; rfl) hg ha

/-- The oldest `n` complete segments of set `k` become free. -/
def segmentsFreed (k n : Nat) (s : State) : State :=
  (((s.acqSet k).order.take n).foldl (fun u i => u.modDesc k i (fun _ => {})) s).modAcq k
    (fun x => { x with order := x.order.drop n })

/-- COUNT of the word that releases `count` segments. -/
theorem of_acqRelWord (count : BitVec 15) : ACQ_SET_REL_COUNT.of (BitVec.ofNat 32 count.toNat) = count.toNat := by
  have hcount := count.isLt
  simp only [Fld.of, bits, ACQ_SET_REL_COUNT, BitVec.toNat_ofNat, Nat.shiftRight_eq_div_pow]
  omega

section
variable (m : Master) {k : Nat} {s : State}

/-! Of the five bits of ACQ_SET_s_CTL, the word of each command sets one. -/

theorem acqCtlAct_load (hm : acqModeOk s = true) : acqCtlAct m [k] 1 s = .ok (acqLoad k s) :=
  if_neg (by simp [hm])

/-- Only a LOADED set unloads. -/
theorem acqCtlAct_unload (hs : s.acqState k = 1) : acqCtlAct m [k] 2 s = .ok (acqUnload k s) :=
  if_neg (show ¬ decide (s.acqState k ≠ 1) = true by simp [hs])

theorem acqCtlAct_arm (hm : acqModeOk s = true) : acqCtlAct m [k] 4 s = .ok (acqArm k s) :=
  if_neg (by simp [hm])

theorem acqCtlAct_disarm : acqCtlAct m [k] 8 s = .ok (acqDisarm k s) := rfl

theorem acqCtlAct_force : acqCtlAct m [k] 16 s = .ok (acqSync (acqTrigger 64 k s.now true s)) := rfl

/-- No more segments are released than are complete; a set in WAITFREE arms again. -/
theorem acqRelAct_frees {w : Word} {n : Nat} (hw : ACQ_SET_REL_COUNT.of w = n) (hn : n ≤ (s.acqSet k).order.length) :
    let freed := segmentsFreed k n s
    acqRelAct m [k] w s = .ok (acqSync (if n ≠ 0 && freed.acqState k = 3 then
      freed.modAcq k (fun x => { x with rearm := true }) else freed)) := by
  subst hw
  exact if_neg (Nat.not_lt.2 hn)

end

/-- The block takes the recipe engine's oldest arm token and arms the set that it names. -/
theorem exec_acqArmToken {c i : Nat} {s t : State} (h : Live [.acq] s) (hp : s.begin.popToken 24 = some (.arm c i, t))
    (hm : acqModeOk t = true) (hc : acqActionCode t c = 0) :
    exec .acqArmToken s = .next (s.finish (rcpOutcome i 0 (acqArm c t))) := by
  show execAcqArmToken s = _
  exact run_next_of_eq h (by simp only [hp, hm, hc, if_true])

/-! ### Comparators (07 R233) -/

/-- What the comparator of set `k` remembers of a sample `x`: the sample, and whether its condition was left. -/
def sampleSeen (k : Nat) (x : Int) (s : State) : State :=
  let met := cmpMet s k (s.acqSet k).hist x
  s.modAcq k (fun y => { y with hist := (x :: y.hist).take (s.fld ACQ_SET_TRG_W [k]),
                                away := if met = none then y.away else decide (met = some false) })

/-- A sample triggers where it meets the condition and the condition was left before it. -/
theorem cmpTake_eq (k : Nat) (s : State) (x : Int × Nat) :
    cmpTake k s x = if cmpMet s k (s.acqSet k).hist x.1 = some true ∧ (s.acqSet k).away = true then
      acqTrigger 64 k x.2 false (sampleSeen k x.1 s) else sampleSeen k x.1 s := by
  dsimp only [cmpTake, sampleSeen]
  generalize cmpMet s k (s.acqSet k).hist x.1 = met
  rcases met with _ | _ | _ <;> simp

section
variable {k : Nat} {s : State} {x : Int × Nat}

theorem cmpTake_unmet (h : cmpMet s k (s.acqSet k).hist x.1 ≠ some true) : cmpTake k s x = sampleSeen k x.1 s := by
  rw [cmpTake_eq, if_neg (fun hc => h hc.1)]

theorem cmpTake_not_away (h : (s.acqSet k).away = false) : cmpTake k s x = sampleSeen k x.1 s := by
  rw [cmpTake_eq, if_neg (fun hc => Bool.false_ne_true (h.symm.trans hc.2))]

theorem cmpTake_triggers (hm : cmpMet s k (s.acqSet k).hist x.1 = some true) (ha : (s.acqSet k).away = true) :
    cmpTake k s x = acqTrigger 64 k x.2 false (sampleSeen k x.1 s) := by
  rw [cmpTake_eq, if_pos ⟨hm, ha⟩]

end

section
variable {k : Fin 64} {s : State} (h : Live [.acq] s)
include h

/-- Sources 3 to 6 are the comparators. -/
theorem exec_acqTrigger {feed : CmpFeed} (hlo : 3 ≤ s.begin.fld ACQ_SET_TRG_SRC [k.val])
    (hhi : s.begin.fld ACQ_SET_TRG_SRC [k.val] ≤ 6) (hst : 2 ≤ s.begin.acqState k.val) (hc : s.begin.clkPresent 2 = true) :
    let vs := cmpValues s.begin k.val feed.feed
    let spacing := sampleStep s.begin k.val (s.begin.fld ACQ_SET_TRG_CSTR [k.val])
    exec (.acqTrigger k feed) s = .next (s.finish (acqSync
      ((vs.zipIdx.map (fun p => (p.1, s.begin.now - feed.age.toNat - (vs.length - 1 - p.2) * spacing))).foldl
        (cmpTake k.val) s.begin))) := by
  show execAcqTrigger k feed s = _
  refine run_next_of_eq h (if_neg ?_)
  simp only [hc, Bool.or_eq_true, decide_eq_true_eq, Bool.not_true, Bool.false_eq_true, or_false]
  omega

end

/-! ### Segments (07 R230, R232, R237) -/

/-- The descriptor found in a state is in that state. -/
theorem descIn_st {k i : Nat} {s : State} {st : DescState} (h : descIn s k st = some i) :
    (nth (s.acqSet k).descs i {}).st = st := by
  obtain ⟨hi, hst, -⟩ := List.findIdx?_eq_some_iff_getElem.1 h
  rw [nth, List.getElem?_eq_getElem hi, Option.getD_some]
  exact of_decide_eq_true hst

/-- A filling segment takes no frame after its last one, with which it completes. -/
theorem takeFrames_filling {k i : Nat} (fs : List (List Byte)) {s : State}
    (h : (nth (s.acqSet k).descs i {}).st = .filling) :
    let d := nth (s.acqSet k).descs i {}
    let gs := fs.take (lastFrame s k d - d.frames)
    let n := d.frames + gs.length
    let z := (writeFrames k i d.frames gs s).modDesc k i (fun d => { d with frames := n })
    let u := advanceTo (sampleInstant z k d.armedAt n 0) z
    takeFrames k i fs s = if lastFrame u k d ≤ n then completeSegment k false false u else u := by
  simp only [takeFrames, h, if_true, decide_true, Bool.true_and, decide_eq_true_eq]

section
variable {k : Fin 64} {s : State} (h : Live [.acq] s)
include h

/-- The filling segment of a set, or else its armed one, takes the frames of the set's streams. -/
theorem exec_segmentComplete {feeds : List StreamFeed} {i : Nat} (hc : s.begin.clkPresent 2 = true)
    (hd : (descIn s.begin k.val .filling).orElse (fun _ => descIn s.begin k.val .armed) = some i) :
    exec (.segmentComplete k feeds) s = .next (s.finish
      (takeFrames k.val i (streamFrames s.begin k.val feeds) s.begin)) := by
  show execSegmentComplete k feeds s = _
  exact run_next_of_eq h (by simp only [hc, hd, Bool.not_true, Bool.false_eq_true, if_false])

section
variable (hr : (s.begin.acqSet k.val).rearm = true) (hc : s.begin.clkPresent 2 = true)
include hr hc

/-- After a DISARM, or with its captures made, a set ends in LOADED. -/
theorem exec_segmentRearm_ends
    (he : (s.begin.acqSet k.val).ending = true ∨
      (s.begin.fld ACQ_SET_PRE_NCAP [k.val] ≠ 0 ∧ s.begin.fld ACQ_SET_PRE_NCAP [k.val] ≤ (s.begin.acqSet k.val).ncap)) :
    exec (.segmentRearm k) s = .next (s.finish
      ((s.begin.modAcq k.val (fun x => { x with ending := false, rearm := false })).setFld ACQ_SET_STAT_STATE 1 [k.val])) := by
  show execSegmentRearm k s = _
  refine run_next_of_eq h ?_
  simp only [hr, hc, Bool.not_true, Bool.or_self, Bool.false_eq_true, if_false, Bool.or_eq_true, Bool.and_eq_true,
    decide_eq_true_eq, if_pos he]

theorem exec_segmentRearm_arms (he : (s.begin.acqSet k.val).ending = false)
    (hn : s.begin.fld ACQ_SET_PRE_NCAP [k.val] = 0 ∨
      (s.begin.acqSet k.val).ncap < s.begin.fld ACQ_SET_PRE_NCAP [k.val]) :
    exec (.segmentRearm k) s = .next (s.finish (acqSync (armSegment k.val s.begin))) := by
  have hno : ¬ (s.begin.fld ACQ_SET_PRE_NCAP [k.val] ≠ 0 ∧
      s.begin.fld ACQ_SET_PRE_NCAP [k.val] ≤ (s.begin.acqSet k.val).ncap) := by omega
  show execSegmentRearm k s = _
  refine run_next_of_eq h ?_
  simp only [hr, hc, he, Bool.not_true, Bool.or_self, Bool.false_or, Bool.false_eq_true, if_false, Bool.and_eq_true,
    decide_eq_true_eq, if_neg hno]

end

/-- A running set whose queue overflows completes its segment as truncated and reports it. -/
theorem exec_acqQueueOverflow (hs : 2 ≤ s.begin.acqState k.val) : exec (.acqQueueOverflow k) s = .next (s.finish
    (((completeSegment k.val true false s.begin).raise ACQ_STAT_OVF).emitUnit 6 .acq k.val ACQ_STAT [])) := by
  show execAcqQueueOverflow k s = _
  exact run_next_of_eq h (if_pos hs)

end

/-- Settles O45: a clause per command; a granted write is judged by its register's rule, and a segment that fills is known by the
state of its descriptor. -/
theorem acquisitionCommandsComplete : Obligations.AcquisitionCommandsComplete := by
  intro m feed k feeds count s hl b x ncap vs spacing freed
  exact ⟨fun hg hm _ => run_next_of_eq hl (regCmd_acq rfl hg (acqCtlAct_load m hm)),
    fun hg hs => run_next_of_eq hl (regCmd_acq rfl hg (acqCtlAct_unload m hs)),
    fun hg hm _ => run_next_of_eq hl (regCmd_acq rfl hg (acqCtlAct_arm m hm)),
    fun hg _ => run_next_of_eq hl (regCmd_acq rfl hg (acqCtlAct_disarm m)),
    fun hg _ => run_next_of_eq hl (regCmd_acq rfl hg (acqCtlAct_force m)),
    fun c i t => exec_acqArmToken hl,
    exec_acqTrigger hl,
    fun y => ⟨cmpTake_unmet, fun _ => cmpTake_not_away, cmpTake_triggers⟩,
    fun i hc hd => (exec_segmentComplete hl hc (by rw [hd]; rfl)).trans
      (congrArg (fun t => Host.Outcome.next (s.finish t)) (takeFrames_filling _ (descIn_st hd))),
    fun i hc hf hd => exec_segmentComplete hl hc (by rw [hf, hd]; rfl),
    exec_segmentRearm_ends hl,
    exec_segmentRearm_arms hl,
    fun hg hn => run_next_of_eq hl (regCmd_acq rfl hg (acqRelAct_frees m (of_acqRelWord count) hn)),
    exec_acqQueueOverflow hl⟩

end Sys2Proof.Machine
end

section
/-!
PROOF. Precision analog inputs and outputs (AnalogCommandsComplete): when the rules of SAR_CONV_c_CTL, SAR_TDAC_t_REQ and
SAR_DAC_d_CODE take a write, and what a trigger, the end of a conversion and the end of a diagnosis do.
-/
namespace Sys2Proof.Machine

/-! ### The rules of the registers of the converters and DACs -/

theorem actOf_sarCtl : actOf SAR_CONV_CTL = sarCtlAct := rfl

theorem actOf_diagReq : actOf SAR_TDAC_REQ = diagReqAct := rfl

theorem actOf_dacCode : actOf SAR_DAC_CODE = dacCodeAct := rfl

/-! ### Scan triggers (08 R248, R249) -/

/-- A write of SWTRIG triggers a scan whatever SRC selects. -/
theorem sarCtlAct_swtrig (m : Master) (c : Nat) (s : State) : sarCtlAct m [c] 1 s = .ok (sarTrigger c s.now s) := rfl

section
variable {c : Fin 32} {s : State} (h : Live [.sar] s)
include h

/-- Source 1 triggers at DELAY after the next base tick that satisfies PH and DIV. -/
theorem exec_scanTrigger_tick (hrun : sarRuns s.begin = true) (hsrc : s.begin.fld SAR_CONV_TRG_SRC [c.val] = 1) :
    let n := nextTickTrig s.begin c.val
    let t := tickAt n + s.begin.fld SAR_CONV_TRG_DELAY [c.val] * nsF
    exec (.scanTrigger c) s = .next (s.finish
      (sarTrigger c.val t ((advanceTo t s.begin).modConv c.val (fun x => { x with trigTick := some n })))) := by
  show execScanTrigger c s = _
  exact run_next_of_eq h (by simp only [hrun, hsrc, Bool.not_true, Bool.false_eq_true, if_false])

/-- Source 4 triggers at once where no scan is in progress. -/
theorem exec_scanTrigger_continuous (hrun : sarRuns s.begin = true) (hsrc : s.begin.fld SAR_CONV_TRG_SRC [c.val] = 4)
    (hidle : (s.begin.sarConv c.val).busy = false) :
    exec (.scanTrigger c) s = .next (s.finish (sarTrigger c.val s.begin.now s.begin)) := by
  show execScanTrigger c s = _
  exact run_next_of_eq h (by simp only [hrun, hsrc, hidle, Bool.not_true, Bool.false_eq_true, if_false])

/-- Sources 2 and 3 fire with the compare and the Beacon edge themselves (log 215), running or not. -/
theorem exec_scanTrigger_elsewhere
    (hsrc : s.begin.fld SAR_CONV_TRG_SRC [c.val] = 2 ∨ s.begin.fld SAR_CONV_TRG_SRC [c.val] = 3) :
    exec (.scanTrigger c) s = .next (s.finish s.begin) := by
  show execScanTrigger c s = _
  refine run_next_of_eq h ?_
  rcases hsrc with hsrc | hsrc <;> simp only [hsrc, ite_self]

end

/-! ### Conversions (08 R246, R247, R251) -/

/-- The range of the codes of a conversion: a pair's are signed. -/
def codeRange (pair : Bool) : Int × Int := (if pair then -32768 else 0, if pair then 32767 else 65535)

/-- The conversion `j` of converter `c` ends with the level `raw`: time passes to the end of its clock 32, the code is limited to
its range, and its item takes a place in the converter's queue or is lost. -/
def conversionEnded (c : Nat) (j : Nat × Bool) (raw : Int) (s : State) : State :=
  let lo := (codeRange j.2).1
  let hi := (codeRange j.2).2
  let code := max lo (min hi raw)
  let start := (s.sarConv c).start + (s.sarConv c).done * usF
  let u := ((advanceTo (start + usF) s).incr SAR_CONVTOT_COUNT).modConv c
    (fun x => { x with done := x.done + 1, codes := x.codes ++ [(j.1, code)] })
  sarStatus c (sarItem c j.1 code (code = lo || code = hi) j.2 (start + 8 * sarClk) (start + usF) u)

/-- The last conversion of a scan without a diagnosis ends the scan. -/
theorem exec_conversionComplete {c : Fin 32} {raw : Int} {j : Nat × Bool} {rest : List (Nat × Bool)} {s : State}
    (h : Live [.sar] s) (hbusy : (s.begin.sarConv c.val).busy = true)
    (hjobs : (s.begin.sarConv c.val).jobs.drop (s.begin.sarConv c.val).done = j :: rest) :
    exec (.conversionComplete c raw) s = .next (s.finish
      (if rest = [] ∧ (s.begin.sarConv c.val).diag = none then sarEnd c.val (conversionEnded c.val j raw s.begin)
        else conversionEnded c.val j raw s.begin)) := by
  show execConversionComplete c raw s = _
  refine run_next_of_eq h ?_
  simp only [hbusy, hjobs, Bool.and_eq_true, List.isEmpty_iff, Option.isNone_iff_eq_none]
  rfl

/-! ### Path diagnosis (08 R254, R256, R257) -/

/-- The word of SAR_TDAC_t_REQ with GO that asks for the checks `chk` at position `pos` of converter `conv` of the test bus. -/
def diagWord (conv : Fin 8) (pos : Fin 4) (chk : BitVec 3) : Word :=
  BitVec.ofNat 32 (2 ^ 31 + chk.toNat * 256 + pos.val * 16 + conv.val)

theorem of_diagWord (conv : Fin 8) (pos : Fin 4) (chk : BitVec 3) :
    SAR_TDAC_REQ_GO.on (diagWord conv pos chk) = true ∧ SAR_TDAC_REQ_CONV.of (diagWord conv pos chk) = conv.val ∧
      SAR_TDAC_REQ_POS.of (diagWord conv pos chk) = pos.val ∧ SAR_TDAC_REQ_CHK.of (diagWord conv pos chk) = chk.toNat := by
  have hchk := chk.isLt
  simp only [Fld.on, Fld.of, bits, diagWord, SAR_TDAC_REQ_GO, SAR_TDAC_REQ_CONV, SAR_TDAC_REQ_POS, SAR_TDAC_REQ_CHK,
    BitVec.toNat_ofNat, Nat.shiftRight_eq_div_pow, decide_eq_true_eq]
  omega

/-- The request `q`, asked for by word `w`, is pending on test bus `t`: RES is cleared apart from ERR. -/
def diagPending (t : Nat) (w : Word) (q : DiagReq) (s : State) : State :=
  let asked := (s.store SAR_TDAC_REQ [t] w).raise SAR_TDAC_REQ_PEND [t]
  let cleared := (asked.setReg SAR_TDAC_RES 0 [t]).setFld SAR_TDAC_RES_ERR (asked.fld SAR_TDAC_RES_ERR [t]) [t]
  { cleared with sar := { cleared.sar with tdac := modNth cleared.sar.tdac t (fun _ => some q) } }

/-- A request that R254 does not refuse is pending until the converter's next scan. -/
theorem diagReqAct_accepts (m : Master) {t : Nat} {conv : Fin 8} {pos : Fin 4} {chk : BitVec 3} {s : State}
    (he : diagErr s t conv.val pos.val chk.toNat = 0) :
    diagReqAct m [t] (diagWord conv pos chk) s = .ok (diagPending t (diagWord conv pos chk)
      { conv := conv.val, pos := pos.val, chk := chk.toNat, started := false } s) := by
  obtain ⟨hgo, hconv, hpos, hchk⟩ := of_diagWord conv pos chk
  simp only [diagReqAct, hgo, hconv, hpos, hchk, List.headD_cons, he, Bool.not_true, Bool.false_eq_true, ne_eq,
    not_true_eq_false, if_false]
  rfl

/-- The last diagnostic conversion of the request on a test bus judges it. -/
theorem exec_diagComplete {t : Fin 4} {d1 m1 d2 m2 i1 i2 np nm : BitVec 16} {q : DiagReq} {s : State} (h : Live [.sar] s)
    (hq : nth s.begin.sar.tdac t.val none = some q) (he : diagEnds s.begin t.val q = true) :
    exec (.diagComplete t d1 m1 d2 m2 i1 i2 np nm) s = .next (s.finish
      (diagJudge t.val q d1 m1 d2 m2 i1 i2 np nm s.begin)) := by
  show execDiagComplete t d1 m1 d2 m2 i1 i2 np nm s = _
  exact run_next_of_eq h (by simp only [hq, he, if_true])

/-! ### Output DACs (08 R259, R261) -/

theorem of_dacCodeWord (code : BitVec 16) : SAR_DAC_CODE_CODE.of (BitVec.ofNat 32 code.toNat) = code.toNat := by
  have hcode := code.isLt
  simp only [Fld.of, bits, SAR_DAC_CODE_CODE, BitVec.toNat_ofNat, Nat.shiftRight_eq_div_pow]
  omega

/-- A code is taken but in Safe while SAFECODE is in force. -/
theorem dacCodeAct_puts (m : Master) {d : Nat} {w : Word} {s : State}
    (hsafe : s.effMode = .safe → s.isSet SAR_DAC_CFG_SAFEACT [d] = false) :
    dacCodeAct m [d] w s = .ok (dacPut d (SAR_DAC_CODE_CODE.of w) 100 false s) := by
  refine if_neg fun hrefused => ?_
  obtain ⟨hm, hact⟩ := Bool.and_eq_true_iff.1 hrefused
  exact Bool.false_ne_true ((hsafe (of_decide_eq_true hm)).symm.trans hact)

/-- Settles O46: a clause per command; a granted write is judged by its register's rule, a trigger by its source, and a conversion
or a diagnosis by the scan in progress. -/
theorem analogCommandsComplete : Obligations.AnalogCommandsComplete := by
  intro m c raw t conv pos chk d1 m1 d2 m2 i1 i2 np nm d code s hl b x src next at_ word asked cleared q
  exact ⟨exec_scanTrigger_tick hl,
    exec_scanTrigger_continuous hl,
    exec_scanTrigger_elsewhere hl,
    fun hg => takesEffect_of_actOf actOf_sarCtl hl rfl hg (sarCtlAct_swtrig m c.val b),
    fun j rest => exec_conversionComplete hl,
    fun hg he => takesEffect_of_actOf actOf_diagReq hl rfl hg (diagReqAct_accepts m he),
    fun r => exec_diagComplete hl,
    fun hg hsafe => takesEffect_of_actOf actOf_dacCode hl rfl hg
      ((dacCodeAct_puts m hsafe).trans (by rw [of_dacCodeWord])),
    run_next (dacLoad d.val) hl⟩

end Sys2Proof.Machine
end

section
/-!
PROOF. Remote I/O (RemoteCommandsComplete): what the rule of RIO_Pp_CTL makes of the word of each command, what becomes of a received
frame, and what a port does at its own instants.
-/
namespace Sys2Proof.Machine

theorem actOf_rioCtl : actOf RIO_P_CTL = rioCtlAct := rfl

/-! ### Commands to a port (09 R269, R275) -/

section
variable (m : Master) {p : Nat} {s : State}

/-- A word that keeps the link enabled, where nothing in it is refused: STOP, then DISC, then START. -/
theorem rioCtlAct_enabled {w : Word} {stop disc start : Bool} (hen : RIO_P_CTL_EN.on w = true)
    (hstop : RIO_P_CTL_STOP.on w = stop) (hdisc : RIO_P_CTL_DISC.on w = disc) (hstart : RIO_P_CTL_START.on w = start)
    (hm : disc = true ∨ start = true → rioMode s = true) (hisl : start = true → 2 ≤ p → islPorts s = false) :
    rioCtlAct m [p] w s = .ok (portEnded p
      (let stored := s.store RIO_P_CTL [p] w
       let stopped := if stop then rioStop p stored else stored
       let discovering := if disc then rioDisc p stopped else stopped
       if start then rioStart p discovering else discovering)) := by
  have hmode : ((disc || start) && !rioMode s) = false := by
    rw [Bool.and_eq_false_imp, Bool.or_eq_true]
    exact fun h => by rw [hm h, Bool.not_true]
  have hport : (start && decide (2 ≤ p) && islPorts s) = false := by
    rw [Bool.and_eq_false_imp, Bool.and_eq_true, decide_eq_true_eq]
    exact fun h => hisl h.1 h.2
  simp only [rioCtlAct, List.headD_cons, hen, hstop, hdisc, hstart, hmode, Bool.false_eq_true, if_false, if_true]
  exact if_neg (Bool.eq_false_iff.1 hport)

/-! Beside EN the word of each command sets one bit that acts. -/

theorem rioCtlAct_disc (hm : rioMode s = true) :
    rioCtlAct m [p] 3 s = .ok (portEnded p (rioDisc p (s.store RIO_P_CTL [p] 3))) := by
  simpa only [Bool.false_eq_true, if_false, if_true] using
    rioCtlAct_enabled m (w := 3) (stop := false) (disc := true) (start := false) rfl rfl rfl rfl (fun _ => hm) nofun

/-- Ports 2 and 3 start where the strap leaves them to the device. -/
theorem rioCtlAct_start (hm : rioMode s = true) (hisl : 2 ≤ p → islPorts s = false) :
    rioCtlAct m [p] 5 s = .ok (portEnded p (rioStart p (s.store RIO_P_CTL [p] 5))) := by
  simpa only [Bool.false_eq_true, if_false, if_true] using
    rioCtlAct_enabled m (w := 5) (stop := false) (disc := false) (start := true) rfl rfl rfl rfl (fun _ => hm) (fun _ => hisl)

/-- A port stops in every mode. -/
theorem rioCtlAct_stop : rioCtlAct m [p] 9 s = .ok (portEnded p (rioStop p (s.store RIO_P_CTL [p] 9))) := by
  simpa only [Bool.false_eq_true, if_false, if_true] using
    rioCtlAct_enabled m (w := 9) (stop := true) (disc := false) (start := false) rfl rfl rfl rfl (by simp) nofun

end

/-! ### Received frames (09 R265, R266) -/

/-- Port `p` receives: the block has power and the port's link is enabled. -/
def portReceives (p : Nat) (s : State) : Prop := s.powered .rio = true ∧ s.isSet RIO_P_CTL_EN [p] = true

section
variable {i : Instr} {p : Nat} {frame : List Byte} {f : Buoy → State → State} {s : State} (h : Live [.rio] s)
  (hup : portReceives p s.begin)
include h hup

/-- A frame that parses acts as the meaning `f` of its command says. -/
theorem exec_frame_parsed {y : Buoy} (he : exec i s = run [.rio] (fun t => rioReceive p true frame t f) s)
    (hy : buoyParse s.begin frame = some y) : exec i s = .next (s.finish (f y s.begin)) := by
  obtain ⟨hpow, hen⟩ := hup
  refine he.trans (run_next_of_eq h ?_)
  simp only [rioReceive, hpow, hen, hy, Bool.not_true, Bool.or_self, Bool.false_eq_true, if_false, if_true]

/-- A frame with a bad FCS is counted, whatever it carries. -/
theorem exec_frame_badFcs (he : exec i s = run [.rio] (fun t => rioReceive p false frame t f) s) :
    exec i s = .next (s.finish (s.begin.incr RIO_P_FCSERR_COUNT [p])) := by
  obtain ⟨hpow, hen⟩ := hup
  refine he.trans (run_next_of_eq h ?_)
  simp only [rioReceive, fcsError, hpow, hen, Bool.not_true, Bool.or_self, Bool.false_eq_true, if_false]

end

/-! ### The instants of a port (09 R269, R272, R277) -/

/-- A port starts cycles while it runs and no STOP waits, or where a START waits. -/
theorem rioStarts_iff (p : Nat) (s : State) : rioStarts s p = true ↔
    (s.fld RIO_P_STAT_STATE [p] = 3 ∧ (s.rioPort p).stop = false) ∨ (s.rioPort p).start = true := by
  simp only [rioStarts, Bool.or_eq_true, Bool.and_eq_true, decide_eq_true_eq, Bool.not_eq_true']

section
variable {p : Fin 4} {s : State}

/-- Discovery ends 1 ms after the last answer. -/
theorem exec_discoveryEnd (h : Live [.rio] s) (hdisc : s.begin.fld RIO_P_STAT_STATE [p.val] = 1) :
    exec (.discoveryEnd p) s = .next (s.finish
      (discoveryEnd p.val (advanceTo ((s.begin.rioPort p.val).drepAt + 1000000 * nsF) s.begin))) := by
  show execDiscoveryEnd p s = _
  exact run_next_of_eq h (if_pos hdisc)

theorem exec_rioCycleStart (h : Live [.rio] s) (hs : rioStarts s.begin p.val = true) :
    let n := nextCycle s.begin p.val
    exec (.rioCycleStart p) s = .next (s.finish (startCycle p.val n (advanceTo (tickAt n) s.begin))) := by
  show execRioCycleStart p s = _
  exact run_next_of_eq h (if_pos hs)

end

/-- The meaning of CYCLE_CLOSE, with the rule of the close tick and the passing of base ticks as parameters: they stay opaque in
the lemma about it, where the kernel would else unfold the model's own. -/
def oldestCloses (tick : State → Nat → RioCycle → Nat) (ticks : Nat → Nat → State → State) (p : Nat) (s : State) : State :=
  match (s.rioPort p).open_ with
  | [] => s
  | c :: _ =>
    let x := tick s p c
    let s := ticks x (x + 1 - nextTick s) s
    match (s.rioPort p).open_ with
    | [] => s
    | d :: _ => if d.cseq = c.cseq then closeCycle p x (advanceTo (tickAt x) s) else s

theorem exec_cycleClose_eq (p : Fin 4) (s : State) : exec (.cycleClose p) s =
    run [.sys, .time, .disp, .loop, .rcp, .rio, .sar, .rfa, .pwm, .mot, .can, .cpu, .twin]
      (oldestCloses closeTick ticksTo p.val) s := rfl

/-- The oldest cycle `c` closes in its tick, unless it closed with a tick on the way: `d` is the oldest one then. -/
theorem oldestCloses_of_open {tick : State → Nat → RioCycle → Nat} {ticks : Nat → Nat → State → State} {p : Nat} {s : State}
    {c d : RioCycle} {cs ds : List RioCycle} (hc : (s.rioPort p).open_ = c :: cs) :
    let x := tick s p c
    let u := ticks x (x + 1 - nextTick s) s
    (u.rioPort p).open_ = d :: ds →
      oldestCloses tick ticks p s = if d.cseq = c.cseq then closeCycle p x (advanceTo (tickAt x) u) else u := by
  dsimp only
  intro hd
  simp only [oldestCloses, hc, hd]

/-- Settles O47: a clause per command; a granted write is judged by the rule of RIO_Pp_CTL, a frame by the port that receives it,
and a port's own commands act at their instant. -/
theorem remoteCommandsComplete : Obligations.RemoteCommandsComplete := by
  intro m p frame s hl b q x up written
  have hrio : Live [.rio] s := hl.mono (by simp)
  exact ⟨
    fun hg hm => takesEffect_of_actOf actOf_rioCtl hrio rfl hg (rioCtlAct_disc m hm),
    fun hg hm hisl => takesEffect_of_actOf actOf_rioCtl hrio rfl hg (rioCtlAct_start m hm hisl),
    fun hg => takesEffect_of_actOf actOf_rioCtl hrio rfl hg (rioCtlAct_stop m),
    fun f hup hf => ⟨exec_frame_parsed (f := drepTaken q) hrio hup rfl hf, exec_frame_parsed (f := cackTaken q) hrio hup rfl hf,
      exec_frame_parsed (f := helloTaken q) hrio hup rfl hf, exec_frame_parsed (f := ifrTaken q) hrio hup rfl hf⟩,
    fun hup => ⟨exec_frame_badFcs (f := drepTaken q) hrio hup rfl, exec_frame_badFcs (f := cackTaken q) hrio hup rfl,
      exec_frame_badFcs (f := helloTaken q) hrio hup rfl, exec_frame_badFcs (f := ifrTaken q) hrio hup rfl⟩,
    exec_discoveryEnd hrio,
    fun hs => exec_rioCycleStart hrio ((rioStarts_iff p.val s.begin).2 hs),
    fun c cs d ds hc hd => (exec_cycleClose_eq p s).trans (run_next_of_eq hl (oldestCloses_of_open hc hd))⟩

end Sys2Proof.Machine
end

section
/-!
PROOF. PWM pairs and the fast cut matrix (PowerStageCommandsComplete): what the rules of the PWM block make of each command's word,
and what a pair does at its own instants.
-/
namespace Sys2Proof.Machine

/-! ### The rules of the registers of the PWM block -/

theorem actOf_pwmCommit : actOf PWM_COMMIT = pwmCommitAct := rfl

theorem actOf_pwmPer : actOf PWM_PR_PER = pwmPerAct := rfl

theorem actOf_pwmOn : actOf PWM_PR_ON = pwmOnAct := rfl

theorem actOf_pwmCmp : actOf PWM_PR_CMP = pwmCmpAct := rfl

theorem actOf_pwmLvl : actOf PWM_LVL = pwmLvlAct := rfl

theorem actOf_pwmStat : actOf PWM_PR_STAT = pwmStatAct := rfl

theorem actOf_pwmFcctl : actOf PWM_PR_FCCTL = pwmFcctlAct := rfl

/-! ### Commits and shadows (10 R292, R293, R308) -/

/-- The commit of the groups in `n` writes `n` itself to PWM_COMMIT. -/
theorem exec_pwmCommit (m : Master) {n : Nat} (hn : n < 2 ^ 16) (s : State) : exec (.pwmCommit m (BitVec.ofNat 16 n)) s =
    run [.pwm] (regCmd pwmCommitAct m PWM_COMMIT [] (BitVec.ofNat 32 n)) s := by
  show execPwmCommit m (BitVec.ofNat 16 n) s = _
  rw [execPwmCommit, BitVec.toNat_ofNat, Nat.mod_eq_of_lt hn]

theorem pwmCommitAct_groups (m : Master) {n : Nat} (hn : n < 2 ^ 16) (s : State) :
    pwmCommitAct m [] (BitVec.ofNat 32 n) s =
      .ok ((List.range 16).foldl (fun u g => if bit n g then commitGroup g u.now u else u) s) := by
  rw [pwmCommitAct, BitVec.toNat_ofNat, Nat.mod_eq_of_lt (hn.trans (by decide))]

/-- A period within the range of R308 goes to the shadow. -/
theorem pwmPerAct_shadows (m : Master) {k : Nat} {w : Word} {s : State} (hper : perOk (PWM_PR_PER_VALUE.of w) = true) :
    pwmPerAct m [k] w s = .ok (shadowPer k (PWM_PR_PER_VALUE.of w) s) :=
  if_neg (by simp [hper])

/-! ### Clearing a fast cut (10 R305) -/

/-- The clear of a fast cut writes CLR beside ACT and LATCH as they stand at the command. -/
theorem exec_fastCutClear {m : Master} {k : Fin 64} {s : State} (h : Live [.pwm] s) : exec (.fastCutClear m k) s =
    run [.pwm] (regCmd pwmFcctlAct m PWM_PR_FCCTL [k.val]
      (BitVec.ofNat 32 (256 + (s.begin.reg PWM_PR_FCCTL [k.val]).toNat % 8))) s := by
  show execFastCutClear m k s = _
  exact (run_next _ h).trans (run_next _ h).symm

/-- Of the control bits of FCCTL, the word of the clear sets CLR and leaves CUTF alone. -/
theorem on_fastCutClearWord {n : Nat} (hn : n < 8) :
    PWM_PR_FCCTL_CLR.on (BitVec.ofNat 32 (256 + n)) = true ∧ PWM_PR_FCCTL_CUTF_CLR.on (BitVec.ofNat 32 (256 + n)) = false := by
  interval_cases n <;> decide

/-- CLR counts where the pair is cut and no source that it selects is asserted. -/
theorem pwmFcctlAct_clears (m : Master) {k : Nat} {w : Word} {s : State} (hact : PWM_PR_FCCTL_ACT.of w < 2)
    (hclr : PWM_PR_FCCTL_CLR.on w = true) (hflag : PWM_PR_FCCTL_CUTF_CLR.on w = false) :
    let u := s.store PWM_PR_FCCTL [k] w
    (u.pair k).cut = true → u.pwm.src &&& cutMask u k = 0 →
      pwmFcctlAct m [k] w s = .ok (idleCutEnd k (u.modPair k (fun x => { x with clr := true }))) := by
  intro u hcut hsrc
  have hstored : s.store PWM_PR_FCCTL [k] w = u := rfl
  simp only [pwmFcctlAct, List.headD_cons, if_neg (Nat.not_le.2 hact), hstored, hclr, hflag, hcut, hsrc, decide_true,
    Bool.and_self, Bool.false_eq_true, if_false, if_true]

/-! ### The instants of a pair -/

section
variable {k : Fin 64} {s : State} (h : Live [.pwm] s)
include h

theorem exec_pwmReload {t : Nat} (ht : nextPS s.begin k.val = some t) :
    exec (.pwmReload k) s = .next (s.finish (startPeriod k.val t (advanceTo t s.begin))) := by
  show execPwmReload k s = _
  exact run_next_of_eq h (by simp only [ht])

/-- The restart source ends a period of COT or COFT (R289). -/
theorem exec_pwmRestart {t : Nat} (hper : hasPeriods s.begin k.val = true)
    (hmode : pairMode s.begin k.val = 1 ∨ pairMode s.begin k.val = 2)
    (ht : nextPS (setSource (s.begin.fld PWM_PR_CFG_RSTSRC [k.val]) true s.begin) k.val = some t) :
    exec (.pwmRestart k) s = .next (s.finish
      (startPeriod k.val t (advanceTo t (setSource (s.begin.fld PWM_PR_CFG_RSTSRC [k.val]) true s.begin)))) := by
  have hrestarts : (hasPeriods s.begin k.val && (pairMode s.begin k.val = 1 || pairMode s.begin k.val = 2)) = true := by
    simpa [hper] using hmode
  show execPwmRestart k s = _
  exact run_next_of_eq h ((if_pos hrestarts).trans (by simp only [ht]))

/-- Only COFT has an on time of 0 that ends (R288). -/
theorem exec_pwmOnEnd (hper : hasPeriods s.begin k.val = true) (hon : (s.begin.pair k.val).onEnded = false)
    (hzero : s.begin.fld PWM_PR_ON_VALUE [k.val] = 0 → pairMode s.begin k.val = 2) :
    let t := (s.begin.pair k.val).ps + s.begin.fld PWM_PR_ON_VALUE [k.val] * pwmStep
    exec (.pwmOnEnd k) s = .next (s.finish (onTimeEnds k.val t (advanceTo t s.begin))) := by
  have hends : (decide (s.begin.fld PWM_PR_ON_VALUE [k.val] = 0) && decide (pairMode s.begin k.val ≠ 2)) = false := by
    simpa using hzero
  show execPwmOnEnd k s = _
  refine run_next_of_eq h ?_
  simp only [hper, hon, hends, Bool.not_true, Bool.or_self, Bool.false_eq_true, if_false]

/-- A compare that falls within the period fires once in it (R301). -/
theorem exec_compareFire {j : Fin 4} {e : Nat} (hper : hasPeriods s.begin k.val = true)
    (hen : s.begin.isSet PWM_PR_CMP_EN [k.val, j.val] = true) (hfired : (s.begin.pair k.val).fired.contains j.val = false)
    (he : nextPS s.begin k.val = some e) :
    let t := (s.begin.pair k.val).ps + ((if s.begin.isSet PWM_PR_CMP_REF [k.val, j.val] then s.begin.fld PWM_PR_ON_VALUE [k.val]
      else 0) + s.begin.fld PWM_PR_CMP_VALUE [k.val, j.val]) * pwmStep
    t < e → exec (.compareFire k j) s = .next (s.finish (sarSource 2 k.val j.val t
      ((advanceTo t s.begin).modPair k.val (fun x => { x with fired := j.val :: x.fired })))) := by
  intro t hte
  show execCompareFire k j s = _
  refine run_next_of_eq h (if_pos ?_)
  simp only [hper, hen, hfired, he, Bool.not_false, Bool.and_self, Bool.true_and, decide_eq_true_eq]
  exact hte

/-- A trip still present when the blanking window closes acts at the close (R299). -/
theorem exec_blankingWindowClose {e : Nat} (he : blankEnd s.begin k.val = some e) :
    exec (.blankingWindowClose k) s = .next (s.finish (tripCheck k.val e (advanceTo e s.begin))) := by
  show execBlankingWindowClose k s = _
  exact run_next_of_eq h (by simp only [he])

end

/-- Sources 0 to 15 of the fast cut matrix are the trip inputs, whose level is the source's in their polarity (R303). -/
theorem exec_fastCut {n : Fin 64} {on : Bool} {s : State} (h : Live [.pwm] s) :
    exec (.fastCut n on) s = .next (s.finish (if n.val < 16 then
      setTrip n.val (on != bit (s.begin.fld PWM_TRIPPOL_INV) n.val) s.begin else setSource n.val on s.begin)) := by
  show execFastCut n on s = _
  exact run_next _ h

/-! ### Dead times (10 R290) -/

section
variable {k : Nat} {toH : Bool} {off : Nat} {s : State}

/-- Without ADT the dead time is DTMIN. -/
theorem deadEnd_fixed (hadt : PWM_PR_DTHL_ADT.on (deadWord s k toH) = false) :
    let t := off + deadSpan PWM_PR_DTHL_DTMIN (deadWord s k toH)
    deadEnd k toH off s = turnOn k toH t (advanceTo t s) := by
  simp only [deadEnd, hadt, Bool.false_eq_true, if_false]

/-- With ADT a dead time without a crossing runs to DTMAX, and is counted. -/
theorem deadEnd_missed (hadt : PWM_PR_DTHL_ADT.on (deadWord s k toH) = true) :
    let t := off + deadSpan PWM_PR_DTHL_DTMAX (deadWord s k toH)
    deadEnd k toH off s = turnOn k toH t ((advanceTo t s).incrSat PWM_PR_CNT_ADTMISS [k]) := by
  simp only [deadEnd, hadt, if_true]

end

section
variable {k : Fin 64} {toH : Bool} {off : Nat} {s : State} (h : Live [.pwm] s)
  (hdead : (s.begin.pair k.val).dead = some (toH, off))
include h hdead

theorem exec_deadTimeEnd : exec (.deadTimeEnd k) s = .next (s.finish (deadEnd k.val toH off s.begin)) := by
  show execDeadTimeEnd k s = _
  exact run_next_of_eq h (by simp only [hdead])

/-- With ADT the first crossing before DTMAX in the expected direction times the turn-on. -/
theorem exec_swsCrossing (hadt : PWM_PR_DTHL_ADT.on (deadWord s.begin k.val toH) = true) (hoff : off ≤ s.begin.now)
    (hmax : s.begin.now < off + deadSpan PWM_PR_DTHL_DTMAX (deadWord s.begin k.val toH)) :
    let w := deadWord s.begin k.val toH
    let t := min (off + deadSpan PWM_PR_DTHL_DTMAX w) (max (off + deadSpan PWM_PR_DTHL_DTMIN w)
      (s.begin.now / pwmStep * pwmStep + deadSpan PWM_PR_DTHL_MARGIN w))
    exec (.swsCrossing k toH) s = .next (s.finish (turnOn k.val toH t (advanceTo t s.begin))) := by
  show execSwsCrossing k toH s = _
  refine run_next_of_eq h ?_
  simp only [hdead, hadt, hoff, Nat.not_le.2 hmax, decide_false, decide_true, Bool.and_false, Bool.and_self, Bool.false_eq_true,
    if_false, if_true]

end

/-- Settles O48: a clause per command; a granted write is judged by its register's rule, and a pair's own commands act at their
instant. -/
theorem powerStageCommandsComplete : Obligations.PowerStageCommandsComplete := by
  intro m k j g w n on s hl b i x dt adt onEnd fires groups clear
  have hgroups : groups < 2 ^ 16 := bits_lt w.toNat 15 0
  obtain ⟨hclr, hflag⟩ := on_fastCutClearWord (Nat.mod_lt (b.reg PWM_PR_FCCTL [i]).toNat (by decide : 0 < 8))
  exact ⟨
    fun t => exec_pwmReload hl,
    fun t => exec_pwmRestart hl,
    exec_pwmOnEnd hl,
    fun toH off hdead hadt => (exec_deadTimeEnd hl hdead).trans (by rw [deadEnd_fixed hadt]),
    fun toH off hdead hadt => (exec_deadTimeEnd hl hdead).trans (by rw [deadEnd_missed hadt]),
    fun toH off => exec_swsCrossing hl,
    fun e => exec_compareFire hl,
    run_next (setTrip n.val on) hl,
    fun e => exec_blankingWindowClose hl,
    exec_fastCut hl,
    fun hg => takesEffect_of_actOf actOf_pwmCommit hl (exec_pwmCommit m hgroups s) hg (pwmCommitAct_groups m hgroups b),
    fun hg hper => takesEffect_of_actOf actOf_pwmPer hl rfl hg (pwmPerAct_shadows m hper),
    fun hg => takesEffect_of_actOf actOf_pwmOn hl rfl hg rfl,
    fun hg => takesEffect_of_actOf actOf_pwmCmp hl rfl hg rfl,
    fun hg => takesEffect_of_actOf actOf_pwmLvl hl rfl hg rfl,
    fun hg => takesEffect_of_actOf actOf_pwmStat hl rfl hg rfl,
    fun hg hact hcut hsrc => takesEffect_of_actOf actOf_pwmFcctl hl (exec_fastCutClear hl) hg
      (pwmFcctlAct_clears m hact hclr hflag hcut hsrc)⟩

end Sys2Proof.Machine
end

section
/-!
PROOF. Motion axes (MotionCommandsComplete): what the rules of MVC and CMD make of the word of each command, and what an axis does at
its own instants.
-/
namespace Sys2Proof.Machine

/-! ### The rules of the registers of an axis -/

theorem actOf_axMvc : actOf MOT_AX_MVC = mvcAct := rfl

theorem actOf_axCmd : actOf MOT_AX_CMD = axCmdAct := rfl

/-! ### Pushed moves (11 R316, R327) -/

/-- PUSH, PROF, KIND and TAG of the word that pushes a move. -/
theorem of_movePushWord (kind : Fin 4) (prof : Fin 16) (tag : BitVec 16) :
    let w := BitVec.ofNat 32 (2 ^ 31 + prof.val * 2 ^ 24 + kind.val * 2 ^ 16 + tag.toNat)
    MOT_AX_MVC_PUSH.on w = true ∧ MOT_AX_MVC_PROF.of w = prof.val ∧ MOT_AX_MVC_KIND.of w = kind.val ∧
      MOT_AX_MVC_TAG.of w = tag.toNat := by
  have hkind := kind.isLt
  have hprof := prof.isLt
  have htag := tag.isLt
  simp only [Fld.on, Fld.of, bits, MOT_AX_MVC_PUSH, MOT_AX_MVC_PROF, MOT_AX_MVC_KIND, MOT_AX_MVC_TAG, BitVec.toNat_ofNat,
    Nat.shiftRight_eq_div_pow, decide_eq_true_eq]
  omega

/-- Outside Stop and Safe PUSH appends the move that its word describes, with P0 from MVP. -/
theorem mvcAct_pushes (m : Master) {k : Nat} {w : Word} {s : State} (hpush : MOT_AX_MVC_PUSH.on w = true)
    (hstop : s.effMode ≠ .stop) (hsafe : s.effMode ≠ .safe) :
    let u := s.store MOT_AX_MVC [k] w
    mvcAct m [k] w s = .ok (pushMove k
      { kind := MOT_AX_MVC_KIND.of w, p0 := sx 32 (u.reg MOT_AX_MVP [k]).toNat, prof := MOT_AX_MVC_PROF.of w,
        tag := MOT_AX_MVC_TAG.of w, act := none, atick := u.tick, target := none, told := false } u) := by
  simp only [mvcAct, hpush, hstop, hsafe, List.headD_cons, Bool.not_true, decide_false, Bool.or_self, Bool.false_eq_true, if_false]

/-! ### STOP, FCLR and SETPOS (11 R318, R319, R327) -/

theorem axCmdAct_stop (m : Master) (k : Nat) (s : State) :
    axCmdAct m [k] 1 s = .ok (stopRequest k codeAborted false s) := rfl

theorem axCmdAct_fclr (m : Master) (k : Nat) (s : State) : axCmdAct m [k] 2 s = .ok (faultClear k s) := rfl

/-- The position that SETPOS gives a standing axis: its output and its steps are there, and nothing is planned. -/
theorem axCmdAct_setpos (m : Master) {k : Nat} {s : State} (hstand : standing (s.axis k) = true)
    (hcur : (s.axis k).cur = none) (hqueue : (s.axis k).queue = []) :
    let p := sx 32 (s.reg MOT_AX_SETPOS [k]).toNat
    axCmdAct m [k] 4 s = .ok (axisStatus k ((s.lower MOT_AX_STAT_UNREF [k]).modAxis k (fun x =>
      { x with pos := p * 2 ^ 32, prev := p * 2 ^ 32, steps := p, plan := {} }))) := by
  refine if_neg ?_
  simp only [List.headD_cons, hstand, hcur, hqueue, Option.isNone_none, List.isEmpty_nil, Bool.and_self, Bool.not_true,
    Bool.and_false, Bool.false_eq_true, not_false_eq_true]

/-! ### The instants of an axis -/

section
variable {k : Fin 64} {j : Fin 12} {s : State} (h : Live [.mot] s)
include h

/-- Detected faults act in Phase 4 of the tick after their detection (R319). -/
theorem exec_axisFault (hfaults : (s.begin.axis k.val).faults ≠ []) :
    let n := s.begin.tick + 1
    exec (.axisFault k) s = .next (s.finish (axisStatus k.val (actFaults k.val n (advanceTo (tickAt n) s.begin)))) := by
  show execAxisFault k s = _
  exact run_next_of_eq h (if_neg (mt List.isEmpty_iff.1 hfaults))

/-- An integrated drive whose pairs have a period regulates its windings once in it (R321). -/
theorem exec_drivePeriod {ia ib : Int} (hkind : axisKind s.begin j.val = kindInt) (hon : axisOn s.begin j.val = true) :
    let per : Rat := (s.begin.fld PWM_PR_PER_VALUE [4 * j.val] : Rat) * 15625 / 100000000000000
    per ≠ 0 → exec (.drivePeriod j ia ib) s = .next (s.finish (drivePeriod j.val per ia ib s.begin)) := by
  intro per hper
  show execDrivePeriod j ia ib s = _
  refine run_next_of_eq h (if_neg ?_)
  simp only [hkind, hon, decide_true, Bool.and_self, Bool.not_true, Bool.false_or, decide_eq_true_eq]
  exact hper

theorem exec_stallDetect (hdue : stallDue s.begin j.val = true) :
    exec (.stallDetect j) s = .next (s.finish (stall j.val s.begin)) := by
  show execStallDetect j s = _
  exact run_next_of_eq h (if_pos hdue)

/-- The hold current follows 100 ms of standstill (R321). -/
theorem exec_holdCurrent (hkind : axisKind s.begin j.val = kindInt) (hon : axisOn s.begin j.val = true)
    (hstand : standing (s.begin.axis j.val) = true) :
    exec (.holdCurrent j) s = .next (s.finish
      (holdCurrent j.val (advanceTo ((s.begin.axis j.val).since + 100000000 * nsF) s.begin))) := by
  show execHoldCurrent j s = _
  refine run_next_of_eq h (if_pos ?_)
  simp only [hkind, hon, hstand, decide_true, Bool.and_self]

/-- A STEPDIR axis on its way whose steps lag its output position issues the next one (R312). -/
theorem exec_stepIssue (hkind : axisKind s.begin k.val = kindStep) (hon : axisOn s.begin k.val = true)
    (hsto : axisSto s.begin k.val = false) (hlag : ratRound (counts (s.begin.axis k.val).pos) ≠ (s.begin.axis k.val).steps)
    (hmoves : (s.begin.axis k.val).pos ≠ (s.begin.axis k.val).prev) :
    exec (.stepIssue k) s = .next (s.finish (issueStep k.val s.begin)) := by
  show execStepIssue k s = _
  refine run_next_of_eq h (if_neg ?_)
  simp only [hkind, hon, hsto, hlag, hmoves, ne_eq, not_true_eq_false, decide_false, Bool.not_true, Bool.or_self, Bool.false_eq_true,
    not_false_eq_true]

end

/-- Settles O49: a clause per command; a granted write is judged by the rule of MVC or CMD, and an axis's own commands act at their
instant. -/
theorem motionCommandsComplete : Obligations.MotionCommandsComplete := by
  intro m k j kind prof tag ia ib s hl b i x word pushed next per at_
  obtain ⟨hpush, hprof, hkind, htag⟩ := of_movePushWord kind prof tag
  exact ⟨
    fun hg hstop hsafe => takesEffect_of_actOf actOf_axMvc hl rfl hg
      ((mvcAct_pushes m hpush hstop hsafe).trans (by rw [hprof, hkind, htag])),
    fun hg => takesEffect_of_actOf actOf_axCmd hl rfl hg (axCmdAct_stop m i b),
    fun hg => takesEffect_of_actOf actOf_axCmd hl rfl hg (axCmdAct_fclr m i b),
    fun hg hstand hcur hqueue => takesEffect_of_actOf actOf_axCmd hl rfl hg (axCmdAct_setpos m hstand hcur hqueue),
    exec_axisFault hl,
    exec_drivePeriod hl,
    exec_stallDetect hl,
    exec_holdCurrent hl,
    exec_stepIssue hl⟩

end Sys2Proof.Machine
end

section
/-!
PROOF. Instructions of SPW32 that act on general registers: the integer, immediate, branch and fixed-point groups
(IntegerGroup, DivisionGroup, ImmediateInstructions, BranchesAndJumps, FixedPointGroup), what they leave as it was
(RegisterInstructionFrame), and what a core takes before one of them (BoundaryOrder).
-/
namespace Sys2Proof.Machine

/-! ### Words as integers -/

theorem ofInt_natCast_toNat (w : Word) : BitVec.ofInt 32 (w.toNat : Int) = w := by
  rw [BitVec.ofInt_natCast, BitVec.ofNat_toNat, BitVec.setWidth_eq]

theorem sub_eq_ofInt (a b : Word) : a - b = BitVec.ofInt 32 (a.toInt - b.toInt) := by
  apply BitVec.eq_of_toInt_eq
  rw [BitVec.toInt_sub, BitVec.toInt_ofInt]

theorem shiftLeft_eq_ofInt (a : Word) (k : Nat) : a <<< k = BitVec.ofInt 32 ((a.toNat * 2 ^ k : Nat) : Int) := by
  rw [BitVec.ofInt_natCast]
  apply BitVec.eq_of_toNat_eq
  rw [BitVec.toNat_shiftLeft, BitVec.toNat_ofNat, Nat.shiftLeft_eq]

theorem ushiftRight_eq_ofInt (a : Word) (k : Nat) : a >>> k = BitVec.ofInt 32 ((a.toNat / 2 ^ k : Nat) : Int) := by
  rw [← Nat.shiftRight_eq_div_pow, ← BitVec.toNat_ushiftRight, ofInt_natCast_toNat]

theorem sshiftRight_eq_ofInt (a : Word) (k : Nat) : a.sshiftRight k = BitVec.ofInt 32 (a.toInt / 2 ^ k) := by
  rw [← BitVec.ofInt_toInt (x := a.sshiftRight k), BitVec.toInt_sshiftRight, Int.shiftRight_eq_div_pow]
  norm_cast

theorem flagWord_slt (a b : Word) : flagWord (a.slt b) = BitVec.ofInt 32 (if a.toInt < b.toInt then 1 else 0) := by
  by_cases h : a.toInt < b.toInt <;> simp [flagWord, BitVec.slt_eq_decide, h]

theorem flagWord_ult (a b : Word) : flagWord (a.ult b) = BitVec.ofInt 32 (if a.toNat < b.toNat then 1 else 0) := by
  by_cases h : a.toNat < b.toNat <;> simp [flagWord, BitVec.ult_eq_decide, h]

theorem min_eq_ofInt (a b : Word) : (if a.slt b then a else b) = BitVec.ofInt 32 (min a.toInt b.toInt) := by
  by_cases h : a.toInt < b.toInt
  · simp [BitVec.slt_eq_decide, h, Int.min_eq_left h.le]
  · simp [BitVec.slt_eq_decide, h, Int.min_eq_right (not_lt.1 h)]

theorem max_eq_ofInt (a b : Word) : (if a.slt b then b else a) = BitVec.ofInt 32 (max a.toInt b.toInt) := by
  by_cases h : a.toInt < b.toInt
  · simp [BitVec.slt_eq_decide, h, Int.max_eq_right h.le]
  · simp [BitVec.slt_eq_decide, h, Int.max_eq_left (not_lt.1 h)]

/-- The count of leading zero bits is where the first one bit stands. -/
theorem clz32_eq {a : Word} {z : Nat} (hz : z ≤ 32) (hzero : ∀ i < z, a.getMsbD i = false)
    (hone : z = 32 ∨ a.getMsbD z = true) : clz32 a = z := by
  have hlow : a.toNat < 2 ^ (32 - z) := by
    apply Nat.lt_pow_two_of_testBit
    intro i hi
    by_cases h32 : i < 32
    · have h := hzero (31 - i) (by omega)
      rw [BitVec.getMsbD_eq_getLsbD] at h
      simpa [show 32 - 1 - (31 - i) = i by omega, show 31 - i < 32 by omega, BitVec.getLsbD] using h
    · exact Nat.testBit_lt_two_pow (a.isLt.trans_le (Nat.pow_le_pow_right two_pos (not_lt.1 h32)))
  rcases hone with rfl | hone
  · have h0 : a.toNat = 0 := by simpa using hlow
    simp [clz32, bitLen, h0]
  · rw [BitVec.getMsbD_eq_getLsbD] at hone
    have hz' : z < 32 := of_decide_eq_true ((Bool.and_eq_true _ _).mp hone).1
    have hbit : a.toNat.testBit (31 - z) = true := by simpa [hz', BitVec.getLsbD] using hone
    have hge : 2 ^ (31 - z) ≤ a.toNat := Nat.ge_two_pow_of_testBit hbit
    have hne : a.toNat ≠ 0 := by have := Nat.two_pow_pos (31 - z); omega
    have hlog : Nat.log2 a.toNat = 31 - z :=
      (Nat.log2_eq_iff hne).2 ⟨hge, by rwa [show 31 - z + 1 = 32 - z by omega]⟩
    rw [clz32, bitLen, if_neg hne, hlog]
    omega

/-! ### Instructions of the integer group (14 R378) and with immediates (R379) -/

section
variable {c : Fin 18} {rd ra rb : Fin 32} {s : State} (h : Live (spwBlocks c.val) s) (he : Executes c.val (ready c.val s))
include h he

theorem alu2_next (f : Word → Word → Word) : alu2 c rd ra rb f s = .next (retired c.val s (((ready c.val s).setGr c.val rd.val
    (f ((ready c.val s).gr c.val ra.val) ((ready c.val s).gr c.val rb.val))).pcNext c.val)) :=
  spw_next h he rfl

theorem alu1_next (f : Word → Word) : alu1 c rd ra f s =
    .next (retired c.val s (((ready c.val s).setGr c.val rd.val (f ((ready c.val s).gr c.val ra.val))).pcNext c.val)) :=
  spw_next h he rfl

theorem alu2_retires {f : Word → Word → Word} {v : Word}
    (hf : f ((ready c.val s).gr c.val ra.val) ((ready c.val s).gr c.val rb.val) = v) :
    alu2 c rd ra rb f s = .next (retired c.val s (((ready c.val s).setGr c.val rd.val v).pcNext c.val)) :=
  hf ▸ alu2_next h he f

theorem alu1_retires {f : Word → Word} {v : Word} (hf : f ((ready c.val s).gr c.val ra.val) = v) :
    alu1 c rd ra f s = .next (retired c.val s (((ready c.val s).setGr c.val rd.val v).pcNext c.val)) :=
  hf ▸ alu1_next h he f

/-- A division by zero sets DZ. -/
theorem aluDiv_zero {f : Word → Word → Word} {v : Word} (hb : (ready c.val s).gr c.val rb.val = 0)
    (hf : f ((ready c.val s).gr c.val ra.val) 0 = v) : aluDiv c rd ra rb f s =
      .next (retired c.val s ((((ready c.val s).setSat c.val 16).setGr c.val rd.val v).pcNext c.val)) :=
  spw_next h he (by simp only [hb, hf, if_true, spwReg])

theorem aluDiv_nonzero {f : Word → Word → Word} {v : Word} (hb : (ready c.val s).gr c.val rb.val ≠ 0)
    (hf : f ((ready c.val s).gr c.val ra.val) ((ready c.val s).gr c.val rb.val) = v) : aluDiv c rd ra rb f s =
      .next (retired c.val s (((ready c.val s).setGr c.val rd.val v).pcNext c.val)) :=
  spw_next h he (by simp only [hf, if_neg hb, spwReg])

end

/-- Settles O23: each instruction is `alu2` or `alu1` of its function, and that function is the exact result modulo 2^32. -/
theorem integerGroup : Obligations.IntegerGroup := by
  intro c rd ra rb n s h he t a b k put int
  show execAdd c rd ra rb s = _ ∧ execSub c rd ra rb s = _ ∧ execAnd c rd ra rb s = _ ∧ execOr c rd ra rb s = _ ∧
    execXor c rd ra rb s = _ ∧ execAndn c rd ra rb s = _ ∧ execSll c rd ra rb s = _ ∧ execSrl c rd ra rb s = _ ∧
    execSra c rd ra rb s = _ ∧ execSlli c rd ra n s = _ ∧ execSrli c rd ra n s = _ ∧ execSrai c rd ra n s = _ ∧
    execSlt c rd ra rb s = _ ∧ execSltu c rd ra rb s = _ ∧ execMin c rd ra rb s = _ ∧ execMax c rd ra rb s = _ ∧
    execSextb c rd ra s = _ ∧ execSexth c rd ra s = _ ∧ execMul c rd ra rb s = _ ∧ execMulh c rd ra rb s = _ ∧
    execMulhu c rd ra rb s = _ ∧ ∀ z : Nat, _ → _ → _ → execClz c rd ra s = _
  exact ⟨
    alu2_retires h he (by rw [BitVec.ofInt_add, BitVec.ofInt_toInt, BitVec.ofInt_toInt]),
    alu2_retires h he (sub_eq_ofInt a b),
    alu2_next h he _,
    alu2_next h he _,
    alu2_next h he _,
    alu2_next h he _,
    alu2_retires h he (shiftLeft_eq_ofInt a k),
    alu2_retires h he (ushiftRight_eq_ofInt a k),
    alu2_retires h he (sshiftRight_eq_ofInt a k),
    alu1_retires h he (shiftLeft_eq_ofInt a n),
    alu1_retires h he (ushiftRight_eq_ofInt a n),
    alu1_retires h he (sshiftRight_eq_ofInt a n),
    alu2_retires h he (flagWord_slt a b),
    alu2_retires h he (flagWord_ult a b),
    alu2_retires h he (min_eq_ofInt a b),
    alu2_retires h he (max_eq_ofInt a b),
    alu1_next h he _,
    alu1_next h he _,
    alu2_next h he _,
    alu2_next h he _,
    alu2_retires h he (BitVec.ofInt_natCast _ _).symm,
    fun z hz hzero hone => alu1_retires h he (by rw [clz32_eq hz hzero hone, BitVec.ofInt_natCast])⟩

/-- Settles O24: `aluDiv` sets DZ for a divisor 0 alone; the overflow corner is the truncated quotient modulo 2^32. -/
theorem divisionGroup : Obligations.DivisionGroup := by
  intro c rd ra rb s h he t a b dz put
  show (_ → execDiv c rd ra rb s = _ ∧ execDivu c rd ra rb s = _ ∧ execRem c rd ra rb s = _ ∧ execRemu c rd ra rb s = _) ∧
    (_ → _ → _ → execDiv c rd ra rb s = _ ∧ execRem c rd ra rb s = _) ∧
    (_ → execDiv c rd ra rb s = _ ∧ execRem c rd ra rb s = _ ∧ execDivu c rd ra rb s = _ ∧ execRemu c rd ra rb s = _)
  refine ⟨fun hb => ⟨aluDiv_zero h he hb rfl, aluDiv_zero h he hb rfl, aluDiv_zero h he hb rfl, aluDiv_zero h he hb rfl⟩,
    fun hb ha hb' => ⟨aluDiv_nonzero h he hb ?_, aluDiv_nonzero h he hb ?_⟩,
    fun hb => ⟨aluDiv_nonzero h he hb (if_neg hb), aluDiv_nonzero h he hb (if_neg hb), aluDiv_nonzero h he hb (if_neg hb),
      aluDiv_nonzero h he hb (if_neg hb)⟩⟩
  · show divS a b = a
    rw [divS, if_neg hb, wordOf, ha, hb', ← BitVec.ofInt_toInt (x := a), ha]
    decide
  · show remS a b = 0
    rw [remS, if_neg hb, wordOf, ha, hb']
    decide

/-! ### Immediate instructions (14 R371, R379) -/

theorem addImm_eq_ofInt (a : Word) (imm : BitVec 16) : a + imm.signExtend 32 = BitVec.ofInt 32 (a.toInt + imm.toInt) := by
  rw [BitVec.ofInt_add, BitVec.ofInt_toInt]
  rfl

theorem toInt_signExtend_imm (imm : BitVec 16) : (imm.signExtend 32).toInt = imm.toInt :=
  BitVec.toInt_signExtend_of_le (by decide)

theorem upperImm_eq_ofInt (imm : BitVec 16) : imm.setWidth 32 <<< 16 = BitVec.ofInt 32 ((imm.toNat * 2 ^ 16 : Nat) : Int) := by
  rw [shiftLeft_eq_ofInt, BitVec.toNat_setWidth_of_le (by decide)]

/-- Settles O25: the immediate is the second operand of `alu1`; a word that is no instruction raises its exception alone. -/
theorem immediateInstructions : Obligations.ImmediateInstructions := by
  intro c rd ra imm s h he t a put int
  show execAddi c rd ra imm s = _ ∧ execAndi c rd ra imm s = _ ∧ execOri c rd ra imm s = _ ∧ execXori c rd ra imm s = _ ∧
    execSlti c rd ra imm s = _ ∧ execSltiu c rd ra imm s = _ ∧ execLui c rd imm s = _ ∧
    ∀ w, _ → _ → execIllegalInstruction c w s = _
  have hlui : execLui c rd imm s = put (imm.setWidth 32 <<< 16) := spw_next h he rfl
  refine ⟨alu1_retires h he (addImm_eq_ofInt a imm), alu1_next h he _, alu1_next h he _, alu1_next h he _,
    alu1_retires h he ?_, alu1_retires h he (flagWord_ult a (imm.signExtend 32)), ?_, fun w hw hx => ?_⟩
  · rw [flagWord_slt, toInt_signExtend_imm]
  · rw [hlui, upperImm_eq_ofInt]
  · rw [execIllegalInstruction, if_pos hw]
    exact spw_exc h he hx rfl

/-! ### Branches and jumps (14 R382) -/

/-- A change of a core counts only for what the core holds. -/
theorem State.modCore_congr (s : State) {c : Nat} {f g : Core → Core} (h : f (s.core c) = g (s.core c)) :
    s.modCore c f = s.modCore c g := by
  have hcores : modNth s.cores c f = modNth s.cores c g := by
    apply List.ext_getElem?
    intro d
    by_cases hd : d = c
    · subst hd
      simp only [modNth, List.getElem?_modify_eq]
      cases hx : s.cores[d]? with
      | none => rfl
      | some x => simpa [State.core, nth, hx] using h
    · rw [getElem?_modNth_ne _ _ hd, getElem?_modNth_ne _ _ hd]
  rw [State.modCore, State.modCore, hcores]

/-- Writing a general register leaves the PC. -/
theorem State.core_setGr_pc (s : State) (c r : Nat) (v : Word) : ((s.setGr c r v).core c).pc = (s.core c).pc := by
  unfold State.setGr
  split
  · rfl
  · by_cases hc : c < s.cores.length
    · rw [State.core_modCore s _ hc]
    · simp [State.core, State.modCore, nth, modNth, List.getElem?_eq_none (Nat.le_of_not_lt hc)]

/-- The core continues at an integer address modulo 2^32. -/
def State.goto (s : State) (c : Nat) (p : Int) : State := s.modCore c (fun x => { x with pc := (p % 2 ^ 32).toNat })

theorem State.pcNext_eq_goto (s : State) (c : Nat) : s.pcNext c = s.goto c ((s.core c).pc + 4) := by
  apply State.modCore_congr
  congr 1

/-- A PC that is a multiple of 4 stays one when a multiple of 4 is added. -/
theorem State.pcSet_eq_goto (s : State) (c : Nat) {pc : Nat} {n : Int} {w : Word} (hw : w = BitVec.ofInt 32 (n * 4))
    (hpc : pc % 4 = 0) : s.pcSet c (BitVec.ofNat 32 pc + w).toNat = s.goto c (pc + n * 4) := by
  have hsum : BitVec.ofNat 32 pc + w = BitVec.ofInt 32 (pc + n * 4) := by
    rw [BitVec.ofInt_add, BitVec.ofInt_natCast, hw]
  apply State.modCore_congr
  congr 1
  rw [hsum, BitVec.toNat_ofInt]
  omega

theorem signExtend_mul_four {w : Nat} (imm : BitVec w) : imm.signExtend 32 * 4 = BitVec.ofInt 32 (imm.toInt * 4) := by
  rw [BitVec.ofInt_mul]
  rfl

section
variable {c : Fin 18} {rd ra rb : Fin 32} {imm : BitVec 16} {s : State} (h : Live (spwBlocks c.val) s)
  (he : Executes c.val (ready c.val s)) (hpc : ((ready c.val s).core c.val).pc % 4 = 0)
include h he hpc

theorem branch_goes {t : Word → Word → Bool} {p : Bool}
    (ht : t ((ready c.val s).gr c.val ra.val) ((ready c.val s).gr c.val rb.val) = p) :
    branch c ra rb imm t s = .next (retired c.val s ((ready c.val s).goto c.val
      (if p then ((ready c.val s).core c.val).pc + imm.toInt * 4 else ((ready c.val s).core c.val).pc + 4))) := by
  refine spw_next h he (congrArg SpwRes.done ?_)
  rw [ht]
  cases p
  · exact State.pcNext_eq_goto _ _
  · exact State.pcSet_eq_goto _ _ (signExtend_mul_four imm) hpc

/-- A jump leaves its link and goes. -/
theorem execJal_goes (far : BitVec 21) : execJal c rd far s = .next (retired c.val s
    (((ready c.val s).setGr c.val rd.val (BitVec.ofNat 32 (((ready c.val s).core c.val).pc + 4))).goto c.val
      (((ready c.val s).core c.val).pc + far.toInt * 4))) :=
  spw_next h he (congrArg SpwRes.done (State.pcSet_eq_goto _ _ (signExtend_mul_four far) hpc))

omit hpc in
/-- The address in ra is read before rd is written. -/
theorem execJalr_goes : execJalr c rd ra imm s = .next (retired c.val s
    (((ready c.val s).setGr c.val rd.val (BitVec.ofNat 32 (((ready c.val s).core c.val).pc + 4))).goto c.val
      ((((ready c.val s).gr c.val ra.val).toInt + imm.toInt) / 4 * 4))) := by
  refine spw_next h he (congrArg SpwRes.done ?_)
  apply State.modCore_congr
  congr 1
  rw [spwAddr, addImm_eq_ofInt, BitVec.toNat_ofInt]
  omega

end

/-- Settles O26: a branch goes by its test, and a jump leaves its link first. -/
theorem branchesAndJumps : Obligations.BranchesAndJumps := by
  intro c rd ra rb imm far s h he _ hpc t a b pc goto br link
  show execBeq c ra rb imm s = _ ∧ execBne c ra rb imm s = _ ∧ execBlt c ra rb imm s = _ ∧ execBge c ra rb imm s = _ ∧
    execBltu c ra rb imm s = _ ∧ execBgeu c ra rb imm s = _ ∧ execJal c rd far s = _ ∧ execJalr c rd ra imm s = _
  exact ⟨
    branch_goes h he hpc rfl,
    branch_goes h he hpc rfl,
    branch_goes h he hpc BitVec.slt_eq_decide,
    branch_goes h he hpc (by rw [BitVec.slt_eq_decide, ← decide_not, decide_eq_decide]; exact not_lt),
    branch_goes h he hpc BitVec.ult_eq_decide,
    branch_goes h he hpc (by rw [BitVec.ult_eq_decide, ← decide_not, decide_eq_decide]; exact not_lt),
    execJal_goes h he hpc far,
    execJalr_goes h he⟩

/-! ### The saturating fixed-point group (14 R383, R384) -/

theorem sat32_eq (v : Int) : sat32 v = (max (-2 ^ 31) (min (2 ^ 31 - 1) v), decide (v < -2 ^ 31 ∨ 2 ^ 31 - 1 < v)) := by
  unfold sat32 satMax satMin
  split
  · next hv => simp only [Prod.mk.injEq]; constructor; omega; simp; omega
  · split
    · next hv => simp only [Prod.mk.injEq]; constructor; omega; simp; omega
    · next hv => simp only [Prod.mk.injEq]; constructor; omega; simp; omega

/-- The clamp of `fixSat`, and its flag. -/
theorem fixSat_eq (flag : Nat) (v : Int) : fixSat flag v =
    (max (-2 ^ 31) (min (2 ^ 31 - 1) v), if v < -2 ^ 31 ∨ 2 ^ 31 - 1 < v then flag else 0) := by
  simp only [fixSat, sat32_eq, decide_eq_true_eq]

theorem fixMac_eq (k : Nat) (d a b : Int) :
    let p := rshRound (a * b) k
    let out := fun (x : Int) => x < -2 ^ 31 ∨ 2 ^ 31 - 1 < x
    fixMac k d a b = (max (-2 ^ 31) (min (2 ^ 31 - 1) (d + p)), if out p then 2 else if out (d + p) then 1 else 0) := by
  simp only [fixMac, sat32_eq, decide_eq_true_eq]

theorem fixLim_eq (d a b : Int) :
    let v := if b < a then b else max a (min d b)
    fixLim d a b = (v, if v ≠ d then 8 else 0) := by
  have hv : (if b < a then b else min (max d a) b) = if b < a then b else max a (min d b) := by
    split
    · rfl
    · omega
  simp only [fixLim, hv]

/-- The shift count is the low five bits of the word. -/
theorem shiftOf_toInt (b : Word) : shiftOf b.toInt = b.toNat % 32 := by
  rw [shiftOf, BitVec.toInt_eq_toNat_cond]
  split <;> omega

section
variable {c : Fin 18} {rd ra rb : Fin 32} {s : State} (h : Live (spwBlocks c.val) s) (he : Executes c.val (ready c.val s))
include h he

theorem fix_retires {f : Int → Int → Int → Int × Nat} {v : Int} {flags : Nat}
    (hf : f ((ready c.val s).gr c.val rd.val).toInt ((ready c.val s).gr c.val ra.val).toInt
      ((ready c.val s).gr c.val rb.val).toInt = (v, flags)) :
    fix c rd ra rb f s = .next (retired c.val s
      ((((ready c.val s).setSat c.val flags).setGr c.val rd.val (BitVec.ofInt 32 v)).pcNext c.val)) :=
  spw_next h he (by dsimp only; rw [hf]; rfl)

end

/-- Settles O27: each instruction is `fix` of its function, which clamps by `sat32` or limits. -/
theorem fixedPointGroup : Obligations.FixedPointGroup := by
  intro c rd ra rb s h he t d a b k rnd clamp out put sat mac lim
  have hk : shiftOf b = k := shiftOf_toInt _
  show execQadd c rd ra rb s = _ ∧ execQsub c rd ra rb s = _ ∧ execQneg c rd ra s = _ ∧ execQabs c rd ra s = _ ∧
    execQmul c rd ra rb s = _ ∧ execQmulx c rd ra rb s = _ ∧ execQmac c rd ra rb s = _ ∧ execQmacx c rd ra rb s = _ ∧
    execQshl c rd ra rb s = _ ∧ execQshr c rd ra rb s = _ ∧ execQlim c rd ra rb s = _ ∧ execQxq c rd ra s = _ ∧
    execQqx c rd ra s = _
  exact ⟨
    fix_retires h he (fixSat_eq 1 (a + b)),
    fix_retires h he (fixSat_eq 1 (a - b)),
    fix_retires h he (fixSat_eq 1 (-a)),
    fix_retires h he (by rw [Int.natCast_natAbs]; exact fixSat_eq 1 |a|),
    fix_retires h he (fixSat_eq 2 (rshRound (a * b) 30)),
    fix_retires h he (fixSat_eq 2 (rshRound (a * b) 16)),
    fix_retires h he (fixMac_eq 30 d a b),
    fix_retires h he (fixMac_eq 16 d a b),
    fix_retires h he (by rw [hk]; exact fixSat_eq 1 (a * 2 ^ k)),
    fix_retires h he (by rw [hk]; rfl),
    fix_retires h he (fixLim_eq d a b),
    fix_retires h he (fixSat_eq 4 (a * 2 ^ 14)),
    fix_retires h he rfl⟩

/-! ### What these instructions leave as it was (14 R367) -/

/-- `u` is `s` with rd, the PC and SATF of core `c` changed at most. -/
def RegistersOnly (c rd : Nat) (s u : State) : Prop :=
  ∃ (g : Core → List Word) (pc : Core → Nat) (satf : Core → Word),
    u = s.modCore c (fun x => { x with g := g x, pc := pc x, satf := satf x }) ∧ ∀ x r, r ≠ rd → nth (g x) r 0 = nth x.g r 0

/-- An instruction that raises no exception, and changes rd, the PC and SATF of its core at most. -/
def ActsOnRegisters (c : Fin 18) (rd : Fin 32) (o : State → Host.Outcome State Fault Refusal) : Prop :=
  ∃ f : State → State, (∀ s, o s = spw c (fun t => .done (f t)) s) ∧ ∀ s, RegistersOnly c.val rd.val s (f s)

theorem State.modCore_modCore (s : State) (c : Nat) (f g : Core → Core) :
    (s.modCore c f).modCore c g = s.modCore c (fun x => g (f x)) := by
  simp only [State.modCore, modNth, List.modify_modify_eq, Function.comp_def]

theorem registersOnly_setGr_modCore (c rd : Nat) (v : Word) (pc : Core → Nat) (s : State) :
    RegistersOnly c rd s ((s.setGr c rd v).modCore c (fun x => { x with pc := pc x })) := by
  unfold State.setGr
  split
  · exact ⟨fun x => x.g, pc, fun x => x.satf, rfl, fun _ _ _ => rfl⟩
  · refine ⟨_, _, _, State.modCore_modCore _ _ _ _, fun x r hr => ?_⟩
    simp only [nth]
    rw [getElem?_modNth_ne _ _ hr]

theorem RegistersOnly.setSat {c rd flags : Nat} {s u : State} (h : RegistersOnly c rd (s.setSat c flags) u) :
    RegistersOnly c rd s u := by
  obtain ⟨g, pc, satf, rfl, hg⟩ := h
  exact ⟨fun x => g { x with satf := BitVec.ofNat 32 (x.satf.toNat ||| flags) }, _, _, State.modCore_modCore _ _ _ _, fun x => hg _⟩

theorem RegistersOnly.setSat_if {c rd flags : Nat} {s u : State} {p : Prop} [Decidable p]
    (h : RegistersOnly c rd (if p then s.setSat c flags else s) u) : RegistersOnly c rd s u := by
  split at h
  · exact h.setSat
  · exact h

section
variable (c : Fin 18) (rd ra rb : Fin 32)

theorem actsOnRegisters_alu2 (f : Word → Word → Word) : ActsOnRegisters c rd (alu2 c rd ra rb f) :=
  ⟨_, fun _ => rfl, fun s => registersOnly_setGr_modCore c.val rd.val _ _ s⟩

theorem actsOnRegisters_alu1 (f : Word → Word) : ActsOnRegisters c rd (alu1 c rd ra f) :=
  ⟨_, fun _ => rfl, fun s => registersOnly_setGr_modCore c.val rd.val _ _ s⟩

theorem actsOnRegisters_aluDiv (f : Word → Word → Word) : ActsOnRegisters c rd (aluDiv c rd ra rb f) :=
  ⟨_, fun _ => rfl, fun _ => (registersOnly_setGr_modCore c.val rd.val _ _ _).setSat_if⟩

theorem actsOnRegisters_fix (f : Int → Int → Int → Int × Nat) : ActsOnRegisters c rd (fix c rd ra rb f) :=
  ⟨_, fun _ => rfl, fun _ => (registersOnly_setGr_modCore c.val rd.val _ _ _).setSat⟩

theorem actsOnRegisters_lui (imm : BitVec 16) : ActsOnRegisters c rd (execLui c rd imm) :=
  ⟨_, fun _ => rfl, fun s => registersOnly_setGr_modCore c.val rd.val _ _ s⟩

theorem actsOnRegisters_branch (imm : BitVec 16) (t : Word → Word → Bool) : ActsOnRegisters c 0 (branch c ra rb imm t) := by
  refine ⟨_, fun _ => rfl, fun s => ?_⟩
  split <;> exact registersOnly_setGr_modCore c.val 0 0 _ s

theorem actsOnRegisters_jal (imm : BitVec 21) : ActsOnRegisters c rd (execJal c rd imm) :=
  ⟨_, fun _ => rfl, fun s => registersOnly_setGr_modCore c.val rd.val _ _ s⟩

theorem actsOnRegisters_jalr (imm : BitVec 16) : ActsOnRegisters c rd (execJalr c rd ra imm) :=
  ⟨_, fun _ => rfl, fun s => registersOnly_setGr_modCore c.val rd.val _ _ s⟩

end

/-- The instructions of the four groups, by the form that each has. -/
theorem actsOnRegisters_of_regDest {i : Instr} {c : Fin 18} {rd : Fin 32} (h : regDest i = some (c, rd)) :
    ActsOnRegisters c rd (fun s => exec i s) := by
  unfold regDest at h
  split at h <;> cases h <;> delta exec <;> dsimp only
  -- ADD to MULHU, DIV to REMU, QADD to QLIM
  iterate 16 · exact actsOnRegisters_alu2 c rd _ _ _
  iterate 4 · exact actsOnRegisters_aluDiv c rd _ _ _
  iterate 9 · exact actsOnRegisters_fix c rd _ _ _
  -- CLZ to SEXTH, QNEG to QQX
  iterate 3 · exact actsOnRegisters_alu1 c rd _ _
  iterate 4 · exact actsOnRegisters_fix c rd _ 0 _
  -- ADDI to SRAI, JALR, LUI, JAL, the branches
  iterate 9 · exact actsOnRegisters_alu1 c rd _ _
  · exact actsOnRegisters_jalr c rd _ _
  · exact actsOnRegisters_lui c rd _
  · exact actsOnRegisters_jal c rd _
  iterate 6 · exact actsOnRegisters_branch c _ _ _ _

/-- A register that is not rd reads as before. -/
theorem RegistersOnly.gr_of_ne {c rd r : Nat} {s u : State} (h : RegistersOnly c rd s u) (hc : c < s.cores.length) (hr : r ≠ rd) :
    u.gr c r = s.gr c r := by
  obtain ⟨g, pc, satf, rfl, hg⟩ := h
  rw [State.gr, State.gr, State.core_modCore s _ hc]
  split
  · rfl
  · exact hg _ _ hr

/-- Settles O16: such an instruction changes rd, the PC and SATF of its core (`actsOnRegisters_of_regDest`), and memory only by
what the end of the step does. -/
theorem registerInstructionFrame : Obligations.RegisterInstructionFrame := by
  intro i c rd s hi h he t
  obtain ⟨f, hexec, hf⟩ := actsOnRegisters_of_regDest hi
  have hgr : ∀ r, r ≠ rd.val → (f t).gr c.val r = t.gr c.val r := fun r hr => (hf t).gr_of_ne he.lt_length hr
  obtain ⟨g, pc, satf, hu, -⟩ := hf t
  refine ⟨f t, (hexec s).trans (spw_next h he rfl), ?_⟩
  have hbyte : ∀ a, (f t).byte a = t.byte a := State.byte_congr (by rw [hu]; rfl)
  refine ⟨hbyte, by rw [hu]; rfl, fun d hd => by rw [hu]; exact State.core_modCore_ne t _ hd, hgr, rfl,
    ⟨_, _, _, by rw [hu]; exact State.core_modCore t _ he.lt_length⟩, by rw [hu]; rfl, fun honce a => ?_⟩
  rw [retired, State.byte_finish, endStep, honce]
  exact hbyte a

/-! ### What is taken at an instruction boundary (14 R396) -/

/-- A precise exception outside an exception's handling enters it. -/
theorem spwRaise_enters {c : Nat} {s : State} {cause info ea : Nat} (hx : (s.core c).xact = false) : spwRaise c cause info ea s =
    rtException c cause (s.core c).pc (enterException c cause info 0 (s.core c).pc ea s) := by
  simp [spwRaise, preciseException, hx]

/-- The instruction at the PC is the one of BKPT.ADDR, and the breakpoint is on. -/
def atBreakpoint (x : Core) : Prop := x.bkpt.getLsbD 0 = true ∧ x.bkpt.toNat / 4 * 4 = x.pc

section
variable {c : Nat} {f : State → State} {s : State} (hrun : (s.core c).run = .running) (hhalt : (s.core c).halted = false)
include hrun hhalt

/-- A waiting imprecise BUSST comes first. -/
theorem instruction_imprecise {a r : Nat} (himp : (s.core c).imp = some (a, r)) (hx : (s.core c).xact = false) :
    instruction c (fun t => .done (f t)) s = endStep c (rtException c 6 (s.core c).pc
      (enterException c 6 r 1 (s.core c).pc a (s.modCore c (fun y => { y with imp := none })))) := by
  simp [instruction, hrun, hhalt, himp, hx, takeImprecise]

/-- Then the DEBUG of the instruction at BKPT.ADDR. -/
theorem instruction_debug (himp : (s.core c).imp = none)
    (hd : atBreakpoint (s.core c)) (hx : (s.core c).xact = false) :
    instruction c (fun t => .done (f t)) s = endStep c (rtException c 13 (s.core c).pc
      (enterException c 13 1 0 (s.core c).pc (s.core c).pc s)) := by
  simp [instruction, hrun, hhalt, himp, hx, hd.1, hd.2, spwRaise_enters]

/-- Then IFETCH. -/
theorem instruction_fetchFault {r : Nat} (himp : (s.core c).imp = none)
    (hd : ¬ atBreakpoint (s.core c))
    (hf : fetchAt s c (s.core c).pc = some r) (hr : r ≠ 0) (hx : (s.core c).xact = false) :
    instruction c (fun t => .done (f t)) s = endStep c (rtException c 3 (s.core c).pc
      (enterException c 3 r 0 (s.core c).pc (s.core c).pc s)) := by
  rw [atBreakpoint] at hd
  simp [-BitVec.getLsbD_eq_getElem, instruction, hrun, hhalt, himp, hx, hd, hf, hr, fetchFault, spwRaise_enters]

/-- Last, an enabled interrupt. -/
theorem instruction_interrupt (himp : (s.core c).imp = none)
    (hd : ¬ atBreakpoint (s.core c))
    (hf : fetchAt s c (s.core c).pc = some 0) (hi : interruptReady (s.core c) = true) :
    instruction c (fun t => .done (f t)) s = endStep c (enterException c 12 ((s.core c).ipend &&& (s.core c).imask.toNat) 0
      (s.core c).pc 0 s) := by
  rw [atBreakpoint] at hd
  simp [-BitVec.getLsbD_eq_getElem, instruction, hrun, hhalt, himp, hd, hf, hi, takeInterrupt]

end

/-- Settles O20: an instruction of these groups raises no exception of its own (`actsOnRegisters_of_regDest`), so that the boundary
alone decides. -/
theorem boundaryOrder : Obligations.BoundaryOrder := by
  intro i c rd s hi h k t x does debug hrun hhalt
  obtain ⟨f, hexec, -⟩ := actsOnRegisters_of_regDest hi
  have hdoes : ∀ u, instruction k (fun t => .done (f t)) t = endStep k u → does u := fun u hu => by
    show exec i s = _
    rw [show exec i s = _ from hexec s, spw, run_next _ h]
    exact congrArg (fun t => Host.Outcome.next (s.finish t)) hu
  exact ⟨fun a r himp hx => hdoes _ (instruction_imprecise hrun hhalt himp hx),
    fun himp hd hx => hdoes _ (instruction_debug hrun hhalt himp hd hx),
    fun r himp hd hf hr hx => hdoes _ (instruction_fetchFault hrun hhalt himp hd hf hr hx),
    fun himp hd hf hi => hdoes _ (instruction_interrupt hrun hhalt himp hd hf hi)⟩

end Sys2Proof.Machine
end

section
/-!
PROOF. Loads, stores, atomics and fences of SPW32 (LoadsComplete, StoresComplete, AtomicsComplete, FencesComplete), and what a
misaligned access enters (MisalignedAccess).
-/
namespace Sys2Proof.Machine

/-! ### What entering an exception changes (14 R395, 13 R350) -/

/-- What a core holds when it has entered an exception. -/
def enteredCore (cause info imp epc eaddr : Nat) (x : Core) : Core :=
  { x with epsr := x.psr, epc := BitVec.ofNat 32 (epc / 4 * 4), eaddr := BitVec.ofNat 32 eaddr,
           ecause := BitVec.ofNat 32 (info % 2 ^ 16 * 2 ^ 16 + imp * 256 + cause), psr := 5,
           pc := vectorOf x cause, run := .running }

theorem coreStat_eq (c : Nat) (s : State) : ∃ regs, coreStat c s = { s with regs := regs } := by
  unfold coreStat
  split
  · exact ⟨_, rfl⟩
  · exact ⟨s.regs, rfl⟩

/-- Entering an exception changes the core, and what the registers of CPU show of it. -/
theorem enterException_eq (c cause info imp epc eaddr : Nat) (s : State) : ∃ regs, enterException c cause info imp epc eaddr s =
    { s.modCore c (enteredCore cause info imp epc eaddr) with regs := regs } := by
  let u := s.modCore c (enteredCore cause info imp epc eaddr)
  obtain ⟨regs, h⟩ := coreStat_eq c (if c < 16 then u.setFld CPU_C_STAT_LASTCAUSE cause [c] else u)
  refine ⟨regs, h.trans ?_⟩
  split <;> rfl

theorem State.emit_cores {s : State} {sev kind : Nat} {b : Block} {inst mst d0 d1 : Nat} :
    (s.emit sev kind b inst mst d0 d1).cores = s.cores := by
  obtain ⟨regs, fab, h⟩ := State.emit_eq (s := s)
  rw [h]

/-- The end of a cycle changes no memory and no core. -/
theorem rtException_frame (c cause epc : Nat) (s : State) :
    (rtException c cause epc s).mem = s.mem ∧ (rtException c cause epc s).cores = s.cores := by
  unfold rtException
  split
  · exact ⟨rfl, rfl⟩
  · split
    · exact ⟨rfl, rfl⟩
    · dsimp only
      split
      · split <;> simp only [State.emit_mem, State.emit_cores, State.rtCause, State.setFld_mem, State.setFld_cores,
          State.modRtask, State.raise, and_self]
      · simp only [State.emit_mem, State.emit_cores, State.rtCause, State.setFld_mem, State.setFld_cores, State.modRtask,
          State.raise, and_self]

/-- A core after a precise exception that it enters. -/
theorem core_entered {c cause info imp epc eaddr : Nat} {s : State} (hc : c < s.cores.length) (k e : Nat) :
    (rtException c k e (enterException c cause info imp epc eaddr s)).core c =
      enteredCore cause info imp epc eaddr (s.core c) := by
  obtain ⟨regs, h⟩ := enterException_eq c cause info imp epc eaddr s
  rw [State.core, (rtException_frame c k e _).2, h]
  exact State.core_modCore s _ hc

theorem core_entered_ne {c d cause info imp epc eaddr : Nat} {s : State} (hd : d ≠ c) (k e : Nat) :
    (rtException c k e (enterException c cause info imp epc eaddr s)).core d = s.core d := by
  obtain ⟨regs, h⟩ := enterException_eq c cause info imp epc eaddr s
  rw [State.core, (rtException_frame c k e _).2, h]
  exact State.core_modCore_ne s _ hd

theorem byte_entered (c cause info imp epc eaddr k e a : Nat) (s : State) :
    (rtException c k e (enterException c cause info imp epc eaddr s)).byte a = s.byte a := by
  obtain ⟨regs, h⟩ := enterException_eq c cause info imp epc eaddr s
  refine (State.byte_congr (rtException_frame c k e _).1 a).trans (State.byte_congr ?_ a)
  rw [h]
  rfl

/-! ### Loads (14 R380, R381) -/

section
variable {c : Fin 18} {rd rb ra : Fin 32} {imm : BitVec 16} {s u : State}
  (hl : Live (spwBlocks c.val ++ spwTouched s c.val (spwAddr (settle c.val s) c.val ra.val imm)) s)
  (he : Executes c.val (ready c.val s))
include hl he

theorem load_retires {n v : Nat} {f : Nat → Word} (hread : spwAddr (ready c.val s) c.val ra.val imm % n = 0 ∧
      coreRead c.val (spwAddr (ready c.val s) c.val ra.val imm) n (ready c.val s) = (.ok v, u)) :
    load c rd ra imm n f s = .next (retired c.val s ((u.setGr c.val rd.val (f v)).pcNext c.val)) := by
  obtain ⟨ha, hread⟩ := hread
  exact runInstruction_next hl he (by simp [spwLoad, ha, hread])

/-- LD fills an even pair, the low word first. -/
theorem execLd_retires {v : Nat} (hrd : rd.val % 2 = 0) (hread : spwAddr (ready c.val s) c.val ra.val imm % 8 = 0 ∧
      coreRead c.val (spwAddr (ready c.val s) c.val ra.val imm) 8 (ready c.val s) = (.ok v, u)) :
    execLd c rd ra imm s = .next (retired c.val s (((u.setGr c.val rd.val (BitVec.ofNat 32 v)).setGr c.val (rd.val + 1)
      (BitVec.ofNat 32 (v / 2 ^ 32))).pcNext c.val)) := by
  obtain ⟨ha, hread⟩ := hread
  exact runInstruction_next hl he (by simp [spwLoad, hrd, ha, hread])

/-! ### Stores (14 R380, R381, R397) -/

/-- The state in which a store acts: the next instruction follows already. -/
def storing (c : Nat) (s : State) : State := (ready c s).pcNext c

/-- What is left of a store whose error response waits. -/
def busstWaits (c a r : Nat) (u : State) : State := u.modCore c (fun x => { x with imp := some (x.imp.getD (a, r)) })

omit hl he in
theorem spwStore_ok {c a n v k : Nat} {t : State} (ha : a % n = 0) (hw : (coreWrite c a n v (t.pcNext c)).1 = .ok k) :
    spwStore c a n v t = .done (coreWrite c a n v (t.pcNext c)).2 := by
  simp [spwStore, ha, hw]

omit hl he in
theorem spwStore_posted {c a n v : Nat} {r : BusReason} {t : State} (ha : a % n = 0)
    (hw : (coreWrite c a n v (t.pcNext c)).1 = .err r) (hp : preciseStore c a = false) :
    spwStore c a n v t = .done (busstWaits c a r.code (coreWrite c a n v (t.pcNext c)).2) := by
  simp [spwStore, ha, hw, hp, busstWaits]

omit hl he in
/-- A store instruction performs its access, and the error response of a posted one waits: the two clauses of StoresComplete, from
what `spwStore` leaves. -/
theorem store_completes {o : Host.Outcome State Fault Refusal} {n v : Nat}
    (hdone : ∀ u, spwStore c.val (spwAddr (ready c.val s) c.val ra.val imm) n v (ready c.val s) = .done u →
      o = .next (retired c.val s u)) :
    let a := spwAddr (ready c.val s) c.val ra.val imm
    let x := coreWrite c.val a n v ((ready c.val s).pcNext c.val)
    (∀ k, a % n = 0 → x.1 = .ok k → o = .next (retired c.val s x.2)) ∧
      (∀ r, a % n = 0 → x.1 = .err r → preciseStore c.val a = false → o = .next (retired c.val s (busstWaits c.val a r.code x.2))) :=
  ⟨fun _ ha hw => hdone _ (spwStore_ok ha hw), fun _ ha hw hp => hdone _ (spwStore_posted ha hw hp)⟩

theorem store_done {n v : Nat} (hv : ((ready c.val s).gr c.val rb.val).toNat % 2 ^ (8 * n) = v) (u : State)
    (hs : spwStore c.val (spwAddr (ready c.val s) c.val ra.val imm) n v (ready c.val s) = .done u) :
    store c rb ra imm n s = .next (retired c.val s u) :=
  runInstruction_next hl he (hv ▸ hs)

theorem execSd_done (hrb : rb.val % 2 = 0) (u : State)
    (hs : spwStore c.val (spwAddr (ready c.val s) c.val ra.val imm) 8 ((ready c.val s).grPair c.val rb.val) (ready c.val s) = .done u) :
    execSd c rb ra imm s = .next (retired c.val s u) :=
  runInstruction_next hl he (by simp [hrb, hs])

/-! ### Misaligned accesses (14 R394, R395) -/

/-- What a core leaves that enters ALIGN for an access of `n` bytes. -/
def alignTaken (c a n : Nat) (t : State) : State :=
  rtException c 4 (t.core c).pc (enterException c 4 n 0 (t.core c).pc a t)

variable {n : Nat} (ha : spwAddr (ready c.val s) c.val ra.val imm % n ≠ 0) (hx : ((ready c.val s).core c.val).xact = false)
include ha hx

theorem load_misaligned (f : Nat → Word) : load c rd ra imm n f s = .next (retired c.val s
    (alignTaken c.val (spwAddr (ready c.val s) c.val ra.val imm) n (ready c.val s))) :=
  runInstruction_exc hl he hx (if_pos ha)

theorem store_misaligned : store c rb ra imm n s = .next (retired c.val s
    (alignTaken c.val (spwAddr (ready c.val s) c.val ra.val imm) n (ready c.val s))) :=
  runInstruction_exc hl he hx (if_pos ha)

end

section
variable {c : Fin 18} {r ra : Fin 32} {imm : BitVec 16} {s : State}
  (hl : Live (spwBlocks c.val ++ spwTouched s c.val (spwAddr (settle c.val s) c.val ra.val imm)) s)
  (he : Executes c.val (ready c.val s)) (hr : r.val % 2 = 0)
  (ha : spwAddr (ready c.val s) c.val ra.val imm % 8 ≠ 0) (hx : ((ready c.val s).core c.val).xact = false)
include hl he hr ha hx

theorem execLd_misaligned : execLd c r ra imm s = .next (retired c.val s
    (alignTaken c.val (spwAddr (ready c.val s) c.val ra.val imm) 8 (ready c.val s))) :=
  runInstruction_exc hl he hx (by simp [hr, spwLoad, ha])

theorem execSd_misaligned : execSd c r ra imm s = .next (retired c.val s
    (alignTaken c.val (spwAddr (ready c.val s) c.val ra.val imm) 8 (ready c.val s))) :=
  runInstruction_exc hl he hx (by simp [hr, spwStore, ha])

end

/-- The loads and stores of `n` bytes, 1 excepted: those that can be misaligned. -/
def IsWideAccess (i : Instr) (c : Fin 18) (r ra : Fin 32) (imm : BitVec 16) (n : Nat) : Prop :=
  (n = 4 ∧ (i = .lw c r ra imm ∨ i = .sw c r ra imm)) ∨
    (n = 2 ∧ (i = .lh c r ra imm ∨ i = .lhu c r ra imm ∨ i = .sh c r ra imm)) ∨
    (n = 8 ∧ r.val % 2 = 0 ∧ (i = .ld c r ra imm ∨ i = .sd c r ra imm))

theorem exec_misaligned {i : Instr} {c : Fin 18} {r ra : Fin 32} {imm : BitVec 16} {n : Nat} {s : State}
    (hl : Live (spwBlocks c.val ++ spwTouched s c.val (spwAddr (settle c.val s) c.val ra.val imm)) s)
    (he : Executes c.val (ready c.val s)) (hi : IsWideAccess i c r ra imm n)
    (ha : spwAddr (ready c.val s) c.val ra.val imm % n ≠ 0) (hx : ((ready c.val s).core c.val).xact = false) :
    exec i s = .next (retired c.val s (alignTaken c.val (spwAddr (ready c.val s) c.val ra.val imm) n (ready c.val s))) := by
  rcases hi with ⟨rfl, rfl | rfl⟩ | ⟨rfl, rfl | rfl | rfl⟩ | ⟨rfl, hr, rfl | rfl⟩
  · exact load_misaligned (rd := r) hl he ha hx (fun v => BitVec.ofNat 32 v)
  · exact store_misaligned (rb := r) hl he ha hx
  · exact load_misaligned (rd := r) hl he ha hx (fun v => (BitVec.ofNat 16 v).signExtend 32)
  · exact load_misaligned (rd := r) hl he ha hx (fun v => BitVec.ofNat 32 v)
  · exact store_misaligned (rb := r) hl he ha hx
  · exact execLd_misaligned hl he hr ha hx
  · exact execSd_misaligned hl he hr ha hx

/-- Settles O18: each access enters ALIGN and does nothing else (`exec_misaligned`); `enteredCore` says what the core holds then. -/
theorem misalignedAccess : Obligations.MisalignedAccess := by
  intro c r ra imm s i n hl he hi t x a ha hx hpc hpc32
  have hfield : ∀ {α : Type} (p : Core → α), p ((alignTaken c.val a n t).core c.val) = p (enteredCore 4 n 0 x.pc a x) :=
    fun p => congrArg p (core_entered he.lt_length _ _)
  have hn : n = 2 ∨ n = 4 ∨ n = 8 := by
    rcases hi with ⟨rfl, _⟩ | ⟨rfl, _⟩ | ⟨rfl, _⟩ <;> simp
  refine ⟨_, exec_misaligned hl he hi ha hx, fun b => byte_entered c.val 4 n 0 x.pc a 4 x.pc b t, fun q => ?_,
    fun d hd => core_entered_ne hd _ _, ?_⟩
  · rw [State.gr, State.gr]
    split
    · rfl
    · exact hfield (fun y => nth y.g q 0)
  · have ha32 : a < 2 ^ 32 := BitVec.isLt _
    refine ⟨hfield Core.epsr, (hfield (fun y => y.epc.toNat)).trans ?_,
      (hfield (fun y => y.eaddr.toNat)).trans (Nat.mod_eq_of_lt ha32), (hfield (fun y => y.ecause.toNat)).trans ?_,
      hfield Core.psr, hfield Core.pc, hfield Core.satf, hfield Core.fpcr, hfield Core.vbar⟩
    · simp only [enteredCore, BitVec.toNat_ofNat]
      omega
    · rcases hn with rfl | rfl | rfl <;> rfl

/-- Settles O29: each load reads and writes rd (`load_retires`, `execLd_retires`). -/
theorem loadsComplete : Obligations.LoadsComplete := by
  intro c rd ra imm s v u hl he t a reads put word
  show (_ → execLw c rd ra imm s = _) ∧ (_ → execLh c rd ra imm s = _) ∧ (_ → execLhu c rd ra imm s = _) ∧
    (_ → execLb c rd ra imm s = _) ∧ (_ → execLbu c rd ra imm s = _) ∧ (_ → _ → execLd c rd ra imm s = _)
  have hword : v / 2 ^ (32 * 0) = v := Nat.div_one v
  refine ⟨load_retires hl he, load_retires hl he, load_retires hl he, load_retires hl he, load_retires hl he,
    fun hrd hread => ?_⟩
  simp only [word, hword]
  exact execLd_retires hl he hrd hread

/-- Settles O30: each store is `spwStore` of its value, which a store of a word or of a pair takes whole. -/
theorem storesComplete : Obligations.StoresComplete := by
  intro c rb ra imm s hl he t a lo pair acc does
  refine ⟨store_completes (store_done (rb := rb) hl he (Nat.mod_eq_of_lt (BitVec.isLt _))),
    store_completes (store_done (rb := rb) hl he rfl), store_completes (store_done (rb := rb) hl he rfl),
    fun hrb => store_completes (execSd_done hl he hrb)⟩

/-! ### Atomics (14 R387) and fences (R403, R405) -/

section
variable {c : Fin 18} {rd ra rb : Fin 32} {s : State} (h : Live (spwBlocks c.val) s) (he : Executes c.val (ready c.val s))
include h he

theorem atomic_retires {f : Word → Word → Word} {old k : Nat} {new : Word}
    (hf : f (BitVec.ofNat 32 old) ((ready c.val s).gr c.val rb.val) = new) :
    let m := coreMaster c.val
    let a := ((ready c.val s).gr c.val ra.val).toNat
    let w := busWrite m a 4 new.toNat (busRead m a 4 (ready c.val s)).2
    a % 4 = 0 → atomicAt c.val a = true → (busRead m a 4 (ready c.val s)).1 = .ok old → w.1 = .ok k →
      atomic c rd ra rb f s = .next (retired c.val s ((w.2.setGr c.val rd.val (BitVec.ofNat 32 old)).pcNext c.val)) := by
  intro m a w ha hat hread hwrite
  subst hf
  refine runInstruction_next h he ?_
  simp only [a] at ha hat
  dsimp only
  simp only [ha, hat, not_true_eq_false, ne_eq, Bool.not_true, Bool.false_eq_true, if_false]
  split
  · next r hr => exact absurd (hread.symm.trans hr) (by simp)
  · next o ho =>
    cases Resp.ok.inj (hread.symm.trans ho)
    split
    · next r hr => exact absurd (hwrite.symm.trans hr) (by simp)
    · rfl

variable (f : Word → Word → Word) (hx : ((ready c.val s).core c.val).xact = false)
include hx

theorem atomic_misaligned (ha : ((ready c.val s).gr c.val ra.val).toNat % 4 ≠ 0) : atomic c rd ra rb f s =
    .next (retired c.val s (alignTaken c.val ((ready c.val s).gr c.val ra.val).toNat 4 (ready c.val s))) :=
  runInstruction_exc h he hx (if_pos ha)

/-- An atomic elsewhere raises BUSLD with reason ATOMIC. -/
theorem atomic_elsewhere (ha : ((ready c.val s).gr c.val ra.val).toNat % 4 = 0)
    (hat : atomicAt c.val ((ready c.val s).gr c.val ra.val).toNat = false) : atomic c rd ra rb f s =
    .next (retired c.val s (rtException c.val 5 ((ready c.val s).core c.val).pc (enterException c.val 5 8 0
      ((ready c.val s).core c.val).pc ((ready c.val s).gr c.val ra.val).toNat (ready c.val s)))) :=
  runInstruction_exc h he hx (by
    dsimp only
    rw [if_neg (not_not.2 ha), if_pos (by rw [hat]; rfl)]
    rfl)

end

/-- Settles O31: SWAP and AADD are `atomic` of their function. -/
theorem atomicsComplete : Obligations.AtomicsComplete := by
  intro c rd ra rb s old k h he t a b m does
  refine ⟨fun ha hat hread hwrite => ?_, fun ha hat hread hwrite => ?_, fun i hi hx => ?_⟩
  · show execSwap c rd ra rb s = _
    exact atomic_retires h he rfl ha hat hread hwrite
  · show execAadd c rd ra rb s = _
    exact atomic_retires h he rfl ha hat hread hwrite
  · have hi : ∃ f, exec i s = atomic c rd ra rb f s := by
      rcases hi with rfl | rfl
      exacts [⟨fun _ b => b, rfl⟩, ⟨fun a b => a + b, rfl⟩]
    obtain ⟨f, hi⟩ := hi
    exact ⟨fun ha => hi.trans (atomic_misaligned h he f hx ha), fun ha hat => hi.trans (atomic_elsewhere h he f hx ha hat)⟩

/-- Settles O32: a fence does nothing but go on. -/
theorem fencesComplete : Obligations.FencesComplete := by
  intro c i s h he hi
  have hfence : fence c s = .next (retired c.val s ((ready c.val s).pcNext c.val)) := spw_next h he rfl
  rcases hi with rfl | rfl | rfl | rfl
  all_goals exact hfence

end Sys2Proof.Machine
end

section
/-!
PROOF. The binary32 group (BinaryGroupCompletes), control registers, system, token and time instructions of SPW32
(ControlRegisterInstructions, SystemInstructions, TokenAndTimeInstructions, TokenPost), and the double fault (DoubleFault).
-/
namespace Sys2Proof.Machine

/-! ### Binary32 instructions (14 R385, R386) -/

section
variable {c : Fin 18} {rd ra rb : Fin 32} {s : State} (h : Live (spwBlocks c.val) s) (he : Executes c.val (ready c.val s))

/-- The flags that a result raises are set in FPCR.FLAGS. -/
def State.setFlags (s : State) (c : Nat) (r : FRes) : State :=
  s.modCore c (fun x => { x with fpcr := BitVec.ofNat 32 (x.fpcr.toNat ||| r.flags * 2 ^ 16) })

theorem fpEnd_done {c w rd : Nat} {r : FRes} {t : State} (hr : r.flags &&& bits (t.core c).fpcr.toNat 12 8 = 0) :
    fpEnd c w rd r t = .done (((t.setFlags c r).setGr c rd (BitVec.ofNat 32 r.val)).pcNext c) :=
  if_neg (not_not.2 hr)

include h he

/-- With no raised flag enabled the result is written. -/
theorem fp_retires {fn : Nat} {f : Nat → Bool → Nat → Nat → Nat → FRes} {r : FRes}
    (hf : f (fpRm (ready c.val s) c.val) (fpFtz (ready c.val s) c.val) ((ready c.val s).gr c.val rd.val).toNat
      ((ready c.val s).gr c.val ra.val).toNat ((ready c.val s).gr c.val rb.val).toNat = r)
    (hr : r.flags &&& bits ((ready c.val s).core c.val).fpcr.toNat 12 8 = 0) :
    fp fn c rd ra rb f s = .next (retired c.val s
      ((((ready c.val s).setFlags c.val r).setGr c.val rd.val (BitVec.ofNat 32 r.val)).pcNext c.val)) :=
  spw_next h he (by dsimp only; rw [hf]; exact fpEnd_done hr)

/-- FMADD outside the case that leaves NV open. -/
theorem execFmadd_retires :
    let t := ready c.val s
    let x := fun (r : Fin 32) => fIn (fpFtz t c.val) (t.gr c.val r.val).toNat
    let r := fMadd (fpRm t c.val) (fpFtz t c.val) (x rd) (x ra) (x rb)
    ((fIsInf (x ra) && fIsZero (x rb) || fIsZero (x ra) && fIsInf (x rb)) && fIsNan (x rd) && !fIsSNaN (x rd)) = false →
    r.flags &&& bits (t.core c.val).fpcr.toNat 12 8 = 0 →
    execFmadd c rd ra rb s =
      .next (retired c.val s (((t.setFlags c.val r).setGr c.val rd.val (BitVec.ofNat 32 r.val)).pcNext c.val)) := by
  intro t x r hopen hr
  refine spw_next h he ?_
  show (if _ then _ else _) = _
  rw [if_neg (by rw [Bool.not_eq_true]; exact hopen)]
  exact fpEnd_done hr

end

/-- Settles O28: each instruction is `fp` of its function, but FMADD, and FNEG, FABS and FCVTQS, which raise no flag of FPCR. -/
theorem binaryGroupCompletes : Obligations.BinaryGroupCompletes := by
  intro c rd ra rb s h he t g rm z en flag put does madd open_ q
  show (_ → execFadd c rd ra rb s = _) ∧ (_ → execFsub c rd ra rb s = _) ∧ (_ → execFmul c rd ra rb s = _) ∧
    (_ → execFdiv c rd ra rb s = _) ∧ (_ → execFsqrt c rd ra s = _) ∧ (_ → _ → execFmadd c rd ra rb s = _) ∧
    (_ → execFmin c rd ra rb s = _) ∧ (_ → execFmax c rd ra rb s = _) ∧ (_ → execFcmpeq c rd ra rb s = _) ∧
    (_ → execFcmplt c rd ra rb s = _) ∧ (_ → execFcmple c rd ra rb s = _) ∧ (_ → execFcvtws c rd ra s = _) ∧
    (_ → execFcvtsw c rd ra s = _) ∧ (_ → execFcvtsq c rd ra s = _) ∧ execFneg c rd ra s = _ ∧ execFabs c rd ra s = _ ∧
    execFcvtqs c rd ra s = _
  exact ⟨fp_retires h he rfl, fp_retires h he rfl, fp_retires h he rfl, fp_retires h he rfl, fp_retires h he rfl,
    execFmadd_retires h he, fp_retires h he rfl, fp_retires h he rfl, fp_retires h he rfl, fp_retires h he rfl,
    fp_retires h he rfl, fp_retires h he rfl, fp_retires h he rfl, fp_retires h he rfl, alu1_next h he _, alu1_next h he _,
    spw_next h he rfl⟩

/-! ### Control registers (14 R388, R369) -/

/-- Settles O33: the number is judged first, then the mode. -/
theorem controlRegisterInstructions : Obligations.ControlRegisterInstructions := by
  intro c rd ra n s h he t x r raises
  show (_ → _ → execMfcr c rd n s = _) ∧ (_ → _ → execMtcr c ra n s = _) ∧
    (_ → (_ → execMfcr c rd n s = _) ∧ (_ → execMtcr c ra n s = _)) ∧
    (_ → _ → (_ → execMtcr c ra n s = _) ∧ (_ → _ → execMfcr c rd n s = _))
  refine ⟨fun hn hg => spw_next h he ?_, fun hn hp => spw_next h he ?_,
    fun hn => ⟨fun hx => spw_exc h he hx (if_pos hn), fun hx => spw_exc h he hx (if_pos hn)⟩,
    fun hn hp => ⟨fun hx => spw_exc h he hx ?_, fun hg hx => spw_exc h he hx ?_⟩⟩
  · have hguard : (crG1 n.val && !x.priv) = false := by
      cases hc : crG1 n.val with
      | false => rfl
      | true => simp [hg hc]
    dsimp only
    rw [if_neg (not_lt.2 hn), if_neg (Bool.eq_false_iff.1 hguard)]
    rfl
  · dsimp only
    rw [if_neg (not_lt.2 hn), if_neg (by rw [hp]; decide)]
  · dsimp only
    rw [if_neg (not_lt.2 hn), if_pos (by rw [hp]; rfl)]
  · dsimp only
    rw [if_neg (not_lt.2 hn), if_pos (by rw [hg, hp]; rfl)]

/-! ### System instructions (14 R389) -/

/-- Settles O34: XRET and WAITI ask for supervisor mode; SVREQ and DBGREQ only raise their exception. -/
theorem systemInstructions : Obligations.SystemInstructions := by
  intro c code s h he t x enters
  show (_ → execSvreq c code s = _ ∧ execDbgreq c code s = _) ∧ (_ → execXret c s = _ ∧ (_ → execWaiti c s = _) ∧
    (_ → execWaiti c s = _)) ∧ (_ → _ → execXret c s = _ ∧ execWaiti c s = _)
  have huser : x.priv = false → (!x.priv) = true := fun hp => by rw [hp]; rfl
  have hsuper : x.priv = true → ¬ (!x.priv) = true := fun hp => by rw [hp]; decide
  exact ⟨fun hx => ⟨spw_exc h he hx rfl, spw_exc h he hx rfl⟩,
    fun hp => ⟨spw_next h he (if_neg (hsuper hp)), 
      fun hi => spw_next h he ((if_neg (hsuper hp)).trans (if_pos hi)),
      fun hi => spw_next h he ((if_neg (hsuper hp)).trans (if_neg (not_not.2 hi)))⟩,
    fun hp hx => ⟨spw_exc h he hx (if_pos (huser hp)), spw_exc h he hx (if_pos (huser hp))⟩⟩

/-! ### Token and time instructions (14 R390 to R393) -/

/-- The dispatcher serves the control cores alone. -/
theorem live_tokenBlocks {c : Nat} {s : State} (h : Live (.disp :: spwBlocks c) s) : Live (tokenBlocks c) s := by
  refine h.mono fun b hb => ?_
  unfold tokenBlocks at hb
  split at hb
  · next hc => simpa [spwBlocks, hc] using hb
  · exact List.mem_cons_of_mem _ hb

/-- Settles O35: the core is judged first, then whether a task runs; TWAIT serves every core. -/
theorem tokenAndTimeInstructions : Obligations.TokenAndTimeInstructions := by
  intro c rd ra slot s h he t x put target enters
  have hspw : Live (spwBlocks c.val) s := h.mono fun b hb => List.mem_cons_of_mem _ hb
  have htok : Live (tokenBlocks c.val) s := live_tokenBlocks h
  show (_ → ∀ v, _ → _ → execTtake c rd slot s = _) ∧ (_ → _ → execTdone c ra s = _) ∧ execTwait c ra s = _ ∧
    (_ → _ → _ → execTtake c rd slot s = _ ∧ execTdone c ra s = _) ∧ (_ → _ → execTtake c rd slot s = _ ∧ execTdone c ra s = _)
  have hruns : x.task.isSome = true → ¬ x.task.isNone = true := fun ht => by
    rw [Option.isNone_iff_eq_none]; exact Option.isSome_iff_ne_none.1 ht
  refine ⟨fun hc v ht hv => spw_next hspw he ?_, fun hc ht => runInstruction_next htok he ?_, spw_next hspw he rfl,
    fun hx hc ht => ⟨spw_exc hspw he hx ?_, runInstruction_exc htok he hx ?_⟩,
    fun hx hc => ⟨spw_exc hspw he hx (if_pos hc), runInstruction_exc htok he hx (if_pos hc)⟩⟩
  · dsimp only
    rw [if_neg (not_le.2 hc), if_neg (hruns ht), show (t.core c.val).toks[slot.val]? = some v from hv]
    rfl
  · dsimp only
    rw [if_neg (not_le.2 hc), if_neg (hruns ht)]
  · dsimp only
    rw [if_neg (not_le.2 hc), if_pos (Option.isNone_iff_eq_none.2 ht)]
  · dsimp only
    rw [if_neg (not_le.2 hc), if_pos (Option.isNone_iff_eq_none.2 ht)]

/-- The state in which TPOST of core `c` executes: its earlier codes have reached the registers that it names, where one of
them is on its way there (R390). -/
def postReady (c : Nat) (rs : List Nat) (s : State) : State := if postHazard s.begin c rs = true then ready c s else s.begin

theorem execTpost_retires {c : Fin 18} {rd ra rb : Fin 32} {slot : Fin 4} {s u : State} (h : Live (tokenBlocks c.val) s)
    (he : Executes c.val (postReady c.val [rd.val, ra.val, rb.val] s)) (hc : c.val < 16)
    (hu : tpost c.val rd.val ra.val rb.val slot.val (postReady c.val [rd.val, ra.val, rb.val] s) = .done u) :
    execTpost c rd ra rb slot s = .next (retired c.val s u) := by
  refine run_next_of_eq h ((instruction_done he ?_))
  rw [if_neg (not_le.2 hc)]
  exact hu

/-- Settles O36: `tpost` judges the descriptor number, then the room and the dispatcher. -/
theorem tokenPost : Obligations.TokenPost := by
  intro c rd ra rb slot s h t he hc target waiting p
  show (_ → _ → _ → execTpost c rd ra rb slot s = _) ∧ (_ → execTpost c rd ra rb slot s = _) ∧
    (_ → _ → execTpost c rd ra rb slot s = _)
  have hpost : ∀ {u}, tpost c.val rd.val ra.val rb.val slot.val t = .done u →
      execTpost c rd ra rb slot s = .next (retired c.val s u) := execTpost_retires (live_tokenBlocks h) he hc
  refine ⟨fun ht hw hd => hpost ?_, fun ht => hpost (if_pos ht), fun ht hb => hpost ?_⟩
  · refine (if_neg (not_le.2 ht)).trans (if_neg ?_)
    rw [hd, Bool.not_true, Bool.or_false, decide_eq_true_eq]
    exact not_le.2 hw
  · refine (if_neg (not_le.2 ht)).trans (if_pos ?_)
    rw [Bool.or_eq_true, decide_eq_true_eq, Bool.not_eq_true']
    exact hb

end Sys2Proof.Machine
end

section
/-!
PROOF. The double fault of a core (DoubleFault). On the island's core it takes every gate low: what that changes is followed down to the
reports of the moves that end, to show that no core is touched.
-/
namespace Sys2Proof.Machine

/-! ### What leaves the cores as they are -/

/-- What every step of a fold keeps, the fold keeps. -/
theorem foldl_keeps {α β γ : Type} (g : β → γ) {f : β → α → β} (h : ∀ b a, g (f b a) = g b) (l : List α) (b : β) :
    g (l.foldl f b) = g b := by
  induction l generalizing b with
  | nil => rfl
  | cons a l ih => exact (ih (f b a)).trans (h b a)

section
variable (s : State)

@[simp] theorem State.ball_cores (p : Pin) (i v : Nat) : (s.ball p i v).cores = s.cores := by
  unfold State.ball
  split <;> rfl

@[simp] theorem poke_cores (a n v : Nat) : (s.poke a n v).cores = s.cores := State.setBytes_cores s a _

@[simp] theorem emitUnit_cores (sev : Nat) (b : Block) (inst : Nat) (r : Reg) (ix : List Nat) :
    (s.emitUnit sev b inst r ix).cores = s.cores := State.emit_cores

/-- An outcome waits, is discarded, or acts. -/
theorem State.outcome_cores (o : Outcome) {act : State → State} (h : (act s).cores = s.cores) :
    (s.outcome o act).cores = s.cores := by
  unfold State.outcome
  split
  · exact h
  · split <;> rfl

@[simp] theorem pairOut_cores (k : Nat) (h l : Bool) : (pairOut k h l s).cores = s.cores := by
  unfold pairOut
  simp only [apply_ite State.cores, State.ball_cores, State.modPair_cores, ite_self]

@[simp] theorem driveForce_cores (k : Nat) (l : Bool) (t : Nat) : (driveForce k l t s).cores = s.cores := by
  unfold driveForce
  simp only [apply_ite State.cores, pairOut_cores, State.modPair_cores, ite_self]

@[simp] theorem idleOut_cores (k : Nat) : (idleOut k s).cores = s.cores := by
  unfold idleOut
  simp only [apply_ite State.cores, pairOut_cores, State.modPair_cores, ite_self]

@[simp] theorem pairRefresh_cores (k : Nat) : (pairRefresh k s).cores = s.cores := by
  unfold pairRefresh
  simp only [apply_ite State.cores, driveForce_cores, idleOut_cores, State.modPair_cores, ite_self]

@[simp] theorem setPairGate_cores (k : Nat) (high : Bool) : (setPairGate k high s).cores = s.cores := pairRefresh_cores _ k

/-! Reports of moves that end. -/

@[simp] theorem ringPut_cores (v : Nat) : (ringPut v s).cores = s.cores := by
  unfold ringPut
  simp only [apply_ite State.cores, State.noteRing_cores, State.setFld_cores, State.raise_cores, State.incr_cores, poke_cores, ite_self]

@[simp] theorem reportSlotAt_cores (t : Nat) (a : ActSlot) (code : Nat) : (reportSlotAt t a code s).cores = s.cores := by
  unfold reportSlotAt syncInflight
  simp only [apply_ite State.cores, State.modThread_cores, State.setFld_cores, State.incr_cores, ringPut_cores, ite_self]

@[simp] theorem rcpReport_cores (id code : Nat) : (rcpReport id code s).cores = s.cores := by
  unfold rcpReport rcpReportAt
  split
  · rfl
  · split
    · exact reportSlotAt_cores s _ _ _
    · rfl

@[simp] theorem motRingPut_cores (k : Nat) (m : Move) (code : Nat) : (motRingPut k m code s).cores = s.cores := by
  unfold motRingPut
  simp only [apply_ite State.cores, State.noteRing_cores, State.setFld_cores, State.raise_cores, State.incr_cores,
    State.setBytes_cores, ite_self]

@[simp] theorem reportMove_cores (k : Nat) (m : Move) (code : Nat) : (reportMove k m code s).cores = s.cores := by
  unfold reportMove
  split
  · rfl
  · split
    · exact rcpReport_cores s _ _
    · exact motRingPut_cores s _ _ _

@[simp] theorem endMoves_cores (k code : Nat) : (endMoves k code s).cores = s.cores :=
  foldl_keeps State.cores (fun t (e : Move × Nat) => reportMove_cores t k e.1 e.2) _ (freeze k s)

/-! An axis whose gate line falls or rises. -/

@[simp] theorem hwFault_cores (k b : Nat) : (hwFault k b s).cores = s.cores := by
  refine State.outcome_cores s _ ?_
  unfold detectFault detectFaultAt
  split
  · rfl
  · simp only [State.modAxis_cores, emitUnit_cores, State.incr_cores, State.raise_cores, State.setFld_cores]

@[simp] theorem windings_cores (k : Nat) : (windings k s).cores = s.cores :=
  foldl_keeps State.cores (fun t i => pairRefresh_cores t (4 * k + i)) _ s

@[simp] theorem axisStatus_cores (k : Nat) : (axisStatus k s).cores = s.cores := by
  delta axisStatus
  extract_lets x st s1 s2 s3
  exact (State.setReg_cores _ _ _ _).trans ((State.setReg_cores _ _ _ _).trans
    ((State.setFld_cores _ _ _ _).trans (State.setFld_cores _ _ _ _)))

@[simp] theorem axisEnPin_cores (k : Nat) : (axisEnPin k s).cores = s.cores := State.ball_cores s _ _ _

@[simp] theorem setAxisGate_cores (k : Nat) (high : Bool) : (setAxisGate k high s).cores = s.cores := by
  unfold setAxisGate
  simp only [apply_ite State.cores, axisEnPin_cores, axisStatus_cores, windings_cores, State.raise_cores, State.lower_cores,
    endMoves_cores, State.modAxis_cores, hwFault_cores, ite_self]

/-! The island's hardware action (16 R430). -/

@[simp] theorem beaconPin_cores (b : Nat) (high : Bool) : (beaconPin b high s).cores = s.cores := State.ball_cores s _ _ _

@[simp] theorem dacShow_cores (d : Nat) : (dacShow d s).cores = s.cores := State.say_cores _ _

@[simp] theorem driveGates_cores (grp pwm ax : Nat) : (driveGates grp pwm ax s).cores = s.cores := by
  unfold driveGates
  dsimp only
  rw [foldl_keeps State.cores, State.modIsl_cores, foldl_keeps State.cores]
  · intro t k
    simp only [apply_ite State.cores, setAxisGate_cores, setPairGate_cores, ite_self]
  · intro t g
    split
    · rfl
    · split
      · rfl
      · refine foldl_keeps State.cores (fun u i => ?_) _ t
        simp only [apply_ite State.cores, beaconPin_cores, dacShow_cores, ite_self]

@[simp] theorem driveOuts_cores (m : Nat) : (driveOuts m s).cores = s.cores := by
  refine foldl_keeps State.cores (fun t o => ?_) _ s
  dsimp only
  split
  · rfl
  · simp only [State.ball_cores, State.modSout, State.modIsl_cores]

@[simp] theorem mirror_cores : (mirror s).cores = s.cores := by
  unfold mirror
  dsimp only
  rw [foldl_keeps State.cores (fun _ _ => State.setReg_cores _ _ _ _), foldl_keeps State.cores (fun _ _ => State.setReg_cores _ _ _ _)]
  simp only [State.setReg_cores]

@[simp] theorem islHard_cores (cause : Nat) : (islHard cause s).cores = s.cores := by
  unfold islHard
  split
  · rfl
  · simp only [mirror_cores, allLow, driveOuts_cores, driveGates_cores, State.modIsl_cores]

end

/-! ### The double fault (14 R398) -/

/-- An exception of software or of the debugger ends no cycle (13 R350). -/
theorem rtException_of_request {c cause epc : Nat} {s : State} (h : cause ∈ [8, 9, 12, 13]) : rtException c cause epc s = s := by
  unfold rtException
  split
  · rfl
  · rw [if_pos (by rw [List.contains_iff_mem.2 h, Bool.true_or])]

@[simp] theorem coreStat_cores (c : Nat) (s : State) : (coreStat c s).cores = s.cores := by
  unfold coreStat
  split
  · exact State.setFld_cores s _ _ _
  · rfl

theorem doubleFault_cores (c : Nat) (s : State) :
    (doubleFault c s).cores = (s.modCore c (fun x => { x with run := .doublefault })).cores := by
  unfold doubleFault State.coreDo
  split
  · simp only [State.raiseSafe, emitUnit_cores, State.raise_cores, coreStat_cores]
  · exact coreStat_cores c _

theorem coreStat_mem (c : Nat) (s : State) : (coreStat c s).mem = s.mem := by
  obtain ⟨regs, h⟩ := coreStat_eq c s
  rw [h]

theorem emitUnit_mc (s : State) (sev : Nat) (b : Block) (inst : Nat) (r : Reg) (ix : List Nat) :
    (s.emitUnit sev b inst r ix).mc = s.mc := by
  rw [State.emitUnit]
  obtain ⟨regs, fab, h⟩ := State.emit_eq (s := s)
  rw [h]

theorem doubleFault_mem (c : Nat) (s : State) : (doubleFault c s).mem = s.mem := by
  have hdo : (s.coreDo c .doublefault).mem = s.mem := (coreStat_mem c _).trans (State.modCore_mem s c _)
  unfold doubleFault
  split
  · exact State.emit_mem.trans ((State.raise_mem _ _ _).trans hdo)
  · exact hdo

/-- What SVREQ leaves while XACT is 1: the double fault, on the island's core with the hardware action. -/
def svreqTwice (c : Nat) (t : State) : State := if c = 17 then islHard 3 (doubleFault c t) else doubleFault c t

theorem spwRaise_twice {c info ea : Nat} {t : State} (hx : (t.core c).xact = true) : spwRaise c 8 info ea t = svreqTwice c t := by
  simp only [spwRaise, preciseException, hx, if_true, rtException_of_request (show 8 ∈ [8, 9, 12, 13] by decide), Bool.true_and,
    decide_eq_true_eq, svreqTwice]

theorem svreqTwice_cores (c : Nat) (t : State) :
    (svreqTwice c t).cores = (t.modCore c (fun x => { x with run := .doublefault })).cores := by
  unfold svreqTwice
  split
  · rw [islHard_cores, doubleFault_cores]
  · exact doubleFault_cores c t

theorem exec_svreq_twice {c : Fin 18} {code : BitVec 10} {s : State} (h : Live (spwBlocks c.val) s)
    (he : Executes c.val (ready c.val s)) (hx : ((ready c.val s).core c.val).xact = true) :
    exec (.svreq c code) s = .next (retired c.val s (svreqTwice c.val (ready c.val s))) := by
  obtain ⟨hrun, hhalt, himp, hbkpt, hfetch, -⟩ := he
  have hins : ∀ info ea, instruction c.val (fun t => .exc 8 info ea t) (ready c.val s) =
      endStep c.val (svreqTwice c.val (ready c.val s)) := fun info ea => by
    simp [instruction, hrun, hhalt, hx, hfetch, spwRaise_twice]
  show execSvreq c code s = _
  rw [execSvreq, spw, run_next _ h]
  exact congrArg (fun t => Host.Outcome.next (s.finish t)) (hins _ _)

/-! What a control core's double fault records. -/

section
variable {c : Nat} {t : State} (hc : c < 16)
include hc

/-- A control core's double fault, down to the flag: the state in which its event is raised. -/
def dfltRaised (c : Nat) (t : State) : State := (t.coreDo c .doublefault).raise CPU_C_STAT_DFLT [c]

theorem doubleFault_control : doubleFault c t =
    ((dfltRaised c t).emitUnit 6 .cpu c CPU_C_STAT [c]).raiseSafe 5 := if_pos hc

theorem dfltRaised_eq : ∃ regs, dfltRaised c t =
    { t.modCore c (fun x => { x with run := .doublefault }) with regs := regs } :=
  ⟨_, by simp only [dfltRaised, State.coreDo, coreStat, if_pos hc]; rfl⟩

theorem stat_not_mem_queueCounts : CPU_C_STAT.addr [c] ∉ queueCounts Block.cpu.index := by
  simp only [List.mem_cons, List.not_mem_nil, or_false, not_or, addr_sent, addr_ref]
  simp [Reg.addr, CPU_C_STAT, Block.index]
  omega

theorem doubleFault_stat (hlen : c < t.cores.length) :
    (doubleFault c t).fld CPU_C_STAT_STATE [c] = 4 ∧ (doubleFault c t).isSet CPU_C_STAT_DFLT [c] = true := by
  have hfld : ∀ f : Fld, f.reg = CPU_C_STAT → (doubleFault c t).fld f [c] = (dfltRaised c t).fld f [c] := fun f hf => by
    rw [doubleFault_control hc]
    exact State.fld_emit_of_not_mem (by rw [hf]; exact stat_not_mem_queueCounts hc)
  have hrun : ((t.modCore c (fun x => { x with run := .doublefault })).core c).run = .doublefault := by
    rw [State.core_modCore t _ hlen]
  refine ⟨?_, ?_⟩
  · rw [hfld _ rfl, dfltRaised, State.fld_raise_beside _ _ (by decide), State.coreDo, coreStat, if_pos hc,
      State.fld_setFld_self _ _ _ _ (by decide) (by decide), coreStateCode, if_pos hrun]
    rfl
  · rw [State.isSet, hfld _ rfl, dfltRaised, State.fld_raise_self _ _ _ (by decide) (by decide)]
    rfl

end

/-- Settles O19: an exception with XACT 1 is `svreqTwice`; what it changes of a control core is the flag, the event and the request
into Safe. -/
theorem doubleFaultStops : Obligations.DoubleFault := by
  intro c code s h he t hx
  have hcores := svreqTwice_cores c.val t
  have hlen : c.val < t.cores.length := he.lt_length
  have hcore : (svreqTwice c.val t).core c.val = { t.core c.val with run := .doublefault } := by
    rw [State.core, hcores]
    exact State.core_modCore t _ hlen
  refine ⟨_, exec_svreq_twice h he hx, by rw [hcore], fun a ha => ?_, fun q => by rw [State.gr, State.gr, hcore],
    fun d hd => ?_, fun hc => ?_⟩
  · rw [State.byte, State.byte, svreqTwice, if_neg ha, doubleFault_mem]
  · rw [State.core, hcores]
    exact State.core_modCore_ne t _ hd
  · have htwice : svreqTwice c.val t = doubleFault c.val t := if_neg (by omega)
    obtain ⟨regs, hdflt⟩ := dfltRaised_eq (t := t) hc
    obtain ⟨hstate, hflag⟩ := doubleFault_stat hc hlen
    rw [htwice]
    refine ⟨hstate, hflag, ?_, fun f hf hh hroom => ?_⟩
    · rw [doubleFault_control hc, State.raiseSafe, emitUnit_mc, hdflt]
      rfl
    · rw [doubleFault_control hc]
      refine ⟨_, rfl, State.emit_fab_credit (b := .cpu) (by rw [hdflt]; exact hf) hh hroom⟩

end Sys2Proof.Machine
end

section
/-!
PROOF. The step and the queue (StepRunsFront, QueueInOrder).
-/
namespace Sys2Proof.Machine

/-- Settles O1: `step` reads the queue's front. -/
theorem stepRunsFront : Obligations.StepRunsFront := fun _ _ => rfl

/-- A step takes the front of the queue, where there is one. -/
theorem step_pending {s t : State} (h : step s = .next t) : t.pending = s.pending.tail := by
  unfold step at h
  split at h
  case h_1 c rest e =>
    rw [(exec_framed c _).pending h, e]
    rfl
  case h_2 e =>
    rw [← Host.Outcome.next.inj h, e]
    exact e

/-- A run of n steps takes the first n commands. -/
theorem steps_pending (n : Nat) {s t : State} (h : steps n s = .next t) : t.pending = s.pending.drop n := by
  induction n generalizing s with
  | zero =>
    cases h
    rfl
  | succ n ih =>
    rw [steps] at h
    split at h
    case h_1 u hu => rw [ih h, step_pending hu, List.drop_tail]
    case h_2 hno => exact absurd h (hno t)

/-- Settles O3, by induction on the number of steps. -/
theorem queueInOrder : Obligations.QueueInOrder :=
  ⟨fun n _ _ h => steps_pending n h, fun _ _ h => (steps_pending _ h).trans List.drop_length⟩

end Sys2Proof.Machine
end

section
/-!
PROOF. In Dark every command but the power-good of D0 does nothing (DarkIsFrozen): each of them is a `run`.
-/
namespace Sys2Proof.Machine

/-- In Dark the outcome, where it is a next state, is the state as it was. -/
def Frozen (s : State) (o : Host.Outcome State Fault Refusal) : Prop :=
  ∀ t, s.mode = .dark → o = .next t → t = s.finish s.begin

section
variable {s : State}

theorem run_frozen {bs : List Block} {f : State → State} : Frozen s (run bs f s) := by
  intro t hd h
  rcases run_cases bs f s with ⟨-, e⟩ | ⟨-, -, e⟩ | ⟨hl, -⟩
  · rw [e] at h
    cases h
  · rw [e] at h
    exact (Host.Outcome.next.inj h).symm
  · exact absurd hd hl.2

theorem spw_frozen {c : Fin 18} {f : State → SpwRes} : Frozen s (spw c f s) := run_frozen

theorem load_frozen {c : Fin 18} {rd ra : Fin 32} {imm : BitVec 16} {n : Nat} {f : Nat → Word} :
    Frozen s (load c rd ra imm n f s) := run_frozen

theorem store_frozen {c : Fin 18} {rb ra : Fin 32} {imm : BitVec 16} {n : Nat} : Frozen s (store c rb ra imm n s) := run_frozen

theorem atomic_frozen {c : Fin 18} {rd ra rb : Fin 32} {f : Word → Word → Word} : Frozen s (atomic c rd ra rb f s) := run_frozen

theorem monRun_frozen {bs : List Block} {f : State → State} : Frozen s (monRun bs f s) := run_frozen

theorem illegalInstruction_frozen {c : Fin 18} {w : Word} : Frozen s (execIllegalInstruction c w s) := by
  unfold execIllegalInstruction
  split
  · exact spw_frozen
  · exact run_frozen

theorem exec_frozen {c : Instr} (h : ∀ low, c ≠ .d0PowerGood low) : Frozen s (exec c s) := by
  cases c
  all_goals
    delta exec
    dsimp only
  case d0PowerGood low => exact absurd rfl (h low)
  case illegalInstruction => exact illegalInstruction_frozen
  case add | sub | and | or | xor | andn | sll | srl | sra | slt | sltu | min | max | clz | sextb | sexth |
      mul | mulh | mulhu | div | divu | rem | remu | slli | srli | srai | addi | andi | ori | xori | slti |
      sltiu | lui | beq | bne | blt | bge | bltu | bgeu | jal | jalr | qadd | qsub | qneg | qabs | qmul | qmac |
      qmulx | qmacx | qshl | qshr | qlim | qxq | qqx | fadd | fsub | fmul | fdiv | fsqrt | fmadd | fmin | fmax |
      fneg | fabs | fcmpeq | fcmplt | fcmple | fcvtws | fcvtsw | fcvtqs | fcvtsq | fence | fenceAcq | fenceRel |
      fenceI | mfcr | mtcr | svreq | dbgreq | xret | waiti | ttake | twait => exact spw_frozen
  case lw | lh | lhu | lb | lbu => exact load_frozen
  case sw | sh | sb => exact store_frozen
  case swap | aadd => exact atomic_frozen
  case monitorLine | monLogin | auth | logout | monMode | peek | poke | log | sense | time | twin |
      updateStatus | updateData | baud | help => exact monRun_frozen
  all_goals exact run_frozen

end

/-- Settles O8: every command but the power-good is a `run`, which in Dark does nothing. -/
theorem darkIsFrozen : Obligations.DarkIsFrozen :=
  fun _ _ t hd hc h => exec_frozen hc t hd h

end Sys2Proof.Machine
end

section
/-!
PROOF. What reset leaves (ResetState).
-/
namespace Sys2Proof.Machine

/-- An element of a list of equal elements, of which the last is also what an index beyond the list reads. -/
theorem nth_replicate {α : Type} (n i : Nat) (d : α) : nth (List.replicate n d) i d = d := by
  unfold nth
  simp only [List.getElem?_replicate]
  split <;> rfl

theorem reset_core (c : Nat) : State.reset.core c = {} := nth_replicate 18 c ({} : Core)

theorem reset_gr (c r : Nat) : State.reset.gr c r = 0 := by
  rw [State.gr, reset_core]
  split
  · rfl
  · exact nth_replicate 32 r 0

/-- The one register that reset lists is PWR_DOMSTAT. -/
theorem reset_reg {r : Reg} {ix : List Nat} (h : r.addr ix ≠ PWR_DOMSTAT.addr []) : State.reset.reg r ix = r.reset := by
  have hkey : getKey State.reset.regs (r.addr ix) = none := if_neg h
  rw [State.reg, hkey]
  rfl

theorem reset_fab {f : FabQueue} (h : f ∈ State.reset.fab) : f.tokens = [] := by
  rcases List.mem_append.1 h with h | h
  · obtain ⟨b, -, rfl⟩ := List.mem_map.1 h
    rfl
  · rw [List.mem_singleton.1 h]

/-- Settles O7: reset lists no register but PWR_DOMSTAT, and its cores and queues are empty. -/
theorem resetState : Obligations.ResetState := by
  have hmode : State.reset.mode = .seed := by
    rw [State.mode, State.fld, reset_reg (by decide)]
    rfl
  refine ⟨hmode, rfl, rfl, rfl, rfl, rfl, fun f hf => reset_fab hf, fun c _ => ?_, fun r ix h => reset_reg h⟩
  rw [reset_core]
  exact ⟨rfl, rfl, rfl, fun r _ => reset_gr c r⟩

end Sys2Proof.Machine
end

section
/-!
PROOF. The mode requests (ModeRequests): the rows of R502, and what becomes of a request.
-/
namespace Sys2Proof.Machine

section
variable {s : State} {n : Nat} {role : Role}

/-! ### The table of R502 -/

/-- A row of the table is one of a target that can be requested, and in Brace of Safe alone. -/
theorem requestable_of_row {cause : Nat} {m : Mode} {least : Role} (h : requestRole n cause m = some least) :
    requestable n = true ∧ (m = .brace → n = 9) := by
  unfold requestRole at h
  split at h <;> simp_all [requestable]

/-- A request is accepted where the table has a row for it whose role is met and whose condition holds. -/
theorem requestCode_eq_done : requestCode s n role = codeDone ↔
    ∃ least, requestRole n s.mc.safeCause s.mode = some least ∧ least.code ≤ role.code ∧ requestCond s n = codeDone := by
  have hne : codeArgument ≠ codeDone ∧ codeBusy ≠ codeDone ∧ codeMode ≠ codeDone ∧ codeGuard ≠ codeDone := by decide
  cases hr : requestRole n s.mc.safeCause s.mode with
  | none =>
    simp only [requestCode, hr]
    split_ifs <;> simp [hne]
  | some least =>
    obtain ⟨hq, hb⟩ := requestable_of_row hr
    have hbrace : ¬ (s.mode = .brace ∧ n ≠ 9) := fun h => h.2 (hb h.1)
    simp only [requestCode, hr, hq, roleAtLeast, Bool.not_true, Bool.false_eq_true, if_false, Bool.and_eq_true, decide_eq_true_eq,
      if_neg hbrace, Option.some.injEq, exists_eq_left']
    split_ifs with hl
    · simp [hl]
    · simp [hl, hne]

/-- A target without a row is not accepted. -/
theorem requestCode_ne_done (h : n ∉ [2, 3, 4, 5, 6, 9, 16]) : requestCode s n role ≠ codeDone := by
  rw [requestCode, requestable, if_pos (by simpa using h)]
  decide

/-! The rows by target: Run, Hold, Stop, Provision, Keeper, Safe, REBOOT. -/

theorem requestCode_run : requestCode s 5 role = codeDone ↔
    (s.mode = .stop ∧ s.fld TWIN_STAT_ROLE < 2 ∧ s.islv.st = islRun ∧ s.islv.silent = false) ∨
      (s.mode = .hold ∧ 1 ≤ role.code) := by
  have hne : codeMode ≠ codeDone ∧ codeSafetyVeto ≠ codeDone := by decide
  rw [requestCode_eq_done]
  cases hm : s.mode <;> simp [requestRole, requestCond, hm, Role.code]
  split_ifs <;> grind

theorem requestCode_hold : requestCode s 6 role = codeDone ↔ s.mode = .run ∧ 1 ≤ role.code := by
  rw [requestCode_eq_done]
  cases hm : s.mode <;> simp [requestRole, requestCond, hm, Role.code]

theorem requestCode_stop : requestCode s 4 role = codeDone ↔ (s.mode = .run ∨ s.mode = .hold ∨ s.mode = .trial) ∨
    (s.mode = .provision ∧ 1 ≤ role.code ∧ placementOk (leaveChecks s) = true) ∨
    (s.mode = .safe ∧ (s.mc.safeCause = 3 ∨ s.mc.safeCause = 7 → 1 ≤ role.code) ∧ causeLeft s s.mc.safeCause = true) := by
  have hne : codeArgument ≠ codeDone ∧ codeBusy ≠ codeDone := by decide
  rw [requestCode_eq_done]
  cases hm : s.mode <;> simp [requestRole, requestCond, hm, Role.code, hne]
  split_ifs <;> simp_all

theorem requestCode_provision : requestCode s 3 role = codeDone ↔
    (s.mode = .stop ∨ s.mode = .safe) ∧ 1 ≤ role.code ∧ s.follower = false := by
  have hne : codeMode ≠ codeDone := by decide
  rw [requestCode_eq_done]
  cases hm : s.mode <;> simp [requestRole, requestCond, hm, Role.code, hne]

theorem requestCode_keeper : requestCode s 2 role = codeDone ↔
    (s.mode = .stop ∨ s.mode = .provision ∨ s.mode = .safe) ∧ 1 ≤ role.code := by
  rw [requestCode_eq_done]
  cases hm : s.mode <;> simp [requestRole, requestCond, hm, Role.code]

theorem requestCode_safe : requestCode s 9 role = codeDone ↔ s.mode ≠ .dark ∧ s.mode ≠ .seed ∧ s.mode ≠ .keeper := by
  rw [requestCode_eq_done]
  cases hm : s.mode <;> simp [requestRole, requestCond, hm, Role.code]

theorem requestCode_reboot : requestCode s 16 role = codeDone ↔
    (s.mode = .keeper ∨ s.mode = .provision ∨ s.mode = .stop ∨ s.mode = .safe) ∧ 1 ≤ role.code := by
  rw [requestCode_eq_done]
  cases hm : s.mode <;> simp [requestRole, requestCond, hm, Role.code]

/-! ### What becomes of a request -/

theorem judgeRequest_busy {r : ModeReq} (hp : s.mc.pendMode ≠ none) (hm : s.mode ≠ .provision) :
    judgeRequest r s = modeReply r.path r.seq r.target codeBusy { s with mc := { s.mc with reqId := r.id, reqCode := codeBusy } } := by
  have hwait : s.mc.pendMode.isSome = true := Option.isSome_iff_ne_none.2 hp
  have hne : codeBusy ≠ codeDone := by decide
  have hmode : ({ s with mc := { s.mc with reqId := r.id, reqCode := codeBusy } } : State).mode ≠ .provision := hm
  simp only [judgeRequest, hwait, if_true, hne, hmode, ne_eq, not_false_eq_true, decide_true, decide_false, Bool.false_and,
    Bool.true_or, Bool.false_eq_true, if_false]

theorem exec_modeRequest {t : Fin 17} {id : BitVec 32} (h : Live [.sys] s) : exec (.modeRequest t role id) s =
    .next (s.finish (fileRequest { target := t.val, role := role, id := id.toNat, path := 69, seq := 0 } s.begin)) := by
  show execModeRequest t role id s = _
  exact run_next _ h

/-- A request that the full class M cannot take is answered BUSY. -/
theorem fileRequest_full {r : ModeReq} (h1 : s.mode ≠ .seed) (h2 : s.mode ≠ .keeper) (h3 : s.mode ≠ .resync)
    (hfull : 16 ≤ s.kpr.qM.length) : fileRequest r s = modeReply r.path r.seq r.target codeBusy (queryBusy s) := by
  have hpush : pushModeReq r s = (false, queryBusy s) := if_pos hfull
  unfold fileRequest
  split
  case h_1 h => exact absurd h h1
  case h_2 h => exact absurd h h2
  case h_3 h => exact absurd h h3
  case h_4 => rw [hpush]; rfl

/-- The table of R502, row by row. -/
theorem requestCode_rows : requestCode s n role = codeDone ↔
    (n = 5 ∧ s.mode = .stop ∧ s.fld TWIN_STAT_ROLE < 2 ∧ s.islv.st = islRun ∧ s.islv.silent = false) ∨
      (n = 5 ∧ s.mode = .hold ∧ 1 ≤ role.code) ∨ (n = 6 ∧ s.mode = .run ∧ 1 ≤ role.code) ∨
      (n = 4 ∧ (s.mode = .run ∨ s.mode = .hold ∨ s.mode = .trial)) ∨
      (n = 4 ∧ s.mode = .provision ∧ 1 ≤ role.code ∧ placementOk (leaveChecks s) = true) ∨
      (n = 4 ∧ s.mode = .safe ∧ (s.mc.safeCause = 3 ∨ s.mc.safeCause = 7 → 1 ≤ role.code) ∧ causeLeft s s.mc.safeCause = true) ∨
      (n = 3 ∧ (s.mode = .stop ∨ s.mode = .safe) ∧ 1 ≤ role.code ∧ s.follower = false) ∨
      (n = 2 ∧ (s.mode = .stop ∨ s.mode = .provision ∨ s.mode = .safe) ∧ 1 ≤ role.code) ∨
      (n = 9 ∧ s.mode ≠ .dark ∧ s.mode ≠ .seed ∧ s.mode ≠ .keeper) ∨
      (n = 16 ∧ (s.mode = .keeper ∨ s.mode = .provision ∨ s.mode = .stop ∨ s.mode = .safe) ∧ 1 ≤ role.code) := by
  by_cases h : n ∈ [2, 3, 4, 5, 6, 9, 16]
  · simp only [List.mem_cons, List.not_mem_nil, or_false] at h
    rcases h with rfl | rfl | rfl | rfl | rfl | rfl | rfl <;>
      simp [requestCode_run, requestCode_hold, requestCode_stop, requestCode_provision, requestCode_keeper, requestCode_safe,
        requestCode_reboot]
  · simp only [List.mem_cons, List.not_mem_nil, or_false, not_or] at h
    simp [requestCode_ne_done, h]

end

/-- Settles O22: the rows target by target, and the ways of a request. -/
theorem modeRequests : Obligations.ModeRequests := by
  intro t role id s m n cause rank asked b
  refine ⟨requestCode_rows, fun h => ?_, judgeRequest_accepted (s := b) (r := asked),
    judgeRequest_busy (s := b) (r := asked), fun h h1 h2 h3 hroom => ?_, fun h h1 h2 h3 hfull => ?_⟩
  · rw [requestCode, requestable, if_pos]
    simp
    omega
  · rw [exec_modeRequest h, fileRequest_filed h1 h2 h3 hroom]
  · rw [exec_modeRequest h, fileRequest_full h1 h2 h3 hfull]
    rfl

end Sys2Proof.Machine
end

section
/-!
PROOF. The cores' own instants and the debug controls (CoreCommandsComplete).
-/
namespace Sys2Proof.Machine

theorem actOf_cpuCtl : actOf CPU_C_CTL = cpuCtlAct := rfl

/-! ### A control core's debug controls (14 R407, R408) -/

section
variable (m : Master) {d : Nat} {s : State}

theorem cpuCtlAct_halt (hmode : debugMode s = true) (hrun : (s.core d).run ≠ .reset) (hfault : (s.core d).run ≠ .doublefault) :
    cpuCtlAct m [d] 1 s = .ok (haltCore d s) := by
  have hstep : CPU_C_CTL_STEP.on 1 = false := by decide
  have hresume : CPU_C_CTL_RESUME.on 1 = false := by decide
  have hreset : CPU_C_CTL_RESET.on 1 = false := by decide
  have hhalt : CPU_C_CTL_HALT.on 1 = true := by decide
  simp only [cpuCtlAct, List.headD_cons, hstep, hresume, hreset, hhalt, hmode, hrun, hfault, ne_eq, not_false_eq_true,
    decide_true, Bool.and_self, Bool.not_true, Bool.and_false, Bool.false_and, Bool.false_eq_true, if_false, if_true]

theorem cpuCtlAct_resume (hhalted : (s.core d).halted = true) : cpuCtlAct m [d] 2 s = .ok (resumeCore d s) := by
  have hstep : CPU_C_CTL_STEP.on 2 = false := by decide
  have hresume : CPU_C_CTL_RESUME.on 2 = true := by decide
  have hreset : CPU_C_CTL_RESET.on 2 = false := by decide
  have hhalt : CPU_C_CTL_HALT.on 2 = false := by decide
  simp only [cpuCtlAct, List.headD_cons, hstep, hresume, hreset, hhalt, hhalted, Bool.or_self, Bool.false_and, Bool.and_self,
    Bool.false_eq_true, if_false, if_true]

theorem cpuCtlAct_step (hmode : debugMode s = true) (hhalted : (s.core d).halted = true) (hrun : (s.core d).run ≠ .reset)
    (hfault : (s.core d).run ≠ .doublefault) :
    cpuCtlAct m [d] 4 s = .ok (coreStat d (s.modCore d (fun x => { x with halted := false, once := true }))) := by
  have hstep : CPU_C_CTL_STEP.on 4 = true := by decide
  have hresume : CPU_C_CTL_RESUME.on 4 = false := by decide
  have hreset : CPU_C_CTL_RESET.on 4 = false := by decide
  have hhalt : CPU_C_CTL_HALT.on 4 = false := by decide
  simp only [cpuCtlAct, List.headD_cons, hstep, hresume, hreset, hhalt, hmode, hrun, hfault, hhalted, ne_eq, not_false_eq_true,
    decide_true, Bool.and_self, Bool.not_true, Bool.and_false, Bool.false_and, Bool.false_eq_true, if_false, if_true]

theorem cpuCtlAct_reset (hmode : debugMode s = true) : cpuCtlAct m [d] 8 s = .ok (resetCore d s) := by
  have hstep : CPU_C_CTL_STEP.on 8 = false := by decide
  have hresume : CPU_C_CTL_RESUME.on 8 = false := by decide
  have hreset : CPU_C_CTL_RESET.on 8 = true := by decide
  have hhalt : CPU_C_CTL_HALT.on 8 = false := by decide
  simp only [cpuCtlAct, List.headD_cons, hstep, hresume, hreset, hhalt, hmode, Bool.not_true, Bool.and_false, Bool.false_and,
    Bool.false_eq_true, if_false, if_true]

end

/-! ### Interrupts, timers and waits (14 R389, R393, R397, R399) -/

section
variable {c : Fin 18} {s : State} (h : Live (spwBlocks c.val) s)
include h

theorem exec_interrupt (hlive : coreLive (s.begin.core c.val) = true) (hready : interruptReady (s.begin.core c.val) = true)
    (himp : (s.begin.core c.val).imp = none) :
    exec (.interrupt c) s = .next (s.finish (endStep c.val (takeInterrupt c.val s.begin))) := by
  show execInterrupt c s = _
  exact run_next_of_eq h (by simp only [hlive, hready, himp, Option.isNone_none, Bool.and_self, if_true])

theorem exec_impreciseBusst {a r : Nat} (hlive : coreLive (s.begin.core c.val) = true)
    (himp : (s.begin.core c.val).imp = some (a, r)) (hx : (s.begin.core c.val).xact = false) :
    let x := s.begin.core c.val
    exec (.impreciseBusst c) s = .next (s.finish (endStep c.val (rtException c.val 6 x.pc
      (enterException c.val 6 r 1 x.pc a (s.begin.modCore c.val (fun k => { k with imp := none })))))) := by
  intro x
  have htake : takeImprecise c.val s.begin =
      enterException c.val 6 r 1 x.pc a (s.begin.modCore c.val (fun k => { k with imp := none })) := by
    simp only [takeImprecise, himp, x]
  rw [← htake]
  show execImpreciseBusst c s = _
  exact run_next_of_eq h (by simp only [hlive, himp, hx, Option.isSome_some, Bool.not_false, Bool.and_self, if_true, x])

theorem exec_timerCompare (hrun : (s.begin.core c.val).run ≠ .reset) (htimer : (s.begin.core c.val).timer = false) :
    exec (.timerCompare c) s = .next (s.finish
      (timerLook c.val (advanceTo (tnowInstant s.begin (s.begin.core c.val).tcmp.toNat) s.begin))) := by
  show execTimerCompare c s = _
  exact run_next_of_eq h (if_neg (by simp [hrun, htimer]))

theorem exec_waitiWake (hrun : (s.begin.core c.val).run = .waiti) (hhalt : (s.begin.core c.val).halted = false)
    (hpend : (s.begin.core c.val).ipend &&& (s.begin.core c.val).imask.toNat ≠ 0) :
    exec (.waitiWake c) s = .next (s.finish (endStep c.val (s.begin.coreDo c.val .running))) := by
  show execWaitiWake c s = _
  exact run_next_of_eq h (if_pos (by simp [hrun, hhalt, hpend]))

theorem exec_twaitExpiry {t : Nat} (hrun : (s.begin.core c.val).run = .twait t) (hhalt : (s.begin.core c.val).halted = false) :
    exec (.twaitExpiry c) s = .next (s.finish (twaitEnd c.val (advanceTo (tnowInstant s.begin t) s.begin))) := by
  show execTwaitExpiry c s = _
  exact run_next_of_eq h (by simp only [hrun, hhalt, Bool.false_eq_true, if_false])

end

/-- Settles O37: a core's own commands act where their condition holds; a granted write of CTL is judged by its rule. -/
theorem coreCommandsComplete : Obligations.CoreCommandsComplete := by
  intro m c d s hl b x y live asked
  have hspw : Live (spwBlocks c.val) s := hl.mono (by unfold spwBlocks; split <;> simp)
  have hctl : Live [.cpu, .disp] s := hl.mono (by simp)
  exact ⟨exec_interrupt hspw, fun a r => exec_impreciseBusst hspw, exec_timerCompare hspw, exec_waitiWake hspw,
    fun t => exec_twaitExpiry hspw,
    fun hg hmode hlive => takesEffect_of_actOf actOf_cpuCtl hctl rfl hg (cpuCtlAct_halt m hmode hlive.1 hlive.2),
    fun hg hhalted => takesEffect_of_actOf actOf_cpuCtl hctl rfl hg (cpuCtlAct_resume m hhalted),
    fun hg hmode hhalted hlive => takesEffect_of_actOf actOf_cpuCtl hctl rfl hg (cpuCtlAct_step m hmode hhalted hlive.1 hlive.2),
    fun hg hmode => takesEffect_of_actOf actOf_cpuCtl hctl rfl hg (cpuCtlAct_reset m hmode)⟩

end Sys2Proof.Machine
end

section
/-!
PROOF. The dispatcher's commands (DispatcherCommandsComplete).
-/
namespace Sys2Proof.Machine

theorem actOf_dispCmd : actOf DISP_CMD = dispCmdAct := rfl

theorem actOf_coreCtl : actOf DISP_CORE_CTL = coreCtlAct := rfl

theorem actOf_dispCtl : actOf DISP_CTL = dispCtlAct := rfl

theorem fld_of_not_isSet {s : State} {f : Fld} {ix : List Nat} (h : s.isSet f ix = false) : s.fld f ix = 0 := by
  simpa only [State.isSet, ne_eq, decide_not, Bool.not_eq_false', decide_eq_true_eq] using h

/-! ### A core's commands (15 R411) -/

/-- OP, SLOT and DESC of the word that a command writes. -/
theorem of_dispCmdWord {op d slot : Nat} (hop : op < 8) (hd : d < 4096) (hslot : slot < 4) :
    let w := BitVec.ofNat 32 (op * 2 ^ 28 + slot * 2 ^ 16 + d)
    DISP_CMD_OP.of w = op ∧ DISP_CMD_SLOT.of w = slot ∧ DISP_CMD_DESC.of w = d := by
  simp only [Fld.of, bits, DISP_CMD_OP, DISP_CMD_SLOT, DISP_CMD_DESC, BitVec.toNat_ofNat, Nat.shiftRight_eq_div_pow]
  omega

/-- A command of a running dispatcher leaves its code and its descriptor in the core's DISP_CMDRES. -/
theorem dispCmdAct_carriesOut {c : Fin 16} {op d slot : Nat} {s : State} (hop : op ≠ 0) (hop7 : op < 7) (hd : d < 4096)
    (hslot : slot < 4) (hmode : dispMode s = true) :
    let r := dispCommand op d slot (s.dcore c.val).val.toNat (flushPosts s)
    dispCmdAct (.core c) [] (BitVec.ofNat 32 (op * 2 ^ 28 + slot * 2 ^ 16 + d)) s =
      .ok (r.2.2.modDcore c.val (fun k => { k with res := BitVec.ofNat 32 (2 ^ 30 + r.1 * 2 ^ 16 + r.2.1) })) := by
  obtain ⟨hOp, hSlot, hDesc⟩ := of_dispCmdWord (by omega : op < 8) hd hslot
  simp only [dispCmdAct, masterCore, hOp, hSlot, hDesc, hmode, hop, Nat.ne_of_lt hop7, Bool.not_true, Bool.false_eq_true, if_false]

theorem exec_dispCommand {i : Instr} {c : Fin 16} {op d slot : Nat} {s : State} (hl : Live [.disp] s) (hop : op ≠ 0)
    (hop7 : op < 7) (hd : d < 4096) (hslot : slot < 4) (he : exec i s = run [.disp] (dispCmdBy c op d slot) s)
    (hg : Granted (.core c) DISP_CMD [] (BitVec.ofNat 32 (op * 2 ^ 28 + slot * 2 ^ 16 + d)) s.begin)
    (hmode : dispMode s.begin = true) :
    let r := dispCommand op d slot (s.begin.dcore c.val).val.toNat (flushPosts s.begin)
    r.1 = codeDone → TakesEffect i (.core c) DISP_CMD [] (BitVec.ofNat 32 (op * 2 ^ 28 + slot * 2 ^ 16 + d)) s
      (r.2.2.modDcore c.val (fun k => { k with res := BitVec.ofNat 32 (2 ^ 30 + codeDone * 2 ^ 16 + r.2.1) })) := by
  intro r hdone
  rw [← hdone]
  exact takesEffect_of_actOf actOf_dispCmd hl he hg (dispCmdAct_carriesOut hop hop7 hd hslot hmode)

/-! ### Membership (15 R421) -/

section
variable {c : Nat} {s : State}

theorem coreCtlAct_joins {n : Fin 16} (hmember : (s.dcore n.val).member = false) :
    let u := s.modDcore n.val (fun k => { k with member := true, leaving := false, s0 := none, s1 := none })
    let v := (u.raise DISP_CORE_CTL_MEMBER [n.val]).modCore n.val (fun x => { x with task := none, toks := [] })
    coreCtlAct (.core n) [n.val] 1 s = .ok (fillSlots (runReg n.val (v.coreDo n.val .idle))) := by
  have hjoin : DISP_CORE_CTL_JOIN.on 1 = true := by decide
  have hleave : DISP_CORE_CTL_LEAVE.on 1 = false := by decide
  simp only [coreCtlAct, List.headD_cons, hjoin, hleave, masterCore, hmember, ne_eq, not_true_eq_false, decide_false, Bool.or_self,
    Bool.and_false, Bool.false_and, Bool.false_eq_true, if_false, if_true]

theorem coreCtlAct_leaves (m : Master) (hmember : (s.dcore c).member = true) :
    let u := fillSlots (emptySlots c (s.modDcore c (fun k => { k with leaving := true })))
    coreCtlAct m [c] 2 s = .ok (if (u.core c).task = none then leaveNow c u else u) := by
  have hjoin : DISP_CORE_CTL_JOIN.on 2 = false := by decide
  have hleave : DISP_CORE_CTL_LEAVE.on 2 = true := by decide
  simp only [coreCtlAct, List.headD_cons, hjoin, hleave, hmember, Bool.false_and, Bool.and_self, Bool.false_eq_true, if_false, if_true,
    Option.isNone_iff_eq_none]

end

/-! ### High-water marks (15 R425) -/

theorem dispCtlAct_clears (m : Master) {s : State} (hhold : s.isSet DISP_CTL_DBGHOLD = false) :
    dispCtlAct m [] (BitVec.ofNat 32 (256 + s.fld DISP_CTL_DBGHOLD)) s = .ok (hwmClear (s.setFld DISP_CTL_DBGHOLD 0)) := by
  have hfld : s.fld DISP_CTL_DBGHOLD = 0 := fld_of_not_isSet hhold
  have hon : DISP_CTL_DBGHOLD.on (BitVec.ofNat 32 (256 + 0)) = false := by decide
  have hof : DISP_CTL_DBGHOLD.of (BitVec.ofNat 32 (256 + 0)) = 0 := by decide
  have hclr : DISP_CTL_HWMCLR.on (BitVec.ofNat 32 (256 + 0)) = true := by decide
  simp only [dispCtlAct, holdAct, hfld, hon, hof, hclr, hhold, ne_eq, not_true_eq_false, decide_false, Bool.and_false, Bool.false_and,
    Bool.false_eq_true, if_false, if_true]

theorem exec_hwmclr {m : Master} {s : State} (h : Live [.disp] s) : exec (.hwmclr m) s =
    run [.disp] (regCmd dispCtlAct m DISP_CTL [] (BitVec.ofNat 32 (256 + s.begin.fld DISP_CTL_DBGHOLD))) s := by
  show execHwmclr m s = _
  exact (run_next _ h).trans (run_next _ h).symm

/-! ### Tokens, delays and task starts (15 R414, R416, R420) -/

section
variable {s : State} (h : Live [.disp] s) (hmode : dispMode s.begin = true)
include h hmode

theorem exec_tokenMatch : exec .tokenMatch s = .next (s.finish (applyPost s.begin)) := by
  show execTokenMatch s = _
  exact run_next_of_eq h (if_pos hmode)

theorem exec_delayRelease {t : Nat} (hhold : dispHeld s.begin = false) (ht : nextDead s.begin = some t) :
    let u := advanceTo (delayTick t) s.begin
    exec .delayRelease s = .next (s.finish
      (delayRelease (max (delayTick t) (u.now / (1000 * nsF) * (1000 * nsF))) u)) := by
  show execDelayRelease s = _
  exact run_next_of_eq h (by simp only [hmode, hhold, ht, Bool.not_true, Bool.or_self, Bool.false_eq_true, if_false])

end

theorem exec_taskDispatch {c : Fin 16} {s : State} (h : Live [.disp, .cpu] s) (hmode : dispMode s.begin = true)
    (hhold : dispHeld s.begin = false) (htakes : takesTasks s.begin c.val = true) (hidle : memberIdle s.begin c.val = true) :
    exec (.taskDispatch c) s = .next (s.finish (startTask c.val s.begin)) := by
  show execTaskDispatch c s = _
  exact run_next_of_eq h (if_pos (by rw [hmode, hhold, htakes, hidle]; rfl))

/-- Settles O38: a core's commands are judged by the rule of DISP_CMD, the rest by their own. -/
theorem dispatcherCommandsComplete : Obligations.DispatcherCommandsComplete := by
  intro m c d slot s hl b k word op
  have hdisp : Live [.disp] s := hl.mono (by simp)
  have does : ∀ (i : Instr) (n d slot : Nat), n ≠ 0 → n < 7 → d < 4096 → slot < 4 →
      exec i s = run [.disp] (dispCmdBy c n d slot) s → op i n d slot :=
    fun _ _ _ _ hn hn7 hd hslot he hg hmode => exec_dispCommand hdisp hn hn7 hd hslot he hg hmode
  exact ⟨does (.alloc c) 1 0 0 (by omega) (by omega) (by omega) (by omega) rfl,
    does (.dispFree c d) 2 d.val 0 (by omega) (by omega) d.isLt (by omega) rfl,
    does (.dispArm c d) 3 d.val 0 (by omega) (by omega) d.isLt (by omega) rfl,
    does (.cancel c d) 4 d.val 0 (by omega) (by omega) d.isLt (by omega) rfl,
    does (.post c d slot) 5 d.val slot.val (by omega) (by omega) d.isLt slot.isLt rfl,
    does (.prio c d) 6 d.val 0 (by omega) (by omega) d.isLt (by omega) rfl,
    fun p rest hmode _ => exec_tokenMatch hdisp hmode,
    fun t hmode => exec_delayRelease hdisp hmode,
    fun n hmode hhold htakes hidle _ => exec_taskDispatch hl hmode hhold htakes hidle,
    fun hg hmember => takesEffect_of_actOf actOf_coreCtl hl rfl hg (coreCtlAct_joins hmember),
    fun hg hmember => takesEffect_of_actOf actOf_coreCtl hl rfl hg (coreCtlAct_leaves m hmember),
    fun hg hhold => takesEffect_of_actOf actOf_dispCtl hdisp (exec_hwmclr hdisp) hg (dispCtlAct_clears m hhold)⟩

end Sys2Proof.Machine
end

section
/-!
PROOF. The cyclic program (CyclicProgramComplete): LOAD of RT_CMD records the source and the length that it reads from, where the
statement records 0.
-/
namespace Sys2Proof.Machine

/-- A host session's admitted LOAD in Provision, with a source length of 4 bytes in RT_LOAD_LEN. -/
def loadState : State :=
  { State.reset with regs := [(PWR_DOMSTAT.addr [], 13), (SYS_MODE.addr [], 3), (RT_LOAD_LEN.addr [], 4)] }

/-- The word that asks LOAD: GO with OP 1. -/
def loadWord : Word := BitVec.ofNat 32 (2 ^ 31 + 0 * 2 ^ 16 + 1)

theorem loadState_granted : Granted (.hostItem 0 .maker) RT_CMD [] loadWord loadState.begin := by
  unfold Granted GrantedAt
  refine ⟨rfl, ?_, rfl, rfl, fun _ => ?_, ?_⟩
  · decide
  · decide
  · decide

/-- The command that waits after LOAD, with where it reads from: SRC x 2^32 + LEN. -/
theorem loadState_cmd :
    (regWrite (actOf RT_CMD) (.hostItem 0 .maker) RT_CMD [] loadWord loadState.begin).2.rt.cmd.map (fun x => x.2.1) = some 4 := by
  rfl

/-- Refutes O39: with 4 bytes to load, LOAD leaves a waiting command that reads 4 bytes, not 0. -/
theorem not_cyclicProgramComplete : ¬ Obligations.CyclicProgramComplete := by
  intro h
  obtain ⟨-, -, -, -, -, -, -, -, hload, -⟩ := h (.hostItem 0 .maker) 0 0 loadState ⟨fun _ _ => List.not_mem_nil, by decide⟩
  have hw := (hload ⟨loadState_granted, by decide⟩ (by decide)).1
  have hcmd := congrArg (fun x => x.2.rt.cmd.map (fun x => x.2.1)) hw
  exact absurd (loadState_cmd.symm.trans hcmd) (by decide)

end Sys2Proof.Machine
end

section
/-!
PROOF. CAN (CanCommandsComplete): the rules of CAN_c_CTL and CAN_c_MB_b_STAT, and what a controller does at its own instants.
-/
namespace Sys2Proof.Machine

theorem actOf_mbStat : actOf CAN_MB_STAT = mbStatAct := rfl

theorem actOf_canCtl : actOf CAN_CTL = canCtlAct := rfl

/-! ### Requests of a message buffer (12 R335, R336) -/

section
variable (m : Master) {c x : Nat} {s : State}

theorem mbStatAct_requests (hpend : s.isSet CAN_MB_STAT_TXPEND [c, x] = false) (hrole : s.fld CAN_MB_CFG_ROLE [c, x] = 2) :
    mbStatAct m [c, x] 1 s = .ok (canRequest c x s) := by
  have hreq : CAN_MB_STAT_TXREQ.on 1 = true := by decide
  have hovr : CAN_MB_STAT_OVR_CLR.on 1 = false := by decide
  have habort : CAN_MB_STAT_ABORT.on 1 = false := by decide
  simp only [mbStatAct, List.headD_cons, List.getD_cons_succ, List.getD_cons_zero, hreq, hovr, habort, hpend, hrole, ne_eq,
    not_true_eq_false, decide_false, Bool.or_self, Bool.and_false, Bool.false_and, Bool.false_eq_true, if_false, if_true]

theorem mbStatAct_aborts (hpend : s.isSet CAN_MB_STAT_TXPEND [c, x] = true) :
    mbStatAct m [c, x] 2 s = .ok (canStop c x codeAborted s) := by
  have hreq : CAN_MB_STAT_TXREQ.on 2 = false := by decide
  have hovr : CAN_MB_STAT_OVR_CLR.on 2 = false := by decide
  have habort : CAN_MB_STAT_ABORT.on 2 = true := by decide
  simp only [mbStatAct, List.headD_cons, List.getD_cons_succ, List.getD_cons_zero, hreq, hovr, habort, hpend, Bool.and_self,
    Bool.false_and, Bool.false_eq_true, if_false, if_true]

/-! ### Recovery from bus-off (12 R338) -/

/-- RECOVER of a controller that runs leaves it recovering. -/
theorem canCtlAct_recovers {w : Word} (hmode : CAN_CTL_OPMODE.of w ≠ 3) (hrecover : CAN_CTL_RECOVER.on w = true)
    (hoff : s.fld CAN_ERR_STATE [c] = 2) (hen : s.isSet CAN_CTL_EN [c] = true) (hinit : s.isSet CAN_CTL_INIT [c] = false) :
    canCtlAct m [c] w s = .ok ((s.store CAN_CTL [c] w).setFld CAN_ERR_STATE 3 [c]) := by
  simp only [canCtlAct, List.headD_cons, hmode, hrecover, hoff, hen, hinit, ne_eq, not_true_eq_false, decide_false, Bool.not_false,
    Bool.not_true, Bool.and_self, Bool.and_false, Bool.false_and, Bool.false_eq_true, if_false, if_true]

end

/-! ### The instants of a controller -/

section
variable {c : Fin 8} {x : Fin 64} {s : State} (h : Live [.can] s)
include h

theorem exec_recover {m : Master} : exec (.recover m c) s = run [.can] (regCmd canCtlAct m CAN_CTL [c.val]
    (BitVec.ofNat 32 ((s.begin.reg CAN_CTL [c.val]).toNat ||| 64))) s := by
  show execRecover m c s = _
  exact (run_next _ h).trans (run_next _ h).symm

/-- An error-active controller that is not restricted becomes error passive by either counter (R338). -/
theorem exec_errorPassive (tx : Bool) (hon : canOn s.begin c.val = true) (hfree : canRestricted s.begin c.val = false)
    (hactive : s.begin.fld CAN_ERR_STATE [c.val] = 0) :
    exec (.errorPassive c tx) s = .next (s.finish (
      if tx then canCounters c.val (max 128 (s.begin.fld CAN_ERR_TEC [c.val])) (s.begin.fld CAN_ERR_REC [c.val]) s.begin
      else canCounters c.val (s.begin.fld CAN_ERR_TEC [c.val]) (max 128 (s.begin.fld CAN_ERR_REC [c.val])) s.begin)) := by
  show execErrorPassive c tx s = _
  exact run_next_of_eq h (if_pos (by simp only [hon, hfree, hactive, decide_true, Bool.not_false, Bool.and_self]))

theorem exec_busOff (hon : canOn s.begin c.val = true) (hfree : canRestricted s.begin c.val = false) :
    exec (.busOff c) s = .next (s.finish (canCounters c.val 256 (s.begin.fld CAN_ERR_REC [c.val]) s.begin)) := by
  show execBusOff c s = _
  exact run_next_of_eq h (if_pos (by rw [hon, hfree]; rfl))

theorem exec_canRecoveryDone (hpow : s.begin.powered .can = true) (hmode : canMode s.begin = true)
    (hrec : s.begin.fld CAN_ERR_STATE [c.val] = 3) :
    exec (.canRecoveryDone c) s =
      .next (s.finish ((s.begin.setReg CAN_ERR 0 [c.val]).lower CAN_FLAGS_BUSOFF [c.val])) := by
  show execCanRecoveryDone c s = _
  exact run_next_of_eq h (if_pos (by simp only [hpow, hmode, hrec, decide_true, Bool.and_self]))

/-- A controller on the bus takes the end of another node's frame (R329, R332). -/
theorem exec_canFrameRx {r : CanEnd} {ide rtr fdf brs esi : Bool} {id : BitVec 29} {dlc : BitVec 4} {data : List Byte}
    {t : State} (hon : canOn s.begin c.val = true) (ht : (match r with
      | .exception => s.begin.raise CAN_FLAGS_PXE [c.val]
      | .error => if canRestricted s.begin c.val then s.begin else
          canCounters c.val (s.begin.fld CAN_ERR_TEC [c.val]) (s.begin.fld CAN_ERR_REC [c.val] + 1) s.begin
      | .good => canFrameTaken c.val ide rtr fdf brs esi id dlc data s.begin) = t) :
    exec (.canFrameRx c r ide rtr fdf brs esi id dlc data) s = .next (s.finish t) := by
  show execCanFrameRx c r ide rtr fdf brs esi id dlc data s = _
  refine run_next_of_eq h ((if_neg (by rw [hon]; decide)).trans (Eq.trans ?_ ht))
  cases r <;> rfl

theorem exec_canTxComplete {res : CanTxEnd} (hsend : canSending s.begin c.val x.val = true) :
    exec (.canTxComplete c x res) s = .next (s.finish (canAttemptEnds c.val x.val res s.begin)) := by
  show execCanTxComplete c x res s = _
  exact run_next_of_eq h (if_pos hsend)

theorem exec_canTxTimeout {d : Nat}
    (hd : ((s.begin.canCtl c.val).pend.find? (fun t => t.buf = x.val)).bind (canDeadline s.begin c.val) = some d) :
    exec (.canTxTimeout c x) s = .next (s.finish (canStop c.val x.val codeTimeout (advanceTo d s.begin))) := by
  show execCanTxTimeout c x s = _
  exact run_next_of_eq h (by simp only [hd])

theorem exec_canRxTimeout {d : Nat} (hd : canRxDeadline s.begin c.val x.val = some d) :
    exec (.canRxTimeout c x) s =
      .next (s.finish (canRxTimeout c.val x.val (tickNo d + 1) (advanceTo (tickAt (tickNo d + 1)) s.begin))) := by
  show execCanRxTimeout c x s = _
  exact run_next_of_eq h (by simp only [hd])

end

/-- Settles O50: a granted write is judged by the rule of CTL or of the buffer's STAT, and a controller's own commands act where their
condition holds. -/
theorem canCommandsComplete : Obligations.CanCommandsComplete := by
  intro m c x ide rtr fdf brs esi id dlc data res s hl b n mb tec rec_ word running received
  exact ⟨
    fun hg hpend hrole => takesEffect_of_actOf actOf_mbStat hl rfl hg (mbStatAct_requests m hpend hrole),
    fun hg hpend => takesEffect_of_actOf actOf_mbStat hl rfl hg (mbStatAct_aborts m hpend),
    fun hg hmode hrecover hoff hrun => takesEffect_of_actOf actOf_canCtl hl (exec_recover hl) hg
      (canCtlAct_recovers m hmode hrecover hoff hrun.1 hrun.2),
    fun hon hfree hactive => ⟨exec_errorPassive hl true hon hfree hactive, exec_errorPassive hl false hon hfree hactive⟩,
    exec_busOff hl,
    exec_canRecoveryDone hl,
    fun hon => exec_canFrameRx hl hon rfl,
    fun hon hfree => exec_canFrameRx hl hon (if_neg (by rw [hfree]; decide)),
    fun hon hfree => exec_canFrameRx hl hon (if_pos hfree),
    fun hon => exec_canFrameRx hl hon rfl,
    exec_canTxComplete hl,
    fun d => exec_canTxTimeout hl,
    fun d => exec_canRxTimeout hl⟩

end Sys2Proof.Machine
end

section
/-!
PROOF. The safety island (IslandCommandsComplete): each of its commands acts where the island is on and works.
-/
namespace Sys2Proof.Machine

section
variable {s : State} (h : Live [.safe] s)
include h

/-! ### Power-up and the start-up tests (16 R433, R434) -/

theorem exec_islandPowerUp (hoff : s.begin.isl.on = false) (hcause : s.begin.isl.cause ≠ 8) :
    exec .islandPowerUp s = .next (s.finish (islPowerUp s.begin)) := by
  show execIslandPowerUp s = _
  exact run_next_of_eq h (if_neg (by simp [hoff, hcause]))

theorem exec_islandStartDone (pass : Bool) (hon : s.begin.isl.on = true) (hst : s.begin.isl.st = islStart) :
    exec (.islandStartDone pass) s = .next (s.finish (islStarted pass s.begin)) := by
  show execIslandStartDone pass s = _
  exact run_next_of_eq h (if_pos (by simp [hon, hst]))

theorem exec_configWriteDone (hon : s.begin.isl.on = true) (hst : s.begin.isl.st = islComm) :
    exec .configWriteDone s = .next (s.finish (mirror (pulsesHigh (connsBegin (islReadCfg s.begin))))) := by
  show execConfigWriteDone s = _
  exact run_next_of_eq h (if_pos (by simp [hon, hst]))

/-! ### Inputs, connections and outputs of a working island (16 R436, R446, R451) -/

section
variable (hworks : islEvaluates s.begin = true)
include hworks

theorem exec_safeInputSample (a b : BitVec 32) :
    exec (.safeInputSample a b) s = .next (s.finish (sampleInputs a b s.begin)) := by
  show execSafeInputSample a b s = _
  exact run_next_of_eq h (if_pos hworks)

theorem exec_testPulse {o : Fin 16} {pa pb ca cb qa qb : BitVec 32} (ho : (islEn s.begin 2 o.val).isSome = true) :
    exec (.testPulse o pa pb ca cb qa qb) s = .next (s.finish (testPulse o.val pa pb ca cb qa qb s.begin)) := by
  show execTestPulse o pa pb ca cb qa qb s = _
  exact run_next_of_eq h (if_neg (by rw [hworks, Option.isNone_eq_false_iff.2 ho]; decide))

variable {c : Fin 8} {r : Nat}

theorem exec_connectionTimeout (hr : islEn s.begin 6 c.val = some r) (hrx : (s.begin.conn c.val).rxseq.isSome = true)
    (hst : (s.begin.conn c.val).st ≠ 4) :
    exec (.connectionTimeout c) s = .next (s.finish (mirror (connFault c.val 1 (s.begin.modIsl (fun y =>
      { y with tick := max y.tick ((s.begin.conn c.val).acc + recN s.begin r 6 2) }))))) := by
  show execConnectionTimeout c s = _
  refine run_next_of_eq h ?_
  simp only [hr]
  exact if_pos (by simp [hworks, hrx, hst])

theorem exec_telegramSend (hr : islEn s.begin 6 c.val = some r)
    (hdue : (s.begin.conn c.val).sent.any (fun t => s.begin.isl.tick < t + recN s.begin r 4 2) = false) :
    exec (.telegramSend c) s = .next (s.finish (telegramSent c.val r s.begin)) := by
  show execTelegramSend c s = _
  refine run_next_of_eq h ?_
  simp only [hr, hworks, hdue, Bool.not_true, Bool.or_self, Bool.false_eq_true, if_false]

/-- A telegram of the connection's number, length, version and path whose CRC agrees is taken (R448). -/
theorem exec_telegram {net : Bool} {bs : List Byte} {k : Nat} :
    let num := fun (k n : Nat) => ofLE ((bs.drop k).take n)
    connOf s.begin (num 0 2) = some k → islEn s.begin 6 k = some r → bs.length = 36 → num 2 1 = 1 →
      ((num 3 1 % 2 = 1) = (net = true)) → num 32 4 = crc32c (recN s.begin r 8 4) (bs.take 32) →
      exec (.telegram net bs) s = .next (s.finish (telegramTaken k r net bs num s.begin)) := by
  intro num hk hr hlen hver hnet hcrc
  show execTelegram net bs s = _
  refine run_next_of_eq h ?_
  simp only [num] at hk hver hnet hcrc
  simp only [hk, hr, hlen, hver, hnet, hcrc, hworks, num, decide_true, Bool.and_self, Bool.not_true, Bool.or_self,
    Bool.false_eq_true, if_false]

theorem exec_switchTest {o : Fin 16} {hsc hso lsc lso : Bool} (hr : islEn s.begin 3 o.val = some r)
    (hper : recN s.begin r 8 2 ≠ 0) (hoff : (s.begin.sout o.val).on = false) (hrh : bit s.begin.isl.rb o.val = false)
    (hrl : bit s.begin.isl.rb (16 + o.val) = false) :
    exec (.switchTest o hsc hso lsc lso) s = .next (s.finish
      (switchTested o.val (recN s.begin r 8 2) (recN s.begin r 6 2) (hsc && hso && lsc && lso) s.begin)) := by
  show execSwitchTest o hsc hso lsc lso s = _
  refine run_next_of_eq h ?_
  simp only [hr]
  exact if_neg (by simp [hworks, hper, hoff, hrh, hrl])

end

/-! ### Ticks (16 R455, R456) -/

theorem exec_islandTick {sa sb rh rl : BitVec 16} (hon : s.begin.isl.on = true) :
    exec (.islandTick sa sb rh rl) s = .next (s.finish (islandTick sa sb rh rl s.begin)) := by
  show execIslandTick sa sb rh rl s = _
  exact run_next_of_eq h (if_neg (by rw [hon]; decide))

theorem exec_tickWindow {ticks : BitVec 16} (hon : s.begin.isl.on = true) (hheld : s.begin.isl.held = false)
    (hst : s.begin.isl.st ≠ 0) :
    exec (.tickWindow ticks) s = .next (s.finish (tickWindowEnds ticks.toNat s.begin)) := by
  show execTickWindow ticks s = _
  exact run_next_of_eq h (if_neg (by simp [hon, hheld, hst]))

end

/-- The island is silent from the tick that ends the time it may be silent in (16 R463). -/
theorem exec_islandSilence {s : State} (h : Live [.safe, .mot] s) (happlies : islApplies s.begin = true)
    (hsilent : s.begin.islv.silent = false) :
    let n := ceilDiv (islSilenceFrom s.begin + 1250000 * nsF) (5000 * nsF)
    let u := advanceTo (tickAt n) s.begin
    exec .islandSilence s = .next (s.finish (islSilence (max n u.tick) u)) := by
  show execIslandSilence s = _
  exact run_next_of_eq h (if_neg (by rw [happlies, hsilent]; decide))

/-- Settles O51, a clause per command. -/
theorem islandCommandsComplete : Obligations.IslandCommandsComplete := by
  intro c o a b' net pass hsc hso lsc lso pa pb ca cb qa qb sa sb rh rl ticks bs s hl b i x y num on works silence then_
  have hsafe : Live [.safe] s := hl.mono (by simp)
  have hmot : Live [.safe, .mot] s := hl.mono (by simp)
  have hkpr : Live [.safe, .kpr] s := hl.mono (by simp)
  exact ⟨run_next (islHard 1) hsafe, exec_islandPowerUp hsafe, exec_islandStartDone hsafe pass, exec_configWriteDone hsafe,
    fun hworks => exec_safeInputSample hsafe hworks a b',
    fun hworks => exec_testPulse hsafe hworks,
    fun r hr hworks => exec_connectionTimeout hsafe hworks hr,
    fun r hr hworks => exec_telegramSend hsafe hworks hr,
    fun k r hk hr hworks => exec_telegram hsafe hworks hk hr,
    fun r hr hworks => exec_switchTest hsafe hworks hr,
    exec_islandTick hsafe, exec_tickWindow hsafe, exec_islandSilence hmot, run_next mirrorRead hkpr⟩

end Sys2Proof.Machine
end

section
/-!
PROOF. The twin pair (TwinCommandsComplete): the rule of TWIN_CMD, the messages of the partner, and the pair's own instants.
-/
namespace Sys2Proof.Machine

theorem actOf_twinCmd : actOf TWIN_CMD = twinCmdAct := rfl

/-! ### RESYNC, SWAP and ABORTRS (17 R491, R493, R495) -/

section
variable (m : Master) {s : State}

theorem twinCmdAct_resync (hen : s.isSet TWIN_CTL_EN = true) (hstep : s.isSet TWIN_STAT_INSTEP = false)
    (hlead : s.leader = false) : twinCmdAct m [] 1 s = .ok (resyncStart s) := by
  have hrs : TWIN_CMD_RESYNC.on 1 = true := by decide
  have hsw : TWIN_CMD_SWAP.on 1 = false := by decide
  have habort : TWIN_CMD_ABORTRS.on 1 = false := by decide
  simp only [twinCmdAct, hrs, hsw, habort, hen, hstep, hlead, Bool.not_true, Bool.or_self, Bool.and_false, Bool.false_and,
    Bool.false_eq_true, if_false, if_true]

theorem twinCmdAct_swap (hlead : s.leader = true) (hstep : s.isSet TWIN_STAT_INSTEP = true) (hmatched : s.twin.matched = true) :
    twinCmdAct m [] 2 s = .ok (s.modTwin (fun t => { t with swap := some s.tick })) := by
  have hrs : TWIN_CMD_RESYNC.on 2 = false := by decide
  have hsw : TWIN_CMD_SWAP.on 2 = true := by decide
  have habort : TWIN_CMD_ABORTRS.on 2 = false := by decide
  simp only [twinCmdAct, hrs, hsw, habort, hlead, hstep, hmatched, Bool.not_true, Bool.and_self, Bool.and_false, Bool.false_and,
    Bool.false_eq_true, if_false, if_true]

theorem twinCmdAct_abort (h0 : s.fld TWIN_RS_PHASE ≠ 0) (h5 : s.fld TWIN_RS_PHASE ≠ 5) :
    twinCmdAct m [] 4 s = .ok (resyncEnd 6 s) := by
  have hrs : TWIN_CMD_RESYNC.on 4 = false := by decide
  have hsw : TWIN_CMD_SWAP.on 4 = false := by decide
  have habort : TWIN_CMD_ABORTRS.on 4 = true := by decide
  simp only [twinCmdAct, hrs, hsw, habort, h0, h5, ne_eq, not_false_eq_true, decide_true, Bool.and_self, Bool.false_and,
    Bool.false_eq_true, if_false, if_true]

end

section
variable {s : State} (h : Live [.twin] s)
include h

/-! ### HELLO and the lanes (17 R466 to R468) -/

section
variable {pair : BitVec 12} {hello : Hello} {d0 d1 : BitVec 10} (hen : s.begin.isSet TWIN_CTL_EN = true)
  (hdom : s.begin.domOn 9 = true)
include hen hdom

theorem exec_twinHello_other (hother : pair.toNat ≠ s.begin.fld TWIN_CTL_PAIRID ∨ hello.dev ≠ s.begin.fld TWIN_CTL_PEERDEV) :
    exec (.twinHello pair hello d0 d1) s = .next (s.finish (twinEvent 5 1 1 0 (s.begin.setFld TWIN_RS_CAUSE 1))) := by
  show execTwinHello pair hello d0 d1 s = _
  refine run_next_of_eq h ((if_neg (by rw [hen, hdom]; decide)).trans (if_pos ?_))
  simpa only [Bool.or_eq_true, decide_eq_true_eq] using hother

theorem exec_twinHello_matches (hpair : pair.toNat = s.begin.fld TWIN_CTL_PAIRID)
    (hdev : hello.dev = s.begin.fld TWIN_CTL_PEERDEV) :
    exec (.twinHello pair hello d0 d1) s = .next (s.finish (twinLinked hello d0.toNat d1.toNat s.begin)) := by
  show execTwinHello pair hello d0 d1 s = _
  refine run_next_of_eq h ((if_neg (by rw [hen, hdom]; decide)).trans (if_neg ?_))
  simp [hpair, hdev]

end

theorem exec_ownsnsFall {lv : BitVec 4} :
    let seen := s.begin.setFld TWIN_STAT_PEEROWN lv.toNat
    seen.leader = true ∨ inStepFollower seen = true → exec (.ownsnsFall lv) s = .next (s.finish ((List.range 4).foldl
      (fun v j => if bit (s.begin.fld TWIN_STAT_PEEROWN) j && !lv.getLsbD j then claim j v else v) seen)) := by
  intro seen hrole
  show execOwnsnsFall lv s = _
  exact run_next_of_eq h (if_pos (by rwa [Bool.or_eq_true]))

theorem exec_laneDown {lane : Fin 2} (h0 : s.begin.isSet TWIN_LINK_UP0 = true) (h1 : s.begin.isSet TWIN_LINK_UP1 = true) :
    exec (.laneDown lane) s = .next (s.finish
      (twinEvent 4 2 lane.val 0 (s.begin.lower (if lane.val = 0 then TWIN_LINK_UP0 else TWIN_LINK_UP1)))) := by
  have hup : ∀ k : Nat, s.begin.isSet (if k = 0 then TWIN_LINK_UP0 else TWIN_LINK_UP1) = true := fun k => by
    split
    · exact h0
    · exact h1
  show execLaneDown lane s = _
  exact run_next_of_eq h (if_pos (by simp only [hup, Bool.and_self]))

/-! ### Resynchronisation (17 R493, R495) -/

theorem exec_resyncTimeout {f : Nat} (hf : s.begin.twin.rsFrom = some f)
    (hrole : (advanceTo (f + 2 * secF) s.begin).fld TWIN_STAT_ROLE = 3) :
    exec .resyncTimeout s = .next (s.finish (resyncStart (resyncEnd 4 (advanceTo (f + 2 * secF) s.begin)))) := by
  show execResyncTimeout s = _
  refine run_next_of_eq h ?_
  simp only [hf, hrole, if_true]

section
variable {phase : Fin 5} {mib : BitVec 16} {rounds : BitVec 8} {cut : Nat} {parts : List StatePart}

theorem exec_state_leader (hlead : s.begin.leader = true) :
    exec (.state phase mib rounds cut parts) s = .next (s.finish (stateServe phase.val cut s.begin)) := by
  show execState phase mib rounds cut parts s = _
  exact run_next_of_eq h (if_pos hlead)

/-- A joining device takes the parts of the state that it is sent. -/
theorem exec_state_joins (hrole : s.begin.fld TWIN_STAT_ROLE = 3) (hrs : 2 ≤ s.begin.fld TWIN_RS_PHASE) (hphase : 2 ≤ phase.val) :
    let filled := ((s.begin.setFld TWIN_RS_PHASE phase.val).setFld TWIN_RS_SENT mib.toNat).setFld TWIN_RS_ROUNDS rounds.toNat
    exec (.state phase mib rounds cut parts) s = .next (s.finish (parts.foldl fillPart
      (if phase.val = 4 then filled.modTwin (fun t => { t with cut := some cut }) else filled))) := by
  intro filled
  have hlead : ¬ s.begin.leader = true := by simp [State.leader, hrole]
  show execState phase mib rounds cut parts s = _
  refine run_next_of_eq h ((if_neg hlead).trans (if_neg ?_))
  simp only [hrole, ne_eq, not_true_eq_false, decide_false, Bool.false_or, Bool.or_eq_true, decide_eq_true_eq]
  omega

end

theorem exec_resyncCut {j : Nat} (hcut : s.begin.twin.cut = some j) (hrole : s.begin.fld TWIN_STAT_ROLE = 3)
    (hphase : s.begin.fld TWIN_RS_PHASE = 4) (htb : s.begin.tb.started = true) :
    exec .resyncCut s = .next (s.finish (resyncCutAt j s.begin)) := by
  show execResyncCut s = _
  refine run_next_of_eq h ?_
  simp only [hcut, hrole, hphase, htb, ne_eq, not_true_eq_false, decide_false, Bool.not_true, Bool.or_self, Bool.false_eq_true,
    if_false]

/-! ### Digests and heartbeats (17 R472, R476, R484) -/

theorem exec_digestForm {j : Nat} (hj : s.begin.adm.lastTick = some j) (hmul : j % 200 = 0)
    (hen : s.begin.isSet TWIN_CTL_EN = true) : exec .digestForm s = .next (s.finish (digestFormed j s.begin)) := by
  show execDigestForm s = _
  refine run_next_of_eq h ?_
  simp only [hj, hmul, hen, ne_eq, not_true_eq_false, decide_false, Bool.not_true, Bool.or_self, Bool.false_eq_true, if_false]

theorem exec_digest {n : Nat} {dig : List Word} (hen : s.begin.isSet TWIN_CTL_EN = true) (hlen : dig.length = 8) :
    exec (.digest n dig) s =
      .next (s.finish (digestCompare (s.begin.modTwin (fun t => { t with peerDig := some (n, dig) })))) := by
  have htake : (dig ++ List.replicate 8 0).take 8 = dig := List.take_left' hlen
  show execDigest n dig s = _
  exact run_next_of_eq h ((if_neg (by rw [hen]; decide)).trans (by rw [htake]))

theorem exec_hbeat {n : Nat} {inStep : Bool} (hlead : s.begin.leader = true) :
    exec (.hbeat n inStep) s = .next (s.finish (hbeatTaken n inStep s.begin)) := by
  show execHbeat n inStep s = _
  exact run_next_of_eq h (if_pos hlead)

theorem exec_leaderStall (hlead : s.begin.leader = true) : exec .leaderStall s = .next (s.finish (leaderStalls s.begin)) := by
  show execLeaderStall s = _
  exact run_next_of_eq h (if_neg (by rw [hlead]; decide))

theorem exec_heartbeatMiss_follower {j : Nat} (hen : s.begin.isSet TWIN_CTL_EN = true) (hfollow : s.begin.follower = true) :
    let u := if s.begin.twin.openTick.isNone then runNextTick s.begin else s.begin
    u.twin.openTick = some j → exec .heartbeatMiss s = .next (s.finish (followerMiss j u)) := by
  intro u hu
  show execHeartbeatMiss s = _
  refine run_next_of_eq h ((if_neg (by rw [hen]; decide)).trans ((if_pos hfollow).trans ?_))
  simp only [u] at hu
  simp only [hu, u]

theorem exec_heartbeatMiss_leader {j : Nat} (hen : s.begin.isSet TWIN_CTL_EN = true) (hfollow : s.begin.follower = false)
    (hlead : s.begin.leader = true) (hj : s.begin.adm.lastTick = some j) :
    exec .heartbeatMiss s = .next (s.finish (leaderMiss j s.begin)) := by
  show execHeartbeatMiss s = _
  refine run_next_of_eq h ((if_neg (by rw [hen]; decide)).trans ((if_neg (by rw [hfollow]; decide)).trans ((if_pos hlead).trans ?_)))
  simp only [hj]

/-! ### The anchor (17 R478) -/

section
variable {grp : Fin 4} (hanchor : s.begin.isSet TWIN_GRP_ANCHOR [grp.val] = true) (hstep : s.begin.isSet TWIN_STAT_INSTEP = true)
  (hthr : s.begin.isSet TWIN_GRP_USETHR [grp.val] = false)
include hanchor hstep hthr

/-- A group without a thread changes hands at the next multiple of 200 ticks. -/
theorem exec_anchorTakeback {t : State} :
    let u := advanceTo (tickAt (ceilDiv (ceilDiv s.begin.now (tickAt 1)) 200 * 200)) s.begin
    (if u.follower && homeOf u grp.val then claim grp.val u
      else if u.leader && !homeOf u grp.val then give grp.val (advanceTo (u.now + 20 * nsF) u)
      else u) = t → exec (.anchorTakeback grp) s = .next (s.finish t) := by
  intro u ht
  show execAnchorTakeback grp s = _
  refine run_next_of_eq h (Eq.trans ?_ ht)
  simp only [hanchor, hstep, hthr, Bool.not_true, Bool.or_self, Bool.false_and, Bool.false_eq_true, if_false, u]

end

/-! ### Messages of a tick (17 R470, R473) -/

section
variable {n k seq : Nat} {crc : Word} {outs : List Outcome} {mode : Fin 12} {epoch : BitVec 16} {swap : Bool}
  {mirrors : List Mirror} (hen : s.begin.isSet TWIN_CTL_EN = true)
include hen

/-- A CLOSE that finds the device's own resynchronisation due starts it. -/
theorem exec_closeMsg_resyncs (hrole : s.begin.fld TWIN_STAT_ROLE = 3 ∨ s.begin.fld TWIN_STAT_ROLE = 4)
    (hfrom : s.begin.twin.rsFrom = none) (hcause : s.begin.fld TWIN_RS_CAUSE = 0) :
    exec (.closeMsg n k seq crc outs mode epoch swap mirrors) s = .next (s.finish (resyncStart s.begin)) := by
  have hdue : resyncsItself s.begin = true := by
    rcases hrole with hrole | hrole <;> simp [resyncsItself, hrole, hfrom, hcause]
  show execClose n k seq crc outs mode epoch swap mirrors s = _
  exact run_next_of_eq h ((if_neg (by rw [hen]; decide)).trans (if_pos hdue))

theorem exec_closeMsg_follower (hfollow : s.begin.follower = true) :
    exec (.closeMsg n k seq crc outs mode epoch swap mirrors) s = .next (s.finish
      (closeTaken n k seq crc.toNat outs mode.val epoch.toNat swap mirrors s.begin)) := by
  have hrole : s.begin.fld TWIN_STAT_ROLE = 2 := by simpa [State.follower] using hfollow
  have hdue : ¬ resyncsItself s.begin = true := by simp [resyncsItself, hrole]
  show execClose n k seq crc outs mode epoch swap mirrors s = _
  exact run_next_of_eq h ((if_neg (by rw [hen]; decide)).trans ((if_neg hdue).trans (if_neg (by rw [hfollow]; decide))))

theorem exec_item {src : Fin 378} {stamp : Nat} {kind : ItemKind}
    (hrole : s.begin.follower = true ∨ s.begin.fld TWIN_STAT_ROLE = 3) :
    exec (.item src stamp seq kind) s = .next (s.finish (s.begin.modTwin (fun t =>
      { t with staged := t.staged ++ [{ src := src.val, stamp := stamp, arr := 0, num := seq, kind := kind }] }))) := by
  show execItem src stamp seq kind s = _
  refine run_next_of_eq h (if_neg ?_)
  rcases hrole with hrole | hrole <;> simp [hen, hrole]

theorem exec_fwd {src : Fin 378} {stamp : Nat} {kind : ItemKind} (hlead : s.begin.leader = true) :
    exec (.fwd src stamp (some kind) outs) s = .next (s.finish ((s.begin.pushItem src.val stamp kind).modTwin (fun t =>
      { t with outs := t.outs ++ outs.filter (fun o => !t.outs.contains o) }))) := by
  show execFwd src stamp (some kind) outs s = _
  exact run_next_of_eq h (if_neg (by rw [hen, hlead]; decide))

end

/-! ### Takeover and swap (17 R484, R491) -/

theorem exec_takeover (hfollow : s.begin.follower = true) (htake : s.begin.twin.takeover = true) :
    exec .takeover s = .next (s.finish (runNextTick s.begin)) := by
  show execTakeover s = _
  exact run_next_of_eq h (if_pos (by rw [hfollow, htake]; rfl))

theorem exec_swapHandover {j : Nat} (hswap : s.begin.twin.swap = some j) (hnext : nextTick s.begin = j + 2)
    (hopen : s.begin.twin.openTick = none) (hstep : s.begin.isSet TWIN_STAT_INSTEP = true) :
    exec .swapHandover s = .next (s.finish (baseTick (j + 2) s.begin)) := by
  show execSwapHandover s = _
  refine run_next_of_eq h ?_
  simp only [hswap, hnext, hopen, hstep, Option.isNone_none, decide_true, Bool.and_self, if_true]

end

/-- Settles O52: a granted write of CMD is judged by its rule; the messages and instants act where the device's role lets them. -/
theorem twinCommandsComplete : Obligations.TwinCommandsComplete := by
  intro m lv grp pair h d0 d1 lane n k seq cut stamp crc outs mode epoch mib swap inStep mirrors src kind phase rounds parts dig s hl
    b t enabled role opens seen filled
  exact ⟨exec_twinHello_other hl, exec_twinHello_matches hl, exec_ownsnsFall hl, exec_laneDown hl,
    fun hg hen hstep hlead => takesEffect_of_actOf actOf_twinCmd hl rfl hg (twinCmdAct_resync m hen hstep hlead),
    fun hg hlead hstep hmatched => takesEffect_of_actOf actOf_twinCmd hl rfl hg (twinCmdAct_swap m hlead hstep hmatched),
    fun hg h0 h5 => takesEffect_of_actOf actOf_twinCmd hl rfl hg (twinCmdAct_abort m h0 h5),
    fun f => exec_resyncTimeout hl, exec_state_leader hl, exec_state_joins hl, fun j => exec_digestForm hl, exec_digest hl,
    exec_hbeat hl, exec_leaderStall hl,
    fun hanchor hstep hthr =>
      ⟨fun hfollow hhome => exec_anchorTakeback hl hanchor hstep hthr (if_pos (by rw [hfollow, hhome]; rfl)),
        fun hfollow hlead hhome => exec_anchorTakeback hl hanchor hstep hthr
          ((if_neg (by rw [hfollow]; exact Bool.false_ne_true)).trans (if_pos (by rw [hlead, hhome]; rfl)))⟩,
    fun hen => exec_closeMsg_resyncs hl hen, fun hen => exec_closeMsg_follower hl hen, fun hen => exec_item hl hen,
    fun hen => exec_fwd hl hen, fun j hen => exec_heartbeatMiss_follower hl hen, fun j hen => exec_heartbeatMiss_leader hl hen,
    exec_takeover hl, fun j => exec_swapHandover hl, fun j => exec_resyncCut hl⟩

end Sys2Proof.Machine
end

section
/-!
PROOF. Power (PowerCommandsComplete): the rules of PWR_DOMEN and PWR_STAT, and what the feeds and the banks bring about.
-/
namespace Sys2Proof.Machine

theorem actOf_domen : actOf PWR_DOMEN = domenAct := rfl

theorem actOf_pwrStat : actOf PWR_STAT = pwrStatAct := rfl

/-! ### Writes of the power block -/

/-- A granted write of a block outside the control plane is answered at once (02 R61). -/
theorem exec_answers {i : Instr} {bs : List Block} {act : Act} {m : Master} {r : Reg} {ix : List Nat} {w : Word} {s t : State}
    (h : Live bs s) (hplane : blockPlane r.blk ≠ .control) (he : exec i s = run bs (regCmd act m r ix w) s)
    (hg : Granted m r ix w s.begin) (ha : act m ix w s.begin = .ok t) : exec i s = .next (s.finish t.ack) := by
  rw [he]
  exact run_next_of_eq h (regCmd_granted (if_pos hplane) hg ha)

/-- PEAKCLR sets the peak to the present power (R530). -/
theorem pwrStatAct_peakclr (m : Master) (s : State) :
    let peak := s.store PWR_STAT [] 0x40
    pwrStatAct m [] 0x40 s = .ok (peak.setFld PWR_PIN_PEAK (peak.fld PWR_PIN_PIN)) := by
  have hon : PWR_STAT_PEAKCLR.on 0x40 = true := by decide
  simp only [pwrStatAct, hon, if_true]

/-- A write of PWR_DOMEN that its modes permit and nothing bars switches domains off, then on (R540, R541). -/
theorem domenAct_switches (m : Master) (w : Word) (s : State) :
    let old := s.fld PWR_DOMEN_EN
    let new_ := (PWR_DOMEN_EN.of w &&& 0xF98) ||| 0x67
    let offs := switchable.filter (fun d => bit old d && !bit new_ d)
    let ons := switchable.filter (fun d => bit new_ d && !s.domOn d && !bit (s.fld PWR_DOMSTAT_FLT) d && 3 ≤ s.mode.code)
    let chg := switchable.filter (fun d => bit old d != bit new_ d) ++ ons.filter (fun d => bit old d)
    (∀ d ∈ chg, switchMode s d = true) → (∀ d ∈ offs, switchBarred s d = false) →
      domenAct m [] w s =
        .ok (ons.foldl (fun s d => switchOn d s) (offs.foldl (fun s d => domainOff d s) (s.setFld PWR_DOMEN_EN new_))) := by
  intro old new_ offs ons chg hmode hbar
  have hchg : chg.any (fun d => !switchMode s d) = false := List.any_eq_false.2 (fun d hd => by rw [hmode d hd]; decide)
  have hoffs : offs.any (switchBarred s) = false := List.any_eq_false.2 (fun d hd => by rw [hbar d hd]; decide)
  exact (if_neg (by rw [hchg]; decide)).trans (if_neg (by rw [hoffs]; decide))

/-! ### Feeds and banks (19 R532, R534, R543) -/

section
variable {s : State} (h : Live [.pwr] s)
include h

theorem exec_feedLow {f : Fin 2} (hlow : bit s.begin.pwrs.low f.val = false) :
    exec (.feedLow f) s = .next (s.finish (powerEvent 4 0 f.val 1 0
      ((s.begin.raise PWR_STAT_FEEDLOSSF).modPwr (fun x => { x with low := putBits x.low f.val f.val 1 })))) := by
  show execFeedLow f s = _
  exact run_next_of_eq h (if_neg (by rw [hlow]; decide))

theorem exec_feedPresent {f : Fin 2} :
    exec (.feedPresent f) s =
      .next (s.finish (s.begin.modPwr (fun x => { x with low := putBits x.low f.val f.val 0 }))) := by
  show execFeedPresent f s = _
  exact run_next _ h

theorem exec_feedOvervoltageEnd {f : Fin 2} :
    let over_ := s.begin.modPwr (fun x => { x with ov := putBits x.ov f.val f.val 0 })
    exec (.feedOvervoltageEnd f) s = .next (s.finish
      (over_.setFld PWR_STAT_SRC (conducting over_ over_.pwrs.volt.1 over_.pwrs.volt.2))) := by
  show execFeedOvervoltageEnd f s = _
  exact run_next _ h

theorem exec_feedOvervoltage {f : Fin 2} (hov : bit s.begin.pwrs.ov f.val = false) :
    let seen := (s.begin.raise PWR_STAT_OVF).modPwr (fun x => { x with ov := putBits x.ov f.val f.val 1 })
    exec (.feedOvervoltage f) s = .next (s.finish (powerEvent 4 0 f.val 2 0
      (seen.setFld PWR_STAT_SRC (conducting seen seen.pwrs.volt.1 seen.pwrs.volt.2)))) := by
  show execFeedOvervoltage f s = _
  exact run_next_of_eq h (if_neg (by rw [hov]; decide))

theorem exec_vioLow {k : Fin 8} (hlevel : (bankLevel s.begin k.val).isSome = true) :
    let bank := s.begin.setFld PWR_VIOSTAT_LOW (s.begin.fld PWR_VIOSTAT_LOW ||| 2 ^ k.val)
    exec (.vioLow k) s = .next (s.finish (powerEvent 5 2 (k.val + 1) 1 0
      ((bank.setFld PWR_VIOSTAT_OK (putBits (bank.fld PWR_VIOSTAT_OK) k.val k.val 0)).raise PWR_STAT_VIOF))) := by
  show execVioLow k s = _
  exact run_next_of_eq h (if_neg (by rw [Option.isNone_eq_false_iff.2 hlevel]; decide))

end

/-- Settles O54, a clause per command. -/
theorem powerCommandsComplete : Obligations.PowerCommandsComplete := by
  intro m va ca vb cb rails banks f mv en d cause k s hl b i x seen over_ bank w old new_ offs ons chg peak
  have hpwr : Live [.pwr] s := hl.mono (by simp)
  exact ⟨run_next (feedReset mv.toNat) hl, run_next goDark hpwr, run_next (measure _ _ _ _ _ _) hpwr, exec_feedLow hpwr,
    exec_feedPresent hpwr, exec_feedOvervoltage hpwr, exec_feedOvervoltageEnd hpwr, run_next supplyWarning hl, run_next commitDone hl,
    run_next (warningEnd mv.toNat) hpwr, run_next (domainFault d.val cause.toNat) hpwr,
    fun hg hmode hbar => exec_answers hpwr (by decide) rfl hg (domenAct_switches m w b hmode hbar), exec_vioLow hpwr,
    fun hg => exec_answers hpwr (by decide) rfl hg (pwrStatAct_peakclr m b)⟩

end Sys2Proof.Machine
end

section
/-!
PROOF. The host interface (HostCommandsComplete): packets, sessions, their requests, the management port and the links.
-/
namespace Sys2Proof.Machine

section
variable {s : State} (h : Live [.host] s)
include h

/-! ### Packets (20 R546, R548) -/

section
variable {p : Fin 2} (hup : portUp s.begin p.val = true)
include hup

/-- A packet that is damaged, unknown or without room is dropped and counted. -/
theorem exec_hostPacketRx_drops {good : Bool} {sess : BitVec 8} {cookie seq : Word} {len : BitVec 14}
    {op : Option (ReqOp × Bool)} :
    let got := s.begin.incr HOST_P_RXPKT_COUNT [p.val]
    let known := sess.toNat < 64 ∧ (got.sess sess.toNat).isOpen = true ∧ (got.sess sess.toNat).cookie = cookie.toNat
    (good = false ∨ ¬ rxBytes (nth got.host.ports p.val {}) + len.toNat ≤ 0x200000 ∨ (¬ known ∧ sess ≠ 0xFF)) →
      exec (.hostPacketRx p good sess cookie seq len op) s = .next (s.finish (rxDrop p.val got)) := by
  intro got known hdrop
  show execHostPacketRx p good sess cookie seq len op s = _
  refine run_next_of_eq h ((if_neg (by rw [hup]; decide)).trans (if_pos ?_))
  rcases hdrop with hgood | hfull | ⟨hunknown, hsess⟩
  · rw [hgood]
    rfl
  · rw [decide_eq_true (Nat.not_le.1 hfull), Bool.or_true]
  · have hff : sess.toNat ≠ 0xFF := fun e => hsess (BitVec.eq_of_toNat_eq e)
    have hno : (decide (sess.toNat < 64) && (got.sess sess.toNat).isOpen && decide ((got.sess sess.toNat).cookie = cookie.toNat)) =
        false := by
      simpa only [known, ← Bool.not_eq_true, Bool.and_eq_true, decide_eq_true_eq, and_assoc] using hunknown
    rw [hno, decide_eq_false hff]
    simp only [Bool.or_self, Bool.not_false, Bool.or_true, Bool.true_or]

variable {sess : BitVec 8} {cookie seq : Word} {len : BitVec 14}

/-- A good packet of an open session that has room. -/
theorem exec_hostPacketRx_session {op : Option (ReqOp × Bool)} {t : State} :
    let got := s.begin.incr HOST_P_RXPKT_COUNT [p.val]
    sess.toNat < 64 ∧ (got.sess sess.toNat).isOpen = true ∧ (got.sess sess.toNat).cookie = cookie.toNat →
    rxBytes (nth got.host.ports p.val {}) + len.toNat ≤ 0x200000 →
    (match op with
      | none => heard sess.toNat got
      | some (o, order) => requestArrives p.val sess.toNat seq.toNat len.toNat o order got) = t →
    exec (.hostPacketRx p true sess cookie seq len op) s = .next (s.finish t) := by
  intro got hknown hfits ht
  obtain ⟨hn, hopen, hcookie⟩ := hknown
  show execHostPacketRx p true sess cookie seq len op s = _
  refine run_next_of_eq h ((if_neg (by rw [hup]; decide)).trans ((if_neg ?_).trans ((if_neg (by omega)).trans (Eq.trans ?_ ht))))
  · have hroom : ¬ 0x200000 < rxBytes (nth got.host.ports p.val {}) + len.toNat := Nat.not_lt.2 hfits
    simp only [got] at hopen hcookie hroom
    simp only [hn, hopen, hcookie, hroom, decide_true, decide_false, Bool.and_self, Bool.true_or, Bool.not_true, Bool.or_self,
      Bool.false_eq_true, not_false_eq_true]
  · cases op <;> rfl

end

/-! ### Links (20 R544) -/

theorem exec_hostLinkChange_up {p : Fin 2} {fast : Bool} {fec : Fin 3} (hcfg : s.begin.isSet HOST_P_CFG_EN [p.val] = true)
    (hdom : s.begin.domOn 9 = true) (hclk : s.begin.clkPresent 3 = true) (hseed : s.begin.mode ≠ .seed)
    (hkpr : s.begin.mode ≠ .keeper) :
    let fastLink := fast && !s.begin.isSet HOST_P_CFG_SPEED [p.val]
    exec (.hostLinkChange p true fast fec) s = .next (s.finish
      (((s.begin.raise HOST_P_STAT_LINK [p.val]).setFld HOST_P_STAT_SPEED (if fastLink then 2 else 1) [p.val]).setFld
        HOST_P_STAT_FEC (linkFec fastLink fec.val) [p.val])) := by
  show execHostLinkChange p true fast fec s = _
  exact run_next_of_eq h (if_pos (by
    simp only [hcfg, hdom, hclk, hseed, hkpr, ne_eq, not_false_eq_true, decide_true, Bool.and_self]))

theorem exec_hostLinkChange_down {p : Fin 2} {fast : Bool} {fec : Fin 3} :
    exec (.hostLinkChange p false fast fec) s = .next (s.finish
      (((s.begin.lower HOST_P_STAT_LINK [p.val]).setFld HOST_P_STAT_SPEED 0 [p.val]).setFld HOST_P_STAT_FEC 0 [p.val])) := by
  show execHostLinkChange p false fast fec s = _
  exact run_next _ h

end

/-! ### Sessions and requests (20 R548, R549, R551, R552) -/

section
variable {n : Fin 68} {s : State} (h : Live [.host, .kpr] s)
include h

theorem exec_openReq {port : Fin 3} {peer seq : Word} {role : Role} {proof : List Byte}
    (hopen : portOpen s.begin port.val = true) :
    exec (.openReq port peer seq role proof) s =
      .next (s.finish (openSession port.val peer.toNat seq.toNat role proof s.begin)) := by
  show execOpen port peer seq role proof s = _
  exact run_next_of_eq h (if_pos hopen)

theorem exec_sessionIdleTimeout (hopen : (s.begin.sess n.val).isOpen = true) :
    exec (.sessionIdleTimeout n) s = .next (s.finish (sessClose n.val false
      (advanceTo ((s.begin.sess n.val).lastRx + s.begin.fld HOST_CTL_IDLE * secF) s.begin))) := by
  show execSessionIdleTimeout n s = _
  exact run_next_of_eq h (if_neg (by rw [hopen]; decide))

theorem exec_requestTimeout {seq : Word} {r : Req} (hr : (s.begin.sess n.val).reqs.find? (fun r => r.seq = seq.toNat) = some r)
    (hheld : r.held = true) : exec (.requestTimeout n seq) s = .next (s.finish (requestExpires n.val r s.begin)) := by
  show execRequestTimeout n seq s = _
  refine run_next_of_eq h ?_
  simp only [hr, hheld, Bool.or_true, Bool.not_true, Bool.false_eq_true, if_false]

end

/-- A management packet of an open session is served while the Keeper has room for its query. -/
theorem exec_mgmtPacketRx {g : Fin 4} {cookie seq : Word} {order : Bool} {op : ReqOp} {s : State} (h : Live [.kpr] s)
    (hport : portOpen s.begin 2 = true) (hopen : (s.begin.sess (64 + g.val)).isOpen = true)
    (hcookie : (s.begin.sess (64 + g.val)).cookie = cookie.toNat) (hroom : s.begin.kpr.qQ.length < 64) :
    exec (.mgmtPacketRx g cookie seq order op) s =
      .next (s.finish (serveReq (64 + g.val) seq.toNat op order true s.begin)) := by
  show execMgmtPacketRx g cookie seq order op s = _
  exact run_next_of_eq h ((if_neg (by simp [hport, hopen, hcookie])).trans (if_neg (Nat.not_le.2 hroom)))

/-- Settles O55: the requests of a session are served as they are written, and the rest act where their condition holds. -/
theorem hostCommandsComplete : Obligations.HostCommandsComplete := by
  intro p n any_ sess cookie seq peer a sid v len order found good port fec role proof k stat ws blk item target ring most strm sev
    index o g op fast s hl b i link got serve known u fits can fastLink
  have hhost : Live [.host] s := hl.mono (by simp)
  have hkpr : Live [.kpr] s := hl.mono (by simp)
  have hserve : ∀ (op : ReqOp) (f : Bool), hostReq n seq order op f s = serve op f := fun op f => run_next _ hhost
  exact ⟨hserve .close true, hserve .ping true, fun ha => run_next _ ha, fun ha => run_next _ ha, hserve (.mbxread _ _ _) true,
    hserve (.sigread _ _) true, hserve (.sigwrite _ _ _) true, hserve (.mode _) true, hserve (.ringread _ _) true,
    hserve (.stropen o) found, hserve (.strclose _) true, hserve (.evsub _) true,
    fun hup => exec_hostPacketRx_drops hhost hup,
    fun hup hknown hfits => exec_hostPacketRx_session hhost hup hknown hfits rfl,
    fun hup hknown hfits => exec_hostPacketRx_session hhost hup hknown hfits rfl,
    exec_openReq hl, exec_sessionIdleTimeout hl, fun r => exec_requestTimeout hl, exec_mgmtPacketRx hkpr,
    fun ⟨hcfg, hdom, hclk, hseed, hkeeper⟩ => exec_hostLinkChange_up hhost hcfg hdom hclk hseed hkeeper,
    exec_hostLinkChange_down hhost⟩

end Sys2Proof.Machine
end

section
/-!
PROOF. Recording streams and the event log (RecorderAndLogComplete).
-/
namespace Sys2Proof.Machine

/-! ### Streams (20 R558, R559, R560, R563) -/

theorem recStreamAct_closes (m : Master) (k : Nat) (s : State) : recStreamAct m [k] 1 s = .ok (streamEnd k 5 false s) := by
  have hon : REC_ST_CTL_CLOSE.on 1 = true := by decide
  simp only [recStreamAct, hon, List.headD_cons, if_true]

theorem exec_streamRow {k : Fin 64} {t : Nat} {s : State} (h : Live [.recs] s) (ht : s.begin.adm.lastTick = some t)
    (hdom : s.begin.domOn 11 = true) : exec (.streamRow k) s = .next (s.finish (takeRow t k.val s.begin)) := by
  show execStreamRow k s = _
  exact run_next_of_eq h (by simp only [ht, hdom, if_true])

section
variable {k : Fin 64} {s : State} (h : Live [.recs, .host] s) (hopen : streamOpen s.begin k.val = true)
include h hopen

theorem exec_streamAck {cum : Word} {naks : List Word} (hopt : streamOpt s.begin k.val 2 = true) (hnaks : naks.length ≤ 16) :
    exec (.streamAck k cum naks) s = .next (s.finish (streamAcked k.val cum.toNat naks s.begin)) := by
  show execStreamAck k cum naks s = _
  exact run_next_of_eq h (if_neg (by simp [hopen, hopt, hnaks]))

theorem exec_streamRetransmit {q : SentPkt} (hq : oldestSent s.begin k.val = some q) :
    exec (.streamRetransmit k) s = .next (s.finish
      (resend k.val q (advanceTo (q.at_ + s.begin.fld REC_CTL_RTO * 1000000 * nsF) s.begin))) := by
  show execStreamRetransmit k s = _
  exact run_next_of_eq h (by simp only [hq, hopen, if_true])

theorem exec_destResolveTimeout (hfound : (s.begin.stream k.val).found = false) (hlate : (s.begin.stream k.val).late = false) :
    exec (.destResolveTimeout k) s = .next (s.finish (destUnresolved k.val s.begin)) := by
  show execDestResolveTimeout k s = _
  exact run_next_of_eq h (if_neg (by rw [hopen, hfound, hlate]; decide))

end

/-! ### The event log (21 R580, R581, R584) -/

/-- The event that the pull finds is the next occurrence. -/
theorem exec_eventOccurrence {e : Event} {es : List Event} {s : State} (h : Live [.evl, .kpr] s)
    (he : (pullEvent s.begin).evq = e :: es) :
    exec .eventOccurrence s = .next (s.finish (kprSync (occurrence e { pullEvent s.begin with evq := es }))) := by
  show execEventOccurrence s = _
  exact run_next_of_eq h (by simp only [he])

/-- The first idle key expires 10 s after it was last seen, and with it those that are due then. -/
theorem exec_fumaroleKeyExpiry {t : Nat} {s : State} (h : Live [.evl] s)
    (ht : (s.begin.evl.keys.filter (fun e => e.win.isNone)).foldl
      (fun (z : Option Nat) e => some (min (z.getD e.seen) e.seen)) none = some t) :
    let u := advanceTo (t + 10 * secF) s.begin
    exec .fumaroleKeyExpiry s = .next (s.finish (fumSync (u.modEvl (fun x =>
      { x with keys := x.keys.filter (fun e => e.win.isSome || u.now < e.seen + 10 * secF) })))) := by
  show execFumaroleKeyExpiry s = _
  exact run_next_of_eq h (by simp only [ht])

theorem exec_repeatWriteback {s : State} (h : Live [.evl, .nvm] s) (hheld : s.begin.evl.held ≠ []) :
    exec .repeatWriteback s = .next (s.finish (writeBack (advanceTo (s.begin.evl.wbAt + 10000000 * nsF) s.begin))) := by
  show execRepeatWriteback s = _
  exact run_next_of_eq h (if_neg (by rwa [List.isEmpty_iff]))

/-- Settles O56, a clause per command. -/
theorem recorderAndLogComplete : Obligations.RecorderAndLogComplete := by
  intro m k nrow cum naks s hl b n x idle pulled
  have hrecs : Live [.recs] s := hl.mono (by simp)
  have hstream : Live [.recs, .host] s := hl.mono (by simp)
  have hevl : Live [.evl] s := hl.mono (by simp)
  have hevent : Live [.evl, .kpr] s := hl.mono (by simp)
  have hnvm : Live [.evl, .nvm] s := hl.mono (by simp)
  exact ⟨fun t => exec_streamRow hrecs, run_next (sendStream n nrow.toNat) hstream, fun hopen => exec_streamAck hstream hopen,
    fun q hopen => exec_streamRetransmit hstream hopen, fun hopen => exec_destResolveTimeout hstream hopen,
    fun hg => exec_answers hrecs (by decide) rfl hg (recStreamAct_closes m n b), fun e es => exec_eventOccurrence hevent,
    run_next fumClose hevl, fun t => exec_fumaroleKeyExpiry hevl, run_next writeNext hnvm, exec_repeatWriteback hnvm⟩

end Sys2Proof.Machine
end

section
/-!
PROOF. Power-on, the Seed, nRESET and the soft resets of blocks (SeedCommandsComplete).
-/
namespace Sys2Proof.Machine

/-- Of fewer blocks too nothing shows unspecified behaviour. -/
theorem specified.mono {bs cs : List Block} {s : State} (h : specified bs s) (hc : ∀ b ∈ cs, b ∈ bs) : specified cs s :=
  fun b hb => h b (hc b hb)

/-! ### Power-on (18 R504, R510) -/

section
variable {low : Bool} {s : State} (h : specified [.sys, .pwr] s)
include h

/-- From Dark the power-good of D0 begins a Seed with the power-up values. -/
theorem exec_d0PowerGood_dark (hdark : s.mode = .dark) :
    let blank := (powerReset true s.begin).setFld SYS_MODE_CUR 1
    exec (.d0PowerGood low) s = .next (s.finish ((beginSeed 1 true true true
      { blank with pwrs := { cut := s.begin.pwrs.cut }, seed := { record := 1 } }).modSeed (fun x =>
        { x with pinLow := low, pinAt := none }))) := by
  have hbegin : s.begin.mode = .dark := hdark
  show execD0PowerGood low s = _
  refine (runAlways_next _ h).trans ?_
  simp only [hbegin, if_true]

/-- After a FEED reset it begins a Seed with what the feeds show. -/
theorem exec_d0PowerGood_fed (hdark : s.mode ≠ .dark) (hfed : s.begin.pwrs.fed = true) :
    exec (.d0PowerGood low) s = .next (s.finish ((beginSeed 1 true true true
      { s.begin.lower PWR_STAT_WARN with pwrs := { s.begin.pwrs with fed := false } }).modSeed (fun x =>
        { x with pinLow := low, pinAt := none }))) := by
  have hbegin : s.begin.mode ≠ .dark := hdark
  show execD0PowerGood low s = _
  refine (runAlways_next _ h).trans ?_
  simp only [if_neg hbegin, hfed, if_true]

end

section
variable {s : State} (h : Live [.sys] s)
include h

/-! ### The steps of the Seed (18 R510) -/

theorem exec_seedStepDone {ok : Bool} {flt : BitVec 12} {cause : BitVec 3} (hseed : seeding s.begin = true)
    (hpin : s.begin.seed.step = 5 → pinHolds s.begin = false) :
    exec (.seedStepDone ok flt cause) s = .next (s.finish
      (if ok then seedStep flt.toNat cause.toNat s.begin else seedFail s.begin)) := by
  have hgo : ¬ (!seeding s.begin || (decide (s.begin.seed.step = 5) && pinHolds s.begin)) = true := by
    by_cases h5 : s.begin.seed.step = 5
    · rw [hseed, hpin h5, Bool.and_false]
      decide
    · rw [hseed, decide_eq_false h5]
      exact Bool.false_ne_true
  show execSeedStepDone ok flt cause s = _
  exact run_next_of_eq h (if_neg hgo)

theorem exec_seedEnd (hseed : seeding s.begin = true) (hstep : s.begin.seed.step = 9) :
    exec .seedEnd s = .next (s.finish (seedEnd (if s.begin.tb.started then s.begin.tick + 1 else s.begin.tick)
      (advanceTo (tickAt (s.begin.tick + 1)) s.begin))) := by
  show execSeedEnd s = _
  exact run_next_of_eq h (if_neg (by simp [hseed, hstep]))

/-! ### nRESET (18 R513, R515) -/

theorem exec_nresetAccept (hlow : s.begin.seed.pinLow = false) (hignored : s.begin.seed.ignored = false) :
    exec .nresetAccept s = .next (s.finish (pinAccept s.begin)) := by
  show execNresetAccept s = _
  exact run_next_of_eq h ((if_neg (by rw [hlow]; decide)).trans (if_neg (by rw [hignored]; decide)))

theorem exec_nresetAccept_ignored (hlow : s.begin.seed.pinLow = false) (hignored : s.begin.seed.ignored = true) :
    exec .nresetAccept s = .next (s.finish (s.begin.modSeed (fun x => { x with pinLow := true, highAt := none }))) := by
  show execNresetAccept s = _
  exact run_next_of_eq h ((if_neg (by rw [hlow]; decide)).trans (if_pos hignored))

theorem exec_nresetRelease (hlow : s.begin.seed.pinLow = true) :
    exec .nresetRelease s = .next (s.finish (s.begin.modSeed (fun x =>
      { x with pinLow := false, pinAt := none, highAt := if x.ignored then some s.begin.now else none }))) := by
  show execNresetRelease s = _
  exact run_next_of_eq h (if_neg (by rw [hlow]; decide))

theorem exec_nresetStuck (hholds : pinHolds s.begin = true) (hfed : s.begin.pwrs.fed = false) :
    let stuck := match s.begin.seed.pinAt with
      | some t => advanceTo (t + stuckF) s.begin
      | none => s.begin
    exec .nresetStuck s = .next (s.finish ((resetEvent 5 16 (stuck.raise SYS_RSTCAUSE_RESET_STUCK)).modSeed (fun x =>
      { x with ignored := true, pinAt := none, highAt := none }))) := by
  show execNresetStuck s = _
  exact run_next_of_eq h (if_neg (by rw [hholds, hfed]; decide))

theorem exec_nresetRearm {t : Nat} (ht : s.begin.seed.highAt = some t) :
    exec .nresetRearm s = .next (s.finish
      ((advanceTo (t + 100000000 * nsF) s.begin).modSeed (fun x => { x with ignored := false, highAt := none }))) := by
  show execNresetRearm s = _
  exact run_next_of_eq h (by simp only [ht])

end

/-! ### Soft resets of a block (18 R516, R517) -/

section
variable {blk : Block} {role : Role} {s : State} (h : Live [.sys, .kpr] s)
include h

theorem exec_blockSoftReset_operator (hrole : role = .operator) :
    exec (.blockSoftReset blk role) s = .next (s.finish (modeReply 69 0 0 codeGuard s.begin)) := by
  show execBlockSoftReset blk role s = _
  exact run_next_of_eq h (if_pos hrole)

variable (hrole : role ≠ .operator)
include hrole

theorem exec_blockSoftReset_control (hplane : blockPlane blk = .control) (hmode : s.begin.effMode ∈ [Mode.stop, .provision]) :
    exec (.blockSoftReset blk role) s = .next (s.finish (s.begin.pushItem 376 s.begin.now (.softReset blk.index 69))) := by
  have hopen : (decide (s.begin.effMode = .stop) || decide (s.begin.effMode = .provision)) = true := by simpa using hmode
  show execBlockSoftReset blk role s = _
  refine run_next_of_eq h ((if_neg hrole).trans ?_)
  simp only [hplane, hopen, if_true]

theorem exec_blockSoftReset_done (hplane : blockPlane blk = .data ∨ blockPlane blk = .management) (hmode : 3 ≤ s.begin.mode.code) :
    exec (.blockSoftReset blk role) s = .next (s.finish (modeReply 69 0 0 codeDone (blockReset blk s.begin))) := by
  show execBlockSoftReset blk role s = _
  refine run_next_of_eq h ((if_neg hrole).trans ?_)
  rcases hplane with hplane | hplane <;> simp only [hplane, hmode, if_true]

end

/-- Settles O57: the power-good acts in Dark too, the rest outside it. -/
theorem seedCommandsComplete : Obligations.SeedCommandsComplete := by
  intro low flt cause blk role s hs b x pin blank stuck live open_ asks
  have hpwr : specified [.sys, .pwr] s := hs.mono (by simp)
  have hsys : live → Live [.sys] s := fun hlive => ⟨hs.mono (by simp), hlive⟩
  have hkpr : live → Live [.sys, .kpr] s := fun hlive => ⟨hs.mono (by simp), hlive⟩
  exact ⟨exec_d0PowerGood_dark hpwr, exec_d0PowerGood_fed hpwr,
    fun hlive hseed hpin => ⟨exec_seedStepDone (hsys hlive) hseed hpin, exec_seedStepDone (hsys hlive) hseed hpin⟩,
    fun hlive => exec_seedEnd (hsys hlive), fun hlive => exec_nresetAccept (hsys hlive),
    fun hlive => exec_nresetAccept_ignored (hsys hlive), fun hlive => exec_nresetRelease (hsys hlive),
    fun hlive => exec_nresetStuck (hsys hlive), fun t hlive => exec_nresetRearm (hsys hlive),
    fun hlive => exec_blockSoftReset_operator (hkpr hlive), fun hlive => exec_blockSoftReset_control (hkpr hlive),
    fun hlive => exec_blockSoftReset_done (hkpr hlive)⟩

end Sys2Proof.Machine
end

section
/-!
PROOF. The Keeper (KeeperCommandsComplete): the rules of KPR_WDT and KPR_CRED, and what it does at its own instants.
-/
namespace Sys2Proof.Machine

/-! ### Writes (21 R572, R590) -/

/-- KICK by the Keeper restarts the period. -/
theorem wdtAct_kicks {w : Word} {s : State} (hper : KPR_WDT_PER.of w ≠ 0) (hkick : KPR_WDT_KICK.on w = true) :
    let held := s.store KPR_WDT [] (w &&& 0x7FFFFFFF)
    wdtAct .keeper [] w s = .ok (held.modKpr (fun k => { k with kickAt := held.now })) :=
  (if_neg (not_not_intro rfl)).trans ((if_neg hper).trans (congrArg ActRes.ok (if_pos hkick)))

/-- SET in Provision stores the credential of a role that has one. -/
theorem credAct_sets (m : Master) {w : Word} {s : State} (hmode : s.mode = .provision) (hset : KPR_CRED_SET.on w = true)
    (hrole : KPR_CRED_ROLE.of w < 2) :
    credAct m [] w s = .ok (credStore (Role.ofCode (KPR_CRED_ROLE.of w)) (s.store KPR_CRED [] (w &&& 0x7FFFFFFF))) :=
  (if_neg (by simp [hmode])).trans ((if_neg (by simp [hrole])).trans (congrArg ActRes.ok (if_pos hset)))

section
variable {s : State} (h : Live [.kpr] s)
include h

theorem exec_kick {m : Master} : exec (.kick m) s =
    run [.kpr] (regCmd wdtAct m KPR_WDT [] (s.begin.reg KPR_WDT ||| 0x80000000)) s := by
  show execKick m s = _
  exact (run_next _ h).trans (run_next _ h).symm

theorem exec_credSet {m : Master} {role : Fin 4} : exec (.credSet m role) s =
    run [.kpr] (regCmd credAct m KPR_CRED []
      (BitVec.ofNat 32 (2 ^ 31 + s.begin.fld KPR_CRED_KEYSET * 16 + role.val))) s := by
  show execCredSet m role s = _
  exact (run_next _ h).trans (run_next _ h).symm

/-! ### Temperatures, lockouts and queries (21 R573, R575, R592) -/

theorem exec_tempSample {t : List (BitVec 16)} :
    exec (.tempSample t) s = .next (s.finish ((t.take 24).zipIdx.foldl takeTemp s.begin)) := by
  show execTempSample t s = _
  exact run_next _ h

/-- The average takes the hottest junction once a second. -/
theorem exec_tavgUpdate {j : Int} (hj : junction s.begin = some j) :
    let u := s.begin.modKpr (fun k => { k with tsum := k.tsum + j, tsecs := k.tsecs + 1 })
    let v := u.setFld KPR_TAVG_AVG (ofInt 16 (u.kpr.tsum / (u.kpr.tsecs : Int)))
    exec .tavgUpdate s = .next (s.finish (v.setFld KPR_TAVG_HOURS (min 0xFFFF (v.kpr.tsecs / (3600 * 16))))) := by
  show execTavgUpdate s = _
  exact run_next_of_eq h (by simp only [hj])

theorem exec_lockoutExpiry {e : Nat} (he : s.begin.kpr.locks.foldl
      (fun (z : Option Nat) l => some (min (z.getD l.2) l.2)) none = some e) :
    let u := advanceTo e s.begin
    exec .lockoutExpiry s = .next (s.finish (u.modKpr (fun k => { k with locks := k.locks.filter (fun l => u.now < l.2) }))) := by
  show execLockoutExpiry s = _
  exact run_next_of_eq h (by simp only [he])

/-- The monitor's query that waits longest is answered BUSY. -/
theorem exec_queryTimeout_monitor {seq a : Nat} {rest : List (Nat × Nat × Nat)} (hq : s.begin.kpr.qQ = (68, seq, a) :: rest) :
    exec .queryTimeout s = .next (s.finish (State.say (kprSync (queryBusy
      ((advanceTo (a + 100000000 * nsF) s.begin).modKpr (fun k => { k with qQ := rest })))) (.line [1, codeBusy]))) := by
  show execQueryTimeout s = _
  refine run_next_of_eq h ?_
  simp only [hq, Nat.lt_irrefl, if_false, if_true]

/-! ### The watchdog (21 R572) -/

/-- The watchdog's bite ends a trial that is pending with a restart into the fallback, unless the device is in Seed. -/
theorem exec_keeperWatchdog {t : State} (hfed : s.begin.pwrs.fed = false) :
    let bitten := watchdog (advanceTo (s.begin.kpr.kickAt + s.begin.fld KPR_WDT_PER * 1000000 * nsF) s.begin)
    (if trialPending s.begin = true ∧ bitten.mode ≠ .seed then
      nextTickMode { bitten with seed := { bitten.seed with reboot := some 2 } } else bitten) = t →
    exec .keeperWatchdog s = .next (s.finish t) := by
  intro bitten ht
  show execKeeperWatchdog s = _
  refine run_next_of_eq h ((if_neg (by rw [hfed]; decide)).trans (Eq.trans ?_ ht))
  simp only [Bool.and_eq_true, decide_eq_true_eq, bitten]

end

/-- Settles O58, a clause per command. -/
theorem keeperCommandsComplete : Obligations.KeeperCommandsComplete := by
  intro m t ro em mw role s hl b k kick held cred first bitten
  have hkpr : Live [.kpr] s := hl.mono (by simp)
  exact ⟨fun hg hper hkick => exec_answers hkpr (by decide) (exec_kick hkpr) hg (wdtAct_kicks hper hkick), exec_tempSample hkpr,
    fun j => exec_tavgUpdate hkpr, run_next (ageing ro em mw) hkpr, fun e => exec_lockoutExpiry hkpr,
    fun hg hmode hset hrole => exec_answers hkpr (by decide) (exec_credSet hkpr) hg (credAct_sets m hmode hset hrole),
    fun seq a rest => exec_queryTimeout_monitor hkpr,
    fun hfed hno => exec_keeperWatchdog hkpr hfed (if_neg fun ⟨htrial, hmode⟩ =>
      hno.elim (fun hno => absurd htrial (by rw [hno]; decide)) (fun hno => hmode hno)),
    fun hfed htrial hmode => exec_keeperWatchdog hkpr hfed (if_pos ⟨htrial, hmode⟩)⟩

end Sys2Proof.Machine
end

section
/-!
PROOF. The monitor (MonitorCommandsComplete): each of its commands is served while the Keeper runs.
-/
namespace Sys2Proof.Machine

/-- A command of the monitor is served unless the device waits for its feeds. -/
theorem monRun_next {bs : List Block} (f : State → State) {s : State} (h : Live bs s) (hfed : s.pwrs.fed = false) :
    monRun bs f s = .next (s.finish (f s.begin)) :=
  run_next_of_eq h (if_neg (by rw [show s.begin.pwrs.fed = false from hfed]; decide))

/-- The login ends 600 s after its last line (21 R591). -/
theorem exec_monitorIdleTimeout {l : Role} {t : Nat} {s : State} (h : Live [.kpr] s) (hl : s.begin.kpr.login = some (l, t)) :
    exec .monitorIdleTimeout s = .next (s.finish (monLogout (advanceTo (t + 600 * secF) s.begin))) := by
  show execMonitorIdleTimeout s = _
  exact run_next_of_eq h (by simp only [hl])

/-- Settles O59: the commands differ in the blocks that they ask for and in what is served. -/
theorem monitorCommandsComplete : Obligations.MonitorCommandsComplete := by
  intro cs r resp bs target a v words n sev ofs rate keel c s hl htouched hfed serve
  have hkpr : Live [.kpr] s := hl.mono (by simp)
  have hupd : Live [.kpr, .upd] s := hl.mono (by simp)
  have hsys : Live [.kpr, .sys] s := hl.mono (by simp)
  have hevl : Live [.kpr, .evl] s := hl.mono (by simp)
  have hpwr : Live [.kpr, .pwr] s := hl.mono (by simp)
  have htime : Live [.kpr, .time] s := hl.mono (by simp)
  have htwin : Live [.kpr, .twin] s := hl.mono (by simp)
  exact ⟨monRun_next (monLine _) hupd hfed, monRun_next (monServe (.login r)) hkpr hfed,
    monRun_next (monServe (.auth resp)) hkpr hfed, monRun_next (monServe .logout) hkpr hfed,
    monRun_next (monServe (.mode _)) hsys hfed, monRun_next (monServe (.peek _ words)) htouched hfed,
    monRun_next (monServe (.poke _ _)) htouched hfed, monRun_next (monServe (.log n sev keel)) hevl hfed,
    monRun_next (monServe .sense) hpwr hfed, monRun_next (monServe .time) htime hfed, monRun_next (monServe .twin) htwin hfed,
    monRun_next (monServe .updStatus) hupd hfed, monRun_next (monServe (.updData ofs bs)) hupd hfed,
    monRun_next (monServe (.baud rate)) hupd hfed, monRun_next (monServe (.help _)) hkpr hfed,
    fun l t => exec_monitorIdleTimeout hkpr⟩

end Sys2Proof.Machine
end

section
/-!
PROOF. Update and NVM (UpdateCommandsComplete): the rules of UPD_CMD and NVM_CMD, and the trial of a slot.
-/
namespace Sys2Proof.Machine

theorem actOf_updCmd : actOf UPD_CMD = updCmdAct := rfl

theorem actOf_nvmCmd : actOf NVM_CMD = nvmCmdAct := rfl

/-! ### The commands (22 R598, R608) -/

/-- GO and OP of the word that asks an update command. -/
theorem of_updCmdWord {op : Nat} (hop : op < 8) :
    let w := BitVec.ofNat 32 (2 ^ 31 + op)
    UPD_CMD_GO.on w = true ∧ UPD_CMD_OP.of w = op := by
  simp only [Fld.on, Fld.of, bits, UPD_CMD_GO, UPD_CMD_OP, BitVec.toNat_ofNat, Nat.shiftRight_eq_div_pow, decide_eq_true_eq]
  omega

/-- GO and OP of the word that asks an NVM command. -/
theorem of_nvmCmdWord {op : Nat} (hop : op < 8) :
    let w := BitVec.ofNat 32 (2 ^ 31 + op)
    NVM_CMD_GO.on w = true ∧ NVM_CMD_OP.of w = op := by
  simp only [Fld.on, Fld.of, bits, NVM_CMD_GO, NVM_CMD_OP, BitVec.toNat_ofNat, Nat.shiftRight_eq_div_pow, decide_eq_true_eq]
  omega

section
variable (m : Master) {op : Nat} {s : State}

theorem updCmdAct_begins (hop : op < 7) (hbusy : s.isSet UPD_STAT_BUSY = false) :
    let w := BitVec.ofNat 32 (2 ^ 31 + op)
    updCmdAct m [] w s = .ok (updCommand op (s.store UPD_CMD [] (w &&& 0x7FFFFFFF))) := by
  intro w
  obtain ⟨hgo, hOp⟩ := of_updCmdWord (by omega : op < 8)
  have h7 : ¬ UPD_CMD_OP.of w = 7 := by rw [hOp]; omega
  refine (if_neg (by rw [hbusy]; decide)).trans ((if_neg h7).trans (congrArg ActRes.ok ((if_pos hgo).trans ?_)))
  rw [hOp]
  rfl

/-- A command that the mode permits waits with BUSY; the erasure of the ageing record asks for guard G3. -/
theorem nvmCmdAct_begins {w : Word} (hgo : NVM_CMD_GO.on w = true) (hOp : NVM_CMD_OP.of w = op) (h0 : op ≠ 0) (hop : op < 6)
    (hguard : op = 5 → qualifies s m .g3 = true) (hbusy : s.isSet NVM_STAT_BUSY = false) :
    let t := s.store NVM_CMD [] (w &&& 0x7FFFFFFF)
    nvmModeOk t op = true →
      nvmCmdAct m [] w s = .ok (((t.raise NVM_STAT_BUSY).lower NVM_STAT_DONE).modUpd (fun u => { u with nvmOp := some op })) := by
  intro t hmode
  subst hOp
  have hno : ¬ (decide (NVM_CMD_OP.of w = 5) && !qualifies s m .g3) = true := by
    simpa only [Bool.and_eq_true, decide_eq_true_eq, Bool.not_eq_true', not_and, Bool.not_eq_false] using hguard
  have hpermits : ¬ (!nvmModeOk t (NVM_CMD_OP.of w)) = true := by rw [hmode]; decide
  exact (if_neg (Nat.not_le.2 hop)).trans ((if_neg hno).trans ((if_neg (by rw [hbusy, Bool.and_false]; decide)).trans
    (congrArg ActRes.ok ((if_neg (by simp [hgo, h0])).trans (if_neg hpermits)))))

end

/-! ### The end of an NVM command, and the trial (22 R603, R604, R605) -/

theorem exec_nvmCmdDone {op : Nat} {s : State} (h : Live [.nvm] s) (hop : s.begin.upd.nvmOp = some op) :
    let u := nvmEffect op (s.begin.modUpd (fun u => { u with nvmOp := none }))
    let v := if op = 1 then u else updateEvent 3 9 op 0 [] u
    exec .nvmCmdDone s = .next (s.finish (((v.lower NVM_STAT_BUSY).raise NVM_STAT_DONE).setFld NVM_STAT_CODE codeDone)) := by
  show execNvmCmdDone s = _
  exact run_next_of_eq h (by simp only [hop])

section
variable {s : State} (h : Live [.upd] s) (htrial : trialPending s.begin = true) (hseed : s.begin.mode ≠ .seed)
include h htrial hseed

/-- A trial that runs: a passed deadline and a grave event end it, good checks confirm it. -/
theorem exec_trialHealthCheck {t : State}
    (ht : (if s.begin.upd.due.any (fun t => t ≤ s.begin.now) then fallBack 1 s.begin
      else if s.begin.upd.grave then fallBack 2 s.begin
      else if trialGood s.begin then trialConfirm s.begin
      else s.begin) = t) : exec .trialHealthCheck s = .next (s.finish t) := by
  show execTrialHealthCheck s = _
  exact run_next_of_eq h ((if_neg (by simp only [htrial, hseed, Bool.not_true, decide_false, Bool.or_self, Bool.false_eq_true,
    not_false_eq_true])).trans ht)

theorem exec_trialFallback {t : Nat} (hgrave : s.begin.upd.grave = false) (hdue : s.begin.upd.due = some t) :
    exec .trialFallback s = .next (s.finish (fallBack 1 (advanceTo t s.begin))) := by
  show execTrialFallback s = _
  refine run_next_of_eq h ((if_neg (by simp only [htrial, hseed, Bool.not_true, decide_false, Bool.or_self, Bool.false_eq_true,
    not_false_eq_true])).trans ((if_neg (by rw [hgrave]; decide)).trans ?_))
  simp only [hdue]

end

/-- Settles O60: a granted write of CMD is judged by its rule, and the trial by what has become of it. -/
theorem updateCommandsComplete : Obligations.UpdateCommandsComplete := by
  intro m ok s hl b word asked begun stored busy runs
  have hupd : Live [.upd] s := hl.mono (by simp)
  have hnvm : Live [.nvm] s := hl.mono (by simp)
  have begins : ∀ (i : Instr) (op : Nat), op < 7 → exec i s = updCmdBy m op s → asked op → exec i s = .next (begun op) :=
    fun _ _ hop he ⟨hg, hbusy⟩ => exec_answers hupd (by decide) he hg (updCmdAct_begins m hop hbusy)
  have stores : ∀ (i : Instr) (op : Nat), op ≠ 0 → op < 6 → exec i s = nvmCmdBy m op s →
      (op = 5 → qualifies b m .g3 = true) → stored op → exec i s = .next (busy op) :=
    fun _ _ h0 hop he hguard ⟨hg, hbusy, hmode⟩ =>
      have ⟨hgo, hOp⟩ := of_nvmCmdWord (by omega)
      exec_answers hnvm (by decide) he hg (nvmCmdAct_begins m hgo hOp h0 hop hguard hbusy hmode)
  exact ⟨begins (.begin m) 1 (by omega) rfl, begins (.chunk m) 2 (by omega) rfl, begins (.finish m) 3 (by omega) rfl,
    begins (.activate m) 4 (by omega) rfl, begins (.confirm m) 5 (by omega) rfl, begins (.updCancel m) 6 (by omega) rfl,
    run_next (updDone ok) hl,
    stores (.save m) 1 (by omega) (by omega) rfl (by omega), stores (.eraseLog m) 2 (by omega) (by omega) rfl (by omega),
    stores (.eraseRet m) 3 (by omega) (by omega) rfl (by omega), stores (.eraseDev m) 4 (by omega) (by omega) rfl (by omega),
    fun hst hguard => stores (.eraseAge m) 5 (by omega) (by omega) rfl (fun _ => hguard) hst,
    fun op => exec_nvmCmdDone hnvm,
    fun hruns hdue => exec_trialHealthCheck hupd hruns.1 hruns.2 (if_pos hdue),
    fun hruns hdue hgrave => exec_trialHealthCheck hupd hruns.1 hruns.2
      ((if_neg (Bool.not_eq_true _ ▸ hdue)).trans (if_pos hgrave)),
    fun hruns hdue hgrave hgood => exec_trialHealthCheck hupd hruns.1 hruns.2
      ((if_neg (Bool.not_eq_true _ ▸ hdue)).trans ((if_neg (by rw [hgrave]; decide)).trans (if_pos hgood))),
    fun t hruns => exec_trialFallback hupd hruns.1 hruns.2⟩

end Sys2Proof.Machine
end
